-- ==== Sys2Proof/Word.lean ====
section
/-! DEFINITION. The word types of the FC-7140 model (spec/03 R55: registers are 32 bits wide). -/

namespace Sys2Proof

/-- One byte of memory or of a frame. -/
abbrev Byte := BitVec 8

/-- One register of the window. -/
abbrev Word := BitVec 32

/-- A 64-bit quantity held in two registers or in a table entry. -/
abbrev DWord := BitVec 64

end Sys2Proof
end

