-- ==== Sys2Proof/Syntax.lean ====
section
/-! DEFINITION. The commands of the FC-7140: one constructor for each row of spec/opcode_table.json, in the table's order,
with the row's operands, and the small types the operands need. A command that a requester issues names the requester; a
command slot's opcode and arguments stand in the requester's CMD bank (spec/04 R87). -/

namespace Sys2Proof

/-- A requester of the register window (spec/03 R66, spec/04 R86): an application core, the PCI Express physical
function, virtual function `v + 1`, or the USB session. -/
inductive Requester
  | core (c : Fin 8)
  | pf
  | vf (v : Fin 7)
  | usb
  deriving DecidableEq, Repr

/-- What disturbs a step of a cup or a call of a Kettle: nothing; halves of the cup that disagree (spec/06 R130); an
uncorrectable ECC error in the line or image, or in the role copy (spec/06 R146, spec/08 R216); a result that comes out with
bits inverted, which only a comparison can find (spec/09 R217); a single-bit error that is corrected; a parity error in the
ROM; one in the deque entry (spec/06 R163); or a call entry that does not decode (spec/08 R216). -/
inductive Upset
  | none
  | lockstep
  | lineEcc
  | copyEcc
  | flip (mask : Word)
  | corrected
  | romParity
  | dequeParity
  | badEntry
  deriving DecidableEq, Repr

/-- An uncorrectable error that strikes a memory of the core die and is found only when it is read: a slot record or a queue
context (spec/04 R111), or a word of a CAN channel's message RAM (spec/17 R463). -/
inductive Strike
  | slot (n : Nat)
  | queue (q : Nat)
  | canRam (ch word : Nat)
  deriving DecidableEq, Repr

/-- What a check of a protected table finds (spec/13 R372): nothing, a single-bit error that it corrects, or an uncorrectable
error. -/
inductive Ecc
  | none | corrected | lost
  deriving DecidableEq, Repr

/-- A threshold that a supervisor sees crossed (spec/22 R580). -/
inductive Supply
  | tempHigh | tempNormal | tempTrip | regulator | vbatLow | vbatOk | vinMeasure | vbatMeasure | vmetMeasure | tempMeasure
  deriving DecidableEq, Repr

/-- What the decoder of a riser port found since its last frame (spec/14 R389): symbols corrected, uncorrectable codewords, and
whether a byte of the frame lies in one of them. -/
structure Fec where
  corr : Nat := 0
  lost : Nat := 0
  hit : Bool := false
  deriving DecidableEq, Repr

/-- An input that a frame of a field node carries (spec/13 R351): the lease group table entry of the node, the point, its value
and its quality. -/
structure NodeInput where
  group : Nat
  point : Nat
  value : Word
  qual : Nat
  deriving DecidableEq, Repr

/-- Why a riser port goes DOWN (spec/14 R388). -/
inductive LinkDown
  | marker | codewords | hello | absent
  deriving DecidableEq, Repr

/-- A CAN frame (spec/17 R447): identifier, formats and data. -/
structure CanFrame where
  id : Nat
  xtd : Bool
  dlc : Nat
  fdf : Bool := false
  brs : Bool := false
  esi : Bool := false
  rtr : Bool := false
  data : List Byte
  deriving DecidableEq, Repr

/-- The standard requests on EP0 that change the device's state or show what spec/19 R501 states of it (R501, R507, R510). -/
inductive UsbStd
  | setAddress (a : Nat)
  | setConfiguration (c : Nat)
  | setRemoteWakeup (on : Bool)
  | getDescriptor (typ index len : Nat)
  | getConfiguration
  | getStatus
  deriving DecidableEq, Repr

/-- The commands. -/
inductive Instr
    /-- REGISTER_WRITE (R8): A write to a register field that has no row of its own takes effect per its access kind,
  glove check and RWS freeze, counting PG_DROP or a violation. -/
  | registerWrite (r : Requester) (addr : Nat) (size : Nat) (value : Option DWord) (ecc : Bool)
    /-- PG_RUN_WRITE (R69): A write of PG_RUN.REQ requests RUN or STOP, moving CUR to STARTING or STOPPING, subject to
  the mode rule of R72. -/
  | pgRunWrite (r : Requester) (page : Nat) (req : Nat)
    /-- PAGE_STARTED (R69): A STARTING page has taken in its RWS fields and begun its function, and CUR becomes
  RUNNING. -/
  | pageStarted (page : Nat) (spoilt : List Nat)
    /-- PAGE_STOPPED (R70): A STOPPING page has ended its work in hand and CUR becomes STOPPED. -/
  | pageStopped (page : Nat)
    /-- PG_OWNER_WRITE (R63): Glove 0 changes a page's owning glove or shared read, clearing PG_IRQ_EN and signalling
  ASSIGN on the GVW pages. -/
  | pgOwnerWrite (r : Requester) (page : Nat) (value : Word)
    /-- PAGE_EVENT_DELIVERY (R85): A pending page or queue event is delivered once a requester of the owning glove
  becomes available. -/
  | pageEventDelivery (event : Nat)
    /-- SYS_RESET_WRITE (R44): A keyed write by glove 0 to SYS_RESET runs the PFW commit and restarts power-up with
  CAUSE 0x3. -/
  | sysResetWrite (r : Requester) (value : Word)
    /-- SYS_RESTART_POLICY_WRITE (R42): A write by glove 0 stores the start-up target and restart kind in the MRAM
  restart record before completing. -/
  | sysRestartPolicyWrite (r : Requester) (value : Word)
    /-- SYS_RESTART (R52): Command 0x0101 evaluates retained data, self-tests the channels, reloads from CONFIG and
  enters the target mode. -/
  | sysRestart (r : Requester)
    /-- SYS_ENTER_RUN (R37): Command 0x0102 moves the module from COMMISSION to RUN or DEGRADED and claims leases. -/
  | sysEnterRun (r : Requester)
    /-- SYS_ENTER_COMMISSION (R37): Command 0x0103 moves the module from RUN or DEGRADED to COMMISSION, with outputs
  to hats and leases released. -/
  | sysEnterCommission (r : Requester)
    /-- SYS_ENTER_SAFE (R37): Command 0x0104 enters SAFE, with outputs to hats and leases released to hat. -/
  | sysEnterSafe (r : Requester)
    /-- CFG_SAVE (R74): Command 0x0105 journals the module configuration into CONFIG as one new generation. -/
  | cfgSave (r : Requester)
    /-- NOP (R108): Command 0x0001 completes with no effect. -/
  | nop (r : Requester)
    /-- QUEUE_CREATE (R109): Command 0x0002 creates a queue of a given kind, size and ring base for its owner glove.
  -/
  | queueCreate (r : Requester)
    /-- QUEUE_DESTROY (R110): Command 0x0003 ends a queue at once, leaving unread entries unread. -/
  | queueDestroy (r : Requester)
    /-- QUEUE_QUERY (R108): Command 0x0004 returns a queue's indices and drop count. -/
  | queueQuery (r : Requester)
    /-- CMD_POLL_STAT_READ (R92): A read of CMD_POLL_STAT reports the polled handle's state and frees its slot when it
  returns COMPLETE for a bank without a completion queue. -/
  | cmdPollStatRead (r : Requester) (parity : Bool)
    /-- SLOT_TIMEOUT_FREE (R91): A completed slot of a bank without a completion queue is freed 10 s of TMB1 after
  completion. -/
  | slotTimeoutFree (slot : Nat)
    /-- COMPLETION_POSTED (R107): A completion held in its slot for want of queue space is posted once space appears,
  and its slot is freed. -/
  | completionPosted (slot : Nat)
    /-- SUBMISSION_ENTRY_READ (R100): The module reads a command submission entry once a slot and quota are available
  and issues it as a command. -/
  | submissionEntryRead (queue : Nat) (fails ecc : Bool)
    /-- DB_INDEX_WRITE (R104): A write of a queue's software index advances it, or sets BADIDX if it is out of order
  or overruns. -/
  | dbIndexWrite (r : Requester) (queue : Nat) (value : Word) (ecc : Bool)
    /-- DB_CTRL_WRITE (R106): A write to DB_CTRL arms the queue or clears OVF and BADIDX, raising the queue event if
  its condition holds. -/
  | dbCtrlWrite (r : Requester) (queue : Nat) (value : Word) (ecc : Bool)
    /-- GLOVE_SET (R127): Command 0x0201 sets a glove's active flag, DRAM region and command quota. -/
  | gloveSet (r : Requester)
    /-- GLOVE_QBLOCK (R127): Command 0x0202 gives a QID block to a new owner glove. -/
  | gloveQblock (r : Requester)
    /-- GLOVE_RECLAIM (R128): Command 0x0203 deactivates a glove, destroys its queues and keys, gives its objects to
  glove 0 and zeroes its memory. -/
  | gloveReclaim (r : Requester)
    /-- LOOP_WRITE (R151): Command 0x0301 copies a checked descriptor into the loop table, optionally journalled into
  CONFIG. -/
  | loopWrite (r : Requester)
    /-- LOOP_READ (R150): Command 0x0302 copies a loop table entry or a role copy into a buffer. -/
  | loopRead (r : Requester)
    /-- LOOP_START (R152): Command 0x0303 arms one or both roles of a loop for its next release boundary. -/
  | loopStart (r : Requester) (ecc : Bool)
    /-- LOOP_STOP (R152): Command 0x0304 stops one or both roles of a loop at the next boundary. -/
  | loopStop (r : Requester)
    /-- LOOP_HANDOVER (R152): Command 0x0305 swaps owner and shadow at the boundary ending the owner's period. -/
  | loopHandover (r : Requester)
    /-- LOOP_QUERY (R150): Command 0x0306 returns a loop's roles, channels, flags and late count. -/
  | loopQuery (r : Requester)
    /-- LOOP_CLEAR_FLAGS (R153): Command 0x0307 clears saturation and late flags in started roles' lines at the next
  release boundary. -/
  | loopClearFlags (r : Requester)
    /-- TICK_BOUNDARY (R138): At each 31.25 µs of TMB1 the tick image is fixed and loops and tasks are checked,
  published and released. -/
  | tickBoundary (strikes : List Strike)
    /-- UNIT_TEST_DONE (R218): A cup test or Kettle test after a mismatch ends and the supervisor fences or records an
  unresolved mismatch. -/
  | unitTestDone (task : Bool) (item : Nat) (shadow : Bool) (pass : Bool)
    /-- CUP_STEP_DONE (R142): A cup finishes a step, stores its line and compare record, and takes its next entry by
  pop or steal. -/
  | cupStepDone (ch cup : Nat) (upset : Upset) (stall : Nat)
    /-- STEP_TIMEOUT (R146): A step still running after 4,096 CCLK cycles is aborted and its entry returned to its
  deque. -/
  | stepTimeout (ch cup : Nat) (stall : Nat)
    /-- CES_TICK_LO_READ (R158): A read of CES_TICK_LO returns the low tick count and latches the high word. -/
  | cesTickLoRead (r : Requester)
    /-- TASK_WRITE (R214): Command 0x0401 checks and writes a task descriptor, call list and initial image. -/
  | taskWrite (r : Requester)
    /-- TASK_READ (R213): Command 0x0402 copies a task table entry or a role copy into a buffer. -/
  | taskRead (r : Requester)
    /-- TASK_START (R213): Command 0x0403 starts one or both roles of a task at its next release boundary. -/
  | taskStart (r : Requester)
    /-- TASK_STOP (R213): Command 0x0404 stops one or both roles of a task. -/
  | taskStop (r : Requester)
    /-- TASK_HANDOVER (R213): Command 0x0405 swaps a task's owner and shadow roles at a cycle boundary. -/
  | taskHandover (r : Requester)
    /-- TASK_QUERY (R213): Command 0x0406 returns a task's roles, channels, late cycles and last commit SEQ. -/
  | taskQuery (r : Requester)
    /-- KETTLE_CALL_ENTRY (R195): A Kettle executes one call entry of the highest-ranked released role. -/
  | kettleCallEntry (ch : Nat) (upset : Upset)
    /-- KETTLE_COMMIT_DONE (R207): A Kettle instance commit completes and SYS_KTL_COMMIT_SEQ advances. -/
  | kettleCommitDone (task : Nat) (ok : Bool)
    /-- KETTLE_OVERRUN (R210): A task role has not reached END at its deadline and the module enters SAFE. -/
  | kettleOverrun (task : Nat) (shadow : Bool)
    /-- LOOP_INTEGRATOR_COMMIT (R13): Once per second the loop integrators are committed to the alternate MRAM buffer.
  -/
  | loopIntegratorCommit (ok : Bool)
    /-- CH_SELFTEST (R222): Command 0x0501 tests a fenced channel with its pages stopped. -/
  | chSelftest (r : Requester)
    /-- CH_FENCE (R248): Command 0x0502 fences a channel. -/
  | chFence (r : Requester)
    /-- HEARTBEAT (R225): Every 100 µs of TMB1 each unfenced channel emits a heartbeat. -/
  | heartbeat
    /-- SUPERVISOR_TAKEOVER (R226): After 250 µs without a supervisor heartbeat the next unfenced channel fences it
  and takes the role. -/
  | supervisorTakeover (ch : Nat)
    /-- CHANNEL_HB_LOST (R226): The supervisor fences an unfenced channel whose heartbeat has been absent for 250 µs.
  -/
  | channelHbLost (ch : Nat)
    /-- LSE_CLAIM (R249): Command 0x0503 claims named or all LOST groups with NEXT, retrying on NOT_EXPIRED. -/
  | lseClaim (r : Requester)
    /-- LSE_RELEASE (R248): Command 0x0504 releases a HELD group with a chosen disposition. -/
  | lseRelease (r : Requester)
    /-- LSE_UNADOPT (R232): Command 0x0505 ends an adoption and releases adopted groups with DISP HOLD. -/
  | lseUnadopt (r : Requester)
    /-- LSE_QUERY (R248): Command 0x0506 returns a group's state, epoch and last NAK reason. -/
  | lseQuery (r : Requester)
    /-- LSE_WARM_TASK (R248): Command 0x0507 writes a partner task into the warm copy. -/
  | lseWarmTask (r : Requester)
    /-- RELAY_WRITE_RX (R228): A relayed persisted write from the partner is applied to the warm copy. -/
  | relayWriteRx (frame : List Byte)
    /-- TPI_CYCLE_BOUNDARY (R354): At each TMB0 TPI cycle boundary the module publishes, ages remote entries, posts
  events and checks the partner. -/
  | tpiCycleBoundary (table : Ecc) (spoilt : List Nat)
    /-- LEASE_SEND_INSTANT (R238): LSE_TX_OFS after each TPI boundary the module sends renewals, claims and releases.
  -/
  | leaseSendInstant
    /-- LEASE_ANSWER_RX (R239): A GRANT or NAK from a field node updates the group's state. -/
  | leaseAnswerRx (can : Bool) (port : Nat) (node : Nat) (vlan : Nat) (pdu : List Byte)
    /-- TPI_FRAME_RX (R362): A received TPI frame is checked and its valid records take effect in the point table. -/
  | tpiFrameRx (west : Bool) (frame : List Byte)
    /-- TPI_CYCLE_LO_READ (R370): A read of TPI_CYCLE_LO returns the low cycle number and latches the high word. -/
  | tpiCycleLoRead (r : Requester)
    /-- PT_READ (R367): Command 0x0701 copies point entries into a buffer. -/
  | ptRead (r : Requester)
    /-- PT_WRITE (R367): Command 0x0702 writes, forces or releases a point. -/
  | ptWrite (r : Requester)
    /-- FLT_SEV_WRITE (R561): A write of a source's severity stores it, not below its floor. -/
  | fltSevWrite (r : Requester) (value : Word) (ecc : Bool)
    /-- FLT_CTRL_DEFAULTS (R575): A keyed write returns every severity to its default. -/
  | fltCtrlDefaults (r : Requester) (value : Word)
    /-- FLT_SAVE (R577): Command 0x0B01 journals the severity table into CONFIG. -/
  | fltSave (r : Requester)
    /-- HATSTAND_ACTS (R568): After 7,200 RC periods without an unfenced heartbeat the Hatstand drives outputs to hats
  and asserts SAFE_N. -/
  | hatstandActs
    /-- HATSTAND_BEAT (R569): Every 100 µs of its oscillator the Hatstand sends its beat to the channels. -/
  | hatstandBeat
    /-- HATSTAND_LOST (R569): The supervisor sets HST.LOST after 1 ms without a Hatstand beat. -/
  | hatstandLost
    /-- HST_RC_MEASURE (R570): Every 1 ms the Hatstand oscillator is counted against TCLK and checked for range. -/
  | hstRcMeasure (khz : Nat)
    /-- VIN_GOOD (R47): VIN rising through 10.5 V starts the power-up sequence. -/
  | vinGood
    /-- INTERNAL_RESET_END (R47): The ROOT PLL locks, internal reset ends and RECOV_N is sampled. -/
  | internalResetEnd (recovLow : Bool)
    /-- STARTUP_SELFTEST (R47): The start-up self-test of channels A to D completes and failing channels are fenced.
  -/
  | startupSelftest (failing : List Nat) (spoilt : Bool)
    /-- SLOT_SELECTION (R539): The ROM chooses the slot to boot from the slot record or enters RECOVERY. -/
  | slotSelection
    /-- IMAGE_LOADED (R73): The image is verified and loaded, the CONFIG journal replayed and the hats loaded. -/
  | imageLoaded (badChunk : Bool)
    /-- STARTUP_COMPLETE (R50): Retained data are evaluated, the restart is performed and the start-up mode is
  entered. -/
  | startupComplete (spoilt : Bool)
    /-- STARTUP_RETRY (R49): After PFW during start-up, VIN held 100 ms restarts the sequence from its first row. -/
  | startupRetry
    /-- PFW (R572): VIN below 10.0 V for 2 µs starts the PFW-to-dark sequence. -/
  | pfw
    /-- PFW_COMMIT_DONE (R572): The restart record is written and the core die is held in reset except its hold-up
  parts. -/
  | pfwCommitDone (ok : Bool)
    /-- VIN_DARK (R572): VIN falls below 8.5 V and the module goes dark into BACKUP. -/
  | vinDark
    /-- POWER_RESTART (R573): VIN held 100 ms after COMMIT_DONE restarts the power-up sequence. -/
  | powerRestart
    /-- RESET_N_ASSERT (R605): RESET_N low for 10 µs puts the core die into reset at once. -/
  | resetNAssert
    /-- RESET_N_RELEASE (R605): Release of RESET_N runs power-up with CAUSE 0x2. -/
  | resetNRelease
    /-- ROOT_UNLOCK (R593): The ROOT PLL loses lock and every ROOT clock is gated off. -/
  | rootUnlock
    /-- ROOT_RELOCK (R593): The ROOT PLL relocks, FCLK resumes and held fault occurrences are reacted to. -/
  | rootRelock
    /-- SUPPLY_EVENT (R580): A temperature, regulator or VBAT supervisor threshold is crossed and its source set. -/
  | supplyEvent (kind : Supply) (value : Nat)
    /-- VIO_BANK_CHANGE (R479): A DIO bank supply falls below 1.55 V or becomes good again. -/
  | vioBankChange (bank : Nat) (good : Bool)
    /-- VBAT_DOMAIN_POWER_ON (R425): The VBAT domain powers on and sets RTC LOST. -/
  | vbatDomainPowerOn
    /-- TAMPER (R531): A glitch detector or the VBAT tamper monitor destroys every handle, seed and identity key. -/
  | tamper (vbat closes : Bool)
    /-- CSEAL_CHANGE (R608): The carrier cover contact changes state and the VBAT domain records it. -/
  | csealChange (isOpen : Bool)
    /-- VBM_READ (R608): Command 0x0C01 reads and optionally clears the cover seal record. -/
  | vbmRead (r : Requester)
    /-- XTAL_STOP (R425): No RTC crystal edge for 1 ms sets XTAL_STOP. -/
  | xtalStop
    /-- TMB_OFFSET_SAMPLE (R401): A write of TMB_OFS_LO hands an offset to the servo, which slews or steps the time
  base. -/
  | tmbOffsetSample (r : Requester) (base : Nat) (value : Word)
    /-- TMB_HOLDOVER (R403): No sample for TMB_HOLD_MS puts a time base into holdover at its integral rate. -/
  | tmbHoldover (base : Nat)
    /-- TMB_NOW_NS_READ (R398): A read of TMB_NOW_NS returns NS and latches SEC and FRAC for the requester. -/
  | tmbNowNsRead (r : Requester) (base : Nat)
    /-- TMB_CAPTURE (R417): A write captures all four time bases at one TCLK edge. -/
  | tmbCapture (r : Requester) (base : Nat) (value : Word)
    /-- RTC_LOAD (R422): A write of LOAD sets LOAD_BUSY for the RTC to take the set time and date. -/
  | rtcLoad (r : Requester) (value : Word)
    /-- RTC_LOAD_APPLIED (R422): At the third crystal edge the RTC takes the set values and clears LOST. -/
  | rtcLoadApplied
    /-- RTC_NUDGE_WRITE (R423): A write stores a clamped nudge and sets NUDGE_BUSY. -/
  | rtcNudgeWrite (r : Requester) (value : Word)
    /-- RTC_NUDGE_APPLIED (R423): At the next SUBSEC wrap the nudge shortens or lengthens the second. -/
  | rtcNudgeApplied
    /-- RTC_SECOND_CARRY (R424): A SUBSEC wrap carries through the time and date fields. -/
  | rtcSecondCarry
    /-- LAUNCH_DUE (R413): A held frame's launch time falls due and the frame is started or judged late. -/
  | launchDue (queue : Nat)
    /-- CADDY_START (R277): VMET rising through 1.60 V starts the Caddy, which verifies its image and enters METERING.
  -/
  | caddyStart (fault : Nat) (isOpen : Bool)
    /-- VMET_TRIP (R309): VMET falling through 1.58 V closes a short window, commits an orderly stop and stops the
  Caddy. -/
  | vmetTrip (holdUp torn : Bool)
    /-- SEAL_CHANGE (R257): A new SEAL_N state held for 20 samples is counted and logged. -/
  | sealChange (isOpen : Bool)
    /-- CLK_FALLBACK (R259): The Caddy leaves ROOT/700 for its fallback oscillator. -/
  | clkFallback
    /-- CLK_ROOT (R259): After 1,000 good windows the Caddy returns to ROOT/700. -/
  | clkRoot
    /-- FALLBACK_MEASURE (R260): Every 10 s the Caddy measures its fallback oscillator against ROOT/700. -/
  | fallbackMeasure (ppb : Int)
    /-- TMB3_COPY (R261): Every 1 ms the core die sends a TMB3 copy that the Caddy takes or logs as a step. -/
  | tmb3Copy
    /-- TIME_HOLDOVER (R261): No TMB3 copy for 10 ms puts the Caddy's legal time into holdover. -/
  | timeHoldover
    /-- DATA_LOSS (R268): 640 constant bits put an input into data loss, voiding its samples. -/
  | dataLoss (input bitNo : Nat)
    /-- OVR (R267): A run of 16 identical bits or a sample at full scale sets an input's OVR bit. -/
  | ovr (input bitNo : Nat)
    /-- SUMMARY_WRITE (R270): An open overrange, data-loss or other summary is written to the log 60 s after its first
  episode. -/
  | summaryWrite (typ subject : Nat)
    /-- WINDOW_BOUNDARY (R289): At each 200 ms window boundary the Caddy books energies, updates accumulators and
  pulses, and serves snapshots and commits. -/
  | windowBoundary (commitFails : Bool)
    /-- PULSE_START (R302): An idle pulse output with a pending count goes high for PULSE_MS. -/
  | pulseStart (output : Nat)
    /-- PULSE_END (R302): A pulse's high or low time expires. -/
  | pulseEnd (output : Nat)
    /-- STEEP_INTERVAL_END (R324): A steep interval ends and the pilot estimate is formed and accepted or rejected. -/
  | steepIntervalEnd (input : Nat)
    /-- VREF_MEASURE (R330): Once per second the reference ratio is measured and a split or agreement logged. -/
  | vrefMeasure (rho : Nat)
    /-- PILOT_DRIVER (R331): A driver readback differs for 8 samples, or recovers after 64 clean groups. -/
  | pilotDriver (driver : Nat) (fault : Bool)
    /-- PILOT_STALE (R332): 30 days without an accepted estimate logs PILOT_STALE. -/
  | pilotStale (input : Nat)
    /-- CADDY_POINT_PUBLISH (R307): Every 10 ms of TMB1 instantaneous circuit values are written to points. -/
  | caddyPointPublish
    /-- CDY_EVENT_POST (R281): A Caddy event is posted to each metrology event queue that may see it. -/
  | cdyEventPost
    /-- CDY_IDENT (R285): Command 0x0601 returns the Caddy identity and optionally starts the identity display. -/
  | cdyIdent (r : Requester)
    /-- CDY_LOG_READ (R285): Command 0x0602 copies event log entries visible to the glove into a buffer. -/
  | cdyLogRead (r : Requester)
    /-- CDY_SNAPSHOT (R303): Command 0x0610 requests an atomic snapshot delivered under the circuit views. -/
  | cdySnapshot (r : Requester)
    /-- CDY_VIEW_SET (R312): Command 0x0611 sets a circuit's view glove and journals it. -/
  | cdyViewSet (r : Requester)
    /-- CDY_PUBLISH (R312): Command 0x0612 sets the point base and enable of instantaneous publication. -/
  | cdyPublish (r : Requester)
    /-- CDY_COMMIT (R312): Command 0x0613 requests a Caddy commit at the next window boundary. -/
  | cdyCommit (r : Requester)
    /-- CDY_HARMONICS (R312): Command 0x0614 writes a circuit's harmonic group RMS values. -/
  | cdyHarmonics (r : Requester)
    /-- CDY_PARAM_LOAD (R338): Command 0x0620 hands a parameter block to the Caddy for checking and acceptance. -/
  | cdyParamLoad (r : Requester) (readBackFails : Bool)
    /-- CDY_PARAM_READ (R343): Command 0x0621 reads the parameter block in force. -/
  | cdyParamRead (r : Requester)
    /-- CDY_PILOT_STATUS (R343): Command 0x0622 returns a path's pilot state, trim and subtraction amplitude. -/
  | cdyPilotStatus (r : Requester)
    /-- CDY_CAL_MEASURE (R340): Command 0x0623 measures every input over a number of windows for calibration. -/
  | cdyCalMeasure (r : Requester)
    /-- CDY_IMAGE_LOAD (R552): Command 0x0630 hands a Caddy image to the Caddy for checking and installation. -/
  | cdyImageLoad (r : Requester) (readBackFails : Bool)
    /-- RISER_FRAME_RX (R375): A riser frame is received and removed, delivered or forwarded by its tag. -/
  | riserFrameRx (west : Bool) (tag : List Byte) (frame : List Byte) (fec : Fec) (ago : Nat)
    /-- RISER_FRAME_TX (R378): A riser port starts the next frame by class precedence. -/
  | riserFrameTx (west : Bool) (ecc : Bool)
    /-- RISER_HELLO_SEND (R380): Every 1 ms each UP port sends HELLO. -/
  | riserHelloSend
    /-- RISER_ANNOUNCE_SEND (R380): Every 10 ms the module broadcasts ANNOUNCE. -/
  | riserAnnounceSend
    /-- RING_MAP_EXPIRY (R380): An address not heard for 30 ms leaves the ring map. -/
  | ringMapExpiry (west : Bool) (addr : Nat)
    /-- RISER_TRAINING_START (R386): A DOWN port with a module present begins TRAINING. -/
  | riserTrainingStart (west : Bool) (present : Bool)
    /-- RISER_TRAINING_DONE (R386): Every lane in use has locked and adapted and the port enters ALIGNING. -/
  | riserTrainingDone (west : Bool)
    /-- RISER_ALIGNED (R386): Marker lock, lane identity and deskew are reached and the port enters AUTH. -/
  | riserAligned (west : Bool) (deskew : Nat)
    /-- RISER_CHALLENGE_RX (R387): A peer CHALLENGE is answered with a RESPONSE. -/
  | riserChallengeRx (west : Bool) (pdu : List Byte)
    /-- RISER_RESPONSE_RX (R387): A peer RESPONSE is verified and the port enters UP or AUTH_FAIL. -/
  | riserResponseRx (west : Bool) (pdu : List Byte)
    /-- RISER_BRINGUP_TIMEOUT (R386): TRAINING, ALIGNING or AUTH does not finish in time and the port goes DOWN or
  AUTH_FAIL. -/
  | riserBringupTimeout (west : Bool) (badLanes : Nat)
    /-- RISER_AUTH_RETRY (R386): 10 s after AUTH_FAIL the port returns to AUTH. -/
  | riserAuthRetry (west : Bool)
    /-- RISER_LINK_DOWN (R388): Marker loss, uncorrectable codewords, missing HELLO or module removal takes the port
  DOWN. -/
  | riserLinkDown (west : Bool) (cause : LinkDown) (badLanes : Nat) (fec : Fec) (cut : Bool)
      (part : Option (List Byte × List Byte))
    /-- ADDR_CLASH_CLEAR (R381): ADDR_CLASH clears 30 ms after the last clashing frame. -/
  | addrClashClear
    /-- FP_FRAME_RX (R430): A received floor-port frame is filtered and delivered, passed to the lease engine or
  dropped. -/
  | fpFrameRx (port : Nat) (frame : List Byte) (room : Bool) (ago : Nat) (ecc : Bool) (inputs : List NodeInput)
    /-- FP_FRAME_TX (R435): A floor port takes the next lease frame or transmit entry and sends it. -/
  | fpFrameTx (port : Nat)
    /-- FP_TX_DONE (R436): A transmit entry completes on its paired completion queue. -/
  | fpTxDone (port : Nat) (sent : Bool)
    /-- FP_LINK_CHANGE (R427): The PHY's in-band word changes link, duplex or rate state. -/
  | fpLinkChange (port : Nat) (link : Bool) (rate : Nat) (half : Bool) (cut : Bool)
    /-- LPI_ENTRY (R437): After IDLE_US without a frame the MAC signals low-power idle. -/
  | lpiEntry (port : Nat)
    /-- MDIO_START (R428): A write of GO starts one Clause 22 or 45 MDIO frame. -/
  | mdioStart (r : Requester) (port : Nat) (value : Word)
    /-- MDIO_DONE (R428): An MDIO frame ends after 64 MDC periods and BUSY clears. -/
  | mdioDone (port : Nat) (data : Nat)
    /-- CAN_FRAME_RX (R448): A received CAN frame is filtered into a buffer, FIFO, queue or the lease engine. -/
  | canFrameRx (ch : Nat) (f : CanFrame) (ago : Nat) (ecc : Bool) (bad : List Nat) (inputs : List NodeInput)
    /-- CAN_TXREQ_WRITE (R453): A write sets transmission requests of dedicated buffers. -/
  | canTxreqWrite (r : Requester) (ch : Nat) (reg : Nat) (value : Word)
    /-- CAN_TXCANCEL_WRITE (R453): A write withdraws buffer requests not yet started. -/
  | canTxcancelWrite (r : Requester) (ch : Nat) (reg : Nat) (value : Word)
    /-- CAN_ARBITRATION (R453): At a possible start of frame the lowest pending arbitration field is offered. -/
  | canArbitration (ch : Nat) (ecc : Bool)
    /-- CAN_TX_DONE (R453): A CAN frame is sent and TXDONE or its queue completion follows. -/
  | canTxDone (ch : Nat)
    /-- CAN_ERROR_FRAME (R459): An error is detected, counters move and the frame is retransmitted or fails. -/
  | canErrorFrame (ch : Nat) (lec : Nat) (dataPhase : Bool) (more : Nat) (excepted lostArb : Bool)
    /-- CAN_RXF_ACK_WRITE (R451): A write frees unbound FIFO elements up to the index read. -/
  | canRxfAckWrite (r : Requester) (ch : Nat) (reg : Nat) (value : Word)
    /-- CAN_RECOVER (R458): A write of RECOVER in bus-off starts recovery. -/
  | canRecover (r : Requester) (ch : Nat) (value : Word)
    /-- CAN_RECOVERY_DONE (R458): After 128 occurrences of 11 recessive bits the channel becomes error-active. -/
  | canRecoveryDone (ch : Nat)
    /-- CAN_TT_CYCLE_BOUNDARY (R455): A time master requests its reference message at each cycle boundary. -/
  | canTtCycleBoundary (ch : Nat)
    /-- CAN_TT_REFERENCE_RX (R456): A time slave starts a cycle on a received reference message. -/
  | canTtReferenceRx (ch : Nat) (f : CanFrame) (ago : Nat)
    /-- CAN_TT_SYNC_LOST (R456): No reference for two cycles clears TT_SYNC. -/
  | canTtSyncLost (ch : Nat)
    /-- CAN_TT_TRIGGER (R457): TT_OFS after the reference a time-triggered buffer is offered once. -/
  | canTtTrigger (ch buf : Nat)
    /-- CAN_RATE_DETECT (R460): Command 0x0801 listens under each candidate nominal rate until one is confirmed. -/
  | canRateDetect (r : Requester)
    /-- CAN_RATE_DWELL_END (R460): A candidate's dwell ends and detection moves to the next candidate or times out. -/
  | canRateDwellEnd (ch : Nat) (timeout : Bool)
    /-- AIN_CONVERSION (R467): A conversion ends and its result is used, clamped or discarded and its point written.
  -/
  | ainConversion (input : Nat) (level : Int)
    /-- AIN_SHUNT_OPEN (R469): Over 25 mA for 100 µs opens the input shunt. -/
  | ainShuntOpen (input : Nat)
    /-- AIN_SHUNT_RETRY (R469): Every 1 s an opened shunt is closed for one conversion. -/
  | ainShuntRetry (input : Nat)
    /-- PIN_RESULT_UPDATE (R472): Every 1 ms of TMB1 FREQ and DUTY results are formed. -/
  | pinResultUpdate (input : Nat) (wave : List (Bool × Nat))
    /-- PIN_TIMEOUT (R474): No rising edge for PIN_TMO turns a FREQ or DUTY result STALE. -/
  | pinTimeout (input : Nat)
    /-- PIN_INDEX (R475): A rising index edge corrects the quadrature count or records a mismatch. -/
  | pinIndex (index : Nat)
    /-- PIN_VAL_WRITE (R473): A write of PIN_VALn loads the count in COUNT and QUAD modes. -/
  | pinValWrite (r : Requester) (input : Nat) (value : Word)
    /-- DIO_INPUT_DEBOUNCED (R479): A DIO input level held for DEB ms counts as the new level. -/
  | dioInputDebounced (pin : Nat) (level : Bool)
    /-- CORE_GLOVE_WRITE (R490): A privileged write sets a core's glove for later accesses and events. -/
  | coreGloveWrite (core : Nat) (value : Nat) (privileged : Bool)
    /-- CLE_CLAIM_READ (R492): A read returns the lowest event routed to the core and clears a queue event's core
  latch. -/
  | cleClaimRead (core : Nat)
    /-- MSIX_MESSAGE (R495): A function sends an MSI-X message for an event or on unmask. -/
  | msixMessage (fn vector : Nat) (setMask : Option Bool)
    /-- PCI_FUNCTION_RESET (R497): Function-level reset, link down or hot reset returns function state to reset. -/
  | pciFunctionReset (fn : Option Nat)
    /-- PCI_VF_GLOVE_WRITE (R500): Glove 0 maps a virtual function to a glove, discarding its latched events. -/
  | pciVfGloveWrite (r : Requester) (v : Nat) (value : Word)
    /-- SESSION_NONCE (R502): USB request 0x01 returns a fresh nonce. -/
  | sessionNonce
    /-- SESSION_OPEN (R503): USB request 0x02 verifies the MAC under the glove's session leaf and opens a session. -/
  | sessionOpen (glove : Nat) (mac : List Byte)
    /-- SESSION_CLOSE (R502): USB request 0x03 closes the session. -/
  | sessionClose
    /-- REG_READ (R502): USB request 0x10 reads consecutive registers as the session glove. -/
  | regRead (off len : Nat)
    /-- REG_WRITE (R502): USB request 0x11 writes consecutive registers as the session glove. -/
  | regWrite (off : Nat) (words : List Word)
    /-- CMD (R504): USB request 0x20 creates a command from a submission entry. -/
  | cmd (entry : List Byte) (fails : Bool)
    /-- RING_STATE (R502): USB request 0x21 returns the session glove and ring occupancy. -/
  | ringState
    /-- EP1_PACKET_ACK (R505): An acknowledged EP1 packet removes its entries from the glove's USB ring. -/
  | ep1PacketAck (ecc : Bool)
    /-- USB_BUS_RESET (R506): A bus reset discards incomplete transfers, returns to Default and closes the session. -/
  | usbBusReset (discards chirp : Bool)
    /-- USB_REMOTE_WAKEUP (R507): A suspended device with a waiting entry drives K for 2 ms. -/
  | usbRemoteWakeup
    /-- USB_HOST_RESUME (R508): A host resume merges with or pre-empts a remote wake. -/
  | usbHostResume
    /-- KEY_DERIVE (R530): Command 0x0901 derives a leaf under a subtree root or derive parent. -/
  | keyDerive (r : Requester)
    /-- KEY_DESTROY (R530): Command 0x0902 destroys a handle. -/
  | keyDestroy (r : Requester)
    /-- KEY_QUERY (R530): Command 0x0903 describes a handle. -/
  | keyQuery (r : Requester)
    /-- KEY_MAC (R530): Command 0x0904 computes or compares an HMAC tag. -/
  | keyMac (r : Requester)
    /-- KEY_ENCRYPT (R530): Command 0x0905 encrypts with AES-256-GCM. -/
  | keyEncrypt (r : Requester)
    /-- KEY_DECRYPT (R530): Command 0x0906 decrypts and authenticates with AES-256-GCM. -/
  | keyDecrypt (r : Requester)
    /-- KEY_WRAP (R530): Command 0x0907 wraps a key with AES KW. -/
  | keyWrap (r : Requester)
    /-- KEY_UNWRAP (R530): Command 0x0908 unwraps a key with AES KW. -/
  | keyUnwrap (r : Requester)
    /-- KEY_PUBLIC (R530): Command 0x0909 imports a public key as a verify handle. -/
  | keyPublic (r : Requester)
    /-- KEY_VERIFY (R530): Command 0x090A verifies an ECDSA signature. -/
  | keyVerify (r : Requester)
    /-- KEY_ATTEST (R523): Command 0x090B writes a signed origin statement for a challenge. -/
  | keyAttest (r : Requester)
    /-- KEY_SEED (R522): Command 0x090C installs a seed for RING or GLOVE/g from an envelope. -/
  | keySeed (r : Requester)
    /-- KEY_RANDOM (R530): Command 0x090D returns random bytes. -/
  | keyRandom (r : Requester)
    /-- KEY_ENDORSE_CERT (R528): Command 0x090E reads the stored endorsement certificate. -/
  | keyEndorseCert (r : Requester)
    /-- LCS_PROVISION (R528): Command 0x0911 generates and fuses the device root. -/
  | lcsProvision (r : Requester) (fuseFails cut : Bool)
    /-- LCS_CERT_STORE (R528): Command 0x0912 stores Sheben's certificate in PROVISIONED. -/
  | lcsCertStore (r : Requester)
    /-- LCS_TRANSITION (R527): Command 0x0913 burns a state fuse, destroys keys, switches root and regenerates
  identity. -/
  | lcsTransition (r : Requester) (fuseFails cut : Bool)
    /-- RNG_HEALTH_FAIL (R512): A random source health test fails and randomness-dependent operations stop. -/
  | rngHealthFail
    /-- UPD_BEGIN (R541): Command 0x0A01 checks a header and hash list and opens the other slot, optionally relaying.
  -/
  | updBegin (r : Requester)
    /-- UPD_CHUNK (R541): Command 0x0A02 verifies and stores chunks, optionally relaying them. -/
  | updChunk (r : Requester)
    /-- UPD_FINISH (R541): Command 0x0A03 writes the complete mark and awaits the relay report. -/
  | updFinish (r : Requester)
    /-- UPD_ACTIVATE (R541): Command 0x0A04 arms the staged slot for trial, optionally resetting. -/
  | updActivate (r : Requester)
    /-- UPD_CONFIRM (R546): Command 0x0A05 burns rollback fuses and makes the trial slot active. -/
  | updConfirm (r : Requester) (fuseFails cut : Bool)
    /-- UPD_ABORT (R541): Command 0x0A06 ends the session and leaves the slot invalid. -/
  | updAbort (r : Requester)
    /-- RELAY_UNIT_RX (R543): A relayed unit is verified, stored if accepted, acknowledged and forwarded. -/
  | relayUnitRx (west : Bool) (frame : List Byte)
    /-- RELAY_ACK_RX (R542): A chunk acknowledgement frees the sender's window. -/
  | relayAckRx (west : Bool) (frame : List Byte)
    /-- RELAY_RESEND (R542): An unacknowledged chunk is resent after 20 ms, up to 8 times. -/
  | relayResend (chunk : Nat)
    /-- RELAY_FINISH_RX (R544): A FINISH frame adds the module to LOADED and is passed on or answered with REPORT. -/
  | relayFinishRx (west : Bool) (frame : List Byte)
    /-- RELAY_REPORT_RX (R544): A REPORT or ABORT reaches the originator and completes UPD_FINISH. -/
  | relayReportRx (src : Nat) (frame : List Byte)
    /-- RELAY_REPORT_TIMEOUT (R544): No REPORT within 60 s completes UPD_FINISH FAILED_RELAY. -/
  | relayReportTimeout
    /-- TRIAL_LIMIT (R545): Ten minutes of trial without confirmation reset the module to the active slot. -/
  | trialLimit
    /-- RECOVERY_ANNOUNCE (R550): Every 1 s the recovery loader announces itself on FP0 and requests on riser ports.
  -/
  | recoveryAnnounce
    /-- RECOVERY_FP0_ALTERNATE (R550): Without link for 2 s the loader switches FP0 interface mode. -/
  | recoveryFp0Alternate
    /-- DFU_DNLOAD (R549): A DFU download block of the image is verified and written by the loader. -/
  | dfuDnload (block : List Byte)
    /-- RECOVERY_COMPLETE (R548): The loader writes the complete mark and resets with CAUSE 0x5. -/
  | recoveryComplete
    /-- CH_SELFTEST_DONE (R222): The channel self-test ends within 20 ms, sets TEST_PASS or reports failed parts, and
  completes CH_SELFTEST. -/
  | chSelftestDone (ch : Nat) (failed : Nat)
    /-- SYS_RESTART_DONE (R52): A restart finishes its self-test and CONFIG reload, enters the target mode and posts
  its completion. -/
  | sysRestartDone (failing : List Nat)
    /-- CONFIG_JOURNAL_DONE (R74): A journal write into CONFIG for CFG_SAVE, FLT_SAVE, a persisted write or a view
  change completes or fails. -/
  | configJournalDone (ok : Bool)
    /-- RECLAIM_ZERO_FILL_DONE (R128): The zero fill of a reclaimed glove's DRAM region ends and GLOVE_RECLAIM sets
  the region to zero and completes. -/
  | reclaimZeroFillDone (glove : Nat)
    /-- CADDY_ANSWER (R285): The Caddy answers a mailbox command and the core die completes it with its results. -/
  | caddyAnswer (slot : Nat) (linkFails : Bool)
    /-- CADDY_ANSWER_TIMEOUT (R286): No Caddy answer for 100 ms completes the command FAILED_NOCADDY and shows STATE
  UNPOWERED. -/
  | caddyAnswerTimeout (slot : Nat)
    /-- CADDY_SAMPLE (R264): At each 8 kHz sample boundary the Caddy ends a filtered sample of every input and sets
  every pilot driver's level and reads it back. -/
  | caddySample (streams : List (Nat × BitVec 1250)) (differs : List Nat)
    /-- PIN_EDGE (R473): A filtered edge on a PIN input counts up or down, or moves the quadrature count, or counts an
  illegal transition. -/
  | pinEdge (input : Nat) (level both : Bool) (held : Nat)
    /-- OUTPUT_OVERLOAD (R486): An AOUT or DIO output reaches its current limit and sets its sticky overload bit. -/
  | outputOverload (output : Nat)
    /-- AOUT_READBACK_FAULT (R486): An output's readback differs from its code by more than 0.5 % of span for 1 ms and
  sets AOUT.READBACK. -/
  | aoutReadbackFault (output : Nat)
    /-- DIO_PWM_PERIOD (R479): A PWM period of a DIO bank ends, the new duty takes effect and the pin goes high for
  the next period. -/
  | dioPwmPeriod (bank : Nat)
    /-- LPI_WAKE (R437): The MAC leaves low-power idle to send a frame, or at L minus TW_US ahead of a held launch. -/
  | lpiWake (port : Nat)
    /-- LPI_RX_CHANGE (R437): The link partner enters or leaves low-power idle and FP_STAT.LPI_RX follows. -/
  | lpiRxChange (port : Nat) (on : Bool)
    /-- CLK_XIN_MEASURE (R595): Every 16 s XIN is measured against the RTC crystal into CLK_XIN_PPM, setting
  CLK.XIN_DRIFT beyond 100 ppm. -/
  | clkXinMeasure (tenths : Int)
    /-- USB_PLL_LOCK_CHANGE (R597): The USB PHY PLL loses or regains lock, and the port detaches until it relocks. -/
  | usbPllLockChange (locked : Bool)
    /-- PCI_LINK_UP (R499): The PCI Express data link layer comes up and PCI_STAT shows its width and speed. -/
  | pciLinkUp (width speed numVf : Nat) (msix : List Nat) (d3 : List Nat)
    /-- PCI_ERROR (R511): A correctable or uncorrectable PCI Express error is detected and counted, setting PCI.UNCORR
  for an uncorrectable one. -/
  | pciError (uncorrectable : Bool)
    /-- USB_SUSPEND (R507): The bus goes idle and the device enters the suspended state, starting the 5 ms before a
  remote wake. -/
  | usbSuspend
    /-- USB_STANDARD_REQUEST (R501): A standard request on EP0 addresses or configures the device or sets
  DEVICE_REMOTE_WAKEUP. -/
  | usbStandardRequest (q : UsbStd)
    /-- USB_VBUS_CHANGE (R604): USB_VBUS rises or falls, connecting or removing the D+ pull-up. -/
  | usbVbusChange (on : Bool)
    /-- RNG_HEALTH_RECOVER (R512): The random source passes its health tests again and operations needing randomness
  resume. -/
  | rngHealthRecover
    /-- XTAL_RESUME (R425): An RTC crystal edge arrives after a stop and XTAL_STOP clears. -/
  | xtalResume
    /-- UNASSIGNED_OPCODE (R96): A CMD_OP write or submission entry with an unassigned opcode completes REFUSED_OP. -/
  | unassignedOpcode (r : Requester) (op : Nat)
    /-- UPD_WRITE_DONE (R541): A NAND write of header, hash list or chunks into the opened slot completes and the
  update command completes or fails FAILED_NAND. -/
  | updWriteDone (fails : Bool)
  deriving DecidableEq, Repr

end Sys2Proof
end

