-- ==== Sys2Proof/WellFormed.lean ====
section
/-! DEFINITION. Which commands are well formed: every operand in the range the spec gives it. -/

namespace Sys2Proof

/-- An access of 1, 2, 4 or 8 bytes (spec/03 R55). -/
def okSize (n : Nat) : Bool := n == 1 || n == 2 || n == 4 || n == 8

/-- A page of the window (spec/03 R56). -/
def okPage (p : Nat) : Bool := decide (p < 0x180)

/-- A PG_RUN.REQ code (spec/03 R61). -/
def okReq (n : Nat) : Bool := decide (n < 4)

/-- A page or queue event (spec/03 R83, spec/04 R106). -/
def okEvent (n : Nat) : Bool := decide (n < 0x180) || (decide (0x1000 ≤ n) && decide (n < 0x9000))

/-- A command slot (spec/04 R91). -/
def okSlot (n : Nat) : Bool := decide (n < 4096)

/-- A QID (spec/04 R98). -/
def okQueue (q : Nat) : Bool := decide (q < 32768)

/-- A place that an error can strike (spec/04 R91, R98, spec/17 R446): a slot, a queue, or a word of a message RAM. -/
def okStrike (k : Strike) : Bool :=
  match k with
  | .slot n => okSlot n
  | .queue q => okQueue q
  | .canRam c w => decide (c < 8) && decide (w < 8192)

/-- A control channel (spec/01). -/
def okChannel (n : Nat) : Bool := decide (n < 4)

/-- A cup of a channel (spec/01). -/
def okCup (n : Nat) : Bool := decide (n < 16)

/-- What can disturb a step of a cup (spec/06 R163). -/
def okCupUpset (u : Upset) : Bool := decide (u ≠ .badEntry)

/-- What can disturb a call of a Kettle (spec/08 R216). -/
def okKettleUpset (u : Upset) : Bool := decide (u ≠ .lockstep) && decide (u ≠ .dequeParity)

/-- A frame of at most 9,600 bytes (spec/16 R429). -/
def okFrame (l : List Byte) : Bool := decide (l.length ≤ 9600)

/-- A floor port (spec/16). -/
def okPort (n : Nat) : Bool := decide (n < 8)

/-- A DIO bank (spec/18 R479). -/
def okBank (n : Nat) : Bool := decide (n < 4)

/-- A time base (spec/15). -/
def okBase (n : Nat) : Bool := decide (n < 4)

/-- A start fault (spec/10 R280). -/
def okFault (n : Nat) : Bool := decide (n < 3)

/-- A Caddy input index (spec/10 R262). -/
def okInput (n : Nat) : Bool := decide (n < 152)

/-- A bit of a sample period (spec/10 R265). -/
def okBitNo (n : Nat) : Bool := decide (n < 1250)

/-- A pulse output (spec/11 R302). -/
def okEpulse (n : Nat) : Bool := decide (n < 32)

/-- A pilot driver (spec/12 R316). -/
def okDriver (n : Nat) : Bool := decide (n < 40)

/-- A riser tag of 7 bytes (spec/14 R374). -/
def okTag (l : List Byte) : Bool := l.length == 7

/-- What a decoder can find (spec/14 R389): a frame is hit only by a codeword that is lost. -/
def okFec (f : Fec) : Bool := decide (f.corr < 2 ^ 32) && decide (f.lost < 2 ^ 32) && (!f.hit || decide (0 < f.lost))

/-- What arrived of a frame whose link failed: tag and bytes (spec/14 R395). -/
def okPart (p : Option (List Byte × List Byte)) : Bool :=
  match p with
  | none => true
  | some (t, b) => okTag t && okFrame b

/-- An input of a field node (spec/09 R247, spec/13 R346, R347). -/
def okNodeInput (x : NodeInput) : Bool := decide (x.group < 2048) && decide (x.point < 65536) && decide (x.qual ≤ 5)

/-- The runs of levels on a pulse input within 1 ms, in TCLK periods (spec/18 R471, R472). -/
def okWave (l : List (Bool × Nat)) : Bool := decide (l.foldl (fun n r => n + r.2) 0 ≤ 250000)

/-- A ring address (spec/14 R374). -/
def okRing (n : Nat) : Bool := decide (n < 128)

/-- A lane skew (spec/14 R391). -/
def okDeskew (n : Nat) : Bool := decide (n < 1024)

/-- A CAN channel. -/
def okCan (n : Nat) : Bool := decide (n < 8)

/-- A CAN frame (spec/17 R443). -/
def okCanFrame (f : CanFrame) : Bool := decide (f.id < (if f.xtd then 2 ^ 29 else 2 ^ 11)) && decide (f.dlc < 16) && !(f.rtr && f.fdf)

/-- The lower or upper register of a pair. -/
def okReg2 (n : Nat) : Bool := decide (n < 2)

/-- An error kind (spec/17 R462). -/
def okLec (n : Nat) : Bool := decide (n < 7)

/-- A CAN buffer (spec/17 R446). -/
def okBuf (n : Nat) : Bool := decide (n < 64)

/-- An analogue input. -/
def okAin (n : Nat) : Bool := decide (n < 16)

/-- A pulse input. -/
def okPulse (n : Nat) : Bool := decide (n < 8)

/-- A PIN index input. -/
def okIndex (n : Nat) : Bool := decide (n < 4)

/-- A DIO pin. -/
def okPin (n : Nat) : Bool := decide (n < 32)

/-- An application core. -/
def okCore (n : Nat) : Bool := decide (n < 8)

/-- A PCI Express function. -/
def okFn (n : Nat) : Bool := decide (n < 8)

/-- An MSI-X vector (spec/19 R493). -/
def okVector (n : Nat) : Bool := decide (n < 64)

/-- A virtual function (spec/19 R498). -/
def okVf (n : Nat) : Bool := decide (1 ≤ n) && decide (n ≤ 7)

/-- A glove (spec/05 R113). -/
def okGlove (n : Nat) : Bool := decide (n < 64)

/-- A MAC of 48 bytes (spec/19 R502). -/
def okMac (l : List Byte) : Bool := l.length == 48

/-- A length of 4 to 256, a multiple of 4 (spec/19 R502). -/
def okLen (n : Nat) : Bool := decide (4 ≤ n) && decide (n ≤ 256) && n % 4 == 0

/-- 1 to 64 words (spec/19 R502). -/
def okWords (l : List Word) : Bool := decide (1 ≤ l.length) && decide (l.length ≤ 64)

/-- A submission entry of 64 bytes (spec/19 R502). -/
def okEntry (l : List Byte) : Bool := l.length == 64

/-- An AOUT or DIO output. -/
def okOutput (n : Nat) : Bool := decide (n < 40)

/-- An analogue output. -/
def okAout (n : Nat) : Bool := decide (n < 8)

/-- An opcode (spec/04 R87). -/
def okOpcode (n : Nat) : Bool := decide (n < 0x10000)

/-- The command is well formed. -/
def Instr.wf (i : Instr) : Bool :=
  match i with
  | .registerWrite _ _ size _ _ => okSize size
  | .pgRunWrite _ page req => okPage page && okReq req
  | .pageStarted page _ => okPage page
  | .pageStopped page => okPage page
  | .pgOwnerWrite _ page _ => okPage page
  | .pageEventDelivery event => okEvent event
  | .sysResetWrite _ _ => true
  | .sysRestartPolicyWrite _ _ => true
  | .sysRestart _ => true
  | .sysEnterRun _ => true
  | .sysEnterCommission _ => true
  | .sysEnterSafe _ => true
  | .cfgSave _ => true
  | .nop _ => true
  | .queueCreate _ => true
  | .queueDestroy _ => true
  | .queueQuery _ => true
  | .cmdPollStatRead _ _ => true
  | .slotTimeoutFree slot => okSlot slot
  | .completionPosted slot => okSlot slot
  | .submissionEntryRead queue _ _ => okQueue queue
  | .dbIndexWrite _ queue _ _ => okQueue queue
  | .dbCtrlWrite _ queue _ _ => okQueue queue
  | .gloveSet _ => true
  | .gloveQblock _ => true
  | .gloveReclaim _ => true
  | .loopWrite _ => true
  | .loopRead _ => true
  | .loopStart _ _ => true
  | .loopStop _ => true
  | .loopHandover _ => true
  | .loopQuery _ => true
  | .loopClearFlags _ => true
  | .tickBoundary strikes => strikes.all okStrike
  | .unitTestDone _ _ _ _ => true
  | .cupStepDone ch cup upset _ => okChannel ch && okCup cup && okCupUpset upset
  | .stepTimeout ch cup stall => okChannel ch && okCup cup && decide (stall ≤ 4096)
  | .cesTickLoRead _ => true
  | .taskWrite _ => true
  | .taskRead _ => true
  | .taskStart _ => true
  | .taskStop _ => true
  | .taskHandover _ => true
  | .taskQuery _ => true
  | .kettleCallEntry ch upset => okChannel ch && okKettleUpset upset
  | .kettleCommitDone _ _ => true
  | .kettleOverrun _ _ => true
  | .loopIntegratorCommit _ => true
  | .chSelftest _ => true
  | .chFence _ => true
  | .heartbeat => true
  | .supervisorTakeover ch => okChannel ch
  | .channelHbLost ch => okChannel ch
  | .lseClaim _ => true
  | .lseRelease _ => true
  | .lseUnadopt _ => true
  | .lseQuery _ => true
  | .lseWarmTask _ => true
  | .relayWriteRx frame => okFrame frame
  | .tpiCycleBoundary _ spoilt => spoilt.all (fun l => decide (l < 65536))
  | .leaseSendInstant => true
  | .leaseAnswerRx _ port _ _ _ => okPort port
  | .tpiFrameRx _ frame => okFrame frame
  | .tpiCycleLoRead _ => true
  | .ptRead _ => true
  | .ptWrite _ => true
  | .fltSevWrite _ _ _ => true
  | .fltCtrlDefaults _ _ => true
  | .fltSave _ => true
  | .hatstandActs => true
  | .hatstandBeat => true
  | .hatstandLost => true
  | .hstRcMeasure _ => true
  | .vinGood => true
  | .internalResetEnd _ => true
  | .startupSelftest _ _ => true
  | .slotSelection => true
  | .imageLoaded _ => true
  | .startupComplete _ => true
  | .startupRetry => true
  | .pfw => true
  | .pfwCommitDone _ => true
  | .vinDark => true
  | .powerRestart => true
  | .resetNAssert => true
  | .resetNRelease => true
  | .rootUnlock => true
  | .rootRelock => true
  | .supplyEvent _ _ => true
  | .vioBankChange bank _ => okBank bank
  | .vbatDomainPowerOn => true
  | .tamper vbat closes => vbat || !closes
  | .csealChange _ => true
  | .vbmRead _ => true
  | .xtalStop => true
  | .tmbOffsetSample _ base _ => okBase base
  | .tmbHoldover base => okBase base
  | .tmbNowNsRead _ base => okBase base
  | .tmbCapture _ base _ => okBase base
  | .rtcLoad _ _ => true
  | .rtcLoadApplied => true
  | .rtcNudgeWrite _ _ => true
  | .rtcNudgeApplied => true
  | .rtcSecondCarry => true
  | .launchDue queue => okQueue queue
  | .caddyStart fault _ => okFault fault
  | .vmetTrip _ _ => true
  | .sealChange _ => true
  | .clkFallback => true
  | .clkRoot => true
  | .fallbackMeasure _ => true
  | .tmb3Copy => true
  | .timeHoldover => true
  | .dataLoss input bitNo => okInput input && okBitNo bitNo
  | .ovr input bitNo => okInput input && okBitNo bitNo
  | .summaryWrite _ _ => true
  | .windowBoundary _ => true
  | .pulseStart output => okEpulse output
  | .pulseEnd output => okEpulse output
  | .steepIntervalEnd input => okInput input
  | .vrefMeasure _ => true
  | .pilotDriver driver _ => okDriver driver
  | .pilotStale input => okInput input
  | .caddyPointPublish => true
  | .cdyEventPost => true
  | .cdyIdent _ => true
  | .cdyLogRead _ => true
  | .cdySnapshot _ => true
  | .cdyViewSet _ => true
  | .cdyPublish _ => true
  | .cdyCommit _ => true
  | .cdyHarmonics _ => true
  | .cdyParamLoad _ _ => true
  | .cdyParamRead _ => true
  | .cdyPilotStatus _ => true
  | .cdyCalMeasure _ => true
  | .cdyImageLoad _ _ => true
  | .riserFrameRx _ tag frame fec _ => okTag tag && okFrame frame && okFec fec
  | .riserFrameTx _ _ => true
  | .riserHelloSend => true
  | .riserAnnounceSend => true
  | .ringMapExpiry _ addr => okRing addr
  | .riserTrainingStart _ _ => true
  | .riserTrainingDone _ => true
  | .riserAligned _ deskew => okDeskew deskew
  | .riserChallengeRx _ _ => true
  | .riserResponseRx _ _ => true
  | .riserBringupTimeout _ _ => true
  | .riserAuthRetry _ => true
  | .riserLinkDown _ _ _ fec _ part => okFec fec && okPart part
  | .addrClashClear => true
  | .fpFrameRx port _ _ _ _ inputs => okPort port && inputs.all okNodeInput
  | .fpFrameTx port => okPort port
  | .fpTxDone port _ => okPort port
  | .fpLinkChange port _ _ _ _ => okPort port
  | .lpiEntry port => okPort port
  | .mdioStart _ port _ => okPort port
  | .mdioDone port _ => okPort port
  | .canFrameRx ch f _ _ _ inputs => okCan ch && okCanFrame f && inputs.all okNodeInput
  | .canTxreqWrite _ ch reg _ => okCan ch && okReg2 reg
  | .canTxcancelWrite _ ch reg _ => okCan ch && okReg2 reg
  | .canArbitration ch _ => okCan ch
  | .canTxDone ch => okCan ch
  | .canErrorFrame ch lec _ more _ _ => okCan ch && okLec lec && decide (more ≤ 64)
  | .canRxfAckWrite _ ch reg _ => okCan ch && okReg2 reg
  | .canRecover _ ch _ => okCan ch
  | .canRecoveryDone ch => okCan ch
  | .canTtCycleBoundary ch => okCan ch
  | .canTtReferenceRx ch f _ => okCan ch && okCanFrame f
  | .canTtSyncLost ch => okCan ch
  | .canTtTrigger ch buf => okCan ch && okBuf buf
  | .canRateDetect _ => true
  | .canRateDwellEnd ch _ => okCan ch
  | .ainConversion input _ => okAin input
  | .ainShuntOpen input => okAin input
  | .ainShuntRetry input => okAin input
  | .pinResultUpdate input wave => okPulse input && okWave wave
  | .pinTimeout input => okPulse input
  | .pinIndex index => okIndex index
  | .pinValWrite _ input _ => okPulse input
  | .dioInputDebounced pin _ => okPin pin
  | .coreGloveWrite core _ _ => okCore core
  | .cleClaimRead core => okCore core
  | .msixMessage fn vector _ => okFn fn && okVector vector
  | .pciFunctionReset _ => true
  | .pciVfGloveWrite _ v _ => okVf v
  | .sessionNonce => true
  | .sessionOpen glove mac => okGlove glove && okMac mac
  | .sessionClose => true
  | .regRead _ len => okLen len
  | .regWrite _ words => okWords words
  | .cmd entry _ => okEntry entry
  | .ringState => true
  | .ep1PacketAck _ => true
  | .usbBusReset _ _ => true
  | .usbRemoteWakeup => true
  | .usbHostResume => true
  | .keyDerive _ => true
  | .keyDestroy _ => true
  | .keyQuery _ => true
  | .keyMac _ => true
  | .keyEncrypt _ => true
  | .keyDecrypt _ => true
  | .keyWrap _ => true
  | .keyUnwrap _ => true
  | .keyPublic _ => true
  | .keyVerify _ => true
  | .keyAttest _ => true
  | .keySeed _ => true
  | .keyRandom _ => true
  | .keyEndorseCert _ => true
  | .lcsProvision _ f c => !(f && c)
  | .lcsCertStore _ => true
  | .lcsTransition _ f c => !(f && c)
  | .rngHealthFail => true
  | .updBegin _ => true
  | .updChunk _ => true
  | .updFinish _ => true
  | .updActivate _ => true
  | .updConfirm _ f c => !(f && c)
  | .updAbort _ => true
  | .relayUnitRx _ frame => okFrame frame
  | .relayAckRx _ frame => okFrame frame
  | .relayResend _ => true
  | .relayFinishRx _ frame => okFrame frame
  | .relayReportRx _ frame => okFrame frame
  | .relayReportTimeout => true
  | .trialLimit => true
  | .recoveryAnnounce => true
  | .recoveryFp0Alternate => true
  | .dfuDnload _ => true
  | .recoveryComplete => true
  | .chSelftestDone ch _ => okChannel ch
  | .sysRestartDone _ => true
  | .configJournalDone _ => true
  | .reclaimZeroFillDone glove => okGlove glove
  | .caddyAnswer slot _ => okSlot slot
  | .caddyAnswerTimeout slot => okSlot slot
  | .caddySample _ _ => true
  | .pinEdge input _ _ _ => okPulse input
  | .outputOverload output => okOutput output
  | .aoutReadbackFault output => okAout output
  | .dioPwmPeriod bank => okBank bank
  | .lpiWake port => okPort port
  | .lpiRxChange port _ => okPort port
  | .clkXinMeasure _ => true
  | .usbPllLockChange _ => true
  | .pciLinkUp _ _ _ _ _ => true
  | .pciError _ => true
  | .usbSuspend => true
  | .usbStandardRequest _ => true
  | .usbVbusChange _ => true
  | .rngHealthRecover => true
  | .xtalResume => true
  | .unassignedOpcode _ op => okOpcode op
  | .updWriteDone _ => true

end Sys2Proof
end

