-- ==== Sys2Proof/Config.lean ====
section
/-! DEFINITION. What the spec leaves open as a value, as opaque constants: no proof can see a value of one. -/

namespace Sys2Proof.Config

/-- The free value number `n`: a value that the spec leaves open, drawn by the step that reads the counter
`State.freeCtr` (log entry 7). Nothing constrains it. -/
opaque freeNat : Nat → Nat

/-- `n` bytes, given by their places. -/
def bytesOf (n : Nat) (f : Nat → Byte) : List Byte := (List.range n).map f

/-- Byte `k` of HMAC-SHA-384, uninterpreted (log entry 8). -/
opaque hmacByte : List Byte → List Byte → Nat → Byte

/-- HMAC-SHA-384 over bytes under a key of bytes: 384 bits (spec/20 R520, spec/09 R240). -/
def hmac (key text : List Byte) : List Byte := bytesOf 48 (hmacByte key text)

/-- Byte `k` of a SHA-256 digest, uninterpreted (log entry 8). -/
opaque sha256Byte : List Byte → Nat → Byte

/-- SHA-256 of bytes. -/
def sha256 (text : List Byte) : List Byte := bytesOf 32 (sha256Byte text)

/-- Byte `k` of a SHA-384 digest, uninterpreted (log entry 8). -/
opaque sha384Byte : List Byte → Nat → Byte

/-- SHA-384 of bytes. -/
def sha384 (text : List Byte) : List Byte := bytesOf 48 (sha384Byte text)

/-- Byte `k` of an AES-256-GCM cipher text with its tag, and of the plain text of one, uninterpreted (log entry 8). -/
opaque gcmByte : Bool → List Byte → List Byte → List Byte → Nat → Byte

/-- The tag of a cipher text under a key and an IV is right. -/
opaque gcmTag : List Byte → List Byte → List Byte → Bool

/-- AES-256-GCM encryption without additional data: key, IV, plain text, to cipher text and 128-bit tag (spec/20 R520). -/
def gcmSeal (key iv text : List Byte) : List Byte := bytesOf (text.length + 16) (gcmByte true key iv text)

/-- AES-256-GCM decryption: key, IV, cipher text with tag, to plain text, none if the tag fails. -/
def gcmOpen (key iv box : List Byte) : Option (List Byte) :=
  if gcmTag key iv box then some (bytesOf (box.length - 16) (gcmByte false key iv box)) else none

/-- Byte `k` of an AES key wrap, and of an unwrap, uninterpreted (log entry 8). -/
opaque kwByte : Bool → List Byte → List Byte → Nat → Byte

/-- The check of a wrapped key succeeds. -/
opaque kwCheck : List Byte → List Byte → Bool

/-- AES key wrap: wrapping key and key, to the wrapped key (spec/20 R520). -/
def kwWrap (key text : List Byte) : List Byte := bytesOf (text.length + 8) (kwByte true key text)

/-- AES key unwrap: wrapping key and wrapped key, to the key, none if the check fails. -/
def kwUnwrap (key box : List Byte) : Option (List Byte) :=
  if kwCheck key box then some (bytesOf (box.length - 8) (kwByte false key box)) else none

/-- Byte `k` of an ECDSA P-384 signature, uninterpreted (log entry 8). -/
opaque ecdsaByte : List Byte → List Byte → Nat → Nat → Byte

/-- ECDSA P-384 signature, r then s, with a private key over a digest, with the number of a free value (spec/20 R520). -/
def ecdsaSign (key digest : List Byte) (n : Nat) : List Byte := bytesOf 96 (ecdsaByte key digest n)

/-- ECDSA P-384 verification: public key, digest, signature. -/
opaque ecdsaVerify : List Byte → List Byte → List Byte → Bool

/-- The P-384 private key made from bits (spec/20 R512). -/
opaque privateFrom : List Byte → List Byte

/-- Byte `k` of the public key of a private key. -/
opaque publicByte : List Byte → Nat → Byte

/-- The public key of a private key, X then Y (spec/20 R520). -/
def publicKey (key : List Byte) : List Byte := bytesOf 96 (publicByte key)

/-- The point of a public key lies on the curve. -/
opaque onCurve : List Byte → Bool

/-- Byte `k` of an ECDH product. -/
opaque ecdhByte : List Byte → List Byte → Nat → Byte

/-- The X coordinate of the ECDH product of a private and a public key, none if the point is not on the curve
(spec/20 R522). -/
def ecdh (key pub : List Byte) : Option (List Byte) :=
  if onCurve pub then some (bytesOf 48 (ecdhByte key pub)) else none

/-- Random byte number `n` of the random source (spec/20 R512). -/
opaque randomByte : Nat → Byte

/-- SHA-384 of the image-signing key and of the debug authority's key, fused at manufacture (spec/20 R512, spec/21
R537). -/
opaque imageKeyHash : List Byte

/-- DEBUG_KEY_HASH (spec/20 R512). -/
opaque debugKeyHash : List Byte

/-- The test root fused at manufacture (spec/20 R512). -/
opaque testRoot : List Byte

/-- The fields of a Caddy image, whose places the spec does not give (spec/21 R552): 0 the code and constant sections,
1 the body, 2 the stated SHA-384 of the body, 3 AUTH_KEY, 4 SIGNATURE, 5 the signed bytes, 6 MARKET, 7 VERSION (minor,
major), 8 one byte that is not zero if MAGIC and the lengths are right (log entry 16). -/
opaque caddyImage : List Byte → Nat → List Byte

/-- Q and NEXT of a CAL_WEEK whose instance names no entry: the spec gives no result (spec/08 R204). The operands are
the minute of the week and the block's former Q. -/
opaque calWeekEmpty : Nat → Word → Word × Word

/-- Whether a real number that lies between two integers, given as numerator and denominator, is rounded up, where the
spec names a real result and states no rounding (log entry 12). -/
opaque roundUp : Int → Nat → Bool

/-- The same for the square root of a quotient (log entry 12). -/
opaque rootUp : Nat → Nat → Bool

/-- Whether the sine of `a ÷ n` of a turn, where it lies between two multiples of 2^-60, is taken as the upper one: the spec
names sines and states no format of them (log entry 13). -/
opaque sineUp : Nat → Nat → Bool

/-- The angle of the vector (0, 0), and in its lowest bit whether the angle of another vector is rounded up (spec/12 R340): the
spec states neither (log entry 13). -/
opaque phaseOpen : Int → Int → Int

/-- Byte `k` of the MAC address of the east or west riser port, which the spec does not give (log entry 20). -/
opaque riserMacByte : Bool → Nat → Byte

/-- The version of the start-up ROM, which no register shows (spec/21 R537, R544; log entry 27). -/
opaque romVersion : Nat

/-- Byte `k` of the descriptor of this type, where the spec gives none (spec/19 R501, log entry 159). -/
opaque usbByte : Nat → Nat → Byte

/-- A byte of the boot ROM (spec/19 R488), whose contents the spec does not give. -/
opaque bootRom : Nat → Byte

/-- The CCLK cycles of a step of a law kind; the spec bounds them only (spec/06 R133, log entry 21). -/
opaque stepCycles : Nat → Nat

/-- The fused SHA-256 hash of a market's authority key, market 0 that of the Sheben laboratory (spec/00 R1, spec/12 R338). -/
opaque authorityHash : Nat → List Byte

end Sys2Proof.Config
end

