-- ==== Sys2Proof/Machine/Bits.lean ====
section
/-! DEFINITION. Bit fields, saturation, sign and byte order: the helpers every meaning uses. -/

namespace Sys2Proof.Machine

/-- The field of `len` bits of `w` that starts at bit `lo`, as a number (spec/00 R6: unsigned). -/
def bf (w : Word) (lo len : Nat) : Nat := w.toNat / 2 ^ lo % 2 ^ len

/-- Bit `i` of a register. -/
def bit (w : Word) (i : Nat) : Bool := w.getLsbD i

/-- `w` with the field of `len` bits at `lo` replaced by `v`, cut to the field. -/
def setBf (w : Word) (lo len v : Nat) : Word :=
  BitVec.ofNat 32 (w.toNat % 2 ^ lo + (v % 2 ^ len) * 2 ^ lo + w.toNat / 2 ^ (lo + len) * 2 ^ (lo + len))

/-- `w` with bit `i` set to `b`. -/
def setBit (w : Word) (i : Nat) (b : Bool) : Word := setBf w i 1 b.toNat

/-- A number as a register value. -/
abbrev wd (n : Nat) : Word := BitVec.ofNat 32 n

/-- The register with exactly bit `i` set. -/
def oneBit (i : Nat) : Word := wd (2 ^ i)

/-- A mask of `len` ones starting at bit `lo`. -/
def msk (lo len : Nat) : Word := wd ((2 ^ len - 1) * 2 ^ lo)

/-- A register with bit `i` set for every `i` of the list. -/
def bitsWord (l : List Nat) : Word := l.foldl (fun w i => w ||| oneBit i) 0

/-- Number of ones in the low `n` bits. -/
def popCount (w n : Nat) : Nat := ((List.range n).filter (fun i => w.testBit i)).length

/-- The saturating counter step of the registers that are "saturating" (spec/00 R10, spec/04 R87). -/
def satInc (w : Word) : Word := if w = 0xFFFFFFFF then w else w + 1

/-- Saturating addition of a count to a register. -/
def satAdd (w : Word) (n : Nat) : Word := wd (min (w.toNat + n) 0xFFFFFFFF)

/-- Two's complement reading of the low `n` bits of a number. -/
def signed (n v : Nat) : Int :=
  let r := v % 2 ^ n
  if r < 2 ^ (n - 1) then (r : Int) else (r : Int) - (2 : Int) ^ n

/-- Two's complement writing of an integer in `n` bits. -/
def unsigned (n : Nat) (v : Int) : Nat := (v % ((2 : Int) ^ n)).toNat

/-- An integer limited to a closed range. -/
def clampI (lo hi v : Int) : Int := if v < lo then lo else if hi < v then hi else v

/-- A number limited to a closed range. -/
def clampN (lo hi v : Nat) : Nat := if v < lo then lo else if hi < v then hi else v

/-- The little-endian bytes of a number (spec/03 R55). -/
def leBytes : Nat → Nat → List Byte
  | 0, _ => []
  | n + 1, v => BitVec.ofNat 8 v :: leBytes n (v / 256)

/-- The number of little-endian bytes. -/
def leNat : List Byte → Nat
  | [] => 0
  | b :: t => b.toNat + 256 * leNat t

/-- The big-endian bytes of a number. -/
def beBytes (n v : Nat) : List Byte := (leBytes n v).reverse

/-- The number of big-endian bytes. -/
def beNat (l : List Byte) : Nat := leNat l.reverse

/-- `n` bytes of a byte string from offset `off`; bytes past the end read zero. -/
def sliceB (l : List Byte) (off n : Nat) : List Byte :=
  let t := (l.drop off).take n
  t ++ List.replicate (n - t.length) 0

/-- The little-endian number of `n` bytes at offset `off`. -/
def getLE (l : List Byte) (off n : Nat) : Nat := leNat (sliceB l off n)

/-- The 32-bit words of a byte string, little-endian. -/
def leWords : Nat → List Byte → List Word
  | 0, _ => []
  | n + 1, l => wd (getLE l 0 4) :: leWords n (l.drop 4)

/-- A byte string with the bytes `v` written at offset `off`; it is not made longer. -/
def patchB (l : List Byte) (off : Nat) (v : List Byte) : List Byte :=
  (l.take off ++ v ++ l.drop (off + v.length)).take l.length

/-- Element `i` of a list, or `d` past its end. -/
def nth {α : Type} (l : List α) (i : Nat) (d : α) : α := l.getD i d

/-- A list with element `i` replaced. -/
def setNth {α : Type} (l : List α) (i : Nat) (v : α) : List α := l.set i v

end Sys2Proof.Machine
end

