-- ==== Sys2Proof/Machine/Desc.lean ====
section
/-! DEFINITION. The loop descriptor and the state line of spec/07 (R164 to R176): plain data, their bytes, and the
checks of R173. -/

namespace Sys2Proof.Machine

/-- A loop descriptor read out of its 128 bytes (spec/07 R170, R171, R172). Q15, Q14 and Q30 fields are signed. -/
structure Desc where
  kind : Nat
  pmode : Nat
  period : Nat
  owner : Nat
  shadow : Nat
  glove : Nat
  defined : Bool
  spsrc : Nat
  pinmode : Nat
  spfb : Nat
  mfb : Nat
  dir : Nat
  selhi : Bool
  oninit : Bool
  input : Nat
  pinShift : Nat
  shs : Nat
  meas : Nat
  spPt : Nat
  out : Nat
  aux : Nat
  spConst : Int
  spDefault : Int
  spScale : Int
  spOffset : Int
  spMin : Int
  spMax : Int
  kp : Int
  ki : Int
  kd : Int
  ad : Int
  shp : Nat
  shi : Nat
  shd : Nat
  sh1 : Nat
  sh2 : Nat
  outMin : Int
  outMax : Int
  iMin : Int
  iMax : Int
  par0 : Int
  par1 : Int
  bias : Int
  g0 : Int
  b0 : Int
  b1 : Int
  b2 : Int
  a1 : Int
  a2 : Int
  k1 : Int
  k2 : Int
  o1Min : Int
  o1Max : Int
  o2Min : Int
  o2Max : Int
  hat : Int
  hat2 : Int
  initInteg : Int
  deriving DecidableEq, Repr

/-- The signed 16-bit field at byte `o` of a descriptor. -/
def s16 (b : List Byte) (o : Nat) : Int := signed 16 (getLE b o 2)

/-- The unsigned field of `len` bits at bit `lo` of the word at byte `o`. -/
def fieldAt (b : List Byte) (o lo len : Nat) : Nat := getLE b o 4 / 2 ^ lo % 2 ^ len

/-- Reads a descriptor (spec/07 R170 to R172). -/
def Desc.read (b : List Byte) : Desc :=
  { kind := fieldAt b 0 0 4, pmode := fieldAt b 0 4 1, period := fieldAt b 0 8 12, owner := fieldAt b 0 20 2,
    shadow := fieldAt b 0 22 2, glove := fieldAt b 0 24 6, defined := fieldAt b 0 31 1 == 1,
    spsrc := fieldAt b 4 0 2, pinmode := fieldAt b 4 2 2, spfb := fieldAt b 4 4 2, mfb := fieldAt b 4 6 1,
    dir := fieldAt b 4 7 1, selhi := fieldAt b 4 8 1 == 1, oninit := fieldAt b 4 9 1 == 1,
    input := fieldAt b 4 12 4, pinShift := fieldAt b 4 16 5, shs := fieldAt b 4 24 3,
    meas := getLE b 0x08 2, spPt := getLE b 0x0A 2, out := getLE b 0x0C 2, aux := getLE b 0x0E 2,
    spConst := s16 b 0x10, spDefault := s16 b 0x12, spScale := s16 b 0x14, spOffset := s16 b 0x16,
    spMin := s16 b 0x18, spMax := s16 b 0x1A, kp := s16 b 0x1C, ki := s16 b 0x1E, kd := s16 b 0x20,
    ad := s16 b 0x22, shp := fieldAt b 0x24 0 3, shi := fieldAt b 0x24 4 3, shd := fieldAt b 0x24 8 3,
    sh1 := fieldAt b 0x24 12 3, sh2 := fieldAt b 0x24 16 3, outMin := s16 b 0x28, outMax := s16 b 0x2A,
    iMin := s16 b 0x2C, iMax := s16 b 0x2E, par0 := s16 b 0x30, par1 := s16 b 0x32, bias := s16 b 0x34,
    g0 := s16 b 0x36, b0 := s16 b 0x38, b1 := s16 b 0x3A, b2 := s16 b 0x3C, a1 := s16 b 0x3E, a2 := s16 b 0x40,
    k1 := s16 b 0x44, k2 := s16 b 0x46, o1Min := s16 b 0x48, o1Max := s16 b 0x4A, o2Min := s16 b 0x4C,
    o2Max := s16 b 0x4E, hat := s16 b 0x50, hat2 := s16 b 0x52, initInteg := signed 32 (getLE b 0x54 4) }

/-- Every reserved bit of a descriptor reads zero (spec/07 R170 to R172, R173 item 8). -/
def Desc.reservedZero (b : List Byte) : Bool :=
  decide (fieldAt b 0 5 3 = 0) && decide (fieldAt b 0 30 1 = 0) && decide (fieldAt b 4 10 2 = 0)
    && decide (fieldAt b 4 21 3 = 0) && decide (fieldAt b 4 27 5 = 0)
    && decide (fieldAt b 0x24 3 1 = 0) && decide (fieldAt b 0x24 7 1 = 0) && decide (fieldAt b 0x24 11 1 = 0)
    && decide (fieldAt b 0x24 15 1 = 0) && decide (fieldAt b 0x24 19 13 = 0)
    && decide (getLE b 0x42 2 = 0) && (sliceB b 0x58 40).all (fun x => decide (x = 0))

/-- The period in ticks (spec/06 R139). -/
def Desc.ticks (d : Desc) : Nat := if d.pmode = 0 then 2 ^ d.period else 32000 * d.period

/-- A regular loop has a period of at least 32 ticks (spec/06 R139). -/
def Desc.regular (d : Desc) : Bool := decide (32 ≤ d.ticks)

/-- The kinds with an integrator: PID, PI_DB and SPLIT (spec/07 R174). -/
def Desc.integrating (d : Desc) : Bool := d.kind == 0 || d.kind == 1 || d.kind == 7

/-- The checks of spec/07 R173 on a defined entry. -/
def Desc.passes (b : List Byte) : Bool :=
  let d := Desc.read b
  decide (d.kind ≤ 8)
    && (if d.pmode = 0 then decide (d.period ≤ 15) else decide (1 ≤ d.period) && decide (d.period ≤ 3600))
    && decide (d.owner ≠ d.shadow) && decide (d.spfb ≤ 2)
    && (if d.spsrc = 3 then decide (d.input ≤ 7) && decide (d.pinmode ≤ 2) else true)
    && (if d.kind = 4 ∨ d.kind = 6 ∨ d.kind = 8 then decide (d.spsrc = 0) else true)
    && decide (d.outMin ≤ d.outMax) && decide (d.iMin ≤ d.iMax) && decide (d.spMin ≤ d.spMax)
    && decide (d.o1Min ≤ d.o1Max) && decide (d.o2Min ≤ d.o2Max)
    && decide (d.spMin ≤ d.spDefault) && decide (d.spDefault ≤ d.spMax)
    && (if d.spsrc = 0 then decide (d.spMin ≤ d.spConst) && decide (d.spConst ≤ d.spMax) else true)
    && decide (0 ≤ d.ad)
    && (if d.kind = 1 ∨ d.kind = 3 ∨ d.kind = 6 then decide (0 ≤ d.par0) else true)
    && (if d.kind = 6 then decide (0 ≤ d.par1) else true)
    && (if d.integrating then
          decide (d.iMin * 32768 ≤ d.initInteg) && decide (d.initInteg ≤ d.iMax * 32768)
        else decide (d.initInteg = 0))
    && Desc.reservedZero b

/-- The check that LOOP_WRITE makes: an entry that is not DEFINED always passes (spec/07 R173). -/
def Desc.writable (b : List Byte) : Bool := !(Desc.read b).defined || Desc.passes b

/-- The state line of a role (spec/07 R174). -/
structure Line where
  integ : Int := 0
  m0 : Int := 0
  m1 : Int := 0
  m2 : Int := 0
  m3 : Int := 0
  spLast : Int := 0
  outLast : Int := 0
  out2Last : Int := 0
  satAcc : Bool := false
  satInt : Bool := false
  satOut : Bool := false
  satSp : Bool := false
  late : Bool := false
  primed : Bool := false
  mfrozen : Bool := false
  fb : Nat := 0
  oq : Nat := 0
  latePeriods : Nat := 0
  steps : Nat := 0
  deriving DecidableEq, Repr

/-- The flag word of a line at byte 0x14 (spec/07 R174). -/
def Line.flags (l : Line) : Nat :=
  l.satAcc.toNat + 2 * l.satInt.toNat + 4 * l.satOut.toNat + 8 * l.satSp.toNat + 16 * l.late.toNat
    + 256 * l.primed.toNat + 512 * l.mfrozen.toNat + 1024 * (l.fb % 4) + 4096 * (l.oq % 4)

/-- The 64 bytes of a line (spec/07 R174). -/
def Line.bytes (l : Line) : List Byte :=
  leBytes 4 (unsigned 32 l.integ) ++ leBytes 2 (unsigned 16 l.m0) ++ leBytes 2 (unsigned 16 l.m1)
    ++ leBytes 2 (unsigned 16 l.m2) ++ leBytes 2 (unsigned 16 l.m3) ++ leBytes 2 (unsigned 16 l.spLast)
    ++ leBytes 2 (unsigned 16 l.outLast) ++ leBytes 2 (unsigned 16 l.out2Last) ++ leBytes 2 0
    ++ leBytes 4 l.flags ++ leBytes 4 l.latePeriods ++ leBytes 4 (l.steps % 2 ^ 32) ++ leBytes 32 0

/-- The cold line of a descriptor (spec/07 R176). -/
def Line.cold (d : Desc) : Line :=
  { integ := if d.kind = 3 then (if d.oninit then 1 else 0) else d.initInteg,
    spLast := d.spDefault, outLast := d.hat, out2Last := d.hat2 }

/-- One step of the bitwise CRC-32 (reflected, polynomial 0xEDB88320; log entry 9). -/
def crcBit (c : BitVec 32) : BitVec 32 := if c.getLsbD 0 then (c >>> 1) ^^^ 0xEDB88320 else c >>> 1

/-- CRC-32 of a byte string. -/
def crc32 (b : List Byte) : Word :=
  (b.foldl (fun c x => Nat.repeat crcBit 8 (c ^^^ x.setWidth 32)) (0xFFFFFFFF : BitVec 32)) ^^^ 0xFFFFFFFF

/-- A compare record: the output values of a step and the CRC-32 of its new line or image (spec/06 R147). -/
structure CmpRec where
  vals : List Nat
  crc : Word
  deriving DecidableEq, Repr

end Sys2Proof.Machine
end

