-- ==== Sys2Proof/Machine/LoopLaws.lean ====
section
/-! DEFINITION. The arithmetic of the cups and the nine law kinds (spec/07 R164 to R190): one step of a loop as a
function of its role copy, its line and the inputs the tick image gives it. -/

namespace Sys2Proof.Machine

/-- A value with the flag that a saturation on the way to it raises. -/
structure Sat where
  v : Int
  s : Bool := false
  deriving DecidableEq, Repr

/-- The 40-bit accumulator takes the nearer bound outside its range (spec/07 R165). -/
def Sat.acc (x : Int) (s : Bool := false) : Sat :=
  let y := clampI (-(2 ^ 39)) (2 ^ 39 - 1) x
  ⟨y, s || decide (y ≠ x)⟩

/-- Accumulator addition. -/
def Sat.add (a b : Sat) : Sat := Sat.acc (a.v + b.v) (a.s || b.s)

/-- Accumulator subtraction. -/
def Sat.sub (a b : Sat) : Sat := Sat.acc (a.v - b.v) (a.s || b.s)

/-- Accumulator left shift. -/
def Sat.shl (a : Sat) (n : Nat) : Sat := Sat.acc (a.v * 2 ^ n) a.s

/-- A Q15 value added to the accumulator is shifted left by 15 (spec/07 R165). -/
def Sat.q15 (x : Int) : Sat := Sat.acc (x * 32768)

/-- A Q15 × Q15 product. -/
def Sat.mul (x y : Int) : Sat := Sat.acc (x * y)

/-- A Q15 × Q14 product enters shifted left by one (spec/07 R165). -/
def Sat.mul14 (x y : Int) : Sat := Sat.acc (x * y * 2)

/-- A gain of mantissa `m` and shift `sh` times a Q15 value (spec/07 R166). -/
def Sat.gain (m : Int) (sh : Nat) (x : Int) : Sat := (Sat.mul m x).shl sh

/-- The store of spec/07 R167: rounding to nearest, ties toward +∞, saturated to Q15. The flag is the store's own. -/
def Sat.store (a : Sat) : Sat :=
  let q := (a.v + 16384) / 32768
  let y := clampI (-32768) 32767 q
  ⟨y, decide (y ≠ q)⟩

/-- An intermediate store: its saturation counts as SAT_ACC (spec/07 R168). -/
def Sat.q15Int (a : Sat) : Sat := let q := a.store; ⟨q.v, q.s || a.s⟩

/-- The flags that one step raises (spec/07 R168). -/
structure StepFlags where
  acc : Bool := false
  int : Bool := false
  out : Bool := false
  sp : Bool := false
  deriving DecidableEq, Repr

/-- An output store against limits: value, accumulator flag, output flag (q15_out of spec/07 R169). -/
def q15Out (a : Sat) (lo hi : Int) : Int × Bool × Bool :=
  let q := a.store
  let y := clampI lo hi q.v
  (y, a.s, q.s || decide (y ≠ q.v))

/-- An input of a step: its value and whether it is usable (spec/07 R178). -/
structure StepIn where
  v : Int
  usable : Bool
  sat : Bool := false
  deriving DecidableEq, Repr

/-- Q15 reading of a point's value (spec/07 R177). -/
def q15Of (w : Nat) : Int := signed 16 w

/-- A pulse result as a set-point source (spec/07 R181 step 2). -/
def pinSource (d : Desc) (raw : Nat) (usable : Bool) : StepIn :=
  if d.pinmode = 0 then
    let x : Int := (raw / 2 ^ d.pinShift : Nat)
    ⟨min x 32767, usable, decide (32767 < x)⟩
  else if d.pinmode = 1 then
    let x := signed 32 raw / 2 ^ d.pinShift
    let y := clampI (-32768) 32767 x
    ⟨y, usable, decide (y ≠ x)⟩
  else ⟨((raw % 65536) / 2 : Nat), usable, false⟩

/-- The settled set point of a usable source: q15_sp and the clamp of spec/07 R181 step 3. -/
def settleSp (d : Desc) (x : Int) : Int × Bool × Bool :=
  let a := (Sat.q15 d.spOffset).add ((Sat.mul d.spScale x).shl d.shs)
  let q := a.store
  let y := clampI d.spMin d.spMax q.v
  (y, a.s, q.s || decide (y ≠ q.v))

/-- The sign of DIR (spec/07 R172). -/
def Desc.sgn (d : Desc) : Int := if d.dir = 0 then 1 else -1

/-- e = q15_int(s × (SP − PV)). -/
def errorOf (d : Desc) (sp pv : Int) : Sat := (Sat.q15 (d.sgn * (sp - pv))).q15Int

/-- The result of one law: the line and the flags raised. -/
structure LawOut where
  line : Line
  f : StepFlags
  deriving DecidableEq, Repr

/-- The integrating core of PID, PI_DB and SPLIT (spec/07 R186, R187): proportional and integral parts on `e`, a
derivative term `dt`; answers the new integrator, the output and the flags. -/
def piCore (d : Desc) (integ e dt : Int) : Int × Int × StepFlags :=
  let p := Sat.gain d.kp d.shp e
  let di0 := Sat.gain d.ki d.shi e
  let v := (p.add (Sat.acc integ)).add (Sat.q15 dt)
  let stop := (decide (v.v > d.outMax * 32768) && decide (di0.v > 0))
    || (decide (v.v < d.outMin * 32768) && decide (di0.v < 0))
  let di : Sat := if stop then ⟨0, di0.s⟩ else di0
  let n := (Sat.acc integ).add di
  let i := clampI (d.iMin * 32768) (d.iMax * 32768) n.v
  let a := (p.add (Sat.acc i)).add (Sat.q15 dt)
  let (o, sa, so) := q15Out a d.outMin d.outMax
  (i, o, { acc := p.s || di0.s || v.s || n.s || sa, int := decide (i ≠ n.v), out := so })

/-- PID (spec/07 R186). -/
def lawPid (d : Desc) (l : Line) (sp pv : Int) : LawOut :=
  let e := errorOf d sp pv
  let dm := (Sat.q15 (d.sgn * (l.m0 - pv))).q15Int
  let m1 := ((Sat.mul d.ad l.m1).add (Sat.gain d.kd d.shd dm.v)).q15Int
  let (i, o, f) := piCore d l.integ e.v m1.v
  ⟨{ l with integ := i, outLast := o, m0 := pv, m1 := m1.v }, { f with acc := f.acc || e.s || dm.s || m1.s }⟩

/-- The dead band of PI_DB (spec/07 R188). -/
def deadBand (p e : Int) : Sat :=
  if -p ≤ e ∧ e ≤ p then ⟨0, false⟩ else if p < e then (Sat.q15 (e - p)).q15Int else (Sat.q15 (e + p)).q15Int

/-- PI_DB (spec/07 R188). -/
def lawPiDb (d : Desc) (l : Line) (sp pv : Int) : LawOut :=
  let e := errorOf d sp pv
  let e' := deadBand d.par0 e.v
  let (i, o, f) := piCore d l.integ e'.v 0
  ⟨{ l with integ := i, outLast := o }, { f with acc := f.acc || e.s || e'.s }⟩

/-- P_ONLY (spec/07 R188). -/
def lawP (d : Desc) (l : Line) (sp pv : Int) : LawOut :=
  let e := errorOf d sp pv
  let (o, sa, so) := q15Out ((Sat.gain d.kp d.shp e.v).add (Sat.q15 d.bias)) d.outMin d.outMax
  ⟨{ l with outLast := o }, { acc := e.s || sa, out := so }⟩

/-- ONOFF (spec/07 R188). -/
def lawOnOff (d : Desc) (l : Line) (sp pv : Int) : LawOut :=
  let e := errorOf d sp pv
  let on : Int := if d.par0 < e.v then 1 else if e.v < -d.par0 then 0 else l.integ
  ⟨{ l with integ := on, outLast := if on = 1 then d.outMax else d.outMin }, { acc := e.s }⟩

/-- BIQUAD (spec/07 R188, R189). -/
def lawBiquad (d : Desc) (l : Line) (x : Int) : LawOut :=
  let a := ((((Sat.mul14 d.b0 x).add (Sat.mul14 d.b1 l.m0)).add (Sat.mul14 d.b2 l.m1)).sub
    (Sat.mul14 d.a1 l.m2)).sub (Sat.mul14 d.a2 l.m3)
  let (y, sa, so) := q15Out a d.outMin d.outMax
  ⟨{ l with outLast := y, m1 := l.m0, m0 := x, m3 := l.m2, m2 := y }, { acc := sa, out := so }⟩

/-- LEADLAG (spec/07 R188, R189). -/
def lawLeadLag (d : Desc) (l : Line) (sp pv : Int) : LawOut :=
  let e := errorOf d sp pv
  let y := (((Sat.mul14 d.b0 e.v).add (Sat.mul14 d.b1 l.m0)).sub (Sat.mul14 d.a1 l.m2)).q15Int
  let (u, sa, so) := q15Out ((Sat.q15 y.v).add (Sat.q15 d.bias)) d.outMin d.outMax
  let m2 := ((Sat.q15 u).sub (Sat.q15 d.bias)).q15Int
  ⟨{ l with outLast := u, m0 := e.v, m2 := m2.v }, { acc := e.s || y.s || sa || m2.s, out := so }⟩

/-- RATELIM (spec/07 R188). -/
def lawRateLim (d : Desc) (l : Line) (x : Int) : LawOut :=
  let dx := (Sat.q15 (x - l.outLast)).q15Int
  let dl := clampI (-d.par1) d.par0 dx.v
  let (u, sa, so) := q15Out ((Sat.q15 l.outLast).add (Sat.q15 dl)) d.outMin d.outMax
  ⟨{ l with outLast := u }, { acc := dx.s || sa, out := so }⟩

/-- SPLIT (spec/07 R188, R190). -/
def lawSplit (d : Desc) (l : Line) (sp pv : Int) : LawOut :=
  let e := errorOf d sp pv
  let (i, u, f) := piCore d l.integ e.v 0
  let d1 := (Sat.q15 (d.par0 - u)).q15Int
  let d2 := (Sat.q15 (u - d.par0)).q15Int
  let (o1, s1, _) := q15Out (Sat.gain d.k1 d.sh1 d1.v) d.o1Min d.o1Max
  let (o2, s2, _) := q15Out (Sat.gain d.k2 d.sh2 d2.v) d.o2Min d.o2Max
  ⟨{ l with integ := i, m0 := u, outLast := o1, out2Last := o2 },
    { f with acc := f.acc || e.s || d1.s || d2.s || s1 || s2 }⟩

/-- SELECT over its usable inputs (spec/07 R188). -/
def lawSelect (d : Desc) (l : Line) (a b : StepIn) : LawOut :=
  let u : Int :=
    if a.usable && b.usable then (if d.selhi then max a.v b.v else min a.v b.v)
    else if a.usable then a.v else b.v
  let (o, sa, so) := q15Out (Sat.q15 u) d.outMin d.outMax
  ⟨{ l with outLast := o }, { acc := sa, out := so }⟩

/-- The kinds that take a set point. -/
def Desc.usesSp (d : Desc) : Bool := !(d.kind == 4 || d.kind == 6 || d.kind == 8)

/-- Priming of the memories on the first step with usable inputs (spec/07 R185). -/
def prime (d : Desc) (l : Line) (sp pv : Int) : LawOut :=
  if l.primed then ⟨l, {}⟩
  else
    let l1 := { l with primed := true }
    if d.kind = 0 then ⟨{ l1 with m0 := pv, m1 := 0 }, {}⟩
    else if d.kind = 4 then
      let g := (Sat.mul14 d.g0 pv).q15Int
      ⟨{ l1 with m0 := pv, m1 := pv, m2 := g.v, m3 := g.v }, { acc := g.s }⟩
    else if d.kind = 5 then
      let e := errorOf d sp pv
      let g := (Sat.mul14 d.g0 e.v).q15Int
      ⟨{ l1 with m0 := e.v, m2 := g.v }, { acc := e.s || g.s }⟩
    else if d.kind = 6 then ⟨{ l1 with outLast := pv }, {}⟩
    else ⟨l1, {}⟩

/-- The priming of an adopted role in the step in which R185 primes (spec/09 R231): `out` is the value of the OUT point. -/
def primeOut (d : Desc) (l : Line) (sp pv out : Int) : LawOut :=
  let clamped (x : Int) : LawOut :=
    let y := clampI (d.iMin * 32768) (d.iMax * 32768) x
    ⟨{ l with integ := y }, { int := decide (y ≠ x) }⟩
  let p (x : Int) : Int := (Sat.gain d.kp d.shp x).v
  let e := (errorOf d sp pv).v
  if d.kind = 0 then clamped (out * 32768 - p e)
  else if d.kind = 1 then clamped (out * 32768 - p (deadBand d.par0 e).v)
  else if d.kind = 7 then clamped (d.par0 * 32768 - p e)
  else if d.kind = 3 then ⟨{ l with integ := if out = d.outMax then 1 else 0 }, {}⟩
  else if d.kind = 6 then ⟨{ l with outLast := out }, {}⟩
  else ⟨l, {}⟩

/-- The law of the descriptor's kind (spec/07 R186, R188). A role copy of a KIND that has no law, which a shadow placed by a
fence can hold, runs SELECT (DESIGN CHOICE, log entry 123). -/
def lawOf (d : Desc) (l : Line) (sp : Int) (meas aux : StepIn) : LawOut :=
  if d.kind = 0 then lawPid d l sp meas.v
  else if d.kind = 1 then lawPiDb d l sp meas.v
  else if d.kind = 2 then lawP d l sp meas.v
  else if d.kind = 3 then lawOnOff d l sp meas.v
  else if d.kind = 4 then lawBiquad d l meas.v
  else if d.kind = 5 then lawLeadLag d l sp meas.v
  else if d.kind = 6 then lawRateLim d l meas.v
  else if d.kind = 7 then lawSplit d l sp meas.v
  else lawSelect d l meas aux

/-- A line with the flags of a step added: they are sticky (spec/07 R168). -/
def Line.raise (l : Line) (f : StepFlags) : Line :=
  { l with satAcc := l.satAcc || f.acc, satInt := l.satInt || f.int, satOut := l.satOut || f.out,
           satSp := l.satSp || f.sp }

/-- One step of a loop (spec/07 R181 to R185): role copy, line, measurement, second input and set-point source as the
tick image gives them, and, while it primes under spec/09 R231, the value of its OUT point. Every path ends with STEPS
incremented. -/
def loopStep (d : Desc) (l : Line) (meas aux src : StepIn) (adopt : Option Int := none) : Line :=
  let mOk := if d.kind = 8 then meas.usable || aux.usable else meas.usable
  let spOk := !d.usesSp || d.spsrc == 0 || src.usable
  let l0 := { l with steps := (l.steps + 1) % 2 ^ 32 }
  if (!spOk && d.spfb == 2) || (!mOk && d.mfb == 1) then
    { l0 with outLast := d.hat, out2Last := d.hat2, fb := 2, oq := 2, mfrozen := l.mfrozen || !mOk }
  else if !mOk then { l0 with mfrozen := true, fb := 3, oq := 2 }
  else
    let (sp, saSp, sSp) : Int × Bool × Bool :=
      if !d.usesSp then (l.spLast, false, false)
      else if d.spsrc = 0 then (d.spConst, false, false)
      else if src.usable then
        let (y, a, q) := settleSp d src.v
        (y, a, q || src.sat)
      else if d.spfb = 0 then (l.spLast, false, false) else (d.spDefault, false, false)
    let l1 := if d.usesSp && spOk then { l0 with spLast := sp } else l0
    let l2 := if l.mfrozen && d.kind == 0 then { l1 with m0 := meas.v } else l1
    let pr := prime d l2 sp meas.v
    let ad : LawOut := match adopt with
      | some out => if l2.primed then ⟨pr.line, {}⟩ else primeOut d pr.line sp meas.v out
      | none => ⟨pr.line, {}⟩
    let r := lawOf d ad.line sp meas aux
    let f : StepFlags := { r.f with acc := r.f.acc || pr.f.acc || saSp, int := r.f.int || ad.f.int, sp := sSp }
    let q := if !spOk then 2 else if r.f.out then 1 else 0
    { (r.line.raise f) with mfrozen := false, fb := (!spOk).toNat, oq := q }

/-- The output values of a step, sign-extended to 32 bits (spec/07 R177, R182). -/
def Line.outs (d : Desc) (l : Line) : List Nat :=
  if d.kind = 7 then [unsigned 32 l.outLast, unsigned 32 l.out2Last] else [unsigned 32 l.outLast]

/-- The compare record of a step (spec/06 R147). -/
def Line.record (d : Desc) (l : Line) : CmpRec := ⟨l.outs d, crc32 l.bytes⟩

end Sys2Proof.Machine
end

