-- ==== Sys2Proof/Machine/Sparse.lean ====
section
/-! DEFINITION. Sparse data by key in ONE canonical form: keys strictly rising, and no entry that equals what an
unlisted key reads as. Registers, DRAM and every table of the module are kept so; what an unlisted key reads as is an
argument of the operations, so that equal contents are equal lists. -/

namespace Sys2Proof.Machine

/-- A table of values by key. -/
abbrev Sparse (α : Type) := List (Nat × α)

/-- Reads key `k`; an unlisted key reads `d k`. -/
def Sparse.get {α : Type} (d : Nat → α) : Sparse α → Nat → α
  | [], k => d k
  | (j, v) :: t, k => if k = j then v else if k < j then d k else Sparse.get d t k

/-- Removes key `k`. -/
def Sparse.erase {α : Type} : Sparse α → Nat → Sparse α
  | [], _ => []
  | (j, v) :: t, k => if k = j then t else if k < j then (j, v) :: t else (j, v) :: Sparse.erase t k

/-- Inserts or replaces the entry of key `k`. -/
def Sparse.put {α : Type} : Sparse α → Nat → α → Sparse α
  | [], k, w => [(k, w)]
  | (j, v) :: t, k, w =>
    if k = j then (k, w) :: t else if k < j then (k, w) :: (j, v) :: t else (j, v) :: Sparse.put t k w

/-- Writes key `k`; writing what an unlisted key reads as removes the entry. -/
def Sparse.set {α : Type} [DecidableEq α] (d : Nat → α) (m : Sparse α) (k : Nat) (w : α) : Sparse α :=
  if w = d k then Sparse.erase m k else Sparse.put m k w

/-- The keys rise strictly and start above or at `lo`. -/
def Sparse.sortedFrom {α : Type} : Nat → Sparse α → Bool
  | _, [] => true
  | lo, (j, _) :: t => decide (lo ≤ j) && Sparse.sortedFrom (j + 1) t

/-- The canonical form. -/
def Sparse.wf {α : Type} [DecidableEq α] (d : Nat → α) (m : Sparse α) : Bool :=
  Sparse.sortedFrom 0 m && m.all (fun e => decide (e.2 ≠ d e.1))

/-- The default of a table whose unlisted keys all read the same. -/
def dflt {α : Type} (v : α) : Nat → α := fun _ => v

/-- The keys listed in a table. -/
def Sparse.keys {α : Type} (m : Sparse α) : List Nat := m.map (·.1)

/-- Keeps the entries whose keys satisfy `p`: the others return to what an unlisted key reads as. -/
def Sparse.keep {α : Type} (p : Nat → Bool) (m : Sparse α) : Sparse α := m.filter (fun e => p e.1)

/-- The bytes of DRAM that no write has reached read zero (log entry 6). -/
def memDflt : Nat → Byte := dflt 0

/-- Reads one byte of memory. -/
def rd8 (m : List Host.Cell) (a : Nat) : Byte := Sparse.get memDflt m a

/-- Writes one byte of memory, keeping the canonical form. -/
def wr8 (m : List Host.Cell) (a : Nat) (b : Byte) : List Host.Cell := Sparse.set memDflt m a b

/-- The memory's canonical form. -/
def Memory.wf (m : List Host.Cell) : Bool := Sparse.wf memDflt m

/-- Reads `n` bytes from address `a` upward. -/
def rdBytes (m : List Host.Cell) : Nat → Nat → List Byte
  | _, 0 => []
  | a, n + 1 => rd8 m a :: rdBytes m (a + 1) n

/-- Writes a byte string from address `a` upward. -/
def wrBytes (m : List Host.Cell) : Nat → List Byte → List Host.Cell
  | _, [] => m
  | a, b :: t => wrBytes (wr8 m a b) (a + 1) t

/-- Reads a little-endian number of `n` bytes. -/
def rdLE (m : List Host.Cell) (a n : Nat) : Nat := leNat (rdBytes m a n)

/-- Writes a little-endian number of `n` bytes. -/
def wrLE (m : List Host.Cell) (a n v : Nat) : List Host.Cell := wrBytes m a (leBytes n v)

/-- Returns the `n` bytes from `a` to zero. -/
def zeroRange (m : List Host.Cell) (a n : Nat) : List Host.Cell :=
  Sparse.keep (fun k => !(decide (a ≤ k) && decide (k < a + n))) m

end Sys2Proof.Machine
end

