-- ==== Sys2Proof/Machine/Blocks.lean ====
section
/-! DEFINITION. The block library of the Kettles (spec/08 R203, R204): the pins of each block type and what one call of
it does to its instance words. Where a block is named after IEC 61131-3, that standard's behaviour is PRESUMED (log
entry 10); the places of internal fields in an instance are a DESIGN CHOICE (log entry 11). -/

namespace Sys2Proof.Machine

/-- The pin types of spec/08 R199. -/
inductive PinTy
  | b | i | q | t
  deriving DecidableEq, Repr

/-- A block type: input pins, number of output pins, bytes of its instance, retained words (spec/08 R203). -/
structure BlockTy where
  ins : List PinTy
  outs : List PinTy
  bytes : Nat
  retained : List Nat
  deriving DecidableEq, Repr

/-- The block types 0x01 to 0x10 of spec/08 R203. -/
def blockTyA : Nat → Option BlockTy
  | 0x01 => some ⟨[.b, .t], [.b, .t], 8, []⟩
  | 0x02 => some ⟨[.b, .t], [.b, .t], 8, []⟩
  | 0x03 => some ⟨[.b, .t], [.b, .t], 16, []⟩
  | 0x04 => some ⟨[.b, .t, .t], [.b], 8, []⟩
  | 0x05 => some ⟨[.b, .b, .i], [.b, .i], 16, [1]⟩
  | 0x06 => some ⟨[.b, .b, .i], [.b, .i], 16, [1]⟩
  | 0x07 => some ⟨[.b, .b, .b, .b, .i], [.b, .b, .i], 16, [2]⟩
  | 0x08 => some ⟨[.b, .b], [.i, .i], 16, [0, 1]⟩
  | 0x09 => some ⟨[.b], [.b], 8, []⟩
  | 0x0A => some ⟨[.b], [.b], 8, []⟩
  | 0x0B => some ⟨[.b, .b], [.b], 8, [0]⟩
  | 0x0C => some ⟨[.b, .b], [.b], 8, [0]⟩
  | 0x0D => some ⟨[.b, .b, .b, .b], [.b], 8, []⟩
  | 0x0E => some ⟨[.b, .b, .b, .b], [.b], 8, []⟩
  | 0x0F => some ⟨[.b, .b], [.b], 8, []⟩
  | 0x10 => some ⟨[.b], [.b], 8, []⟩
  | _ => none

/-- The block types 0x11 to 0x20. -/
def blockTyB : Nat → Option BlockTy
  | 0x11 => some ⟨[.q, .q, .q, .q], [.q, .b], 8, []⟩
  | 0x12 => some ⟨[.q, .q], [.q, .b], 8, []⟩
  | 0x13 => some ⟨[.q, .q], [.q, .b], 8, []⟩
  | 0x14 => some ⟨[.q, .q, .i, .q], [.q, .b], 8, []⟩
  | 0x15 => some ⟨[.q, .q, .q], [.q], 8, []⟩
  | 0x16 => some ⟨[.q, .i], [.q], 8, []⟩
  | 0x17 => some ⟨[.i, .i, .i, .i], [.i, .b], 8, []⟩
  | 0x18 => some ⟨[.i, .i], [.i, .b], 8, []⟩
  | 0x19 => some ⟨[.i, .i], [.i, .b], 8, []⟩
  | 0x1A => some ⟨[.i, .i], [.i, .b], 8, []⟩
  | 0x1B => some ⟨[.i, .i], [.i, .b], 8, []⟩
  | 0x1C => some ⟨[.i, .i], [.b], 8, []⟩
  | 0x1D => some ⟨[.i, .i], [.b], 8, []⟩
  | 0x1E => some ⟨[.i, .i], [.b], 8, []⟩
  | 0x1F => some ⟨[.i, .i, .i], [.b], 8, []⟩
  | 0x20 => some ⟨[.b, .i, .i], [.i], 8, []⟩
  | _ => none

/-- The block types 0x21 to 0x30. -/
def blockTyC : Nat → Option BlockTy
  | 0x21 => some ⟨[.i, .i, .i, .i, .i], [.i], 8, []⟩
  | 0x22 => some ⟨[.i, .i, .i, .i], [.i], 8, []⟩
  | 0x23 => some ⟨[.i, .i, .i, .i], [.i], 8, []⟩
  | 0x24 => some ⟨[.i], [.i], 8, []⟩
  | 0x25 => some ⟨[.i], [.b, .i], 40, []⟩
  | 0x26 => some ⟨[.i], [.b], 136, []⟩
  | 0x27 => some ⟨[.i], [.i, .i, .i], 16, []⟩
  | 0x28 => some ⟨[.i, .i, .i, .i, .t, .b], [.b, .b, .i], 16, [1]⟩
  | 0x29 => some ⟨[.b, .t, .b], [.b, .b], 16, [1]⟩
  | 0x2A => some ⟨[.b, .b, .b, .b, .i, .i, .i, .i, .i], [.i, .i], 8, []⟩
  | 0x2B => some ⟨[.i], [.i, .b, .i], 16, []⟩
  | 0x2C => some ⟨[.b, .i, .i, .i], [.i, .b], 16, []⟩
  | 0x2D => some ⟨[.b, .b, .i], [.i, .b], 8, []⟩
  | 0x2E => some ⟨[.i, .t], [.q, .q, .q, .q, .b], 96, [0, 1, 2, 3]⟩
  | 0x2F => some ⟨[.b, .t, .t, .q, .q], [.q, .i], 16, []⟩
  | 0x30 => some ⟨[.i, .b, .b, .i, .i, .i], [.b, .i], 32, []⟩
  | _ => none

/-- The block type of a TYPE code, none if it is not assigned. -/
def blockTy (c : Nat) : Option BlockTy :=
  (blockTyA c).orElse (fun _ => (blockTyB c).orElse (fun _ => blockTyC c))

/-- An input pin as a call finds it: its word, whether it is bound, and, for a point, quality and age. -/
structure KIn where
  w : Word := 0
  bound : Bool := false
  qual : Nat := 0
  age : Nat := 0
  deriving DecidableEq, Repr

/-- A LOOPCTL's results as the tick image holds them (spec/08 R205). -/
structure LoopCtl where
  busy : Bool := false
  status : Nat := 0
  deriving DecidableEq, Repr

/-- What a call finds: CYCLE in ms, the TMB0 seconds of the release boundary, its inputs, whether it primes its edge
memories, its LOOPCTL results, and its instance words. -/
structure CallEnv where
  cyc : Nat
  sec : Nat
  ins : List KIn
  prime : Bool
  lc : LoopCtl
  inst : List Word
  deriving DecidableEq, Repr

namespace CallEnv
/-- Input `i` as BOOL (spec/08 R199). -/
def b (e : CallEnv) (i : Nat) : Bool := decide ((nth e.ins i {}).w ≠ 0)
/-- Input `i` as BOOL, TRUE if unbound. -/
def bT (e : CallEnv) (i : Nat) : Bool := !(nth e.ins i {}).bound || e.b i
/-- Input `i` as INT. -/
def i (e : CallEnv) (k : Nat) : Int := (nth e.ins k {}).w.toInt
/-- Input `i` as Q15. -/
def q (e : CallEnv) (k : Nat) : Int := signed 16 (nth e.ins k {}).w.toNat
/-- Input `i` as TIME. -/
def t (e : CallEnv) (k : Nat) : Nat := (nth e.ins k {}).w.toNat
/-- Instance word `k`. -/
def f (e : CallEnv) (k : Nat) : Word := nth e.inst k 0
/-- Instance word `k` as a flag. -/
def fb (e : CallEnv) (k : Nat) : Bool := decide (e.f k ≠ 0)
/-- A rising edge of `x` against the memory `m`; none while priming (spec/08 R204). -/
def rise (e : CallEnv) (x m : Bool) : Bool := x && !m && !e.prime
end CallEnv

/-- A BOOL as an instance word: TRUE is stored as 1. -/
def wB (x : Bool) : Word := wd x.toNat

/-- An INT as an instance word. -/
def wI (x : Int) : Word := BitVec.ofInt 32 x

/-- Saturation of an integer result (spec/08 R204). -/
def satI (x : Int) : Int × Bool :=
  let y := clampI (-(2 ^ 31)) (2 ^ 31 - 1) x
  (y, decide (y ≠ x))

/-- A TIME sum, saturating. -/
def satT (x : Nat) : Nat := min x (2 ^ 32 - 1)

/-- Day number, and seconds of the day, of a count of seconds. -/
def dayOf (s : Int) : Int × Nat := (s / 86400, (s % 86400).toNat)

/-- Gregorian date of a day number counted from 1970-01-01 (spec/08 R204: the result is converted to the Gregorian
calendar): year, month, day. -/
def gregorian (days : Int) : Int × Nat × Nat :=
  let z := days + 719468
  let era := z / 146097
  let doe := (z % 146097).toNat
  let yoe := (doe - doe / 1460 + doe / 36524 - doe / 146096) / 365
  let doy := doe - (365 * yoe + yoe / 4 - yoe / 100)
  let mp := (5 * doy + 2) / 153
  let d := doy - (153 * mp + 2) / 5 + 1
  let m := if mp < 10 then mp + 3 else mp - 9
  ((yoe : Int) + era * 400 + (if m ≤ 2 then 1 else 0), m, d)

/-- Day of the week, 0 = Monday, of a day number counted from 1970-01-01, a Thursday. -/
def weekday (days : Int) : Nat := ((days + 3) % 7).toNat

/-- The occurrences of a CAL_WEEK entry in minutes of the week, each with its state. -/
def weekOcc (w : Word) : List (Nat × Bool) :=
  ((List.range 7).filter (fun d => bit w d)).map (fun d => (d * 1440 + bf w 16 11, bit w 31))

/-- CAL_WEEK: state of the latest entry passed and minutes to the next (spec/08 R204). -/
def calWeek (entries : List Word) (now : Nat) (q : Word) : Word × Word :=
  let occ := entries.flatMap weekOcc
  match occ with
  | [] => Config.calWeekEmpty now q
  | o :: t =>
    let back (x : Nat × Bool) : Nat := (now + 10080 - x.1 % 10080) % 10080
    let fwd (x : Nat × Bool) : Nat := let r := (x.1 % 10080 + 10080 - now) % 10080; if r = 0 then 10080 else r
    let best := t.foldl (fun a x => if back x ≤ back a then x else a) o
    (wB best.2, wd (t.foldl (fun a x => min a (fwd x)) (fwd o)))

/-- Timers and counters, 0x01 to 0x08: the new instance words. -/
def blocksTime (c : Nat) (e : CallEnv) : List Word :=
  match c with
  | 0x01 =>
    let et := if e.b 0 then min (satT ((e.f 1).toNat + e.cyc)) (e.t 1) else 0
    [wB (e.b 0 && decide (e.t 1 ≤ et)), wd et]
  | 0x02 =>
    if e.b 0 then [1, 0]
    else if e.fb 0 then
      let et := min (satT ((e.f 1).toNat + e.cyc)) (e.t 1)
      [wB (decide (et < e.t 1)), wd et]
    else [0, e.f 1]
  | 0x03 =>
    let m := e.fb 2
    let q0 := e.fb 0 || e.rise (e.b 0) m
    let et0 := if e.fb 0 then (e.f 1).toNat else if q0 then 0 else if e.b 0 then (e.f 1).toNat else 0
    let et := if q0 then min (satT (et0 + e.cyc)) (e.t 1) else et0
    [wB (q0 && decide (et0 < e.t 1)), wd et, wB (e.b 0), 0]
  | 0x04 =>
    if e.b 0 then
      let p := e.t 1 + e.t 2
      let s := (e.f 1).toNat
      let n := s + e.cyc
      [wB (decide (s < e.t 1)), wd (if p = 0 then 0 else n % p)]
    else [0, 0]
  | 0x05 =>
    let cv := if e.b 1 then 0 else if e.rise (e.b 0) (e.fb 2) then (satI ((e.f 1).toInt + 1)).1 else (e.f 1).toInt
    [wB (decide (e.i 2 ≤ cv)), wI cv, wB (e.b 0), 0]
  | 0x06 =>
    let cv := if e.b 1 then e.i 2 else if e.rise (e.b 0) (e.fb 2) then (satI ((e.f 1).toInt - 1)).1 else (e.f 1).toInt
    [wB (decide (cv ≤ 0)), wI cv, wB (e.b 0), 0]
  | 0x07 =>
    let m := (e.f 3).toNat
    let u := e.rise (e.b 0) (m % 2 == 1)
    let d := e.rise (e.b 1) (m / 2 % 2 == 1)
    let old := (e.f 2).toInt
    let cv := if e.b 2 then 0 else if e.b 3 then e.i 4 else if u && !d then (satI (old + 1)).1
      else if d && !u then (satI (old - 1)).1 else old
    [wB (decide (e.i 4 ≤ cv)), wB (decide (cv ≤ 0)), wI cv, wd ((e.b 0).toNat + 2 * (e.b 1).toNat)]
  | _ =>
    if e.b 1 then [0, 0]
    else if e.b 0 then
      let ms := (e.f 1).toNat + e.cyc
      [wI (satI ((e.f 0).toInt + (ms / 3600000 : Nat))).1, wd (ms % 3600000)]
    else [e.f 0, e.f 1]

/-- Edges and logic, 0x09 to 0x10. -/
def blocksLogic (c : Nat) (e : CallEnv) : List Word :=
  match c with
  | 0x09 => [wB (e.rise (e.b 0) (e.fb 1)), wB (e.b 0)]
  | 0x0A => [wB (!e.b 0 && e.fb 1 && !e.prime), wB (e.b 0)]
  | 0x0B => [wB (e.b 0 || (!e.b 1 && e.fb 0))]
  | 0x0C => [wB (!e.b 1 && (e.b 0 || e.fb 0))]
  | 0x0D => [wB (e.bT 0 && e.bT 1 && e.bT 2 && e.bT 3)]
  | 0x0E => [wB (e.b 0 || e.b 1 || e.b 2 || e.b 3)]
  | 0x0F => [wB (xor (e.b 0) (e.b 1))]
  | _ => [wB (!e.b 0)]

/-- A Q15 result with its SAT output. -/
def qOut (a : Sat) : List Word := let q := a.store; [wI q.v, wB (q.s || a.s)]

/-- An INT result with its SAT output. -/
def iOut (x : Int) : List Word := let (y, s) := satI x; [wI y, wB s]

/-- The bound INT inputs `0` to `3` (spec/08 R203: MAX and MIN ignore unbound inputs). -/
def boundInts (e : CallEnv) : List Int := ((e.ins.take 4).filter (·.bound)).map (fun k => k.w.toInt)

/-- Arithmetic, comparison and selection, 0x11 to 0x24. -/
def blocksArith (c : Nat) (e : CallEnv) : List Word :=
  match c with
  | 0x11 => qOut ((((Sat.q15 (e.q 0)).add (Sat.q15 (e.q 1))).add (Sat.q15 (e.q 2))).add (Sat.q15 (e.q 3)))
  | 0x12 => qOut ((Sat.q15 (e.q 0)).sub (Sat.q15 (e.q 1)))
  | 0x13 => qOut (Sat.mul (e.q 0) (e.q 1))
  | 0x14 => qOut ((Sat.q15 (e.q 3)).add ((Sat.mul (e.q 1) (e.q 0)).shl (clampI 0 7 (e.i 2)).toNat))
  | 0x15 => [wI (min (max (e.q 1) (e.q 0)) (e.q 2))]
  | 0x16 =>
    let n := (clampI 0 15 (e.i 1)).toNat
    let o := signed 16 (e.f 0).toNat
    [wI ((Sat.q15 o).add (Sat.acc ((e.q 0 - o) * 2 ^ (15 - n)))).store.v]
  | 0x17 => iOut (e.i 0 + e.i 1 + e.i 2 + e.i 3)
  | 0x18 => iOut (e.i 0 - e.i 1)
  | 0x19 => iOut (e.i 0 * e.i 1)
  | 0x1A => if e.i 1 = 0 then [0, 1] else [wI (satI ((e.i 0).tdiv (e.i 1))).1, 0]
  | 0x1B => if e.i 1 = 0 then [0, 1] else [wI ((e.i 0).tmod (e.i 1)), 0]
  | 0x1C => [wB (decide (e.i 1 < e.i 0))]
  | 0x1D => [wB (decide (e.i 0 < e.i 1))]
  | 0x1E => [wB (decide (e.i 0 = e.i 1))]
  | 0x1F => [wB (if e.i 1 < e.i 0 then true else if e.i 0 < e.i 2 then false else e.fb 0)]
  | 0x20 => [if e.b 0 then wI (e.i 2) else wI (e.i 1)]
  | 0x21 => [wI (e.i (1 + (clampI 0 3 (e.i 0)).toNat))]
  | 0x22 => [match boundInts e with | [] => 0 | x :: t => wI (t.foldl max x)]
  | 0x23 => [match boundInts e with | [] => 0 | x :: t => wI (t.foldl min x)]
  | _ => [wI (e.i 0)]

/-- A timer of 31 bits beside a flag in one internal word: adds CYCLE. -/
def tick31 (w : Word) (cyc : Nat) : Nat := min (w.toNat % 2 ^ 31 + cyc) (2 ^ 31 - 1)

/-- The delay of an alarm, as far as its timer reaches (log entry 11). -/
def dly31 (d : Nat) : Nat := min d (2 ^ 31 - 1)

/-- One call of ALARM_HL (spec/08 R204). -/
def alarmHl (e : CallEnv) : List Word :=
  let hi := decide (e.i 1 < e.i 0)
  let lo := decide (e.i 0 < e.i 2)
  let act := e.fb 0
  let st := (e.f 2).toNat
  let going := if act then (if st = 1 then decide (e.i 0 ≤ e.i 1 - e.i 3) else decide (e.i 2 + e.i 3 ≤ e.i 0))
    else hi || lo
  let tm := if going then tick31 (e.f 3) e.cyc else 0
  let fire := going && decide (dly31 (e.t 4) ≤ tm)
  let ackRise := e.b 5 && !(bit (e.f 3) 31)
  let act' := if fire then !act else act
  let un := (e.fb 1 && !ackRise) || (fire && !act)
  let st' := if fire then (if act then 0 else if hi then 1 else 2) else st
  [wB act', wB un, wd st', wd ((if fire then 0 else tm) + 2 ^ 31 * (e.b 5).toNat)]

/-- One call of ALARM_DIG; its clearing follows ALARM_HL with IN FALSE as "back" (DEDUCED, log entry 11). -/
def alarmDig (e : CallEnv) : List Word :=
  let act := e.fb 0
  let going := if act then !e.b 0 else e.b 0
  let tm := if going then satT ((e.f 2).toNat + e.cyc) else 0
  let fire := going && decide (e.t 1 ≤ tm)
  let ackRise := e.rise (e.b 2) (e.fb 3)
  [wB (if fire then !act else act), wB ((e.fb 1 && !ackRise) || (fire && !act)), wd (if fire then 0 else tm),
    wB (e.b 2)]

/-- A level of scene `s` for output `k`, held in the instance from word 8 on (log entry 11). -/
def sceneLevel (e : CallEnv) (s k : Nat) : Int := signed 16 ((e.f (8 + (s - 1) * 2 + k / 2)).toNat / 2 ^ (16 * (k % 2)))

/-- The level a ramp of SCENE started from, held in words 6 and 7 (log entry 11). -/
def sceneFrom (e : CallEnv) (k : Nat) : Int := signed 16 ((e.f (6 + k / 2)).toNat / 2 ^ (16 * (k % 2)))

/-- One call of SCENE (spec/08 R204): word 5 holds the elapsed time and, in its top four bits, the scene, so FADE counts up to
2^28 − 1 ms (DESIGN CHOICE, log entry 11). -/
def scene (e : CallEnv) : List Word :=
  let sel := if 1 ≤ e.i 0 ∧ e.i 0 ≤ 8 then (e.i 0).toNat else 0
  let was := (e.f 5).toNat / 2 ^ 28
  let outs := (List.range 4).map (fun k => signed 16 (e.f k).toNat)
  if sel = 0 then [e.f 0, e.f 1, e.f 2, e.f 3, e.f 4, wd ((e.f 5).toNat % 2 ^ 28)]
  else
    let fresh := decide (sel ≠ was)
    let from_ (k : Nat) : Int := if fresh then nth outs k 0 else sceneFrom e k
    let fade := min (e.t 1) (2 ^ 28 - 1)
    let el := min ((if fresh then 0 else (e.f 5).toNat % 2 ^ 28) + e.cyc) fade
    let val (k : Nat) : Int :=
      if fade = 0 then sceneLevel e sel k
      else (Sat.acc (from_ k * 32768 + (sceneLevel e sel k - from_ k) * 32768 * (el : Int) / (fade : Int))).store.v
    let pack (a b : Nat) : Word := wd (unsigned 16 (from_ a) + 65536 * unsigned 16 (from_ b))
    [wI (val 0), wI (val 1), wI (val 2), wI (val 3), wB (decide (fade ≤ el)), wd (el + sel * 2 ^ 28), pack 0 1, pack 2 3]

/-- One call of OCC_LIGHT (spec/08 R204): STATE 1 on, 2 warning, 0 off (log entry 11). -/
def occLight (e : CallEnv) : List Word :=
  if e.b 0 then [wI (e.q 3), 1, 0]
  else if e.f 1 = 0 then [0, 0, 0]
  else
    let tm := satT ((e.f 2).toNat + e.cyc)
    if tm ≤ e.t 1 then [wI (e.q 3), 1, wd tm]
    else if tm ≤ e.t 1 + e.t 2 then [wI (e.q 4), 2, wd tm] else [0, 0, wd tm]

/-- One call of LIFT_CALL (spec/08 R204). -/
def liftCall (e : CallEnv) : List Word :=
  let up := e.rise (e.b 0) (e.fb 2)
  let req : Word := if e.fb 1 then e.f 0 else if up then wI (satI (e.i 1 * 4 + e.i 2)).1 else 0
  let on := e.fb 1 || up
  let done := on && decide (e.i 3 = req.toInt + 0x40000000)
  [if done then 0 else req, wB (on && !done), wB (e.b 0), 0]

/-- LOOPCTL in a cycle (spec/08 R205): its outputs from the tick image, its edge memories, and in word 4 the request
that the owner issues at publication: bit 0 start, bit 1 stop, bit 2 apply. -/
def loopCtl (e : CallEnv) : List Word :=
  let run := e.b 1
  let ap := e.b 2
  let rq := (run && !e.fb 2).toNat + 2 * (!run && e.fb 2).toNat + 4 * (run && ap && !e.fb 3).toNat
  [wB e.lc.busy, wd e.lc.status, wB run, wB ap, wd rq, wI (e.i 0), wd (unsigned 16 (e.i 3) + 65536 * unsigned 16 (e.i 4)),
    wI (e.i 5)]

/-- Calendar, alarm, mode, lift, lighting and loop blocks, 0x25 to 0x30. -/
def blocksSpecial (c : Nat) (e : CallEnv) : List Word :=
  let now : Int := (e.sec : Int) + e.i 0
  match c with
  | 0x25 =>
    let (d, s) := dayOf now
    let (q, nx) := calWeek ((List.range 8).map (fun k => e.f (2 + k))) (weekday d * 1440 + s / 60) (e.f 0)
    [q, nx]
  | 0x26 =>
    let d := (dayOf now).1
    [wB ((List.range 16).any (fun k => decide ((e.f (1 + 2 * k)).toInt ≤ d) && decide (d ≤ (e.f (2 + 2 * k)).toInt)))]
  | 0x27 =>
    let (d, s) := dayOf now
    let (y, m, dd) := gregorian d
    [wI (satI (y * 10000 + (m * 100 + dd : Nat))).1, wd (s / 3600 * 100 + s % 3600 / 60), wd (weekday d)]
  | 0x28 => alarmHl e
  | 0x29 => alarmDig e
  | 0x2A =>
    if e.b 0 then [wI (e.i 5), 0] else if e.b 1 then [wI (e.i 6), 1] else if e.b 2 then [wI (e.i 7), 2]
    else if e.b 3 then [wI (e.i 8), 3] else [wI (e.i 4), 4]
  | 0x2B =>
    let p := nth e.ins 0 {}
    [wd p.qual, wB (p.qual == 1 || p.qual == 3 || p.qual == 4 || p.qual == 5), wd p.age]
  | 0x2C => liftCall e
  | 0x2D =>
    let m := if e.b 0 then 2 else if e.b 1 then 1 else 0
    [wd m, wB (decide (m ≠ 0))]
  | 0x2E => scene e
  | 0x2F => occLight e
  | _ => loopCtl e

/-- One call of a block: the instance words it writes, from word 0 up. -/
def blockCall (c : Nat) (e : CallEnv) : List Word :=
  if c ≤ 0x08 then blocksTime c e
  else if c ≤ 0x10 then blocksLogic c e
  else if c ≤ 0x24 then blocksArith c e
  else blocksSpecial c e

/-- The CCLK cycles of one call, bindings apart (spec/08 R203); END is TYPE 0. -/
def blockCycles (c : Nat) : Nat :=
  nth [12, 30, 30, 32, 28, 36, 36, 48, 30, 20, 20, 18, 18, 16, 16, 14, 12, 24, 20, 20, 26, 18, 22, 22, 18, 20, 44, 44, 14, 14, 14,
    18, 16, 18, 20, 20, 10, 60, 90, 120, 40, 30, 26, 16, 40, 24, 70, 30, 60] c 0

/-- The blocks whose edge memories prime (spec/08 R204). -/
def hasEdge (c : Nat) : Bool :=
  c == 0x03 || c == 0x05 || c == 0x06 || c == 0x07 || c == 0x09 || c == 0x0A || c == 0x29 || c == 0x2C

/-- Table or copy of a task: descriptor bytes, call list by word (4 words an entry), image by word. -/
structure TaskCopy where
  desc : List Byte := []
  list : Sparse Word := []
  image : Sparse Word := []
  deriving DecidableEq, Repr

/-- The fields of a task descriptor (spec/08 R193). -/
structure TaskDesc where
  prio : Nat
  owner : Nat
  shadow : Nat
  glove : Nat
  defined : Bool
  cycle : Nat
  phase : Nat
  margin : Nat
  len : Nat
  isize : Nat
  layout : Nat
  deriving DecidableEq, Repr

/-- Reads a task descriptor (spec/08 R193). -/
def TaskDesc.read (b : List Byte) : TaskDesc :=
  { prio := fieldAt b 0 0 4, owner := fieldAt b 0 4 2, shadow := fieldAt b 0 6 2, glove := fieldAt b 0 8 6,
    defined := fieldAt b 0 31 1 == 1, cycle := fieldAt b 4 0 14, phase := fieldAt b 4 16 14,
    margin := fieldAt b 8 0 6, len := fieldAt b 0xC 0 14, isize := fieldAt b 0x10 0 20, layout := getLE b 0x14 4 }

/-- The descriptor checks of spec/08 R193, R214 that need no other task; DEFINED is none of them. LEN holds 16,383 at most, one less
than the longest call list of R192 (DESIGN CHOICE, log entry 145). -/
def TaskDesc.passes (b : List Byte) : Bool :=
  let d := TaskDesc.read b
  decide (d.owner ≠ d.shadow) && decide (1 ≤ d.cycle) && decide (d.cycle ≤ 10000)
    && decide (d.phase < d.cycle) && decide (d.margin ≤ 50) && decide (1 ≤ d.len) && decide (d.isize % 8 = 0)
    && decide (d.isize ≤ 524224)
    && decide (fieldAt b 0 14 17 = 0) && decide (fieldAt b 4 14 2 = 0) && decide (fieldAt b 4 30 2 = 0)
    && decide (fieldAt b 8 6 26 = 0) && decide (fieldAt b 0xC 14 18 = 0) && decide (fieldAt b 0x10 20 12 = 0)
    && (sliceB b 0x18 40).all (fun x => decide (x = 0))

/-- The word `n` of a call list or image. -/
def kw (m : Sparse Word) (n : Nat) : Word := Sparse.get (dflt 0) m n

/-- Continuation entries of a call with `n` bindings (spec/08 R197). -/
def contOf (n : Nat) : Nat := (n - 3 + 3) / 4

/-- Binding `k` of the call at entry `e`: words 1 to 3 of the entry, then the continuation entries. -/
def bindWord (l : Sparse Word) (e k : Nat) : Word := kw l (4 * e + 1 + k)

/-- A binding permitted for an input pin (spec/08 R198). -/
def inBindOk (isize : Nat) (w : Word) : Bool :=
  match bf w 30 2 with
  | 0 => true
  | 1 => decide (bf w 16 14 = 0)
  | 2 => decide (bf w 17 13 = 0) && decide (bf w 0 17 < isize / 4)
  | _ => decide (bf w 0 30 = 0)

/-- A binding permitted for an output pin (spec/08 R198). -/
def outBindOk (w : Word) : Bool :=
  match bf w 30 2 with
  | 1 => bit w 16 && decide (bf w 18 12 = 0)
  | 3 => decide (bf w 0 30 = 0)
  | _ => false

/-- The check of one call entry (spec/08 R197, R198, R214): type, NBIND, bindings, unused words zero, and PT_QUAL's
point. -/
def entryOk (l : Sparse Word) (isize e : Nat) : Bool :=
  let w := kw l (4 * e)
  match blockTy (bf w 0 8) with
  | none => false
  | some t =>
    let en := (bit w 13).toNat
    let ni := t.ins.length
    let no := t.outs.length
    let nb := bf w 8 5
    decide (nb = ni + no + en) && decide (bf w 14 2 = 0) && decide (bf w 16 16 * 8 + t.bytes ≤ isize)
      && (List.range (en + ni)).all (fun k => inBindOk isize (bindWord l e k))
      && (List.range no).all (fun k => outBindOk (bindWord l e (en + ni + k)))
      && (List.range (3 + 4 * contOf nb - nb)).all (fun k => decide (bindWord l e (nb + k) = 0))
      && (if bf w 0 8 = 0x2B then decide (bf (bindWord l e en) 30 2 = 1) else true)

/-- The instances of the calls from entry `e` on, as byte ranges, none if the list is malformed before `len` or does not
end with its only END. -/
def callSpans (l : Sparse Word) (isize len : Nat) : Nat → Nat → Option (List (Nat × Nat))
  | 0, _ => none
  | fuel + 1, e =>
    let w := kw l (4 * e)
    if bf w 0 8 = 0 then
      if e + 1 = len ∧ w = 0 ∧ kw l (4 * e + 1) = 0 ∧ kw l (4 * e + 2) = 0 ∧ kw l (4 * e + 3) = 0 then some []
      else none
    else if entryOk l isize e then
      match blockTy (bf w 0 8), callSpans l isize len fuel (e + 1 + contOf (bf w 8 5)) with
      | some t, some r => some ((bf w 16 16 * 8, t.bytes) :: r)
      | _, _ => none
    else none

/-- No two byte ranges overlap. -/
def disjointSpans : List (Nat × Nat) → Bool
  | [] => true
  | a :: t => t.all (fun b => decide (a.1 + a.2 ≤ b.1) || decide (b.1 + b.2 ≤ a.1)) && disjointSpans t

/-- The checks of spec/08 R214 on one task, its priority apart. -/
def TaskCopy.passes (c : TaskCopy) : Bool :=
  let d := TaskDesc.read c.desc
  TaskDesc.passes c.desc &&
    (match callSpans c.list d.isize d.len (d.len + 1) 0 with
     | some r => disjointSpans r
     | none => false)

/-- The word offsets of the retained fields of a task, in list order (spec/08 R203, R206). -/
def retainedWords (l : Sparse Word) : Nat → Nat → List Nat
  | 0, _ => []
  | fuel + 1, e =>
    let w := kw l (4 * e)
    match blockTy (bf w 0 8) with
    | none => []
    | some t => t.retained.map (· + bf w 16 16 * 2) ++ retainedWords l fuel (e + 1 + contOf (bf w 8 5))

end Sys2Proof.Machine
end

