-- ==== Sys2Proof/Machine/Metering.lean ====
section
/-! DEFINITION. The Caddy's arithmetic (spec/10 to spec/12) as functions of plain data: the decimating filter with
overrange and data loss, the parameter block, corrected signals, the sums of a metering window, the accumulators, the
pilot codes and the estimate. -/

namespace Sys2Proof.Machine

/-- Rounding to nearest, ties toward +∞ (spec/11 R290). -/
def roundDiv (n : Int) (d : Nat) : Int := (2 * n + d) / (2 * d : Nat)

/-- A quotient whose rounding the spec does not state (log entry 12). -/
def freeRound (n : Int) (d : Nat) : Int :=
  if n % (d : Int) = 0 then n / (d : Int) else n / (d : Int) + (Config.roundUp n d).toNat

/-- The integer square root, by deciding one bit after the other. -/
def isqrtFrom (n : Nat) : Nat → Nat → Nat
  | 0, r => r
  | k + 1, r => let t := r + 2 ^ k; isqrtFrom n k (if t * t ≤ n then t else r)

/-- The integer square root of a number below 2^256. -/
def isqrt (n : Nat) : Nat := isqrtFrom n 128 0

/-- The square root of a quotient, whose rounding the spec does not state (log entry 12). -/
def freeSqrt (n d : Nat) : Nat :=
  let r := isqrt (n / d)
  if r * r * d = n then r else r + (Config.rootUp n d).toNat

/-- 2π in units of 2^-80. -/
def twoPi : Nat := 7595904947272677161575987

/-- The sine of an angle from 0 to π/2 in units of 2^-80, by the Taylor polynomial of degree 27. -/
def sineSeries (x : Int) : Int :=
  let y := x * x / 2 ^ 80
  x * ((List.range 13).foldl (fun a j =>
    let n := 13 - j
    2 ^ 80 - y * a / ((2 * n * (2 * n + 1) * 2 ^ 80 : Nat) : Int)) (2 ^ 80)) / 2 ^ 80

/-- The sine of `k ÷ n` of a turn, at most a quarter of it, in units of 2^-60 (log entry 13). -/
def sineQuarter (k n : Nat) : Int :=
  if k = 0 then 0
  else if 4 * k = n then 2 ^ 60
  else sineSeries ((k * twoPi / n : Nat) : Int) / 2 ^ 20 + (Config.sineUp k n).toNat

/-- The sine of `a ÷ n` of a turn in units of 2^-60 (spec/11 R293, log entry 13). -/
def sine (a n : Nat) : Int :=
  let k := 2 * (a % n)
  if 2 * k ≤ n then sineQuarter k (2 * n)
  else if k ≤ n then sineQuarter (n - k) (2 * n)
  else if 2 * k ≤ 3 * n then -sineQuarter (k - n) (2 * n)
  else -sineQuarter (2 * n - k) (2 * n)

/-- The cosine of `a ÷ n` of a turn in units of 2^-60. -/
def cosine (a n : Nat) : Int := sine (4 * a + n) (4 * n)

/-- The largest angle of `k` more bits, in 2^-32 of a turn, that a vector of an angle below half a turn reaches. -/
def angleBits (re im : Int) : Nat → Nat → Nat
  | 0, a => a
  | k + 1, a =>
    let t := a + 2 ^ k
    angleBits re im k (if 0 ≤ im * cosine t (2 ^ 32) - re * sine t (2 ^ 32) then t else a)

/-- The angle of a vector in 2^-32 of a turn, from -2^31 (spec/12 R340, log entry 13). -/
def phaseAngle (re im : Int) : Int :=
  if re = 0 ∧ im = 0 then Config.phaseOpen 0 0
  else
    (if im < 0 ∨ (im = 0 ∧ re < 0) then (angleBits (-re) (-im) 31 0 : Int) - 2 ^ 31 else (angleBits re im 31 0 : Int))
      + Config.phaseOpen re im % 2

/-- Caddy legal time in the TMB3 format (spec/10 R261, spec/15 R397): seconds, nanoseconds and the fraction in 2^-32 ns. -/
structure LTime where
  sec : Nat := 0
  ns : Nat := 0
  frac : Nat := 0
  deriving DecidableEq, Repr

/-- A legal time moved on by a signed number of nanoseconds. -/
def LTime.add (t : LTime) (d : Int) : LTime :=
  let n := (t.sec : Int) * 1000000000 + t.ns + d
  ⟨(n / 1000000000).toNat, (n % 1000000000).toNat, t.frac⟩

/-- The difference of two legal times in units of 2^-32 ns. -/
def LTime.diff (a b : LTime) : Int :=
  (((a.sec : Int) - b.sec) * 1000000000 + a.ns - b.ns) * 2 ^ 32 + a.frac - b.frac

/-- A corrected and delayed signal sample: its value and whether its sample is void or clamped. -/
structure Sig where
  x : Int := 0
  void : Bool := true
  clamped : Bool := false
  deriving DecidableEq, Repr

/-- A filtered sample (spec/10 R265 to R268, spec/11 R290): its value, the value after pilot subtraction, the reference
w in units of 1 ÷ 1,953,125,000, whether its driver was active, its marks, and from the end of its window on the corrected
sample `x` and the delayed one `d`. -/
structure Samp where
  s : Int := 0
  p : Int := 0
  w : Int := 0
  act : Bool := false
  clamped : Bool := false
  void : Bool := false
  x : Int := 0
  d : Sig := {}
  deriving DecidableEq, Repr

/-- What a run that goes on may still do to the last sample (spec/10 R267): whether a window holds the sample, and the count of
the episode whose OVR bit the sample cleared. -/
structure Judge where
  held : Bool
  back : Option Nat := none
  deriving DecidableEq, Repr

/-- One modulator input (spec/10 R265 to R268): the run it is in, bits since the last bit of a run of 16, the parts of the
filter window that earlier sample periods fill, OVR and DATA_LOSS, void samples still due, the current and the previous
window's samples with some before them (newest first), the RMS of the previous window, and what is open of the last sample. -/
structure InSt where
  last : Bool := false
  run : Nat := 0
  since : Nat := 3748
  mid : Int := 0
  old : Int := 0
  old2 : Int := 0
  ovr : Bool := false
  ovrN : Nat := 0
  loss : Bool := false
  left : Nat := 0
  cur : List Samp := []
  prev : List Samp := []
  irms : Nat := 0
  judge : Option Judge := none
  deriving DecidableEq, Repr

/-- What one sample period's bits do to an input. -/
structure Scan where
  last : Bool
  run : Nat
  since : Nat
  loss : Bool
  left : Nat
  new : Int := 0
  mid : Int := 0
  old : Int := 0
  ovrAt : Option Nat := none
  lossAt : Option Nat := none
  deriving DecidableEq, Repr

/-- The weight of a bit `k` bits before the newest one in the newest 1,250 of the sinc3 window. -/
def hNew (k : Nat) : Int := ((k + 1) * (k + 2) / 2 : Nat)

/-- The weight in the middle 1,250. -/
def hMid (k : Nat) : Int := ((k + 1) * (k + 2) / 2 : Nat) - 3 * ((k - 1249) * (k - 1248) / 2 : Nat)

/-- The weight in the oldest 1,250 (1,248 of them count, spec/10 R266). -/
def hOld (k : Nat) : Int := ((3749 - k) * (3748 - k) / 2 : Nat)

/-- Bit `k` of a sample period arrives (spec/10 R265, R267, R268). -/
def scanBit (x : Scan) (k : Nat) (b : Bool) : Scan :=
  let v : Int := if b then 1 else -1
  let edge := decide (b ≠ x.last)
  let run := if edge then 1 else x.run + 1
  let lossNow := decide (run = 640) && !x.loss
  { last := b, run := run,
    since := if 16 ≤ run then 0 else min (x.since + 1) 3748,
    loss := x.loss || lossNow,
    left := if lossNow then 0 else if x.loss && edge && x.left == 0 then 3 else if x.loss && decide (640 ≤ run) then 0
      else x.left,
    new := x.new + v * hNew (1249 - k), mid := x.mid + v * hMid (2499 - k), old := x.old + v * hOld (3749 - k),
    ovrAt := if run = 16 ∧ x.ovrAt = none then some k else x.ovrAt,
    lossAt := if lossNow ∧ x.lossAt = none then some k else x.lossAt }

/-- The bits of a sample period, bit 0 first. -/
def scanBits (v : BitVec 1250) : Nat → Scan → Scan
  | 0, x => x
  | n + 1, x => scanBits v n (scanBit x (1249 - n) (v.getLsbD (1249 - n)))

/-- The filtered sample of a filter output (spec/10 R265). -/
def filtered (sum : Int) : Int := (sum * 2147483648 + 1953125000) / 3906250000

/-- The filtered full scale FS (spec/10 R265). -/
abbrev fullScale : Int := 939524096

/-- A sample limited to FS (spec/10 R267). -/
def clampFs (s : Int) : Int := clampI (-fullScale) fullScale s

/-- A circuit of the circuit map (spec/10 R272). -/
structure Circ where
  typ : Nat
  vset : Nat
  vphase : Nat
  neutral : Bool
  ia : Nat
  ib : Nat
  ic : Nat
  inn : Nat
  deriving DecidableEq, Repr

/-- Reads circuit `c` of a parameter block (spec/12 R336). -/
def Circ.read (b : List Byte) (c : Nat) : Circ :=
  let w := getLE b (0x80 + 8 * c) 8
  { typ := w % 4, vset := w / 4 % 8, vphase := w / 32 % 4, neutral := w / 128 % 2 == 1, ia := w / 2 ^ 8 % 128,
    ib := w / 2 ^ 16 % 128, ic := w / 2 ^ 24 % 128, inn := w / 2 ^ 32 % 128 }

/-- The bits of a circuit map entry that are assigned (spec/10 R272). -/
def circMask : Nat := 0x7F7F7F7FFF

/-- The current inputs a circuit names, IN last (spec/10 R273). -/
def Circ.currents (c : Circ) : List Nat :=
  if c.typ = 1 then [c.ia] ++ (if c.neutral then [c.inn] else [])
  else if c.typ = 2 then [c.ia, c.ic]
  else if c.typ = 3 then [c.ia, c.ib, c.ic] ++ (if c.neutral then [c.inn] else [])
  else []

/-- The voltage inputs a circuit uses, as input indices (spec/10 R262, R271, R273). -/
def Circ.voltages (c : Circ) : List Nat :=
  if c.typ = 1 then [128 + 3 * c.vset + c.vphase]
  else if c.typ = 0 then [] else [128 + 3 * c.vset, 129 + 3 * c.vset, 130 + 3 * c.vset]

/-- The elements of a circuit: voltage, subtracted voltage, current (spec/10 R273). -/
def Circ.elements (c : Circ) : List (Nat × Option Nat × Nat) :=
  let l := 128 + 3 * c.vset
  if c.typ = 1 then [(l + c.vphase, none, c.ia)]
  else if c.typ = 2 then [(l, some (l + 1), c.ia), (l + 2, some (l + 1), c.ic)]
  else if c.typ = 3 then [(l, none, c.ia), (l + 1, none, c.ib), (l + 2, none, c.ic)]
  else []

/-- The circuit uses input index `i`. -/
def Circ.uses (c : Circ) (i : Nat) : Bool := c.currents.contains i || c.voltages.contains i

/-- The rules of spec/10 R274 on one entry whose unassigned bits are zero. -/
def Circ.entryOk (b : List Byte) (n : Nat) : Bool :=
  let w := getLE b (0x80 + 8 * n) 8
  let c := Circ.read b n
  match c.typ with
  | 0 => decide (w &&& circMask = 0)
  | 1 => decide (c.vphase ≠ 3) && decide (c.ib = 0) && decide (c.ic = 0) && (c.neutral || decide (c.inn = 0))
  | 2 => decide (c.vphase = 0) && !c.neutral && decide (c.ib = 0) && decide (c.inn = 0)
  | _ => decide (c.vphase = 0) && (c.neutral || decide (c.inn = 0))

/-- The circuit map obeys spec/10 R274. -/
def circMapOk (b : List Byte) : Bool :=
  let used := (List.range 64).flatMap (fun n => (Circ.read b n).currents)
  (List.range 64).all (Circ.entryOk b) && decide (used.Nodup)

/-- QUANTUM of a circuit (spec/12 R336). -/
def prmQuantum (b : List Byte) (c : Nat) : Nat := getLE b (0x280 + 16 * c) 4
/-- PULSE_SEL of a circuit. -/
def prmPulseSel (b : List Byte) (c : Nat) : Nat := getLE b (0x284 + 16 * c) 1
/-- PULSE_MS of a circuit. -/
def prmPulseMs (b : List Byte) (c : Nat) : Nat := getLE b (0x285 + 16 * c) 1
/-- VSCALE of a voltage set. -/
def prmVscale (b : List Byte) (k : Nat) : Nat := getLE b (0x680 + 16 * k) 4
/-- FNOM of a voltage set, in Hz. -/
def prmFnom (b : List Byte) (k : Nat) : Nat := if getLE b (0x684 + 16 * k) 1 = 0 then 50 else 60
/-- REACT_CONV. -/
def prmReact (b : List Byte) : Bool := decide (getLE b 0x78A0 1 ≠ 0)
/-- VREF_RATIO, Q2.30. -/
def prmVref (b : List Byte) : Nat := getLE b 0x78A4 4
/-- ISCALE of a current input. -/
def prmIscale (b : List Byte) (i : Nat) : Nat := getLE b (0x880 + 224 * i) 4
/-- Breakpoint `j`, field `k` (0 B, 1 G, 2 PH) of a current input's correction table (spec/11 R291). -/
def prmTab (b : List Byte) (i j k : Nat) : Nat := getLE b (0x890 + 224 * i + 12 * j + 4 * k) 4
/-- PILOT_REF of an input index, Q24.8. -/
def prmPilotRef (b : List Byte) (i : Nat) : Nat :=
  if i < 128 then getLE b (0x888 + 224 * i) 4 else getLE b (0x708 + 16 * (i - 128)) 4
/-- CTRL of an input index. -/
def prmCtrl (b : List Byte) (i : Nat) : Nat :=
  if i < 128 then getLE b (0x88C + 224 * i) 4 else getLE b (0x70C + 16 * (i - 128)) 4
/-- PILOT_EN of an input index. -/
def prmPilotEn (b : List Byte) (i : Nat) : Bool := prmCtrl b i % 2 == 1
/-- STEEP of an input index. -/
def prmSteep (b : List Byte) (i : Nat) : Nat := prmCtrl b i / 16 % 8
/-- The circuit that PILOT_I`p` serves, 0xFF for none. -/
def prmPilotMap (b : List Byte) (p : Nat) : Nat := getLE b (0x7880 + p) 1

/-- The driver that serves an input (spec/12 R316), none if there is none. -/
def driverOf (b : List Byte) (i : Nat) : Option Nat :=
  if 128 ≤ i then some (32 + (i - 128) / 3)
  else (List.range 32).find? (fun p => prmPilotMap b p < 64 && (Circ.read b (prmPilotMap b p)).currents.contains i)

/-- The ranges of spec/11 R291 on a current input's table. -/
def tableOk (b : List Byte) (i : Nat) : Bool :=
  decide (prmTab b i 0 0 = 0)
    && (List.range 16).all (fun j => decide (prmTab b i j 0 < prmTab b i (j + 1) 0))
    && decide (prmTab b i 16 0 ≤ 2 ^ 30)
    && (List.range 17).all (fun j => decide (0 < prmTab b i j 1) && decide (prmTab b i j 1 < 2 ^ 31)
        && decide ((signed 32 (prmTab b i j 2)).natAbs ≤ 2 ^ 24))

/-- Check 8 of spec/12 R338: the ranges of R291 and R292, STEEP, and the PILOT_REF of enabled paths. -/
def rangesOk (b : List Byte) : Bool :=
  (List.range 128).all (fun i => tableOk b i && decide (prmIscale b i ≠ 0) && decide (getLE b (0x884 + 224 * i) 4 ≠ 0))
    && (List.range 24).all (fun v => decide (0 < getLE b (0x700 + 16 * v) 4) && decide (getLE b (0x700 + 16 * v) 4 < 2 ^ 31)
        && decide ((signed 32 (getLE b (0x704 + 16 * v) 4)).natAbs ≤ 2 ^ 24))
    && (List.range 8).all (fun k => decide (prmVscale b k ≠ 0) && decide (getLE b (0x684 + 16 * k) 1 ≤ 1))
    && (List.range 64).all (fun c => decide (1 ≤ prmQuantum b c) && decide (prmQuantum b c ≤ 1000000000)
        && (decide (32 ≤ c) || (decide (prmPulseSel b c ≤ 8) && decide (2 ≤ prmPulseMs b c) && decide (prmPulseMs b c ≤ 250))))
    && decide (getLE b 0x78A0 1 ≤ 1)
    && (List.range 152).all (fun i => decide (prmSteep b i ≤ 4)
        && (!prmPilotEn b i || (decide (46976 * 256 ≤ prmPilotRef b i) && decide (prmPilotRef b i ≤ 187905 * 256))))

/-- Check 9 of spec/12 R338. -/
def pilotOk (b : List Byte) : Bool :=
  let named := ((List.range 32).map (prmPilotMap b)).filter (fun c => decide (c ≠ 0xFF))
  (List.range 128).all (fun i => !prmPilotEn b i || (driverOf b i).isSome)
    && decide named.Nodup && named.all (fun c => decide (c < 64) && decide ((Circ.read b c).typ ≠ 0))

/-- The bytes and bits of a block that the layout does not assign are zero (spec/10 R272, spec/12 R335, R336). -/
def prmReservedZero (b : List Byte) : Bool :=
  let z (o n : Nat) : Bool := (sliceB b o n).all (fun x => decide (x = 0))
  z 7 1 && (List.range 64).all (fun c => decide (getLE b (0x80 + 8 * c) 8 &&& circMask = getLE b (0x80 + 8 * c) 8))
    && (List.range 64).all (fun c => z (0x286 + 16 * c) 10 && (decide (c < 32) || z (0x284 + 16 * c) 2))
    && (List.range 8).all (fun k => z (0x685 + 16 * k) 11)
    && (List.range 152).all (fun i => decide (prmCtrl b i / 2 % 8 = 0) && decide (prmCtrl b i / 128 = 0))
    && (List.range 128).all (fun i => z (0x880 + 224 * i + 0xDC) 4)
    && z 0x78A1 3 && z 0x78A8 24

/-- The gain of an input (spec/11 R291): the table gain of a current input at the RMS `r`, VGAIN of a voltage input;
with it the phase. -/
def gainPhase (b : List Byte) (i r : Nat) : Int × Int :=
  if 128 ≤ i then
    (signed 32 (getLE b (0x700 + 16 * (i - 128)) 4), signed 32 (getLE b (0x704 + 16 * (i - 128)) 4))
  else
    let bp (j : Nat) : Int := prmTab b i j 0
    let g (j : Nat) : Int := signed 32 (prmTab b i j 1)
    let ph (j : Nat) : Int := signed 32 (prmTab b i j 2)
    if bp 16 ≤ r then (g 16, ph 16)
    else
      let j := ((List.range 16).filter (fun j => decide (bp j ≤ r))).length - 1
      let num := (r : Int) - bp j
      let den := bp (j + 1) - bp j
      (g j + num * (g (j + 1) - g j) / den, ph j + num * (ph (j + 1) - ph j) / den)

/-- The trimmed gain (spec/12 R326). -/
def trimmed (g tau : Int) : Int := (g * tau + 2 ^ 29) / 2 ^ 30

/-- A corrected sample (spec/11 R290 step 3). -/
def corrected (p g : Int) : Int := (p * g + 2 ^ 29) / 2 ^ 30

/-- Four-point cubic Lagrange interpolation between `x0` and `x1` at the fraction `a ÷ d`, the points lying at -1, 0, 1
and 2 (spec/11 R290 step 4). -/
def lagrange (xm x0 x1 x2 : Int) (a : Int) (d : Nat) : Int :=
  let e : Int := d
  let n := -(xm * (a * (a - e) * (a - 2 * e))) + 3 * (x0 * ((a + e) * (a - e) * (a - 2 * e)))
    - 3 * (x1 * ((a + e) * a * (a - 2 * e))) + x2 * ((a + e) * a * (a - e))
  roundDiv n (6 * d * d * d)

/-- The delayed signal over a list of corrected samples, oldest first, that starts four samples before the first wanted
one; the delay is 2 samples and `a ÷ d` (|a| < d). The marks are those of the sample two before (log entry 14). -/
def delayed (a : Int) (d : Nat) : List Sig → List Sig
  | y4 :: y3 :: y2 :: y1 :: y0 :: t =>
    let x := if 0 ≤ a then lagrange y1.x y2.x y3.x y4.x a d else lagrange y0.x y1.x y2.x y3.x (a + d) d
    ⟨x, y2.void, y2.clamped⟩ :: delayed a d (y3 :: y2 :: y1 :: y0 :: t)
  | _ => []

/-- The delayed signal of corrected samples (newest first, the wanted ones with four more), oldest first, for the phase in
force and a frequency in mHz (spec/11 R290 step 4). -/
def signalOf (ph : Int) (f : Nat) (l : List Samp) : List Sig :=
  delayed (ph * 8000000) (2 ^ 32 * f) (l.reverse.map (fun s => ⟨s.x, s.void, s.clamped⟩))

/-- Difference of two signals: void where either is (spec/11 R293). -/
def sigSub (a b : List Sig) : List Sig :=
  List.zipWith (fun p q => ⟨p.x - q.x, p.void || q.void, p.clamped || q.clamped⟩) a b

/-- The samples of a signal, none where void. -/
def sigOpt (l : List Sig) : List (Option Int) := l.map (fun p => if p.void then none else some p.x)

/-- The products of two signals, zero where either is void (spec/11 R293). -/
def sigProds (v i : List Sig) : List Int := List.zipWith (fun p q => if p.void || q.void then 0 else p.x * q.x) v i

/-- Sums over sample periods of 10^9 ÷ `ds` of their nominal duration each (spec/10 R260, log entry 17). -/
def durSum (ds : List Nat) (l : List Int) : Int :=
  let m := ds.eraseDups.foldl (· * ·) 1
  freeRound ((List.zipWith (fun (x : Int) d => x * ((1000000000 * (m / d) : Nat) : Int)) l ds).foldl (· + ·) 0) m

/-- A sum that holds one value over the whole window, over sample periods of the durations `ds`. -/
def durMean (ds : List Nat) (x : Int) : Int :=
  let m := ds.eraseDups.foldl (· * ·) 1
  freeRound ((ds.map (fun d => x * ((1000000000 * (m / d) : Nat) : Int))).foldl (· + ·) 0) (ds.length * m)

/-- The value of a signal (newest sample first, none where left out) at `num ÷ den` samples before its newest one, by the
interpolation of spec/11 R290 step 4; none where a sample it needs is left out or no longer held. -/
def sampleAt (l : List (Option Int)) (num den : Nat) : Option Int :=
  if num % den = 0 then (l.drop (num / den)).head?.join
  else
    let j := max 1 (num / den)
    match l.drop (j - 1) with
    | some x2 :: some x1 :: some x0 :: some xm :: _ => some (lagrange xm x0 x1 x2 (((j + 1) * den : Nat) - num) den)
    | _ => none

/-- The sums of a signal (newest sample first) with the cosine and the sine of harmonic `h` of a frequency in mHz, in units
of 2^-60, over `m` periods that end with the newest sample, at 1,600 points (spec/11 R293, log entry 13). -/
def transform (f m h : Nat) (l : List (Option Int)) : Int × Int :=
  (List.range 1600).foldl (fun a k =>
    match sampleAt l (k * m * 5000) f with
    | some x => (a.1 + x * cosine (h * m * k) 1600, a.2 + x * sine (h * m * k) 1600)
    | none => a) (0, 0)

/-- `n ÷ 2` × Im(V × conj(I)) over the fundamental phasors of two signals (newest sample first) at a frequency in mHz, over
`m` periods (spec/11 R293). -/
def phasorQ (n f m : Nat) (v i : List (Option Int)) : Int :=
  let a := transform f m 1 v
  let b := transform f m 1 i
  freeRound (n * (a.2 * b.1 - a.1 * b.2)) (1280000 * 2 ^ 120)

/-- The fundamental of a signal over that of a reference, as the product of one phasor with the conjugate of the other, over `m`
periods of a frequency in mHz (spec/12 R340). -/
def phasorLead (f m : Nat) (x r : List (Option Int)) : Int × Int :=
  let a := transform f m 1 x
  let b := transform f m 1 r
  (a.1 * b.1 + a.2 * b.2, a.2 * b.1 - a.1 * b.2)

/-- The fit of harmonics 1 to 63 with the sums `co`, `q` samples before the newest one (spec/12 R322). -/
def fitted (f : Nat) (co : List (Int × Int)) (q : Nat) : Int :=
  freeRound ((co.zipIdx 1).foldl (fun a e =>
    a + e.1.1 * cosine (e.2 * f * q) 8000000 + e.1.2 * sine (e.2 * f * q) 8000000) 0)
    (800 * 2 ^ 120)

/-- The sums Σ r × wr, in Q24.8 of filtered-sample units, and Σ wr² of spec/12 R322, R323 over the newest `n` samples of a
list of filtered samples and references, none where not usable; the fit reaches back beyond them (spec/11 R293). -/
def pilotSums (f m n : Nat) (l : List (Option (Int × Int))) : Int × Nat :=
  let cs := (List.range 63).map (fun h => transform f m (h + 1) (l.map (·.map (·.1))))
  let cw := (List.range 63).map (fun h => transform f m (h + 1) (l.map (·.map (·.2))))
  (l.take n).zipIdx.foldl (fun a e =>
    match e.1 with
    | none => a
    | some (x, w) =>
      let r := x - fitted f cs e.2
      let wr := w - fitted f cw e.2
      (a.1 + 256 * 1953125000 * r * wr, a.2 + (wr * wr).toNat)) (0, 0)

/-- The squared RMS of spectral bin `k` (5 Hz each) of a window of 1,600 samples, divided by the squared filter response of
spec/10 R265 (spec/11 R297). -/
def binSquare (k : Nat) (l : List (Option Int)) : Nat :=
  let c := l.zipIdx.foldl (fun (a : Int × Int) e =>
    match e.1 with
    | some x => (a.1 + x * cosine (k * e.2) 1600, a.2 + x * sine (k * e.2) 1600)
    | none => a) (0, 0)
  (freeRound (2 * (c.1 * c.1 + c.2 * c.2) * (1250 * sine k 4000000) ^ 6)
    (2 ^ 120 * 2560000 * (sine k 3200).natAbs ^ 6)).toNat

/-- The RMS of harmonic group `h` of a window at a scale, `m` bins between harmonics: the bins nearer than half way to the
harmonic and half the squares of the two that lie half way, as IEC 61000-4-7 groups them (spec/11 R297, log entry 116). -/
def harmonicRms (m scale h : Nat) (l : List (Option Int)) : Nat :=
  let b (k : Nat) : Nat := binSquare k l
  let mid := ((List.range (m - 1)).map (fun j => 2 * b (m * h - m / 2 + 1 + j))).foldl (· + ·) 0
  freeSqrt ((b (m * h - m / 2) + mid + b (m * h + m / 2)) * scale * scale) (2 ^ 61)

/-- Sum of squares and number of the non-void samples. -/
def sigSquares (l : List Sig) : Nat × Nat :=
  l.foldl (fun a p => if p.void then a else (a.1 + (p.x * p.x).toNat, a.2 + 1)) (0, 0)

/-- The RMS of a signal at a scale in mV or mA for 2^30 (spec/11 R296). -/
def sigRms (l : List Sig) (scale : Nat) : Nat :=
  let q := sigSquares l
  if q.2 = 0 then 0 else freeSqrt (q.1 * scale * scale) (q.2 * 2 ^ 60)

/-- The apparent sum of one element over `n` samples, n × V,rms × I,rms (spec/11 R293). -/
def sigApparent (n : Nat) (v i : List Sig) : Int :=
  let a := sigSquares v
  let b := sigSquares i
  if a.2 = 0 ∨ b.2 = 0 then 0 else (freeSqrt (n * n * a.1 * b.1) (a.2 * b.2) : Nat)

/-- The crossings of zero upward of a list of values, as times in units of 1 ÷ 2^32 sample (spec/11 R295). -/
def crossings : List Int → Nat → List Int
  | a :: b :: t, n =>
    (if a < 0 ∧ 0 ≤ b then [(n : Int) * 2 ^ 32 + (-a) * 2 ^ 32 / (b - a)] else []) ++ crossings (b :: t) (n + 1)
  | _, _ => []

/-- The frequency of a signal in mHz, none if it has fewer than two crossings (spec/11 R295). -/
def freqOf (l : List Sig) : Option Nat :=
  let c := crossings (l.map (·.x)) 0
  match c, c.getLast? with
  | a :: _ :: _, some z => some (freeRound ((c.length - 1 : Nat) * 8000000 * 2 ^ 32) (z - a).toNat).toNat
  | _, _ => none

/-- The three sums of spec/11 R293 of a circuit over one window. -/
structure Sums where
  p : Int := 0
  q : Int := 0
  s : Int := 0
  deriving DecidableEq, Repr

/-- The quantities of spec/11 R294 that receive energy, each with its sum's magnitude. -/
def booked (react : Bool) (x : Sums) : List (Nat × Nat) :=
  let q := if react then -x.q else x.q
  (if 0 < x.p then [(0, x.p.natAbs)] else if x.p < 0 then [(1, x.p.natAbs)] else [])
    ++ (if q = 0 then [] else if 0 < q then [(if 0 ≤ x.p then 2 else 3, q.natAbs)]
        else [(if 0 ≤ x.p then 5 else 4, q.natAbs)])
    ++ [(if 0 ≤ x.p then 6 else 7, x.s.natAbs)]

/-- The accumulator of one circuit and quantity (spec/11 R299). -/
structure Acc where
  f : Nat := 0
  rem : Nat := 0
  reg : Nat := 0
  deriving DecidableEq, Repr

/-- D of spec/11 R299. -/
def accD (quantum : Nat) : Nat := 2 ^ 60 * 28800000 * quantum

/-- Steps 1 to 3 of spec/11 R299: the new accumulator and k. -/
def Acc.book (a : Acc) (quantum n : Nat) : Acc × Nat :=
  let t := 2 ^ 32 * n + a.rem
  let f := a.f + t / accD quantum
  let k := f / 2 ^ 32
  (⟨f % 2 ^ 32, t % accD quantum, a.reg + k * quantum⟩, k)

/-- A change of QUANTUM (spec/11 R301). -/
def Acc.rescale (a : Acc) (old new : Nat) : Acc :=
  ⟨a.f * old % 2 ^ 32 / new, 0, a.reg + a.f * old / 2 ^ 32⟩

/-- The pilot code of driver `p` at sample `j` of a group under the scrambling bit (spec/12 R319). -/
def pilotCode (scr : Bool) (p j : Nat) : Int :=
  (if popCount ((p + 1) &&& j) 6 % 2 = 1 then -1 else 1) * (if scr then -1 else 1)

/-- The scrambling register advanced by one group: s[k] = s[k - 18] + s[k - 23] (spec/12 R319, log entry 15). Bit 0 is
the bit in use, the oldest; bit 22 the newest. -/
def lfsrNext (x : BitVec 23) : BitVec 23 :=
  (x >>> 1) ||| (if xor (x.getLsbD 5) (x.getLsbD 0) then 0x400000 else 0)

/-- The reference w of a sample whose code was `c0`, after `c1` and `c2`, in units of 1 ÷ 1,953,125,000 (spec/12 R322):
the sums of the sinc3 weights over the newest, the middle and the oldest 1,250 bits. -/
def pilotRefOf (c0 c1 c2 : Int) : Int := c0 * 326302500 + c1 * 1302082500 + c2 * 324740000

/-- A block's value a_b of its two sums, held to unsigned Q24.8 (spec/12 R323, log entry 117); none with nothing to divide by. -/
def blockValue (num : Int) (den : Nat) : Option Nat :=
  if den = 0 then none else some (clampI 0 0xFFFFFFFF (freeRound num den)).toNat

/-- The sample after pilot subtraction (spec/12 R325): the amplitude is in Q24.8. -/
def subtractPilot (s : Int) (asub : Nat) (w : Int) : Int := s - roundDiv (asub * w) (256 * 1953125000)

/-- Insertion into a rising list. -/
def insertI (x : Int) : List Int → List Int
  | [] => [x]
  | y :: t => if x ≤ y then x :: y :: t else y :: insertI x t

/-- The 64 block values sorted, invalid blocks taken alternately as +∞ and -∞ (spec/12 R323). -/
def sortBlocks (bs : List (Option Nat)) : List Int :=
  let r : List Int × Bool := bs.foldl (fun a b => match b with
    | some v => (insertI v a.1, a.2)
    | none => (insertI (if a.2 then 2 ^ 40 else -2 ^ 40) a.1, !a.2)) ([], true)
  r.1

/-- The estimate of 64 blocks with a(47) - a(16), none with more than 16 invalid blocks (spec/12 R323, R324). -/
def estimate (bs : List (Option Nat)) : Option (Nat × Nat) :=
  if 16 < (bs.filter (fun b => b.isNone)).length then none
  else
    let a := sortBlocks bs
    some ((freeRound (((a.drop 16).take 32).foldl (· + ·) 0) 32).toNat, (nth a 47 0 - nth a 16 0).toNat)

/-- The acceptance of spec/12 R324: u ≤ PILOT_REF × 2^-15 with u = spread ÷ 1.349 ÷ 8. -/
def accepted (spread ref : Nat) : Bool := decide (spread * 1000 * 2 ^ 15 ≤ ref * 1349 * 8)

/-- The target trim round(2^30 ÷ d), d = Â ÷ PILOT_REF (spec/12 R326). -/
def trimTarget (est ref : Nat) : Int := if est = 0 then 2 ^ 40 else roundDiv (2 ^ 30 * ref) est

/-- One move of the trim toward a target under step limit and bounds (spec/12 R326). -/
def trimMove (tau target : Int) : Int :=
  clampI 1068373115 1079110533 (tau + clampI (-131072) 131072 (target - tau))

/-- |d - 1| > 0.005 (spec/12 R327). -/
def driftOut (est ref : Nat) : Bool := decide ((ref : Nat) < ((est : Int) - ref).natAbs * 200)

/-- (d - 1) in ppm (spec/12 R333). -/
def driftPpm (est ref : Nat) : Int := if ref = 0 then 0 else freeRound (((est : Int) - ref) * 1000000) ref

/-- An event log entry (spec/10 R279). -/
structure EvEntry where
  seq : Nat
  typ : Nat
  flags : Nat
  t : LTime
  subject : Nat := 0xFFFF
  duration : Nat := 0
  data : List Word := []
  deriving DecidableEq, Repr

/-- The entry is of the legal class. -/
def EvEntry.legal (e : EvEntry) : Bool := e.flags % 2 == 1

/-- The bytes of an entry before its CRC. -/
def EvEntry.body (e : EvEntry) : List Byte :=
  leBytes 4 e.seq ++ leBytes 2 e.typ ++ leBytes 2 e.flags ++ leBytes 8 e.t.sec ++ leBytes 4 e.t.ns ++ leBytes 2 e.subject
    ++ leBytes 2 0 ++ leBytes 4 (min e.duration 0xFFFFFFFF)
    ++ (List.range 8).flatMap (fun k => leBytes 4 (nth e.data k 0).toNat)

/-- The 64 bytes of an entry (spec/10 R279). -/
def EvEntry.bytes (e : EvEntry) : List Byte := let b := e.body; b ++ leBytes 4 (crc32 b).toNat

/-- The event types of the legal class (spec/10 R280). -/
def legalType (t : Nat) : Bool := t == 0x10 || t == 0x11 || t == 0x12 || t == 0x20 || t == 0x22

end Sys2Proof.Machine
end

