-- ==== Sys2Proof/Machine/Caddy.lean ====
section
/-! DEFINITION. The Caddy as a machine of its own (spec/10 to spec/12): its state and what each of its events does to it.
The core die acts on it only through the mailbox, ROOT/700 and the TMB3 copy (R255). -/

namespace Sys2Proof.Machine

/-- CDY_STAT.STATE (spec/10 R283). -/
inductive CdyMode
  | unpowered | starting | metering | halted
  deriving DecidableEq, Repr

/-- One buffer of a path's trim record (spec/12 R328). -/
structure TrimRec where
  tau : Int
  asub : Option Nat
  st : Nat
  deriving DecidableEq, Repr

/-- A path's pilot estimate and trim (spec/12 R321 to R329). `st`: 1 ACQUIRING, 2 TRACKING, 3 DRIFT, and in DRIFT `low`
whether τ goes to its lower bound (R327). `run`: an interval is in progress, `broken` the PILOT_NOEST reason that voids it;
`ended` the reason and the blocks of an interval that ran out and awaits its estimate. `rec0` and `rec1` are the buffers of
the trim record, none where the CRC or the mark fails, `recNew` the one written last, at tick `recAt`. -/
structure PathSt where
  st : Nat := 1
  tau : Int := 1073741824
  asub : Option Nat := none
  low : Bool := false
  run : Bool := false
  broken : Nat := 0
  blocks : List (Option Nat) := []
  ended : Option (Nat × List (Option Nat)) := none
  num : Int := 0
  den : Nat := 0
  usable : Nat := 0
  inact : Bool := false
  wins : Nat := 0
  noest : Nat := 0
  lastAcc : Nat := 0
  lastStale : Nat := 0
  rec0 : Option TrimRec := none
  rec1 : Option TrimRec := none
  recNew : Nat := 1
  recAt : Nat := 0
  deriving DecidableEq, Repr

/-- A path whose estimator begins anew: no interval, no block. -/
def PathSt.idle (x : PathSt) : PathSt :=
  { x with run := false, broken := 0, blocks := [], ended := none, num := 0, den := 0, usable := 0, inact := false, wins := 0 }

/-- The trim record written at tick `t`, into the older buffer (spec/12 R328). -/
def PathSt.save (x : PathSt) (t : Nat) : PathSt :=
  let r : TrimRec := ⟨x.tau, x.asub, x.st⟩
  if x.recNew = 0 then { x with rec1 := some r, recNew := 1, recAt := t }
  else { x with rec0 := some r, recNew := 0, recAt := t }

/-- A collapse at tick `t` tears the record that is being written: its mark is written last, within 2 ms (spec/12 R328). -/
def PathSt.tear (x : PathSt) (t : Nat) : PathSt :=
  if t ≤ x.recAt + 16 then
    if x.recNew = 0 then { x with rec0 := none, recNew := 1 } else { x with rec1 := none, recNew := 0 }
  else x

/-- The path as a start takes it from its last valid record; without one it acquires anew (spec/12 R328). -/
def PathSt.load (x : PathSt) : PathSt :=
  let r := ((if x.recNew = 0 then x.rec0 <|> x.rec1 else x.rec1 <|> x.rec0)).getD ⟨1073741824, none, 1⟩
  { x.idle with tau := r.tau, asub := r.asub, st := r.st }

/-- A pilot driver (spec/12 R317, R331): fault, differing samples in a row, clean groups, whether this group differed,
whether a faulty driver is being retried in this group, and its last two codes. -/
structure DrvSt where
  fault : Bool := false
  bad : Nat := 0
  clean : Nat := 0
  dirty : Bool := false
  trying : Bool := false
  c1 : Int := 0
  c2 : Int := 0
  deriving DecidableEq, Repr

/-- An open summary (spec/10 R270, spec/11 R311, spec/12 R333), opened at tick `since`. -/
structure CdySum where
  typ : Nat
  subject : Nat
  start : LTime
  count : Nat := 0
  episodes : Nat := 0
  extra : Nat := 0
  fb : Bool := false
  ho : Bool := false
  since : Nat := 0
  deriving DecidableEq, Repr

/-- A pulse output (spec/11 R302): idle, in its high time, or in the low time after it. -/
inductive PulsePh
  | idle | high | low
  deriving DecidableEq, Repr

/-- A mailbox command in hand (spec/10 R285, R286). `ready` is the Caddy's answer; `cold`: the Caddy has no knowledge of the
command, or none that it acts on. -/
structure Mail where
  slot : Nat
  op : Nat
  glove : Nat
  args : List Word
  ready : Bool := false
  status : Nat := 0
  res0 : Word := 0
  res1 : Word := 0
  res2 : Word := 0
  buf : Nat := 0
  data : List Byte := []
  cold : Bool := false
  deriving DecidableEq, Repr

/-- A CDY_CAL_MEASURE in hand (spec/12 R340): `hist` the samples of its windows, newest window first. -/
structure CalSt where
  slot : Nat
  reference : Nat
  total : Nat
  left : Nat
  forced : List Nat
  start : LTime
  fsum : Nat := 0
  rho : Nat := 0
  rhoN : Nat := 0
  hist : Sparse (List (List Samp)) := []
  paths : Sparse PathSt := []
  deriving DecidableEq, Repr

/-- What a commit holds (spec/11 R308), with the QUANTUM of each circuit whose fine accumulators it holds; none without a
block. -/
structure CdyCommit where
  valid : Bool := false
  orderly : Bool := false
  window : Nat := 0
  snapSeq : Nat := 0
  acc : Sparse Acc := []
  quanta : List Nat := []
  pend : Sparse Nat := []
  irms : Sparse Nat := []
  sums : List CdySum := []
  sealAt : Bool := false
  deriving DecidableEq, Repr

/-- An accepted parameter block that waits for the next window boundary (spec/12 R339): its bytes, its slot and the SEQ of
its PARAM_CHANGE entry. -/
structure ParamPend where
  block : List Byte
  slot : Nat
  seq : Nat
  deriving DecidableEq, Repr

/-- A parameter block that waits until the accepted one before it is in force (spec/12 R339, log entry 118). -/
structure Delivery where
  block : List Byte
  slot : Nat
  fails : Bool
  deriving DecidableEq, Repr

/-- An event on its way to the queues that existed when it happened (spec/10 R281). -/
structure CdyPost where
  e : EvEntry
  queues : Option (List Nat) := none
  deriving DecidableEq, Repr

/-- The Caddy. `ticks` counts its sample periods while it is powered, and durations, the 60 s of a summary and of the
identity display are counted with it; `sealSince`, `fbSince`, `hoSince`, `splitSince` are the ticks at which these intervals
began, `fbSeal`, `fbHo`, `fbSplit`, `fbLost` whether the fallback touched them (spec/10 R259), `fbLost` for the time since the
last commit. `durs` are the sample periods of the window, newest first: the error in ppb of the fallback oscillator, none on
ROOT/700 (R260). `offSets` and `backs` are the voltage sets out of range and the circuits with a backlog of the last window
(spec/11 R311), `backsNow` those of the window being booked; `dark`: VMET was lost and no commit has been made since (R270); `ovrHit`, `lossHit`: an OVR or DATA_LOSS bit
was set by the command in hand; `lastPrm`: the block of the last complete window. -/
structure CdySt where
  mode : CdyMode := .unpowered
  restart : Nat := 1
  fwVer : Nat := 0
  check : Nat := 0
  image : List Byte := []
  serial : Nat := 0
  param : Option (List Byte) := none
  paramPend : Option ParamPend := none
  waiting : List Delivery := []
  ticks : Nat := 0
  sealOpen : Bool := false
  sealSince : Nat := 0
  fallback : Bool := false
  fbSince : Nat := 0
  clkErr : Int := 0
  holdover : Bool := false
  hoSince : Nat := 0
  fbSeal : Bool := false
  fbHo : Bool := false
  fbSplit : Bool := false
  fbLost : Bool := false
  time : LTime := {}
  ident : Nat := 0
  identAt : Nat := 0
  evt : Nat := 0
  log : List EvEntry := []
  post : List CdyPost := []
  sums : List CdySum := []
  dark : Bool := false
  ins : Sparse InSt := []
  lastPrm : List Byte := []
  ovrHit : Bool := false
  lossHit : Bool := false
  discard : Nat := 3
  window : Nat := 0
  winSince : LTime := {}
  samples : Nat := 0
  durs : List (Option Int) := []
  freq : Sparse Nat := []
  offSets : List Nat := []
  acc : Sparse Acc := []
  pend : Sparse Nat := []
  backs : List Nat := []
  backsNow : List Nat := []
  pulse : Sparse PulsePh := []
  snapSeq : Nat := 0
  lastSnap : Option Nat := none
  hdrFlags : Nat := 0
  rowFlags : Sparse Nat := []
  commitReq : Bool := false
  buf0 : CdyCommit := {}
  buf1 : CdyCommit := {}
  newer : Nat := 1
  commitAt : Nat := 0
  progress : Nat := 0
  n : Nat := 0
  lfsr : BitVec 23 := 0x7FFFFF
  drivers : Sparse DrvSt := []
  paths : Sparse PathSt := []
  split : Bool := false
  splitSince : Nat := 0
  agree : Nat := 0
  cal : Option CalSt := none
  mail : List Mail := []
  deriving DecidableEq, Repr

/-- What METLED shows (spec/10 R276). -/
inductive Metled
  | off | steady | hz1 | hz5 | display
  deriving DecidableEq, Repr

/-- What MCLKOUT0 to MCLKOUT3 carry (spec/01 R15, spec/10 R259, R263). -/
inductive Mclk
  | still | root700 | fallback
  deriving DecidableEq, Repr

namespace CdySt

/-- Input `i`. -/
def inp (c : CdySt) (i : Nat) : InSt := Sparse.get (dflt {}) c.ins i
/-- Sets input `i`. -/
def setInp (c : CdySt) (i : Nat) (x : InSt) : CdySt := { c with ins := Sparse.set (dflt {}) c.ins i x }
/-- Path `i`. -/
def path (c : CdySt) (i : Nat) : PathSt := Sparse.get (dflt {}) c.paths i
/-- Sets path `i`. -/
def setPath (c : CdySt) (i : Nat) (x : PathSt) : CdySt := { c with paths := Sparse.set (dflt {}) c.paths i x }
/-- Driver `p`. -/
def drv (c : CdySt) (p : Nat) : DrvSt := Sparse.get (dflt {}) c.drivers p
/-- Sets driver `p`. -/
def setDrv (c : CdySt) (p : Nat) (x : DrvSt) : CdySt := { c with drivers := Sparse.set (dflt {}) c.drivers p x }
/-- The parameter block's bytes, none read as an empty block. -/
def prm (c : CdySt) : List Byte := c.param.getD []
/-- CDY_PARAM_ID (spec/12 R337). -/
def paramId (c : CdySt) : Nat := match c.param with | some b => getLE b 8 4 | none => 0
/-- Circuit `k` of the block in force. -/
def circ (c : CdySt) (k : Nat) : Circ := match c.param with | some b => Circ.read b k | none => ⟨0, 0, 0, false, 0, 0, 0, 0⟩
/-- The Caddy is METERING. -/
def meters (c : CdySt) : Bool := decide (c.mode = .metering)
/-- Number of legal entries stored (spec/10 R278). -/
def legalCount (c : CdySt) : Nat := (c.log.filter EvEntry.legal).length
/-- LOG_FULL (spec/10 R278). -/
def logFull (c : CdySt) : Bool := decide (1000 ≤ c.legalCount) || decide (c.evt = 0xFFFFFFFF)
/-- The accumulator of circuit `k`, quantity `q`. -/
def accOf (c : CdySt) (k q : Nat) : Acc := Sparse.get (dflt {}) c.acc (k * 8 + q)
/-- The pending pulses of EPULSE`k` (spec/11 R302). -/
def pending (c : CdySt) (k : Nat) : Nat := Sparse.get (dflt 0) c.pend k
/-- The phase of EPULSE`k`. -/
def pulseOf (c : CdySt) (k : Nat) : PulsePh := Sparse.get (dflt .idle) c.pulse k
/-- The frequency of voltage set `k` over the previous window, in mHz. -/
def freqOfSet (c : CdySt) (k : Nat) : Nat := Sparse.get (dflt 50000) c.freq k

/-- The log with an entry stored (spec/10 R278): a free slot, or else the operational entry with the lowest SEQ. -/
def store (l : List EvEntry) (e : EvEntry) : List EvEntry :=
  if l.length < 1024 then l ++ [e]
  else match l.find? (fun x => !x.legal) with
    | some v => l.erase v ++ [e]
    | none => l

/-- Logs an event at a legal time (spec/10 R278, R279) and hands it to the event queues (R281). -/
def logAt (c : CdySt) (typ subject duration : Nat) (data : List Word) (t : LTime) (fb ho : Bool) : CdySt :=
  let seq := min (c.evt + 1) 0xFFFFFFFF
  let e : EvEntry := ⟨seq, typ, (legalType typ).toNat + 2 * fb.toNat + 4 * ho.toNat, t, subject, duration, data⟩
  { c with evt := seq, log := store c.log e, post := c.post ++ [⟨e, none⟩] }

/-- Logs an event now. -/
def logEv (c : CdySt) (typ : Nat) (data : List Word := []) (subject : Nat := 0xFFFF) (duration : Nat := 0) : CdySt :=
  c.logAt typ subject duration data c.time c.fallback c.holdover

/-- An event at the end of an interval that began at tick `since`; `fb`: the fallback touched it (spec/10 R259, R280). -/
def logSpan (c : CdySt) (typ since : Nat) (fb : Bool) (data : List Word := []) : CdySt :=
  c.logAt typ 0xFFFF (c.ticks - since) data c.time (fb || c.fallback) c.holdover

/-- A summary of this type and subject is open. -/
def sumOpen (c : CdySt) (typ subject : Nat) : Bool := c.sums.any (fun s => s.typ == typ && s.subject == subject)

/-- Changes an open summary. -/
def sumUpd (c : CdySt) (typ subject : Nat) (f : CdySum → CdySum) : CdySt :=
  { c with sums := c.sums.map (fun s => if s.typ == typ && s.subject == subject then f s else s) }

/-- Opens a summary or adds an episode to it (spec/10 R270). -/
def sumEpisode (c : CdySt) (typ subject : Nat) (start : LTime) : CdySt :=
  if c.sumOpen typ subject then c.sumUpd typ subject (fun s => { s with episodes := s.episodes + 1 })
  else { c with sums := c.sums ++ [⟨typ, subject, start, 0, 1, 0, c.fallback, c.holdover, c.ticks⟩] }

/-- Adds to a summary's count, and replaces its extra datum. -/
def sumCount (c : CdySt) (typ subject n : Nat) (extra : Option Nat := none) : CdySt :=
  c.sumUpd typ subject (fun s => { s with count := s.count + n, extra := extra.getD s.extra })

/-- One more window or interval of a summary; `cont`: it continues the episode before it (spec/11 R311). -/
def sumAffect (c : CdySt) (typ subject : Nat) (start : LTime) (cont : Bool) (extra : Nat) : CdySt :=
  (if cont && c.sumOpen typ subject then c else c.sumEpisode typ subject start).sumCount typ subject 1 (some extra)

/-- Takes an episode and `n` of its count out of a summary again; a summary without an episode closes. -/
def sumDrop (c : CdySt) (typ subject n : Nat) : CdySt :=
  let c1 := c.sumUpd typ subject (fun s => { s with episodes := s.episodes - 1, count := s.count - n })
  { c1 with sums := c1.sums.filter (fun s => !(s.typ == typ && s.subject == subject && s.episodes == 0)) }

/-- The data words of a summary when it is written. -/
def sumData (s : CdySum) : List Word :=
  if s.typ = 0x60 then [wd (min s.extra 0xFFFFFFFF), wd s.episodes]
  else if s.typ = 0x61 ∨ s.typ = 0x53 then [wd s.episodes, wd s.extra] else [wd s.episodes]

/-- Writes one summary to the log and closes it. -/
def sumWrite (c : CdySt) (s : CdySum) : CdySt :=
  let c1 := c.logAt s.typ s.subject s.count (sumData s) s.start s.fb s.ho
  { c1 with sums := c1.sums.filter (fun x => !(x.typ == s.typ && x.subject == s.subject)) }

/-- Writes every open summary. -/
def sumsWrite (c : CdySt) : CdySt := c.sums.foldl sumWrite c

/-- The circuit that names a current input, or that uses a voltage input, first in number. -/
def circuitOf (c : CdySt) (i : Nat) : Option Nat := (List.range 64).find? (fun k => (c.circ k).uses i)

/-- The frequency of an input over the last window: that of the voltage set of the circuit that names it, 50 Hz where none does
(spec/11 R290 step 4, R295). -/
def inputFreq (c : CdySt) (i : Nat) : Nat :=
  match c.circuitOf i with
  | some k => c.freqOfSet (c.circ k).vset
  | none => 50000

/-- The periods of the fundamental in a window of a voltage set (spec/11 R293). -/
def periodsOf (c : CdySt) (k : Nat) : Nat := if prmFnom c.prm k = 60 then 12 else 10

/-- The same for an input. -/
def inputPeriods (c : CdySt) (i : Nat) : Nat :=
  match c.circuitOf i with
  | some k => c.periodsOf (c.circ k).vset
  | none => 10

/-- The amplitude to subtract from a path (spec/12 R325). -/
def asubOf (c : CdySt) (i : Nat) : Nat := ((c.path i).asub).getD (prmPilotRef c.prm i)

/-- The inputs that driver `p` serves. -/
def served (c : CdySt) (p : Nat) : List Nat :=
  if 32 ≤ p then [128 + 3 * (p - 32), 129 + 3 * (p - 32), 130 + 3 * (p - 32)]
  else if prmPilotMap c.prm p < 64 then (c.circ (prmPilotMap c.prm p)).currents else []

/-- A driver is active (spec/12 R317), or forced by a measurement (R340). -/
def driverActive (c : CdySt) (p : Nat) : Bool :=
  c.meters && !(c.drv p).fault
    && ((c.served p).any (prmPilotEn c.prm) || (match c.cal with | some m => m.forced.contains p | none => false))

/-- The driver drives its ball with its code: active, or retried after a fault (spec/12 R331). -/
def driven (c : CdySt) (p : Nat) : Bool := c.driverActive p || (c.meters && (c.drv p).trying)

/-- The code of driver `p` in the sample period in progress (spec/12 R319). -/
def codeOf (c : CdySt) (p : Nat) : Int := if c.driven p then pilotCode (c.lfsr.getLsbD 0) p (c.n % 64) else 0

/-- The ball of driver `p` carries VPILOT, else MGND (spec/12 R317). -/
def pilotLevel (c : CdySt) (p : Nat) : Bool := decide (c.codeOf p = 1)

/-- The driver of an input. -/
def pathDriver (c : CdySt) (i : Nat) : Option Nat := match c.param with | some b => driverOf b i | none => none

/-- The path state shown (spec/12 R329). -/
def pathState (c : CdySt) (i : Nat) : Nat :=
  if prmPilotEn c.prm i && (c.pathDriver i).isSome && c.param.isSome then (c.path i).st else 0

/-- A held trim (spec/12 R329 to R331). -/
def pathHeld (c : CdySt) (i : Nat) : Bool :=
  decide (c.pathState i ≠ 0) && (c.split || (match c.pathDriver i with | some p => (c.drv p).fault | none => false))

/-- The trimmed gain and the phase of an input for its RMS of the previous window (spec/11 R291, spec/12 R326). -/
def gainOf (c : CdySt) (i : Nat) : Int × Int :=
  let (g, ph) := gainPhase c.prm i (c.inp i).irms
  (trimmed g (if prmPilotEn c.prm i then (c.path i).tau else 2 ^ 30), ph)

/-- The samples of the window in progress with their corrected and delayed values, newest first (spec/11 R290); the oldest
four of a window that nothing precedes have no delayed value. -/
def fixedOf (c : CdySt) (i : Nat) : List Samp :=
  let (g, ph) := c.gainOf i
  let x := c.inp i
  let l := x.cur.map (fun s => { s with x := corrected s.p g })
  let d := (signalOf ph (c.inputFreq i) (l ++ x.prev.take 4)).reverse
  List.zipWith (fun s y => { s with d := y }) l (d ++ List.replicate l.length {})

/-- Every input's window in progress corrected and delayed. -/
def fixAll (c : CdySt) : CdySt := { c with ins := c.ins.map (fun e => (e.1, { e.2 with cur := c.fixedOf e.1 })) }

/-- The newest samples held of an input, newest first. -/
def held (c : CdySt) (i : Nat) : List Samp := (c.inp i).cur ++ (c.inp i).prev

/-- The last `n` samples of an input, newest first. -/
def recent (c : CdySt) (i n : Nat) : List Samp := (c.held i).take n

/-- The delayed signal of an input over all samples held, newest first. -/
def signal (c : CdySt) (i : Nat) : List Sig := (c.held i).map (·.d)

/-- The corrected signal of an input over its last `n` samples, newest first, without delay. -/
def rawSignal (c : CdySt) (i n : Nat) : List Sig := (c.recent i n).map (fun s => ⟨s.x, s.void, s.clamped⟩)

/-- The signal of an element's voltage. -/
def voltSignal (c : CdySt) (e : Nat × Option Nat × Nat) : List Sig :=
  match e.2.1 with
  | some m => sigSub (c.signal e.1) (c.signal m)
  | none => c.signal e.1

/-- The sums of circuit `k` over the last samples, of the durations `ds`, newest first, at the frequency `f` of its voltage
set (spec/11 R293, spec/10 R260). -/
def sumsOf (c : CdySt) (k f : Nat) (ds : List Nat) : Sums :=
  let q := c.circ k
  let n := ds.length
  let ke (e : Nat × Option Nat × Nat) : Int := prmIscale c.prm e.2.2
  let l := q.elements
  let p := l.foldl (fun a e =>
    List.zipWith (· + ·) a (((sigProds (c.voltSignal e) (c.signal e.2.2)).take n ++ List.replicate n 0).map (ke e * ·)))
    (List.replicate n 0)
  let r := l.foldl (fun a e =>
    a + ke e * phasorQ n f (c.periodsOf q.vset) (sigOpt (c.voltSignal e)) (sigOpt (c.signal e.2.2))) 0
  let s := l.foldl (fun a e => a + ke e * sigApparent n ((c.voltSignal e).take n) ((c.signal e.2.2).take n)) 0
  { p := durSum ds p, q := durMean ds r, s := durMean ds s }

/-- The input whose crossings give the frequency of voltage set `k`: L1, or the next without a void sample (spec/11 R295). -/
def freqInput (c : CdySt) (k n : Nat) : Nat :=
  let l1 := 128 + 3 * k
  let clean (i : Nat) : Bool := (c.recent i n).all (fun s => !s.void)
  if clean l1 then l1 else if clean (l1 + 1) then l1 + 1 else l1 + 2

/-- The frequency of voltage set `k` over the last `n` samples (spec/11 R295), with what was measured: none if it is not
usable. -/
def measureFreq (c : CdySt) (k n : Nat) : Option Nat × Nat :=
  match freqOf (c.rawSignal (c.freqInput k n) n).reverse with
  | some f => if 42500 ≤ f ∧ f ≤ 69000 then (some f, f) else (none, f)
  | none => (none, 0)

/-- The frequency that a window is computed with (spec/11 R295). -/
def usedFreq (c : CdySt) (k n : Nat) : Nat := ((c.measureFreq k n).1).getD (prmFnom c.prm k * 1000)

/-- The frequencies of all sets for the window of `n` samples that ends; a set out of range takes FNOM and opens FREQ_RANGE
from the start of the window (spec/11 R295, R311). -/
def takeFreqs (c : CdySt) (n : Nat) : CdySt :=
  let off := (List.range 8).filter (fun k => ((c.measureFreq k n).1).isNone)
  let c1 := off.foldl (fun a k =>
    a.sumAffect 0x61 (128 + 3 * k) c.winSince (c.offSets.contains k) (c.measureFreq k n).2) c
  { c1 with offSets := off,
            freq := (List.range 8).foldl (fun m k => Sparse.set (dflt 50000) m k (c.usedFreq k n)) c1.freq }

/-- The durations of the window's sample periods as denominators of 10^9, newest first: 1 ÷ (1 + e) of the nominal one on the
fallback oscillator, e held to ±100 ppm (spec/10 R260, log entry 17). -/
def durations (c : CdySt) : List Nat :=
  c.durs.map (fun e => match e with
    | some x => (1000000000 + clampI (-100000) 100000 x).toNat
    | none => 1000000000)

/-- Adds `k` pending pulses to EPULSE`q`; what goes beyond 65,535 is lost and opens PULSE_BACKLOG from the start of the window
(spec/11 R302, R311). -/
def addPulses (c : CdySt) (q k : Nat) : CdySt :=
  let n := c.pending q + k
  let c1 := { c with pend := Sparse.set (dflt 0) c.pend q (min n 65535) }
  if 65535 < n then
    let x := (c1.sums.find? (fun s => s.typ == 0x60 && s.subject == 0x100 + q)).map (·.extra)
    let c2 := c1.sumAffect 0x60 (0x100 + q) c1.winSince (c.backs.contains q) (x.getD 0 + (n - 65535))
    { c2 with rowFlags := Sparse.set (dflt 0) c2.rowFlags q (Sparse.get (dflt 0) c2.rowFlags q ||| 0x10),
              backsNow := q :: c2.backsNow }
  else c1

/-- Books one quantity of circuit `k` (spec/11 R299), the block `b` in force for QUANTUM and PULSE_SEL. -/
def bookOne (b : List Byte) (c : CdySt) (k q num : Nat) : CdySt :=
  let r := (c.accOf k q).book (prmQuantum b k) num
  let c1 := { c with acc := Sparse.set (dflt {}) c.acc (k * 8 + q) r.1 }
  if k ≤ 31 ∧ q = prmPulseSel b k ∧ r.2 ≠ 0 then c1.addPulses k r.2 else c1

/-- Books all energies of the window: sums under the block and the frequencies of `c0`, accumulators under `b`. -/
def bookWindow (c0 : CdySt) (b : List Byte) (c : CdySt) : CdySt :=
  (List.range 64).foldl (fun a k =>
    let q := c0.circ k
    if q.typ = 0 then a
    else
      (booked (prmReact c0.prm) (c0.sumsOf k (c0.freqOfSet q.vset) c0.durations)).foldl (fun x e =>
        bookOne b x k e.1 (prmVscale c0.prm q.vset * e.2)) a) c

/-- The circuit or its voltage set takes in input `i` (spec/11 R305). -/
def rowUses (c : CdySt) (k i : Nat) : Bool :=
  let q := c.circ k
  decide (q.typ ≠ 0) && (q.currents.contains i || (decide (128 + 3 * q.vset ≤ i) && decide (i ≤ 130 + 3 * q.vset)))

/-- The flags of a snapshot row raised by the window that ends (spec/11 R305). -/
def windowFlags (c : CdySt) (k : Nat) : Nat :=
  let q := c.circ k
  let any (p : Samp → Bool) : Bool := c.ins.any (fun e => c.rowUses k e.1 && e.2.cur.any p)
  if q.typ = 0 then 0 else (any (·.clamped)).toNat + 2 * (any (·.void)).toNat + 8 * (c.offSets.contains q.vset).toNat

/-- Adds flags to the rows. -/
def raiseRows (c : CdySt) (f : Nat → Nat) : CdySt :=
  { c with rowFlags := (List.range 64).foldl (fun m k =>
      Sparse.set (dflt 0) m k (Sparse.get (dflt 0) m k ||| f k)) c.rowFlags }

/-- The row of circuit `k` in a snapshot (spec/11 R305). -/
def rowBytes (c : CdySt) (k : Nat) : List Byte :=
  let q := c.circ k
  let l := leBytes 1 k ++ leBytes 1 q.typ ++ leBytes 2 (Sparse.get (dflt 0) c.rowFlags k)
    ++ leBytes 4 (if c.param.isSome then prmQuantum c.prm k else 0)
    ++ (List.range 8).flatMap (fun e => leBytes 12 (c.accOf k e).reg)
    ++ leBytes 8 (c.accOf k 0).f ++ leBytes 8 (c.accOf k 1).f ++ leBytes 4 0
  l ++ leBytes 4 (crc32 l).toNat

/-- The header of a snapshot at the boundary at which the window in progress began, with ROWS0 and ROWS1 zero and the CRC over that (spec/11 R304). -/
def headerBytes (c : CdySt) (market : Nat) : List Byte :=
  let l := leBytes 4 c.snapSeq ++ leBytes 2 c.hdrFlags ++ leBytes 1 market ++ leBytes 1 0
    ++ leBytes 8 c.winSince.sec ++ leBytes 4 c.winSince.ns ++ leBytes 4 c.window ++ leBytes 4 c.paramId ++ leBytes 4 c.check ++ leBytes 4 c.evt
    ++ leBytes 8 0 ++ leBytes 4 (c.window / 2 ^ 32) ++ leBytes 12 0
  l ++ leBytes 4 (crc32 l).toNat

/-- Fine accumulators in other quanta (spec/11 R301). -/
def requant (old new : Nat → Nat) (l : Sparse Acc) : Sparse Acc :=
  (List.range 512).foldl (fun m n =>
    let qo := old (n / 8)
    let qn := new (n / 8)
    if qo ≠ qn then Sparse.set (dflt {}) m n (Acc.rescale (Sparse.get (dflt {}) m n) qo qn) else m) l

/-- The commit record of the state as it stands (spec/11 R308). -/
def record (c : CdySt) (orderly : Bool) : CdyCommit :=
  { valid := true, orderly := orderly, window := c.window, snapSeq := c.snapSeq, acc := c.acc, pend := c.pend,
    quanta := if c.param.isSome then (List.range 64).map (prmQuantum c.prm) else [],
    irms := c.ins.filterMap (fun e => if e.2.irms = 0 then none else some (e.1, e.2.irms)), sums := c.sums,
    sealAt := c.sealOpen }

/-- A commit into the older buffer (spec/11 R308); one that fails read-back logs COMMIT_FAIL and leaves the other in force. The
first one after VMET was lost writes the open summaries before it (spec/10 R270). -/
def commit (c0 : CdySt) (orderly : Bool) (fails : Bool := false) : CdySt :=
  let c := if c0.dark then { c0.sumsWrite with dark := false } else c0
  let b := 1 - c.newer
  if fails then c.logEv 0x62 [wd b]
  else
    let c1 := { c with newer := b, commitReq := false, commitAt := c.ticks, fbLost := c.fallback }
    if b = 0 then { c1 with buf0 := c.record orderly } else { c1 with buf1 := c.record orderly }

/-- A collapse tears the commit that is being written: the other buffer is in force (spec/11 R308, R310). -/
def tearCommit (c : CdySt) : CdySt :=
  if c.commitAt + 16 < c.ticks then c
  else if c.newer = 0 then { c with buf0 := {}, newer := 1 } else { c with buf1 := {}, newer := 0 }

/-- The commit in force. -/
def lastCommit (c : CdySt) : CdyCommit := if c.newer = 0 then c.buf0 else c.buf1

/-- Windows of one block of a path (spec/12 R321). -/
def blockWins (c : CdySt) (i : Nat) : Nat := 5 * 2 ^ prmSteep c.prm i

/-- A path's estimator at the start of a block. -/
def blockStart (x : PathSt) : PathSt := { x with num := 0, den := 0, usable := 0, inact := false, wins := 0 }

/-- A sample that the estimate may use: its value and its reference (spec/12 R322). -/
def usableSamp (s : Samp) : Option (Int × Int) := if s.clamped || s.void then none else some (s.s, s.w)

/-- The window that ends, added to a path's running block of `wins` windows (spec/12 R322, R323). -/
def addWindow (c : CdySt) (i wins : Nat) (x : PathSt) : PathSt :=
  let l := (c.inp i).cur
  let r := pilotSums (c.inputFreq i) (c.inputPeriods i) l.length ((c.held i).map usableSamp)
  let y := { x with num := x.num + r.1, den := x.den + r.2, usable := x.usable + (l.filterMap usableSamp).length,
                    inact := x.inact || l.any (fun s => !s.act), wins := x.wins + 1 }
  if y.wins < wins then y
  else
    let v : Option Nat := if y.usable * 2 < wins * 1600 ∨ y.inact = true then none else blockValue y.num y.den
    { blockStart y with blocks := y.blocks ++ [v] }

/-- The window that ends, added to the interval of a path (spec/12 R321). -/
def pathWindow (c : CdySt) (i : Nat) : PathSt :=
  let x := c.path i
  if x.run then
    let y := c.addWindow i (c.blockWins i) x
    if 64 ≤ y.blocks.length then { y with run := false, ended := some (y.broken, y.blocks) } else y
  else x

/-- A driver of the path has a fault. -/
def pathFault (c : CdySt) (i : Nat) : Bool := match c.pathDriver i with | some p => (c.drv p).fault | none => false

/-- Changes every enabled path. -/
def eachPath (c : CdySt) (f : Nat → PathSt) : CdySt :=
  (List.range 152).foldl (fun a i => if c.pathState i = 0 then a else a.setPath i (f i)) c

/-- Starts the intervals due at this boundary (spec/12 R321); under a driver fault no interval runs complete (R331). -/
def startIntervals (c : CdySt) : CdySt :=
  c.eachPath (fun i =>
    if c.window % (320 * 2 ^ prmSteep c.prm i) = 0 then
      { blockStart (c.path i) with run := true, blocks := [], broken := if c.pathFault i then 3 else 0 }
    else c.path i)

/-- An interval of path `i` without an estimate (spec/12 R333). -/
def noEstimate (c : CdySt) (i reason : Nat) : CdySt :=
  (c.setPath i { c.path i with noest := reason }).sumAffect 0x53 i c.time false reason

/-- A path's new amplitude, trim and state, and its trim record (spec/12 R325 to R328). -/
def setTrim (c : CdySt) (i : Nat) (x : PathSt) : CdySt := c.setPath i (x.save c.ticks)

/-- The end of an interval of path `i` (spec/12 R323 to R327, R330, R331, R333). -/
def endInterval (c : CdySt) (i : Nat) : CdySt :=
  let x := c.path i
  match x.ended with
  | none => c
  | some (broken, bs) =>
    let c0 := c.setPath i { x with ended := none }
    if broken ≠ 0 then c0.noEstimate i broken
    else match estimate bs with
      | none => c0.noEstimate i 1
      | some (est, spread) =>
        let ref := prmPilotRef c.prm i
        if !accepted spread ref then c0.noEstimate i 2
        else
          let y := { x with ended := none, asub := some est, lastAcc := c.time.sec, lastStale := c.time.sec }
          let bound (low : Bool) : Int := if low then 0 else 2 ^ 40
          if c.pathHeld i then c.setTrim i { y with st := if x.st = 1 then 2 else x.st }
          else if x.st = 3 then c.setTrim i { y with tau := trimMove x.tau (bound x.low) }
          else if driftOut est ref then
            let c1 := c.logEv 0x50 [wd (unsigned 32 (driftPpm est ref)), wd x.tau.toNat] i
            let low := decide (ref < est)
            (c1.setTrim i { y with st := 3, low := low, tau := trimMove x.tau (bound low) }).raiseRows
              (fun k => if c.rowUses k i then 4 else 0)
          else c.setTrim i { y with st := 2, tau := trimMove x.tau (trimTarget est ref) }

/-- The RMS of an input's window in filtered units (spec/11 R291). -/
def filteredRms (l : List Samp) : Nat :=
  let q := sigSquares (l.map (fun s => ⟨s.p, s.void, s.clamped⟩))
  if q.2 = 0 then 0 else freeSqrt q.1 q.2

/-- The inputs turned to the next window: samples, RMS (spec/11 R291). What is kept holds 12 periods of 42.5 Hz before the newest
sample (spec/11 R293). -/
def turnInputs (c : CdySt) : CdySt :=
  { c with ins := c.ins.map (fun e => (e.1, { e.2 with prev := (e.2.cur ++ e.2.prev).take 2400, cur := [], irms := filteredRms e.2.cur })),
           samples := 0, durs := [], winSince := c.time }

/-- A changed path, circuit entry or driver mapping (spec/12 R334). -/
def pathChanged (old new : List Byte) (i : Nat) : Bool :=
  let rec_ (b : List Byte) : List Byte := if i < 128 then sliceB b (0x880 + 224 * i) 224 else sliceB b (0x700 + 16 * (i - 128)) 16
  decide (rec_ old ≠ rec_ new) || decide (driverOf old i ≠ driverOf new i)
    || (List.range 64).any (fun k => ((Circ.read old k).uses i || (Circ.read new k).uses i)
        && decide (getLE old (0x80 + 8 * k) 8 ≠ getLE new (0x80 + 8 * k) 8))

/-- A block becomes the one in force (spec/11 R301, spec/12 R334, R339). -/
def takeBlock (c : CdySt) (b : List Byte) : CdySt :=
  let old := c.prm
  let acc := if c.param.isSome then requant (prmQuantum old) (prmQuantum b) c.acc else c.acc
  let c1 : CdySt := { c with param := some b, hdrFlags := c.hdrFlags ||| 4, acc := acc }
  (List.range 152).foldl (fun a i =>
    if pathChanged old b i then
      let x := a.path i
      let a1 := if x.run then a.noEstimate i 4 else a
      a1.setTrim i { (a1.path i).idle with st := 1, tau := 1073741824, asub := none, low := false, lastAcc := a.time.sec,
                                           lastStale := a.time.sec }
    else a) c1

/-- Queue `q` ends; what waits to be posted to it is not posted to a later queue of the same number. -/
def queueGone (c : CdySt) (q : Nat) : CdySt :=
  { c with post := c.post.map (fun p => { p with queues := p.queues.map (·.filter (· != q)) }) }

/-- Mailbox commands that the core die has ended leave the Caddy, and what it still does for them has no slot any more. -/
def disown (c : CdySt) (gone : Nat → Bool) : CdySt :=
  let slot (n : Nat) : Nat := if gone n then 4096 else n
  { c with
    mail := c.mail.filter (fun m => !gone m.slot), paramPend := c.paramPend.map (fun p => { p with slot := slot p.slot }),
    waiting := c.waiting.map (fun d => { d with slot := slot d.slot }), cal := c.cal.map (fun m => { m with slot := slot m.slot }) }

/-- Marks a mailbox command answered. -/
def answer (c : CdySt) (slot status : Nat) (r0 r1 r2 : Word) (buf : Nat := 0) (data : List Byte := []) : CdySt :=
  { c with mail := c.mail.map (fun m => if m.slot = slot ∧ m.ready = false then
      { m with ready := true, status := status, res0 := r0, res1 := r1, res2 := r2, buf := buf, data := data } else m) }

/-- The buffer address in two words of arguments. -/
def bufOf (m : Mail) (k : Nat) : Nat := (nth m.args k 0).toNat + 2 ^ 32 * (nth m.args (k + 1) 0).toNat

/-- Serves the snapshots that wait (spec/11 R303). -/
def serveSnaps (c : CdySt) (market : Nat) : CdySt :=
  let waits := c.mail.filter (fun m => decide (m.op = 0x0610) && !m.ready && !m.cold)
  let due := match c.lastSnap with | some w => decide (w + 5 ≤ c.window) | none => true
  if waits.isEmpty || !due then c
  else
    let c1 := { c with snapSeq := (c.snapSeq + 1) % 2 ^ 32, lastSnap := some c.window }
    let data := c1.headerBytes market ++ (List.range 64).flatMap c1.rowBytes
    let c2 := waits.foldl (fun a m => a.answer m.slot 0 (wd a.snapSeq) (wd a.window) 0 (bufOf m 0) data) c1
    { c2 with hdrFlags := 0, rowFlags := [] }

/-- Serves commits (spec/11 R308): every fourth boundary, or at a request, which a failed one leaves pending. -/
def serveCommit (c : CdySt) (fails : Bool) : CdySt :=
  if c.window % 4 = 0 ∨ c.commitReq = true then
    let c1 := c.commit false fails
    if fails then c1 else (c1.mail.filter (fun m => decide (m.op = 0x0613) && !m.ready && !m.cold)).foldl (fun a m => a.answer m.slot 0 (wd a.window) 0 0) c1
  else c

/-- The window that ends, added to the measurement in hand (spec/12 R340). -/
def calWindow (c : CdySt) : CdySt :=
  { c with cal := c.cal.map (fun m =>
      (List.range 152).foldl (fun a i =>
        { a with
          hist := Sparse.set (dflt []) a.hist i ((c.inp i).cur :: Sparse.get (dflt []) a.hist i),
          paths := Sparse.set (dflt {}) a.paths i (c.addWindow i (m.total / 64) (Sparse.get (dflt {}) a.paths i)) })
        { m with left := m.left - 1, fsum := m.fsum + c.inputFreq m.reference }) }

/-- The windows of an input in a measurement, oldest first, before gain and with the pilot of the measurement, if one was
estimated, subtracted (spec/12 R340). -/
def calSignal (m : CalSt) (i : Nat) (est : Option Nat) : List (List Sig) :=
  (Sparse.get (dflt []) m.hist i).reverse.map (fun l => l.reverse.map (fun s =>
    ⟨match est with | some a => subtractPilot s.s a s.w | none => s.s, s.void, s.clamped⟩))

/-- The RMS of a window of a signal. -/
def windowRms (l : List Sig) : Nat := let q := sigSquares l; if q.2 = 0 then 0 else freeSqrt q.1 q.2

/-- The result buffer of a measurement (spec/12 R340); the phase leads of its windows are taken together (log entry 13). -/
def calBytes (c : CdySt) (m : CalSt) : List Byte :=
  let f := (freeRound m.fsum m.total).toNat
  let h := leBytes 4 m.total ++ leBytes 4 f
    ++ leBytes 4 (if m.rhoN = 0 then 0 else (freeRound m.rho m.rhoN).toNat) ++ leBytes 4 c.paramId ++ leBytes 8 m.start.sec
    ++ leBytes 36 0
  let est (i : Nat) : Option (Nat × Nat) :=
    match c.pathDriver i with
    | some d => if c.driverActive d then estimate (Sparse.get (dflt {}) m.paths i).blocks else none
    | none => none
  let sig (i : Nat) : List (List Sig) := calSignal m i ((est i).map (·.1))
  let ref := sig m.reference
  let lead (l : List (List Sig)) : Int × Int := (List.zipWith (fun x r =>
    phasorLead f (c.inputPeriods m.reference) (sigOpt x.reverse) (sigOpt r.reverse)) l ref).foldl
      (fun a p => (a.1 + p.1, a.2 + p.2)) (0, 0)
  h ++ leBytes 4 (crc32 h).toNat ++ (List.range 152).flatMap (fun i =>
    let l := sig i
    let e := est i
    leBytes 4 (freeRound (((l.map windowRms).foldl (· + ·) 0 : Nat) : Int) m.total).toNat
      ++ leBytes 4 (unsigned 32 (phaseAngle (lead l).1 (lead l).2))
      ++ leBytes 4 (match e with | some x => x.1 | none => 0)
      ++ leBytes 4 (match e with | some x => (freeRound (x.2 * 1000) 10792).toNat | none => 0)
      ++ leBytes 4 (l.flatten.filter (·.clamped)).length ++ leBytes 4 (l.flatten.filter (·.void)).length
      ++ leBytes 4 e.isSome.toNat ++ leBytes 4 0)

/-- The measurement in hand at a window boundary: the last window answers it. -/
def serveCal (c : CdySt) : CdySt :=
  match c.cal with
  | none => c
  | some m =>
    if m.left = 0 then
      match c.mail.find? (fun x => decide (x.slot = m.slot) && !x.ready) with
      | some x => ({ c with cal := none }).answer m.slot 0 (wd m.total)
          (wd (if m.rhoN = 0 then 0 else (freeRound m.rho m.rhoN).toNat)) 0 (bufOf x 3) (c.calBytes m)
      | none => { c with cal := none }
    else c

/-- The accepted block that waits becomes the one in force and its command is answered (spec/12 R339). -/
def takePending (c : CdySt) : CdySt :=
  match c.paramPend with
  | some p => ({ c.takeBlock p.block with paramPend := none }).answer p.slot 0 (wd (getLE p.block 8 4)) (wd p.seq) 0
  | none => c

/-- The end of a window of `n` samples (spec/11 R289 to R301, R314): corrected and delayed samples, frequencies, the pilot
blocks and the measurement that run over it, the block that waits where `take`, energies, flags, the index. -/
def closeWindow (c : CdySt) (n : Nat) (take : Bool) : CdySt :=
  let f := c.fixAll.takeFreqs n
  let c0 := (f.eachPath f.pathWindow).calWindow
  let c1 := if take then c0.takePending else c0
  let c2 := (bookWindow c0 c1.prm c1).raiseRows c0.windowFlags
  { c2 with backs := c2.backsNow, backsNow := [], window := c2.window + 1, progress := c2.window + 1,
            lastPrm := c0.prm, hdrFlags := c2.hdrFlags ||| c.fallback.toNat ||| (2 * c.holdover.toNat) }

/-- The Caddy as it was `k` samples ago, as far as a window boundary reads it. -/
def early (c : CdySt) (k : Nat) : CdySt :=
  { c with ins := c.ins.map (fun e => (e.1, { e.2 with cur := e.2.cur.drop k })), durs := c.durs.drop k, samples := c.samples - k }

/-- The `k` newest samples of `c0` belong to the window that has begun. -/
def late (c c0 : CdySt) (k : Nat) : CdySt :=
  { c with ins := c.ins.map (fun e => (e.1, { e.2 with cur := (c0.inp e.1).cur.take k })), durs := c0.durs.take k, samples := k,
           winSince := c.winSince.add (-(125000 * k : Nat)) }

/-- Pulse output `k` starts a pulse (spec/11 R302). -/
def pulseStart (c : CdySt) (k : Nat) : CdySt :=
  if c.mode = .metering ∧ k ≤ 31 ∧ c.pulseOf k = .idle ∧ c.pending k ≠ 0 ∧ prmPulseSel c.prm k ≠ 8 ∧ (c.circ k).typ ≠ 0 then
    { c with pulse := Sparse.set (dflt .idle) c.pulse k .high, pend := Sparse.set (dflt 0) c.pend k (c.pending k - 1) }
  else c

/-- The high or low time of pulse output `k` expires. -/
def pulseEnd (c : CdySt) (k : Nat) : CdySt :=
  match c.pulseOf k with
  | .high => { c with pulse := Sparse.set (dflt .idle) c.pulse k .low }
  | .low => { c with pulse := Sparse.set (dflt .idle) c.pulse k .idle }
  | .idle => c

/-- EPULSE`k` is high. -/
def pulseLevel (c : CdySt) (k : Nat) : Bool :=
  c.meters && decide (c.pulseOf k = .high) && decide (prmPulseSel c.prm k ≠ 8) && decide ((c.circ k).typ ≠ 0)

/-- Legal time `n` bits into the sample period in progress. -/
def bitTime (c : CdySt) (n : Nat) (back : Nat) : LTime := c.time.add (((n : Int) + 1 - back) * 100)

/-- OVR of input `i` is set at bit `n` of the sample period (spec/10 R267). -/
def setOvr (c : CdySt) (i n : Nat) : CdySt :=
  let x := c.inp i
  if x.ovr || x.loss then c
  else ({ c.setInp i { x with ovr := true, ovrN := 0 } with ovrHit := true }).sumEpisode 0x40 i (c.bitTime n 16)

/-- DATA_LOSS of input `i` is set at bit `n` (spec/10 R268): the overrange that led into it is not one of its own. -/
def setLoss (c : CdySt) (i n : Nat) : CdySt :=
  let x := c.inp i
  if x.loss then c
  else
    let c1 := if x.ovr then c.sumDrop 0x40 i x.ovrN else c
    ({ c1.setInp i { x with loss := true, left := 0, ovr := false, ovrN := 0 } with lossHit := true }).sumEpisode 0x41 i
      (c.bitTime n 640)

/-- The sample that ends belongs to a metering window: the first 3 after a start are discarded (spec/10 R266), and windows hold
whole groups (spec/12 R320), so that the first one begins with a group (log entry 157). -/
def counts (c : CdySt) : Bool := c.meters && decide (c.discard = 0) && (decide (c.samples ≠ 0) || decide (c.n % 64 = 0))

/-- The reference w of the sample that ends of input `i` (spec/12 R322). -/
def refOf (c : CdySt) (i : Nat) : Int :=
  match c.pathDriver i with
  | some k => pilotRefOf (c.codeOf k) (c.drv k).c1 (c.drv k).c2
  | none => 0

/-- The driver of input `i` is active (spec/12 R317). -/
def pathActive (c : CdySt) (i : Nat) : Bool := match c.pathDriver i with | some k => c.driverActive k | none => false

/-- The filtered sample of input `i` of the value `s` and its marks, after pilot subtraction (spec/10 R265 to R268, spec/12
R325). -/
def sampOf (c : CdySt) (i : Nat) (s : Int) (clamped void : Bool) : Samp :=
  let v := if clamped then clampFs s else s
  let w := c.refOf i
  let act := c.pathActive i
  { s := v, p := if act && prmPilotEn c.prm i then subtractPilot v (c.asubOf i) w else v, w := w, act := act,
    clamped := clamped, void := void }

/-- What a sample does to OVR, DATA_LOSS and their summaries (spec/10 R267, R268). -/
def noteSample (c : CdySt) (i : Nat) (clamped void : Bool) : CdySt :=
  let x := c.inp i
  let c0 := c.setInp i { x with judge := none }
  if void then c0.sumCount 0x41 i 1
  else if c.discard ≠ 0 then c0
  else if clamped then
    let c1 := c0.setOvr i 1249
    let y := c1.inp i
    (c1.setInp i { y with ovrN := y.ovrN + 1 }).sumCount 0x40 i 1
  else c.setInp i { x with ovr := false, ovrN := 0, judge := some ⟨c.counts, if x.ovr then some x.ovrN else none⟩ }

/-- The newest sample of a list is clamped after all. -/
def markClamped : List Samp → List Samp
  | s :: t => { s with clamped := true } :: t
  | [] => []

/-- A run of 16 that began before the last sample's end: its bits in that sample's window clamp the sample, and OVR has not been
clear since (spec/10 R267, log entry 157). -/
def lateRun (c : CdySt) (i : Nat) : CdySt :=
  let x := c.inp i
  match x.judge with
  | none => c
  | some j =>
    let y : InSt :=
      if !j.held then x
      else if x.cur.isEmpty then { x with prev := markClamped x.prev } else { x with cur := markClamped x.cur }
    let n := j.back.getD 0
    let c1 := c.setInp i { y with judge := none, ovr := true, ovrN := n + 1 }
    let c2 := if j.back.isSome then c1 else { c1 with ovrHit := true }.sumEpisode 0x40 i (c1.time.add (-100 * x.run))
    let c3 := c2.sumCount 0x40 i 1
    if j.held && x.cur.isEmpty then c3.raiseRows (fun k => if c3.rowUses k i then 1 else 0) else c3

/-- The bits that arrived, their parts of the filter windows, and the void samples still due (spec/10 R265, R268). -/
def InSt.scanned (y : InSt) (r : Scan) : InSt :=
  { y with last := r.last, run := r.run, since := r.since, mid := r.mid, old := r.old, old2 := y.old,
           loss := y.loss && decide (r.left ≠ 1), left := if y.loss then r.left - 1 else 0 }

/-- The end of a sample period of input `i` with the bits `v` (spec/10 R264 to R268, spec/12 R325). -/
def sampleInput (c : CdySt) (i : Nat) (v : BitVec 1250) : CdySt :=
  let x := c.inp i
  let r := scanBits v 1250 { last := x.last, run := x.run, since := x.since, loss := x.loss, left := x.left }
  let c0 := match r.ovrAt with | some k => if k + x.run = 15 then c.lateRun i else c | none => c
  let c1 := match r.ovrAt with | some k => c0.setOvr i k | none => c0
  let c2 := match r.lossAt with | some k => c1.setLoss i k | none => c1
  let y := c2.inp i
  let s := filtered (r.new + x.mid + x.old2)
  let void := y.loss
  let clamped := !void && (decide (fullScale ≤ s.natAbs) || decide (r.since < 3748))
  let z := InSt.scanned y r
  (c2.setInp i { z with cur := if c.counts then c.sampOf i s clamped void :: y.cur else y.cur }).noteSample i clamped void

/-- The bits of an input that a sample period's streams do not list: its level stays (log entry 18). -/
def streamOf (c : CdySt) (l : List (Nat × BitVec 1250)) (i : Nat) : BitVec 1250 :=
  match l.find? (fun e => e.1 == i) with
  | some e => e.2
  | none => if (c.inp i).last then BitVec.allOnes 1250 else 0

/-- A driver at the end of a sample (spec/12 R331): codes move on, the readback is compared, groups are counted; a faulty
driver is tried again from the start of each group until 8 samples in a row differ. -/
def stepDriver (c : CdySt) (differs : List Nat) (p : Nat) : DrvSt :=
  let d := c.drv p
  let bad := c.driven p && differs.contains p
  let e := { d with c1 := c.codeOf p, c2 := d.c1, bad := if bad then min (d.bad + 1) 8 else 0, dirty := d.dirty || bad }
  if c.n % 64 = 63 then
    { e with dirty := false, trying := e.fault, clean := if e.fault && e.trying && !e.dirty then min (e.clean + 1) 64 else 0,
             bad := if e.fault then 0 else e.bad }
  else { e with trying := e.trying && decide (e.bad < 8) }

/-- An 8 kHz sample boundary (spec/10 R264, spec/12 R319): the bits of every input, and the drivers whose readback
differs. -/
def sample (c : CdySt) (l : List (Nat × BitVec 1250)) (differs : List Nat) : CdySt :=
  match c.mode with
  | .unpowered => c
  | .halted => { c with time := c.time.add 125000, ticks := c.ticks + 1 }
  | _ =>
    let c1 := (List.range 152).foldl (fun a i => a.sampleInput i (c.streamOf l i)) c
    let c2 := (List.range 40).foldl (fun a p => a.setDrv p (c.stepDriver differs p)) c1
    { c2 with time := c.time.add 125000, ticks := c.ticks + 1, discard := c.discard - 1, n := c.n + 1,
              lfsr := if c.n % 64 = 63 then lfsrNext c.lfsr else c.lfsr,
              samples := c.samples + c.counts.toNat,
              winSince := if c.counts then c.winSince else c.time.add 125000,
              durs := if c.counts then (if c.fallback then some c.clkErr else none) :: c.durs else c.durs }

/-- The intervals in progress of a driver's paths yield no estimate (spec/12 R331). -/
def breakPaths (c : CdySt) (p : Nat) : CdySt :=
  (c.served p).foldl (fun a i => a.setPath i { a.path i with broken := 3 }) c

/-- A driver fault, or the recovery from one (spec/12 R331). -/
def driverEvent (c : CdySt) (p : Nat) (fault : Bool) : CdySt :=
  let d := c.drv p
  if fault then
    if d.fault = false ∧ 8 ≤ d.bad then
      ((c.setDrv p { d with fault := true, clean := 0, dirty := true, trying := false }).logEv 0x54 [1] (0x200 + p)).breakPaths p
    else c
  else if d.fault = true ∧ 64 ≤ d.clean then
    ((c.setDrv p { d with fault := false, bad := 0, clean := 0, trying := false }).logEv 0x54 [0] (0x200 + p)).breakPaths p
  else c

/-- The reference measurement (spec/12 R330): ρ in Q2.30. -/
def vrefMeasure (c : CdySt) (rho : Nat) : CdySt :=
  match c.param, c.mode with
  | some b, .metering =>
    let r := prmVref b
    let cal := c.cal.map (fun m => { m with rho := m.rho + rho, rhoN := m.rhoN + 1 })
    let c0 := { c with cal := cal }
    let dev : Int := (rho : Int) - r
    let ppb : Word := wd (unsigned 32 (if r = 0 then 0 else freeRound (dev * 1000000000) r))
    if decide (r * 50 < dev.natAbs * 1000000) then
      if c.split then { c0 with agree := 0 }
      else ({ c0 with split := true, splitSince := c.ticks, fbSplit := c.fallback, agree := 0 }).logEv 0x51 [ppb]
    else if c.split then
      if decide (dev.natAbs * 1000000 ≤ r * 40) then
        if 59 ≤ c.agree then
          ({ c0 with split := false, agree := 0 }).logSpan 0x52 c.splitSince c.fbSplit [ppb]
        else { c0 with agree := c.agree + 1 }
      else { c0 with agree := 0 }
    else c0
  | _, _ => c

/-- PILOT_STALE of path `i` (spec/12 R332). -/
def pilotStale (c : CdySt) (i : Nat) : CdySt :=
  let x := c.path i
  if c.mode = .metering ∧ c.pathState i ≠ 0 ∧ x.lastStale + 2592000 ≤ c.time.sec then
    (c.setPath i { x with lastStale := c.time.sec }).logEv 0x55 [wd ((c.time.sec - x.lastAcc) / 86400)] i
  else c

/-- Refuses a parameter block (spec/12 R338). -/
def refuseBlock (c : CdySt) (slot r : Nat) (b : List Byte) : CdySt :=
  (c.logEv 0x21 [wd r, wd (getLE b 8 4)]).answer slot 0x203 (wd r) 0 0

/-- Refuses the deliveries in hand when the seal closes (spec/10 R257, spec/12 R339, R343). -/
def refuseDeliveries (c : CdySt) : CdySt :=
  let c1 := match c.paramPend with
    | some p => ({ c with paramPend := none, log := c.log.filter (fun e => decide (e.seq ≠ p.seq)) }).refuseBlock p.slot 1 p.block
    | none => c
  let c2 := c1.waiting.foldl (fun a d => a.refuseBlock d.slot 1 d.block) { c1 with waiting := [] }
  match c2.cal with
  | some m => ({ c2 with cal := none }).answer m.slot 0x203 1 0 0
  | none => c2

/-- The identity display begins, for 60 s (spec/10 R276). -/
def showIdent (c : CdySt) : CdySt := { c with identAt := c.ticks, ident := c.ticks + 480000 }

/-- A new seal state is counted (spec/10 R257, R276). -/
def sealChange (c : CdySt) (isOpen : Bool) : CdySt :=
  if c.mode = .unpowered ∨ c.sealOpen = isOpen then c
  else if isOpen then
    ({ c.showIdent with sealOpen := true, sealSince := c.ticks, fbSeal := c.fallback, hdrFlags := c.hdrFlags ||| 8 }).logEv 0x10
  else (({ c.showIdent with sealOpen := false }).logSpan 0x11 c.sealSince c.fbSeal).refuseDeliveries

/-- The switch to the fallback oscillator (spec/10 R259); every interval in progress is touched by it. -/
def clkFallback (c : CdySt) : CdySt :=
  if c.mode = .unpowered ∨ c.fallback = true then c
  else
    ({ c with fallback := true, fbSince := c.ticks, fbSeal := true, fbHo := true, fbSplit := true, fbLost := true,
              hdrFlags := c.hdrFlags ||| 1, sums := c.sums.map (fun (s : CdySum) => { s with fb := true }) }).logEv 0x30
      [wd (unsigned 32 (clampI (-100000) 100000 c.clkErr))]

/-- The return to ROOT/700 (spec/10 R259). -/
def clkRoot (c : CdySt) : CdySt :=
  if c.mode = .unpowered ∨ c.fallback = false then c
  else { c.logSpan 0x31 c.fbSince true with fallback := false, hdrFlags := c.hdrFlags ||| 1 }

/-- A TMB3 copy arrives (spec/10 R261). -/
def timeCopy (c : CdySt) (t : LTime) : CdySt :=
  if c.mode = .unpowered then c
  else
    let d := t.diff c.time
    let c1 := if c.holdover then { c.logSpan 0x33 c.hoSince c.fbHo with holdover := false, hdrFlags := c.hdrFlags ||| 2 } else c
    let c2 := { c1 with time := t }
    if 1000000000 * 2 ^ 32 < d.natAbs then
      let ns := d.tdiv (2 ^ 32)
      let s := ns.tdiv 1000000000
      c2.logEv 0x34 [wd (unsigned 64 s % 2 ^ 32), wd (unsigned 64 s / 2 ^ 32), wd (unsigned 32 (ns.tmod 1000000000))]
    else c2

/-- Legal time goes into holdover (spec/10 R261). -/
def timeHoldover (c : CdySt) : CdySt :=
  if c.mode = .unpowered ∨ c.holdover = true then c
  else ({ c with holdover := true, hoSince := c.ticks, fbHo := c.fallback, hdrFlags := c.hdrFlags ||| 2 }).logEv 0x32

/-- Requests in hand that a stop ends (spec/11 R313): every one the Caddy has not answered. -/
def dropMail (c : CdySt) : CdySt :=
  { c with cal := none, waiting := [],
           mail := c.mail.map (fun m => if m.ready then m else { m with ready := true, status := 0x201 }) }

/-- The orderly stop (spec/11 R309): a short window over the samples so far, and a commit marked so. -/
def orderlyStop (c : CdySt) : CdySt :=
  (if c.meters && decide (c.samples ≠ 0) then (c.closeWindow c.samples false).turnInputs else c).commit true

/-- The intervals in progress of the paths yield no estimate (spec/12 R333, R334). -/
def endPaths (c : CdySt) : CdySt :=
  (List.range 152).foldl (fun a i => if (a.path i).run then a.noEstimate i 4 else a) c

/-- VMET fails (spec/11 R309, R310): with the hold-up an orderly stop; without it none, and what is being written (`torn`) is
lost with it. -/
def vmetTrip (c : CdySt) (hold torn : Bool) : CdySt :=
  if c.mode = .unpowered then c
  else
    let c1 :=
      if hold && decide (c.mode ≠ .halted) then ({ c.endPaths with dark := true }).orderlyStop
      else if torn && !hold then
        { c.tearCommit with dark := true, paths := c.paths.map (fun (e : Nat × PathSt) => (e.1, e.2.tear c.ticks)) }
      else { c with dark := true }
    { c1.dropMail with mode := .unpowered, restart := 1, pulse := [], drivers := [],
                       paths := c1.paths.map (fun (e : Nat × PathSt) => (e.1, e.2.idle)) }

/-- The state a start takes from the commit in force and the trim records, with the filters and codes begun anew (spec/10
R266, spec/11 R308, R310, spec/12 R319, R328); quantities committed under an earlier block come to the quanta of the block in
force (spec/11 R301). The commit's mark of an orderly stop is used up (log entry 119). -/
def loadCommit (c : CdySt) : CdySt :=
  let k := c.lastCommit
  let c1 : CdySt := { c with
    discard := 3, n := 0, lfsr := 0x7FFFFF, drivers := [], samples := 0, durs := [], fallback := false, holdover := false,
    freq := [], offSets := [], backs := [], lastPrm := [], commitReq := false, agree := 0, winSince := c.time,
    paths := c.paths.map (fun (e : Nat × PathSt) => (e.1, e.2.load)),
    acc := if k.quanta.isEmpty || c.param.isNone then k.acc else requant (fun n => nth k.quanta n 0) (prmQuantum c.prm) k.acc,
    pend := k.pend, window := k.window, snapSeq := k.snapSeq, sums := k.sums,
    buf0 := { c.buf0 with orderly := false }, buf1 := { c.buf1 with orderly := false } }
  k.irms.foldl (fun a e => a.setInp e.1 { irms := e.2 }) { c1 with ins := [] }

/-- The first 32 bits of a digest, the most significant byte first. -/
def head32 (d : List Byte) : Word := wd (beNat (sliceB d 0 4))

/-- The Caddy starts (spec/10 R258, R275, R277, spec/11 R310). `fault`: 1 the image's signature, 2 the memory check fails;
`isOpen` the seal as it is sensed. -/
def start (c : CdySt) (fault : Nat) (isOpen : Bool) : CdySt :=
  let was := c.lastCommit
  let c0 := { c.showIdent with
    pulse := [], sealSince := if c.sealOpen && isOpen then c.sealSince else c.ticks, fbSeal := c.sealOpen && isOpen && c.fbSeal,
    check := (head32 (Config.sha256 (Config.caddyImage c.image 0))).toNat }
  if fault ≠ 0 then ({ c0.dropMail with mode := .halted, sealOpen := isOpen, drivers := [] }).logEv 0x03 [wd fault]
  else
    let c1 := c0.loadCommit.takePending
    let c2 := { c1 with mode := if c1.param.isSome then .metering else .starting, sealOpen := isOpen }
    let c3 := c2.logEv 0x01 [wd c2.fwVer, wd c2.check, wd c2.paramId, wd c.restart]
    let c4 := if was.orderly then c3
      else
        let iv := c.progress - was.window + 1
        { c3.logAt 0x02 0xFFFF (iv * 1600) [wd (iv * 200)] c3.time (c.fbLost || c3.fallback) c3.holdover with
          hdrFlags := c3.hdrFlags ||| 0x10 }
    let c5 := if was.valid ∧ was.sealAt ≠ isOpen then c4.logEv 0x12 [wd isOpen.toNat] else c4
    { c5 with restart := 1 }

/-- The reason a parameter block is refused for, none if it passes (spec/12 R338); `fails`: the entry's read-back fails. -/
def blockReason (c : CdySt) (market : Nat) (b : List Byte) (fails : Bool) : Option Nat :=
  let key := sliceB b 0x20 96
  if !c.sealOpen then some 1
  else if getLE b 0 4 ≠ 0x43504231 ∨ getLE b 4 2 ≠ 1 ∨ getLE b 0xC 4 ≠ 31008 ∨ prmReservedZero b = false
    then some 2
  else if getLE b 6 1 ≠ market ∨ getLE b 0x10 8 ≠ c.serial then some 3
  else if Config.sha256 key ≠ Config.authorityHash market then some 4
  else if Config.ecdsaVerify key (Config.sha384 (sliceB b 0 0x78C0)) (sliceB b 0x78C0 96) = false then some 5
  else if getLE b 8 4 ≤ c.paramId then some 6
  else if circMapOk b = false then some 7
  else if rangesOk b = false then some 8
  else if pilotOk b = false then some 9
  else if c.logFull then some 10
  else if fails then some 11
  else none

/-- The sections of two blocks that differ, bit `i` for row `i` of spec/12 R336 (R339). -/
def sectionsDiff (a b : List Byte) : Nat :=
  let s : List (Nat × Nat) := [(0, 0x80), (0x80, 0x200), (0x280, 0x400), (0x680, 0x80), (0x700, 0x180), (0x880, 28672),
    (0x7880, 32), (0x78A0, 32), (0x78C0, 96)]
  (s.zipIdx.map (fun e => if sliceB a e.1.1 e.1.2 = sliceB b e.1.1 e.1.2 then 0 else 2 ^ e.2)).foldl (· + ·) 0

/-- A delivered parameter block (spec/12 R338, R339); one that comes while an accepted one waits for its window boundary is
checked when that one is in force (log entry 118). -/
def deliverBlock (c : CdySt) (market slot : Nat) (b : List Byte) (fails : Bool) : CdySt :=
  if c.paramPend.isSome then { c with waiting := c.waiting ++ [⟨b, slot, fails⟩] }
  else match c.blockReason market b fails with
    | some r => c.refuseBlock slot r b
    | none =>
      let c1 := c.logEv 0x20 [wd c.paramId, wd (getLE b 8 4), head32 (Config.sha256 b), wd (sectionsDiff c.prm b),
        head32 (Config.authorityHash market)]
      if c.mode = .metering then { c1 with paramPend := some ⟨b, slot, c1.evt⟩ }
      else ({ c1.takeBlock b with mode := if c.mode = .starting then CdyMode.metering else c.mode } : CdySt).answer slot 0
        (wd (getLE b 8 4)) (wd c1.evt) 0

/-- The deliveries that wait are checked, up to the first that is accepted and waits in its turn. -/
def nextDeliveries (c : CdySt) (market : Nat) : CdySt :=
  c.waiting.foldl (fun a d => a.deliverBlock market d.slot d.block d.fails) { c with waiting := [] }

/-- A window boundary (spec/11 R289, R303, R308): after 1,600 samples; samples that have come since belong to the next window.
`fails`: the commit's read-back fails. -/
def windowBoundary (c : CdySt) (market : Nat) (fails : Bool) : CdySt :=
  if c.mode = .metering ∧ 1600 ≤ c.samples then
    let k := c.samples - 1600
    let c1 := ((((c.early k).closeWindow 1600 true).startIntervals).turnInputs).late c k
    ((c1.serveCal.serveSnaps market).serveCommit fails).nextDeliveries market
  else c

/-- The reason a Caddy image is refused for (spec/21 R552). -/
def imageReason (c : CdySt) (market : Nat) (b : List Byte) (fails : Bool) : Option Nat :=
  let f := Config.caddyImage b
  if !c.sealOpen then some 1
  else if leNat (f 8) = 0 ∨ 1048576 < b.length ∨ Config.sha384 (f 1) ≠ f 2 then some 2
  else if leNat (f 6) ≠ market then some 3
  else if Config.sha256 (f 3) ≠ Config.authorityHash market then some 4
  else if Config.ecdsaVerify (f 3) (Config.sha384 (f 5)) (f 4) = false then some 5
  else if leNat (f 7) ≤ c.fwVer then some 6
  else if c.logFull then some 7
  else if fails then some 8
  else none

/-- A delivered Caddy image (spec/21 R552, R553): an accepted one is stored and logged, the window in progress is closed
as an orderly stop, and the Caddy restarts with cause 3. -/
def deliverImage (c : CdySt) (market slot : Nat) (b : List Byte) (fails : Bool) : CdySt :=
  match c.imageReason market b fails with
  | some r => (c.logEv 0x23 [wd r]).answer slot 0x204 (wd r) 0 0
  | none =>
    let code := Config.sha256 (Config.caddyImage b 0)
    let ver := leNat (Config.caddyImage b 7)
    let c1 := c.logEv 0x22 [wd c.check, head32 code, wd c.fwVer, wd ver]
    let c2 := c1.endPaths.orderlyStop
    let c3 := { c2 with image := b, check := (head32 code).toNat, fwVer := ver, mode := .starting, restart := 3 }
    ((c3.start 0 c.sealOpen).answer slot 0 (head32 code) 0 0).nextDeliveries market

/-- An entry is visible to a glove (spec/10 R281) under views given as a function of the circuit. -/
def visible (c : CdySt) (view : Nat → Nat) (g : Nat) (e : EvEntry) : Bool :=
  g == 0 || e.legal
    || (decide (0x100 ≤ e.subject) && decide (e.subject < 0x140) && view (e.subject - 0x100) == g)
    || (decide (e.subject < 152) && (List.range 64).any (fun k => (c.circ k).uses e.subject && view k == g))

/-- The stored entries that CDY_LOG_READ delivers (spec/10 R285). -/
def logRead (c : CdySt) (view : Nat → Nat) (g lowest n : Nat) : List EvEntry :=
  (c.log.filter (fun e => decide (lowest ≤ e.seq) && c.visible view g e)).take n

/-- The 64 words of one signal of CDY_HARMONICS over the last complete window: total RMS, groups 1 to 63 (spec/11 R296, R297,
R312). -/
def harmonicBlock (c : CdySt) (i m scale : Nat) : List Byte :=
  let l := (c.inp i).prev.take 1600
  leBytes 4 (sigRms (l.map (fun s => ⟨s.x, s.void, s.clamped⟩)) scale)
    ++ (List.range 63).flatMap (fun h =>
      leBytes 4 (harmonicRms m scale (h + 1) (l.map (fun s => if s.void then none else some s.x))))

/-- The 7 blocks of CDY_HARMONICS, entirely under the block of that window (spec/11 R312, R314). -/
def harmonics (c : CdySt) (k : Nat) : List Byte :=
  let b := c.lastPrm
  let q := Circ.read b k
  let m := if prmFnom b q.vset = 60 then 12 else 10
  let v (p : Nat) : List Byte := if q.voltages.contains (128 + 3 * q.vset + p)
    then c.harmonicBlock (128 + 3 * q.vset + p) m (prmVscale b q.vset) else leBytes 256 0
  let i (u : Bool) (n : Nat) : List Byte := if u then c.harmonicBlock n m (prmIscale b n) else leBytes 256 0
  v 0 ++ v 1 ++ v 2 ++ i (q.typ != 0) q.ia ++ i (q.typ == 3) q.ib ++ i (q.typ == 2 || q.typ == 3) q.ic
    ++ i (q.neutral && (q.typ == 1 || q.typ == 3)) q.inn

/-- CDY_STAT of a powered Caddy (spec/10 R283). -/
def statWord (c : CdySt) : Word :=
  let m := match c.mode with | .unpowered => 0 | .starting => 1 | .metering => 2 | .halted => 3
  wd (m + 16 * c.sealOpen.toNat + 32 * c.fallback.toNat + 64 * c.holdover.toNat + 128 * c.param.isSome.toNat
    + 256 * c.logFull.toNat + 512 * (c.ins.any (fun e => e.2.ovr)).toNat + 1024 * (c.ins.any (fun e => e.2.loss)).toNat
    + 2048 * c.split.toNat + 4096 * ((List.range 152).any (fun i => c.pathState i == 3)).toNat)

/-- The quality of a value formed from the last `n` samples of the inputs `l` (spec/11 R307): `usable` whether any sample could
be used, `fnom` whether f was replaced by FNOM. -/
def instQuality (c : CdySt) (n : Nat) (l : List Nat) (usable fnom : Bool) : Nat :=
  let any (p : Samp → Bool) : Bool := l.any (fun i => (c.recent i n).any p)
  if !c.meters || !usable then 0
  else if fnom || any (·.void) || l.any (fun i => decide ((c.recent i n).length < n)) then 4
  else if any (·.clamped) then 3
  else 1

/-- The value and quality of one instantaneous point of circuit `k` over the last 1,600 samples (spec/11 R296, R307). -/
def instant (c0 : CdySt) (k j : Nat) : Int × Nat :=
  let c := c0.fixAll
  let q := c.circ k
  let n := 1600
  let vs := prmVscale c.prm q.vset
  let f := c.usedFreq q.vset n
  let fnom := ((c.measureFreq q.vset n).1).isNone
  let x := c.sumsOf k f (List.replicate n 1000000000)
  let usable (i : Nat) : Bool := (c.recent i n).any (fun s => !s.void)
  let pairs := q.elements.any (fun e =>
    (List.zipWith (fun (a b : Sig) => !a.void && !b.void) (c.voltSignal e) (c.signal e.2.2)).take n |>.any id)
  let ins := q.elements.flatMap (fun e => [e.1, e.2.2] ++ e.2.1.toList)
  let power (y : Int) (fn : Bool) : Int × Nat := (freeRound ((vs : Int) * y) (2 ^ 60 * n * 100000), c.instQuality n ins pairs fn)
  let rms (i scale : Nat) : Int × Nat := (sigRms (c.rawSignal i n) scale, c.instQuality n [i] (usable i) false)
  let volt (p : Nat) : Int × Nat := rms (128 + 3 * q.vset + p) vs
  let amp (i : Nat) : Int × Nat := rms i (prmIscale c.prm i)
  let r : Int × Nat := match j with
    | 0 => power x.p false
    | 1 => power (if prmReact c.prm then -x.q else x.q) fnom
    | 2 => power x.s false
    | 3 => (if x.s = 0 then 0 else freeRound ((if x.s < 0 then -1 else 1) * x.p * 10000) x.s.natAbs, c.instQuality n ins pairs false)
    | 4 => (f, c.instQuality n [c.freqInput q.vset n] (usable (c.freqInput q.vset n)) fnom)
    | 5 => volt 0
    | 6 => volt 1
    | 7 => volt 2
    | 8 => amp q.ia
    | 9 => amp q.ib
    | 10 => amp q.ic
    | _ => amp q.inn
  if r.2 = 0 then (0, 0) else (clampI (-2 ^ 31) (2 ^ 31 - 1) r.1, r.2)

/-- The points of a circuit that publication writes (spec/11 R307). -/
def instantPoints (c : CdySt) (k : Nat) : List Nat :=
  let q := c.circ k
  (List.range 8) ++ (if q.typ = 0 then [] else [8]) ++ (if q.typ = 3 then [9] else [])
    ++ (if q.typ = 2 ∨ q.typ = 3 then [10] else []) ++ (if q.neutral then [11] else [])

/-- METLED (spec/10 R276): the identity display replaces the pattern for 60 s. -/
def metled (c : CdySt) : Metled :=
  if c.mode ≠ .unpowered ∧ c.ticks < c.ident then .display
  else match c.mode with
    | .unpowered | .starting => .off
    | .halted => .hz5
    | .metering => if c.sealOpen then .hz1 else .steady

/-- The 14 digits of the identity display (spec/10 R276). -/
def identDigits (c : CdySt) (market : Nat) : List Nat :=
  [market / 10, market % 10, c.fwVer / 4096 % 16, c.fwVer / 256 % 16, c.fwVer / 16 % 16, c.fwVer % 16]
    ++ (List.range 8).map (fun k => c.check / 16 ^ (7 - k) % 16)

/-- One pass of the identity display: level and length in ms (spec/10 R276). -/
def identSteps (digits : List Nat) : List (Bool × Nat) :=
  [(true, 2000), (false, 1000)]
    ++ digits.flatMap (fun d => (List.replicate (d + 1) [(true, 200), (false, 200)]).flatten ++ [(false, 1000)])
    ++ [(false, 2000)]

/-- The level `ms` milliseconds into a sequence. -/
def levelAt : List (Bool × Nat) → Nat → Bool
  | [], _ => false
  | (b, n) :: t, ms => if ms < n then b else levelAt t (ms - n)

/-- METLED is lit (spec/10 R276). -/
def metledOn (c : CdySt) (market : Nat) : Bool :=
  match c.metled with
  | .off => false
  | .steady => true
  | .hz1 => decide (c.ticks / 8 % 1000 < 500)
  | .hz5 => decide (c.ticks / 8 % 200 < 100)
  | .display =>
    let l := identSteps (c.identDigits market)
    levelAt l ((c.ticks - c.identAt) / 8 % (l.map (·.2)).foldl (· + ·) 0)

/-- MCLKOUT0 to MCLKOUT3 (spec/01 R15, spec/10 R259, R263). -/
def mclk (c : CdySt) : Mclk := if c.mode = .unpowered then .still else if c.fallback then .fallback else .root700

end CdySt

end Sys2Proof.Machine
end

