-- ==== Sys2Proof/Machine/Catalog.lean ====
section
/-! DEFINITION. The register pages and their registers: page map (spec/03 R56), common header (R59), and one row for
each register of each page with its access kinds (spec/00 R8) and its reset value. -/

namespace Sys2Proof.Machine

-- Offsets of the block registers, by the names of the catalogue; of an array, the first.
namespace Rg
abbrev SYS_MODE : Nat := 0x040
abbrev SYS_BOOT : Nat := 0x044
abbrev SYS_RESTART_POLICY : Nat := 0x048
abbrev SYS_RETAIN : Nat := 0x04C
abbrev SYS_LOOP_COMMIT_SEQ : Nat := 0x050
abbrev SYS_KTL_COMMIT_SEQ : Nat := 0x054
abbrev SYS_MODE_CHANGES : Nat := 0x058
abbrev SYS_RESET : Nat := 0x05C
abbrev SYS_SAFE_CAUSE : Nat := 0x060
abbrev CLK_STAT : Nat := 0x040
abbrev CLK_XIN_PPM : Nat := 0x044
abbrev CLK_UNLOCKS : Nat := 0x048
abbrev PWR_STAT : Nat := 0x040
abbrev PWR_VIN : Nat := 0x044
abbrev PWR_VBAT : Nat := 0x048
abbrev PWR_VMET : Nat := 0x04C
abbrev PWR_TEMP : Nat := 0x050
abbrev PWR_PFW_COUNT : Nat := 0x054
abbrev PWR_LAST_STOP : Nat := 0x058
abbrev LCS_STATE : Nat := 0x040
abbrev LCS_COUNT : Nat := 0x044
abbrev LCS_SERIAL_LO : Nat := 0x048
abbrev LCS_SERIAL_HI : Nat := 0x04C
abbrev KEY_STAT : Nat := 0x040
abbrev KEY_SEEDS0 : Nat := 0x044
abbrev KEY_SEEDS1 : Nat := 0x048
abbrev KEY_OPS : Nat := 0x04C
abbrev KEY_RNG_FAILS : Nat := 0x050
abbrev KEY_TAMPERS : Nat := 0x054
abbrev KEY_OPSEED0 : Nat := 0x058
abbrev KEY_OPSEED1 : Nat := 0x05C
abbrev UPD_CTRL : Nat := 0x040
abbrev UPD_STAT : Nat := 0x044
abbrev UPD_VER_A : Nat := 0x048
abbrev UPD_VER_B : Nat := 0x04C
abbrev UPD_ROLLBACK : Nat := 0x050
abbrev UPD_TRIAL_LEFT : Nat := 0x054
abbrev UPD_PROGRESS : Nat := 0x058
abbrev UPD_CHUNK_FAILS : Nat := 0x05C
abbrev UPD_RELAYED : Nat := 0x060
abbrev UPD_LOADED : Nat := 0x064
abbrev FLT_SEL : Nat := 0x040
abbrev FLT_SEV : Nat := 0x044
abbrev FLT_ACTIVE : Nat := 0x048
abbrev FLT_NOTE : Nat := 0x060
abbrev FLT_CTRL : Nat := 0x078
abbrev HST_STAT : Nat := 0x040
abbrev HST_RC_KHZ : Nat := 0x044
abbrev HST_GAP_MAX : Nat := 0x048
abbrev GLV_ACTIVE0 : Nat := 0x040
abbrev GLV_ACTIVE1 : Nat := 0x044
abbrev GLV_VIOL_NZ0 : Nat := 0x048
abbrev GLV_VIOL_NZ1 : Nat := 0x04C
abbrev GLV_CTRL : Nat := 0x100
abbrev GLV_MEM : Nat := 0x104
abbrev GLV_VIOL : Nat := 0x108
abbrev GLV_SLOTS : Nat := 0x10C
abbrev GLV_QMAP : Nat := 0x800
abbrev CMD_ARG : Nat := 0x040
abbrev CMD_OP : Nat := 0x060
abbrev CMD_TICKET : Nat := 0x064
abbrev CMD_CQ : Nat := 0x068
abbrev CMD_POLL : Nat := 0x06C
abbrev CMD_POLL_STAT : Nat := 0x070
abbrev CMD_POLL_RES : Nat := 0x074
abbrev CMD_POLL_TS_SEC : Nat := 0x080
abbrev CMD_POLL_TS_NS : Nat := 0x084
abbrev CMD_INFLIGHT : Nat := 0x088
abbrev CMD_NOSLOT : Nat := 0x08C
abbrev RTC_TIME : Nat := 0x040
abbrev RTC_DATE : Nat := 0x044
abbrev RTC_SET_TIME : Nat := 0x048
abbrev RTC_SET_DATE : Nat := 0x04C
abbrev RTC_CTRL : Nat := 0x050
abbrev RTC_NUDGE : Nat := 0x054
abbrev RTC_STAT : Nat := 0x058
abbrev TMB_CTRL : Nat := 0x040
abbrev TMB_KP_KI : Nat := 0x044
abbrev TMB_LOCK : Nat := 0x048
abbrev TMB_HOLD_MS : Nat := 0x04C
abbrev TMB_UTC_OFS : Nat := 0x050
abbrev TMB_OFS_HI : Nat := 0x054
abbrev TMB_OFS_LO : Nat := 0x058
abbrev TMB_RATE : Nat := 0x05C
abbrev TMB_NOW_NS : Nat := 0x060
abbrev TMB_NOW_SEC_LO : Nat := 0x064
abbrev TMB_NOW_SEC_HI : Nat := 0x068
abbrev TMB_NOW_FRAC : Nat := 0x06C
abbrev TMB_STAT : Nat := 0x070
abbrev TMB_LAST_OFS_LO : Nat := 0x074
abbrev TMB_LAST_OFS_HI : Nat := 0x078
abbrev TMB_STEPS : Nat := 0x07C
abbrev TMB_SET_SEC_LO : Nat := 0x080
abbrev TMB_SET_SEC_HI : Nat := 0x084
abbrev TMB_SET_NS : Nat := 0x088
abbrev TMB_LATE_WIN : Nat := 0x08C
abbrev TMB_LATE_DROP : Nat := 0x090
abbrev TMB_LATE_SENT : Nat := 0x094
abbrev TMB_LAUNCH_FAR : Nat := 0x098
abbrev TMB_CAPTURE : Nat := 0x09C
abbrev TMB_CAP_NS : Nat := 0x0A0
abbrev TMB_CAP_SEC_LO : Nat := 0x0A4
abbrev TMB_CAP_SEC_HI : Nat := 0x0A8
abbrev TMB_CAP_FRAC : Nat := 0x0AC
abbrev RS_CTRL : Nat := 0x040
abbrev RS_TXEQ : Nat := 0x044
abbrev RS_AUTH : Nat := 0x048
abbrev RS_STAT : Nat := 0x04C
abbrev RS_RING : Nat := 0x050
abbrev RS_MAP : Nat := 0x054
abbrev RS_TX_FRAMES : Nat := 0x064
abbrev RS_RX_FRAMES : Nat := 0x068
abbrev RS_FCS_ERR : Nat := 0x06C
abbrev RS_POISON_RX : Nat := 0x070
abbrev RS_TAG_ERR : Nat := 0x074
abbrev RS_FEC_CORR : Nat := 0x078
abbrev RS_FEC_UNCORR : Nat := 0x07C
abbrev RS_DROP_BUF : Nat := 0x080
abbrev RS_DROP_DOWN : Nat := 0x084
abbrev RS_HOP_DROP : Nat := 0x088
abbrev RS_LINK_DOWNS : Nat := 0x08C
abbrev RS_AUTH_FAILS : Nat := 0x090
abbrev RS_DESKEW : Nat := 0x094
abbrev RS_VLAN_MISS : Nat := 0x098
abbrev RS_VMAP : Nat := 0x100
abbrev TPI_CTRL : Nat := 0x040
abbrev TPI_WIN : Nat := 0x044
abbrev TPI_CYCLE_LO : Nat := 0x048
abbrev TPI_CYCLE_HI : Nat := 0x04C
abbrev TPI_STAT : Nat := 0x050
abbrev TPI_TX_FRAMES : Nat := 0x054
abbrev TPI_RX_FRAMES : Nat := 0x058
abbrev TPI_BAD_HDR : Nat := 0x05C
abbrev TPI_REC_DENY : Nat := 0x060
abbrev TPI_CLASH : Nat := 0x064
abbrev TPI_STALE_NOW : Nat := 0x068
abbrev TPI_EVQ : Nat := 0x06C
abbrev PTB_MAP_BASE_LO : Nat := 0x040
abbrev PTB_MAP_BASE_HI : Nat := 0x044
abbrev PTB_COUNT : Nat := 0x048
abbrev PTB_LOCAL : Nat := 0x04C
abbrev PTB_WDENY : Nat := 0x050
abbrev PTB_FORCED : Nat := 0x054
abbrev PTB_CE : Nat := 0x058
abbrev LSE_CTRL : Nat := 0x040
abbrev LSE_TIMING : Nat := 0x044
abbrev LSE_GT_BASE_LO : Nat := 0x048
abbrev LSE_GT_BASE_HI : Nat := 0x04C
abbrev LSE_AL_BASE_LO : Nat := 0x050
abbrev LSE_AL_BASE_HI : Nat := 0x054
abbrev LSE_TX_OFS : Nat := 0x058
abbrev LSE_AUTH : Nat := 0x05C
abbrev LSE_STAT : Nat := 0x060
abbrev LSE_CHAN : Nat := 0x064
abbrev LSE_HELD : Nat := 0x068
abbrev LSE_LOST : Nat := 0x06C
abbrev LSE_NAKS : Nat := 0x070
abbrev LSE_RECLAIMS : Nat := 0x074
abbrev LSE_MISMATCH : Nat := 0x078
abbrev LSE_MIS_UNRES : Nat := 0x07C
abbrev LSE_MIS_CFG : Nat := 0x080
abbrev LSE_SUP_CHANGES : Nat := 0x084
abbrev LSE_WARM_GEN : Nat := 0x088
abbrev LSE_ADOPTIONS : Nat := 0x08C
abbrev FP_CFG : Nat := 0x040
abbrev FP_GCTL : Nat := 0x044
abbrev FP_MAC_LO : Nat := 0x048
abbrev FP_MAC_HI : Nat := 0x04C
abbrev FP_PHY_LAT : Nat := 0x050
abbrev FP_EEE_CTL : Nat := 0x054
abbrev FP_EEE_TW : Nat := 0x058
abbrev FP_STAT : Nat := 0x05C
abbrev FP_MDIO_CTL : Nat := 0x060
abbrev FP_MDIO_STAT : Nat := 0x064
abbrev FP_FILT_LO : Nat := 0x080
abbrev FP_FILT_HI : Nat := 0x084
abbrev FP_TX_FRAMES : Nat := 0x0C0
abbrev FP_RX_FRAMES : Nat := 0x0C4
abbrev FP_RX_FCS_ERR : Nat := 0x0C8
abbrev FP_RX_LEN_ERR : Nat := 0x0CC
abbrev FP_RX_FILTERED : Nat := 0x0D0
abbrev FP_RX_VLAN_MISS : Nat := 0x0D4
abbrev FP_RX_NOQ : Nat := 0x0D8
abbrev FP_RX_OVF : Nat := 0x0DC
abbrev FP_RX_QFULL : Nat := 0x0E0
abbrev FP_LPI_ENTRIES : Nat := 0x0E4
abbrev FP_VMAP : Nat := 0x100
abbrev CAN_CFG : Nat := 0x040
abbrev CAN_NBT : Nat := 0x044
abbrev CAN_DBT : Nat := 0x048
abbrev CAN_TDC : Nat := 0x04C
abbrev CAN_CTRL : Nat := 0x050
abbrev CAN_STAT : Nat := 0x054
abbrev CAN_ERRCNT : Nat := 0x058
abbrev CAN_RAM_BANK : Nat := 0x05C
abbrev CAN_NEWDAT : Nat := 0x060
abbrev CAN_MSGLOST : Nat := 0x068
abbrev CAN_TXREQ : Nat := 0x070
abbrev CAN_TXPEND : Nat := 0x078
abbrev CAN_TXCANCEL : Nat := 0x080
abbrev CAN_TXDONE : Nat := 0x088
abbrev CAN_BUFCFG : Nat := 0x090
abbrev CAN_RXF : Nat := 0x098
abbrev CAN_RXF_ACK : Nat := 0x0A0
abbrev CAN_TT_CYCLE : Nat := 0x0A8
abbrev CAN_TT_REF : Nat := 0x0AC
abbrev CAN_TT_COUNT : Nat := 0x0B0
abbrev CAN_TT_STAMP_LO : Nat := 0x0B4
abbrev CAN_TT_STAMP_HI : Nat := 0x0B8
abbrev CAN_ABD : Nat := 0x0C0
abbrev CAN_RX_FRAMES : Nat := 0x0E0
abbrev CAN_TX_FRAMES : Nat := 0x0E4
abbrev CAN_RX_NOMATCH : Nat := 0x0E8
abbrev CAN_RX_LOST : Nat := 0x0EC
abbrev CAN_ERR_FRAMES : Nat := 0x0F0
abbrev CAN_BUSOFFS : Nat := 0x0F4
abbrev CAN_PEX : Nat := 0x0F8
abbrev CAN_TT_MISSED : Nat := 0x0FC
abbrev USB_CTRL : Nat := 0x040
abbrev USB_STAT : Nat := 0x044
abbrev USB_WAKE : Nat := 0x048
abbrev USB_RESETS : Nat := 0x04C
abbrev USB_SETUP_DISCARDS : Nat := 0x050
abbrev USB_AUTH_FAILS : Nat := 0x054
abbrev PCI_CTRL : Nat := 0x040
abbrev PCI_STAT : Nat := 0x044
abbrev PCI_VF_GLOVE : Nat := 0x048
abbrev PCI_ERR_CORR : Nat := 0x070
abbrev PCI_ERR_UNCORR : Nat := 0x074
abbrev PCI_LINK_DOWNS : Nat := 0x078
abbrev CES_LT_BASE_LO : Nat := 0x040
abbrev CES_LT_BASE_HI : Nat := 0x044
abbrev CES_TICK_LO : Nat := 0x048
abbrev CES_TICK_HI : Nat := 0x04C
abbrev CES_STEAL : Nat := 0x050
abbrev CES_OWN : Nat := 0x054
abbrev CES_ADOPT : Nat := 0x058
abbrev CES_LIMITS : Nat := 0x05C
abbrev CES_ROM_ID : Nat := 0x060
abbrev CES_LATE_TOTAL : Nat := 0x064
abbrev CEA_STAT : Nat := 0x040
abbrev CEA_ROLE_BASE_LO : Nat := 0x044
abbrev CEA_ROLE_BASE_HI : Nat := 0x048
abbrev CEA_ROLES : Nat := 0x04C
abbrev CEA_LINES : Nat := 0x050
abbrev CEA_LATE : Nat := 0x054
abbrev CEA_STEALS : Nat := 0x058
abbrev CEA_STALL : Nat := 0x05C
abbrev CEA_OCC : Nat := 0x060
abbrev CEA_OCC_PEAK : Nat := 0x064
abbrev CEA_OCC_WARN : Nat := 0x068
abbrev CEA_DEPTH_MAX : Nat := 0x06C
abbrev CEA_SRAM_CE : Nat := 0x070
abbrev KTL_WORK_BASE_LO : Nat := 0x040
abbrev KTL_WORK_BASE_HI : Nat := 0x044
abbrev KTL_ROLES : Nat := 0x048
abbrev KTL_OCC : Nat := 0x04C
abbrev KTL_OCC_PEAK : Nat := 0x050
abbrev KTL_LATE : Nat := 0x054
abbrev KTL_SLACK_MIN : Nat := 0x058
abbrev KTL_COMMITS : Nat := 0x05C
abbrev KTL_COMMIT_SKIP : Nat := 0x060
abbrev KTL_ROM_ID : Nat := 0x064
abbrev KTL_WORK_CE : Nat := 0x068
abbrev AIN_RANGE : Nat := 0x040
abbrev AIN_OVR : Nat := 0x044
abbrev AIN_CLAMP : Nat := 0x048
abbrev AIN_SHUNT : Nat := 0x04C
abbrev AIN_DISCARDS : Nat := 0x050
abbrev AIN_RES : Nat := 0x080
abbrev AIN_PT : Nat := 0x0C0
abbrev PIN_QERR : Nat := 0x040
abbrev PIN_CFG : Nat := 0x100
abbrev PIN_TMO : Nat := 0x104
abbrev PIN_PT : Nat := 0x108
abbrev PIN_VAL : Nat := 0x10C
abbrev PIN_QUAL : Nat := 0x110
abbrev PIN_IDXEXP : Nat := 0x200
abbrev PIN_IDXPER : Nat := 0x204
abbrev PIN_IDXTOL : Nat := 0x208
abbrev PIN_IDXDRIFT : Nat := 0x20C
abbrev PIN_IDXCAP : Nat := 0x210
abbrev PIN_IDXSTAT : Nat := 0x214
abbrev AOUT_RANGE : Nat := 0x040
abbrev AOUT_OVL : Nat := 0x044
abbrev AOUT_SRC : Nat := 0x048
abbrev AOUT_PT : Nat := 0x080
abbrev AOUT_HAT : Nat := 0x0A0
abbrev AOUT_CODE : Nat := 0x0C0
abbrev DIO_IN : Nat := 0x040
abbrev DIO_OUT : Nat := 0x044
abbrev DIO_OVL : Nat := 0x048
abbrev DIO_VIO : Nat := 0x04C
abbrev DIO_PWMPER : Nat := 0x050
abbrev DIO_CFG : Nat := 0x100
abbrev DIO_PT : Nat := 0x104
abbrev CDY_STAT : Nat := 0x040
abbrev CDY_FW_VER : Nat := 0x044
abbrev CDY_FW_CHECK : Nat := 0x048
abbrev CDY_MARKET : Nat := 0x04C
abbrev CDY_PARAM_ID : Nat := 0x050
abbrev CDY_SERIAL_LO : Nat := 0x054
abbrev CDY_SERIAL_HI : Nat := 0x058
abbrev CDY_EVT_COUNT : Nat := 0x05C
abbrev CDY_EVT_LEGAL : Nat := 0x060
abbrev CDY_CLK_ERR : Nat := 0x064
abbrev CDY_CIRC_DEF0 : Nat := 0x068
abbrev CDY_CIRC_DEF1 : Nat := 0x06C
abbrev CDY_OVR : Nat := 0x070
abbrev CDY_LOSS : Nat := 0x084
abbrev GVW_CTRL : Nat := 0x040
abbrev GVW_MEM : Nat := 0x044
abbrev GVW_SLOTS : Nat := 0x048
abbrev GVW_POINTS : Nat := 0x04C
abbrev GVW_LOOPS : Nat := 0x050
abbrev GVW_TASKS : Nat := 0x054
abbrev GVW_CIRC : Nat := 0x058
abbrev GVW_QBLK : Nat := 0x060
abbrev GVW_KEYS : Nat := 0x080
abbrev GVW_SEED : Nat := 0x084
end Rg

/-- The kinds of page (spec/03 R56). -/
inductive PageKind
  | sys | clk | pwr | lcs | key | upd | flt | hst | glv | cmd | rtc | tmb | rs | tpi | ptb | lse | fp | can | usb
  | pci | ces | cea | ktl | ain | pin | aout | dio | cdy | gvw
  deriving DecidableEq, Repr

/-- Whether a write of STOP to PG_RUN takes effect (spec/03 R56, column Stop). -/
inductive StopRule
  | no | yes | limited
  deriving DecidableEq, Repr

/-- One line of the page map: first index, number of instances, kind, block type, first instance number, stop. -/
structure PageRow where
  first : Nat
  count : Nat
  kind : PageKind
  block : Nat
  inst : Nat
  stop : StopRule
  deriving DecidableEq, Repr

/-- The page map of spec/03 R56, the QDB pages apart. -/
def pageMap : List PageRow :=
  [ ⟨0x000, 1, .sys, 0x0001, 0, .no⟩, ⟨0x001, 1, .clk, 0x0002, 0, .no⟩, ⟨0x002, 1, .pwr, 0x0003, 0, .no⟩,
    ⟨0x003, 1, .lcs, 0x0004, 0, .no⟩, ⟨0x004, 1, .key, 0x0005, 0, .yes⟩, ⟨0x005, 1, .upd, 0x0006, 0, .yes⟩,
    ⟨0x006, 1, .flt, 0x0007, 0, .no⟩, ⟨0x007, 1, .hst, 0x0008, 0, .no⟩, ⟨0x008, 1, .glv, 0x0009, 0, .no⟩,
    ⟨0x009, 1, .cmd, 0x000A, 0, .no⟩, ⟨0x00A, 1, .rtc, 0x000B, 0, .no⟩, ⟨0x00B, 1, .tmb, 0x000C, 0, .yes⟩,
    ⟨0x00C, 1, .tmb, 0x000C, 1, .no⟩, ⟨0x00D, 2, .tmb, 0x000C, 2, .yes⟩, ⟨0x010, 2, .rs, 0x0010, 0, .yes⟩,
    ⟨0x012, 1, .tpi, 0x0011, 0, .yes⟩, ⟨0x013, 1, .ptb, 0x0012, 0, .yes⟩, ⟨0x014, 1, .lse, 0x0013, 0, .yes⟩,
    ⟨0x018, 8, .fp, 0x0018, 0, .yes⟩, ⟨0x020, 8, .can, 0x0020, 0, .yes⟩, ⟨0x028, 1, .usb, 0x0028, 0, .yes⟩,
    ⟨0x029, 1, .pci, 0x0029, 0, .yes⟩, ⟨0x03F, 1, .ces, 0x003F, 0, .limited⟩, ⟨0x040, 4, .cea, 0x0040, 0, .limited⟩,
    ⟨0x048, 4, .ktl, 0x0048, 0, .limited⟩, ⟨0x050, 1, .ain, 0x0050, 0, .yes⟩, ⟨0x051, 1, .pin, 0x0051, 0, .yes⟩,
    ⟨0x052, 1, .aout, 0x0052, 0, .yes⟩, ⟨0x053, 1, .dio, 0x0053, 0, .yes⟩, ⟨0x060, 1, .cdy, 0x0060, 0, .no⟩,
    ⟨0x080, 64, .gvw, 0x0080, 0, .no⟩ ]

/-- The row of the page map that holds page index `p`. -/
def pageRow (p : Nat) : Option PageRow :=
  pageMap.find? (fun r => decide (r.first ≤ p) && decide (p < r.first + r.count))

/-- The kind of page `p`, none for an unassigned index or a QDB page. -/
def pageKind (p : Nat) : Option PageKind := (pageRow p).map (·.kind)

/-- The instance number of page `p` (PG_ID[15:8]). -/
def pageInst (p : Nat) : Nat :=
  match pageRow p with
  | some r => r.inst + (p - r.first)
  | none => 0

/-- RUN_CTRL of page `p` (spec/03 R60): a write of STOP can take effect. -/
def runCtrl (p : Nat) : Bool :=
  match pageRow p with
  | some r => decide (r.stop ≠ .no)
  | none => false

/-- The indices of the pages that carry a header. -/
def allPages : List Nat := pageMap.flatMap (fun r => (List.range r.count).map (· + r.first))

/-- QDB pages (spec/03 R58). -/
def isQdb (p : Nat) : Bool := decide (0x100 ≤ p) && decide (p ≤ 0x17F)

namespace Pg
abbrev sys : Nat := 0x000
abbrev clk : Nat := 0x001
abbrev pwr : Nat := 0x002
abbrev lcs : Nat := 0x003
abbrev key : Nat := 0x004
abbrev upd : Nat := 0x005
abbrev flt : Nat := 0x006
abbrev hst : Nat := 0x007
abbrev glv : Nat := 0x008
abbrev cmd : Nat := 0x009
abbrev rtc : Nat := 0x00A
abbrev tpi : Nat := 0x012
abbrev ptb : Nat := 0x013
abbrev lse : Nat := 0x014
abbrev usb : Nat := 0x028
abbrev pci : Nat := 0x029
abbrev ces : Nat := 0x03F
abbrev ain : Nat := 0x050
abbrev pin : Nat := 0x051
abbrev aout : Nat := 0x052
abbrev dio : Nat := 0x053
abbrev cdy : Nat := 0x060
/-- Time base page. -/
abbrev tmb (n : Nat) : Nat := 0x00B + n
/-- Riser page: 0 east, 1 west. -/
abbrev rs (n : Nat) : Nat := 0x010 + n
/-- Floor port page. -/
abbrev fp (n : Nat) : Nat := 0x018 + n
/-- CAN channel page. -/
abbrev can (n : Nat) : Nat := 0x020 + n
/-- Channel page, 0 = A. -/
abbrev cea (c : Nat) : Nat := 0x040 + c
/-- Kettle page of a channel. -/
abbrev ktl (c : Nat) : Nat := 0x048 + c
/-- Glove view page. -/
abbrev gvw (g : Nat) : Nat := 0x080 + g
end Pg

-- Offsets of the common header (spec/03 R59).
namespace Hd
abbrev id : Nat := 0x000
abbrev cap : Nat := 0x004
abbrev run : Nat := 0x008
abbrev stat : Nat := 0x00C
abbrev irqRaw : Nat := 0x010
abbrev irqEn : Nat := 0x014
abbrev irqPend : Nat := 0x018
abbrev owner : Nat := 0x01C
abbrev drop : Nat := 0x020
abbrev sticky : Nat := 0x024
end Hd

/-- A register, or an array of registers at a stride: the masks of its fields by access kind (spec/00 R8), whether
its RW and RWS fields are recorded by CFG_SAVE (spec/03 R74), whether only glove 0 writes it (spec/03 R67), and its
reset value. -/
structure RegRow where
  name : String
  off : Nat
  rw : Word := 0
  rws : Word := 0
  w1c : Word := 0
  wo : Word := 0
  reset : Word := 0
  saved : Bool := true
  op0 : Bool := false
  stride : Nat := 4
  count : Nat := 1
  deriving DecidableEq, Repr

/-- All 32 bits. -/
abbrev full : Word := 0xFFFFFFFF

/-- A read-only register. -/
abbrev rRO (n : String) (off : Nat) (reset : Word := 0) : RegRow := ⟨n, off, 0, 0, 0, 0, reset, false, false, 4, 1⟩
/-- A read-write register with the given writable bits. -/
abbrev rRW (n : String) (off : Nat) (m : Word := full) (reset : Word := 0) : RegRow :=
  ⟨n, off, m, 0, 0, 0, reset, true, false, 4, 1⟩
/-- A register frozen while its page is not STOPPED. -/
abbrev rRWS (n : String) (off : Nat) (m : Word := full) (reset : Word := 0) : RegRow :=
  ⟨n, off, 0, m, 0, 0, reset, true, false, 4, 1⟩
/-- A counter: "write loads", and not recorded by CFG_SAVE. -/
abbrev rCNT (n : String) (off : Nat) (m : Word := full) (reset : Word := 0) : RegRow :=
  ⟨n, off, m, 0, 0, 0, reset, false, false, 4, 1⟩
/-- Bits cleared by writing 1. -/
abbrev rW1C (n : String) (off : Nat) (m : Word := full) : RegRow := ⟨n, off, 0, 0, m, 0, 0, false, false, 4, 1⟩
/-- A write-only register. -/
abbrev rWO (n : String) (off : Nat) (m : Word := full) : RegRow := ⟨n, off, 0, 0, 0, m, 0, false, false, 4, 1⟩
/-- The row as an array of `k` registers at stride `st`. -/
abbrev RegRow.arr (r : RegRow) (st k : Nat) : RegRow := { r with stride := st, count := k }

/-- SYS (spec/02 R39). -/
def catSys : List RegRow :=
  [ rRO "SYS_MODE" 0x040 8, rRO "SYS_BOOT" 0x044, rRW "SYS_RESTART_POLICY" 0x048 0x31,
    rRO "SYS_RETAIN" 0x04C, rRO "SYS_LOOP_COMMIT_SEQ" 0x050, rRO "SYS_KTL_COMMIT_SEQ" 0x054,
    rRO "SYS_MODE_CHANGES" 0x058, rWO "SYS_RESET" 0x05C, rRO "SYS_SAFE_CAUSE" 0x060 ]

/-- CLK (spec/23 R595). -/
def catClk : List RegRow := [ rRO "CLK_STAT" 0x040 3, rRO "CLK_XIN_PPM" 0x044, rCNT "CLK_UNLOCKS" 0x048 ]

/-- PWR (spec/22 R578). -/
def catPwr : List RegRow :=
  [ rRO "PWR_STAT" 0x040, rRO "PWR_VIN" 0x044, rRO "PWR_VBAT" 0x048, rRO "PWR_VMET" 0x04C, rRO "PWR_TEMP" 0x050,
    rCNT "PWR_PFW_COUNT" 0x054, rRO "PWR_LAST_STOP" 0x058 ]

/-- LCS (spec/20 R533). -/
def catLcs : List RegRow :=
  [ rRO "LCS_STATE" 0x040, rRO "LCS_COUNT" 0x044, rRO "LCS_SERIAL_LO" 0x048, rRO "LCS_SERIAL_HI" 0x04C ]

/-- KEY (spec/20 R532). -/
def catKey : List RegRow :=
  [ rRO "KEY_STAT" 0x040, rRO "KEY_SEEDS0" 0x044, rRO "KEY_SEEDS1" 0x048, rCNT "KEY_OPS" 0x04C,
    rCNT "KEY_RNG_FAILS" 0x050, rCNT "KEY_TAMPERS" 0x054, rRO "KEY_OPSEED0" 0x058, rRO "KEY_OPSEED1" 0x05C ]

/-- UPD (spec/21 R554). -/
def catUpd : List RegRow :=
  [ rRWS "UPD_CTRL" 0x040 3 3, rRO "UPD_STAT" 0x044, rRO "UPD_VER_A" 0x048, rRO "UPD_VER_B" 0x04C,
    rRO "UPD_ROLLBACK" 0x050, rRO "UPD_TRIAL_LEFT" 0x054, rRO "UPD_PROGRESS" 0x058, rCNT "UPD_CHUNK_FAILS" 0x05C,
    rCNT "UPD_RELAYED" 0x060, (rRO "UPD_LOADED" 0x064).arr 4 4 ]

/-- FLT (spec/22 R575). FLT_SEL is banked per requester. -/
def catFlt : List RegRow :=
  [ rRW "FLT_SEL" 0x040 0x1FFF, { rRW "FLT_SEV" 0x044 7 with saved := false },
    (rRO "FLT_ACTIVE" 0x048).arr 4 6, (rW1C "FLT_NOTE" 0x060).arr 4 6, rWO "FLT_CTRL" 0x078 ]

/-- HST (spec/22 R578). -/
def catHst : List RegRow := [ rRO "HST_STAT" 0x040 0x80, rRO "HST_RC_KHZ" 0x044, rCNT "HST_GAP_MAX" 0x048 0xFFFF ]

/-- GLV (spec/05 R123). -/
def catGlv : List RegRow :=
  [ rRO "GLV_ACTIVE0" 0x040 1, rRO "GLV_ACTIVE1" 0x044, rRO "GLV_VIOL_NZ0" 0x048, rRO "GLV_VIOL_NZ1" 0x04C,
    (rRO "GLV_CTRL" 0x100).arr 16 64, (rRO "GLV_MEM" 0x104).arr 16 64, (rCNT "GLV_VIOL" 0x108).arr 16 64,
    (rRO "GLV_SLOTS" 0x10C).arr 16 64, (rRO "GLV_QMAP" 0x800).arr 4 64 ]

/-- CMD, banked per requester (spec/04 R87); none of its registers is recorded by CFG_SAVE. -/
def catCmd : List RegRow :=
  [ (rCNT "CMD_ARG" 0x040).arr 4 8, rWO "CMD_OP" 0x060, rRO "CMD_TICKET" 0x064, rCNT "CMD_CQ" 0x068 0x80007FFF,
    rCNT "CMD_POLL" 0x06C, rRO "CMD_POLL_STAT" 0x070, (rRO "CMD_POLL_RES" 0x074).arr 4 3,
    rRO "CMD_POLL_TS_SEC" 0x080, rRO "CMD_POLL_TS_NS" 0x084, rRO "CMD_INFLIGHT" 0x088, rCNT "CMD_NOSLOT" 0x08C ]

/-- RTC (spec/15 R420); no field is recorded by CFG_SAVE. -/
def catRtc : List RegRow :=
  [ rRO "RTC_TIME" 0x040, rRO "RTC_DATE" 0x044, rCNT "RTC_SET_TIME" 0x048, rCNT "RTC_SET_DATE" 0x04C 0xFFFFFF,
    rWO "RTC_CTRL" 0x050 1, rCNT "RTC_NUDGE" 0x054 0xFFFF, rRO "RTC_STAT" 0x058 ]

/-- TMB0 to TMB3 (spec/15 R417). -/
def catTmb : List RegRow :=
  [ rRWS "TMB_CTRL" 0x040 3 2, rRWS "TMB_KP_KI" 0x044 full 0x00100100, rRWS "TMB_LOCK" 0x048 0xFFFFFF 0x001003E8,
    rRWS "TMB_HOLD_MS" 0x04C 0xFFFF 0x7D0, rRWS "TMB_UTC_OFS" 0x050 full 0x25, rWO "TMB_OFS_HI" 0x054,
    rWO "TMB_OFS_LO" 0x058, rCNT "TMB_RATE" 0x05C, rRO "TMB_NOW_NS" 0x060, rRO "TMB_NOW_SEC_LO" 0x064,
    rRO "TMB_NOW_SEC_HI" 0x068, rRO "TMB_NOW_FRAC" 0x06C, rRO "TMB_STAT" 0x070, rRO "TMB_LAST_OFS_LO" 0x074,
    rRO "TMB_LAST_OFS_HI" 0x078, rCNT "TMB_STEPS" 0x07C, { rRWS "TMB_SET_SEC_LO" 0x080 with saved := false },
    { rRWS "TMB_SET_SEC_HI" 0x084 with saved := false }, { rRWS "TMB_SET_NS" 0x088 0xBFFFFFFF with saved := false },
    rRW "TMB_LATE_WIN" 0x08C 0x800FFFFF 0xA, rCNT "TMB_LATE_DROP" 0x090, rCNT "TMB_LATE_SENT" 0x094,
    rCNT "TMB_LAUNCH_FAR" 0x098, rWO "TMB_CAPTURE" 0x09C 1, (rRO "TMB_CAP_NS" 0x0A0).arr 16 4,
    (rRO "TMB_CAP_SEC_LO" 0x0A4).arr 16 4, (rRO "TMB_CAP_SEC_HI" 0x0A8).arr 16 4, (rRO "TMB_CAP_FRAC" 0x0AC).arr 16 4 ]

/-- RSE and RSW (spec/14 R390, R391). -/
def catRs : List RegRow :=
  [ rRWS "RS_CTRL" 0x040 7 4, rRWS "RS_TXEQ" 0x044 0xF0F 0x400, rRWS "RS_AUTH" 0x048 0xFF, rRO "RS_STAT" 0x04C,
    rRO "RS_RING" 0x050 0x100, (rRO "RS_MAP" 0x054).arr 4 4, rCNT "RS_TX_FRAMES" 0x064, rCNT "RS_RX_FRAMES" 0x068,
    rCNT "RS_FCS_ERR" 0x06C, rCNT "RS_POISON_RX" 0x070, rCNT "RS_TAG_ERR" 0x074, rCNT "RS_FEC_CORR" 0x078,
    rCNT "RS_FEC_UNCORR" 0x07C, rCNT "RS_DROP_BUF" 0x080, rCNT "RS_DROP_DOWN" 0x084, rCNT "RS_HOP_DROP" 0x088,
    rCNT "RS_LINK_DOWNS" 0x08C, rCNT "RS_AUTH_FAILS" 0x090, rRO "RS_DESKEW" 0x094, rCNT "RS_VLAN_MISS" 0x098,
    { (rRW "RS_VMAP" 0x100 0x3F1FFF).arr 4 64 with op0 := true } ]

/-- TPI (spec/13 R370). -/
def catTpi : List RegRow :=
  [ rRWS "TPI_CTRL" 0x040 0xFFFF00F7 0x32, rRWS "TPI_WIN" 0x044 0x3FFF 0xFA, rRO "TPI_CYCLE_LO" 0x048,
    rRO "TPI_CYCLE_HI" 0x04C, rRO "TPI_STAT" 0x050, rCNT "TPI_TX_FRAMES" 0x054, rCNT "TPI_RX_FRAMES" 0x058,
    rCNT "TPI_BAD_HDR" 0x05C, rCNT "TPI_REC_DENY" 0x060, rCNT "TPI_CLASH" 0x064, rRO "TPI_STALE_NOW" 0x068,
    rRO "TPI_EVQ" 0x06C ]

/-- PTB (spec/13 R369). -/
def catPtb : List RegRow :=
  [ rRWS "PTB_MAP_BASE_LO" 0x040 0xFFFC0000, rRWS "PTB_MAP_BASE_HI" 0x044, rRO "PTB_COUNT" 0x048, rRO "PTB_LOCAL" 0x04C,
    rCNT "PTB_WDENY" 0x050, rRO "PTB_FORCED" 0x054, rCNT "PTB_CE" 0x058 ]

/-- LSE (spec/09 R245). -/
def catLse : List RegRow :=
  [ rRWS "LSE_CTRL" 0x040 0x0F7FFFFF 0x03000000, rRWS "LSE_TIMING" 0x044 0xFFFFF 0x000301F4,
    rRWS "LSE_GT_BASE_LO" 0x048 0xFFFFF000, rRWS "LSE_GT_BASE_HI" 0x04C, rRWS "LSE_AL_BASE_LO" 0x050 0xFFFFF000,
    rRWS "LSE_AL_BASE_HI" 0x054, rRWS "LSE_TX_OFS" 0x058 0x3FFF, rRWS "LSE_AUTH" 0x05C 0xFF01, rRO "LSE_STAT" 0x060,
    rRO "LSE_CHAN" 0x064, rRO "LSE_HELD" 0x068, rRO "LSE_LOST" 0x06C, rCNT "LSE_NAKS" 0x070,
    rCNT "LSE_RECLAIMS" 0x074, rCNT "LSE_MISMATCH" 0x078, rCNT "LSE_MIS_UNRES" 0x07C, rRW "LSE_MIS_CFG" 0x080 0xF 3,
    rCNT "LSE_SUP_CHANGES" 0x084, rRO "LSE_WARM_GEN" 0x088, rCNT "LSE_ADOPTIONS" 0x08C ]

/-- FP0 to FP7 (spec/16 R439). -/
def catFp : List RegRow :=
  [ rRWS "FP_CFG" 0x040 0x13F 0x10A, { rRW "FP_GCTL" 0x044 0x13F with op0 := true }, rRWS "FP_MAC_LO" 0x048,
    rRWS "FP_MAC_HI" 0x04C 0xFFFF, rRW "FP_PHY_LAT" 0x050, rRW "FP_EEE_CTL" 0x054 0xFFFF0001 0x00C80000,
    rRW "FP_EEE_TW" 0x058 0xFFFF 0x11, rRO "FP_STAT" 0x05C, rRW "FP_MDIO_CTL" 0x060 0x1FFFFFFF, rRO "FP_MDIO_STAT" 0x064,
    (rRWS "FP_FILT_LO" 0x080).arr 8 8, (rRWS "FP_FILT_HI" 0x084 0x8000FFFF).arr 8 8, rCNT "FP_TX_FRAMES" 0x0C0,
    rCNT "FP_RX_FRAMES" 0x0C4, rCNT "FP_RX_FCS_ERR" 0x0C8, rCNT "FP_RX_LEN_ERR" 0x0CC, rCNT "FP_RX_FILTERED" 0x0D0,
    rCNT "FP_RX_VLAN_MISS" 0x0D4, rCNT "FP_RX_NOQ" 0x0D8, rCNT "FP_RX_OVF" 0x0DC, rCNT "FP_RX_QFULL" 0x0E0,
    rCNT "FP_LPI_ENTRIES" 0x0E4, { (rRW "FP_VMAP" 0x100 0x3F1FFF).arr 4 64 with op0 := true } ]

/-- CAN0 to CAN7 (spec/17 R461); CAN_RAM_BANK is banked per requester, and the RAM window is kept apart. -/
def catCan : List RegRow :=
  [ rRWS "CAN_CFG" 0x040 0x003301FF 0xC, rRWS "CAN_NBT" 0x044 0x7FFFFFFF 0x0F3E1E00,
    rRWS "CAN_DBT" 0x048 0x0F1F0F1F 0x040D0400, rRWS "CAN_TDC" 0x04C 0x7F, rWO "CAN_CTRL" 0x050 1,
    rRO "CAN_STAT" 0x054, rRO "CAN_ERRCNT" 0x058, rCNT "CAN_RAM_BANK" 0x05C 0xF, (rW1C "CAN_NEWDAT" 0x060).arr 4 2,
    (rW1C "CAN_MSGLOST" 0x068).arr 4 2, (rWO "CAN_TXREQ" 0x070).arr 4 2, (rRO "CAN_TXPEND" 0x078).arr 4 2,
    (rWO "CAN_TXCANCEL" 0x080).arr 4 2, (rW1C "CAN_TXDONE" 0x088).arr 4 2, (rRWS "CAN_BUFCFG" 0x090).arr 4 2,
    (rRO "CAN_RXF" 0x098).arr 4 2, (rWO "CAN_RXF_ACK" 0x0A0 0x3F).arr 4 2, rRWS "CAN_TT_CYCLE" 0x0A8 0xFFFFF 0x2710,
    rRWS "CAN_TT_REF" 0x0AC 0x3FFFFFFF, rRO "CAN_TT_COUNT" 0x0B0, rRO "CAN_TT_STAMP_LO" 0x0B4,
    rRO "CAN_TT_STAMP_HI" 0x0B8, (rRW "CAN_ABD" 0x0C0 0x7FFFFFFF).arr 4 8, rCNT "CAN_RX_FRAMES" 0x0E0,
    rCNT "CAN_TX_FRAMES" 0x0E4, rCNT "CAN_RX_NOMATCH" 0x0E8, rCNT "CAN_RX_LOST" 0x0EC, rCNT "CAN_ERR_FRAMES" 0x0F0,
    rCNT "CAN_BUSOFFS" 0x0F4, rCNT "CAN_PEX" 0x0F8, rCNT "CAN_TT_MISSED" 0x0FC ]

/-- USB (spec/19 R509). -/
def catUsb : List RegRow :=
  [ rRWS "USB_CTRL" 0x040 3 3, rRO "USB_STAT" 0x044, rW1C "USB_WAKE" 0x048 3, rCNT "USB_RESETS" 0x04C,
    rCNT "USB_SETUP_DISCARDS" 0x050, rCNT "USB_AUTH_FAILS" 0x054 ]

/-- PCI (spec/19 R498). -/
def catPci : List RegRow :=
  [ rRWS "PCI_CTRL" 0x040 0x11F 0x112, rRO "PCI_STAT" 0x044,
    { (rRW "PCI_VF_GLOVE" 0x048 0x13F).arr 4 7 with op0 := true }, rCNT "PCI_ERR_CORR" 0x070,
    rCNT "PCI_ERR_UNCORR" 0x074, rCNT "PCI_LINK_DOWNS" 0x078 ]

/-- CES (spec/06 R158). -/
def catCes : List RegRow :=
  [ rRWS "CES_LT_BASE_LO" 0x040 0xFFE00000, rRWS "CES_LT_BASE_HI" 0x044, rRO "CES_TICK_LO" 0x048,
    rRO "CES_TICK_HI" 0x04C, rRWS "CES_STEAL" 0x050 0xF1 0x21, rRO "CES_OWN" 0x054, rRO "CES_ADOPT" 0x058,
    rRO "CES_LIMITS" 0x05C 0x02002000, rRO "CES_ROM_ID" 0x060, rCNT "CES_LATE_TOTAL" 0x064 ]

/-- CEA0 to CEA3 (spec/06 R160). -/
def catCea : List RegRow :=
  [ rRO "CEA_STAT" 0x040, rRWS "CEA_ROLE_BASE_LO" 0x044 0xFFE00000, rRWS "CEA_ROLE_BASE_HI" 0x048,
    rRO "CEA_ROLES" 0x04C, rRO "CEA_LINES" 0x050, rCNT "CEA_LATE" 0x054, rCNT "CEA_STEALS" 0x058,
    rCNT "CEA_STALL" 0x05C, rRO "CEA_OCC" 0x060, rCNT "CEA_OCC_PEAK" 0x064 0xFFFF, rRW "CEA_OCC_WARN" 0x068 0xFFFF,
    rCNT "CEA_DEPTH_MAX" 0x06C 0xFFFF, rCNT "CEA_SRAM_CE" 0x070 ]

/-- KTL0 to KTL3 (spec/08 R215). -/
def catKtl : List RegRow :=
  [ rRWS "KTL_WORK_BASE_LO" 0x040 0xFC000000, rRWS "KTL_WORK_BASE_HI" 0x044, rRO "KTL_ROLES" 0x048,
    rRO "KTL_OCC" 0x04C, rCNT "KTL_OCC_PEAK" 0x050 0xFFFF, rCNT "KTL_LATE" 0x054,
    rCNT "KTL_SLACK_MIN" 0x058 0xFFFF 0xFFFF, rCNT "KTL_COMMITS" 0x05C, rCNT "KTL_COMMIT_SKIP" 0x060,
    rRO "KTL_ROM_ID" 0x064, rCNT "KTL_WORK_CE" 0x068 ]

/-- AIN (spec/18 R481). -/
def catAin : List RegRow :=
  [ rRWS "AIN_RANGE" 0x040, rW1C "AIN_OVR" 0x044 0xFFFF, rRO "AIN_CLAMP" 0x048, rRO "AIN_SHUNT" 0x04C,
    rCNT "AIN_DISCARDS" 0x050, (rRO "AIN_RES" 0x080).arr 4 16, (rRWS "AIN_PT" 0x0C0 0x8000FFFF).arr 4 16 ]

/-- PIN (spec/18 R482, R483). -/
def catPin : List RegRow :=
  [ rCNT "PIN_QERR" 0x040, (rRWS "PIN_CFG" 0x100 0x1FF7).arr 32 8, (rRWS "PIN_TMO" 0x104 0xFFFF 0x3E8).arr 32 8,
    (rRWS "PIN_PT" 0x108 0x8000FFFF).arr 32 8, (rCNT "PIN_VAL" 0x10C).arr 32 8, (rRO "PIN_QUAL" 0x110).arr 32 8,
    (rRWS "PIN_IDXEXP" 0x200).arr 32 4, (rRWS "PIN_IDXPER" 0x204).arr 32 4, (rRWS "PIN_IDXTOL" 0x208 0xFFFF).arr 32 4,
    (rCNT "PIN_IDXDRIFT" 0x20C).arr 32 4, (rRO "PIN_IDXCAP" 0x210).arr 32 4, (rW1C "PIN_IDXSTAT" 0x214 3).arr 32 4 ]

/-- AOUT (spec/18 R484). -/
def catAout : List RegRow :=
  [ rRWS "AOUT_RANGE" 0x040 0xFFFF, rW1C "AOUT_OVL" 0x044 0xFF, rRO "AOUT_SRC" 0x048,
    (rRWS "AOUT_PT" 0x080 0x8000FFFF).arr 4 8, (rRWS "AOUT_HAT" 0x0A0 0xFFFF).arr 4 8, (rRO "AOUT_CODE" 0x0C0).arr 4 8 ]

/-- DIO (spec/18 R485). -/
def catDio : List RegRow :=
  [ rRO "DIO_IN" 0x040, rRO "DIO_OUT" 0x044, rW1C "DIO_OVL" 0x048, rRO "DIO_VIO" 0x04C,
    (rRWS "DIO_PWMPER" 0x050 0xFFFFF 0x3E8).arr 4 4, (rRWS "DIO_CFG" 0x100 0x1FF 8).arr 8 32,
    (rRWS "DIO_PT" 0x104 0x8000FFFF).arr 8 32 ]

/-- CDY (spec/10 R282): read only, held by the Caddy. -/
def catCdy : List RegRow :=
  [ rRO "CDY_STAT" 0x040, rRO "CDY_FW_VER" 0x044, rRO "CDY_FW_CHECK" 0x048, rRO "CDY_MARKET" 0x04C,
    rRO "CDY_PARAM_ID" 0x050, rRO "CDY_SERIAL_LO" 0x054, rRO "CDY_SERIAL_HI" 0x058, rRO "CDY_EVT_COUNT" 0x05C,
    rRO "CDY_EVT_LEGAL" 0x060, rRO "CDY_CLK_ERR" 0x064, rRO "CDY_CIRC_DEF0" 0x068, rRO "CDY_CIRC_DEF1" 0x06C,
    (rRO "CDY_OVR" 0x070).arr 4 5, (rRO "CDY_LOSS" 0x084).arr 4 5 ]

/-- GVW0 to GVW63 (spec/05 R126). -/
def catGvw : List RegRow :=
  [ rRO "GVW_CTRL" 0x040, rRO "GVW_MEM" 0x044, rRO "GVW_SLOTS" 0x048, rRO "GVW_POINTS" 0x04C, rRO "GVW_LOOPS" 0x050,
    rRO "GVW_TASKS" 0x054, (rRO "GVW_CIRC" 0x058).arr 4 2, (rRO "GVW_QBLK" 0x060).arr 4 8, rRO "GVW_KEYS" 0x080,
    rRO "GVW_SEED" 0x084 ]

/-- The registers of a page kind after its common header. -/
def catalog : PageKind → List RegRow
  | .sys => catSys | .clk => catClk | .pwr => catPwr | .lcs => catLcs | .key => catKey | .upd => catUpd
  | .flt => catFlt | .hst => catHst | .glv => catGlv | .cmd => catCmd | .rtc => catRtc | .tmb => catTmb
  | .rs => catRs | .tpi => catTpi | .ptb => catPtb | .lse => catLse | .fp => catFp | .can => catCan | .usb => catUsb
  | .pci => catPci | .ces => catCes | .cea => catCea | .ktl => catKtl | .ain => catAin | .pin => catPin
  | .aout => catAout | .dio => catDio | .cdy => catCdy | .gvw => catGvw

/-- The row covers offset `off`. -/
def RegRow.covers (r : RegRow) (off : Nat) : Bool :=
  decide (r.off ≤ off) && decide (off < r.off + r.stride * r.count) && decide ((off - r.off) % r.stride = 0)

/-- The index of offset `off` in the row's array. -/
def RegRow.index (r : RegRow) (off : Nat) : Nat := (off - r.off) / r.stride

/-- The register at offset `off` of page `p`, none at a reserved offset (spec/00 R9). -/
def regRow (p off : Nat) : Option RegRow :=
  match pageKind p with
  | some k => (catalog k).find? (fun r => r.covers off)
  | none => none

/-- HAS_RWS of a page kind (spec/03 R60). -/
def hasRws (k : PageKind) : Bool := (catalog k).any (fun r => decide (r.rws ≠ 0))

/-- The place of a register in the window: page index and offset (spec/00 R7). -/
abbrev rkey (p off : Nat) : Nat := p * 0x1000 + off

/-- The place of a banked register: bank `b` of the register at page `p`, offset `off` (spec/04 R86). -/
abbrev bkey (b p off : Nat) : Nat := (b + 1) * 0x1000000 + rkey p off

/-- The reset value of every stored register, header fields included (spec/03 R59, R61, R63). -/
def regReset (k : Nat) : Word :=
  let a := k % 0x1000000
  let p := a / 0x1000
  let off := a % 0x1000
  if off < 0x40 then
    if off = Hd.run then
      match pageRow p with
      | some r => if r.stop = .no then 0x201 else 0
      | none => 0
    else if off = Hd.owner ∧ 0x80 ≤ p ∧ p ≤ 0xBF then wd (p - 0x80)
    else 0
  else
    match regRow p off with
    | some r => r.reset
    | none => 0

end Sys2Proof.Machine
end

