-- ==== Sys2Proof/Machine/State.lean ====
section
/-! DEFINITION. The state of the module: everything the spec names, as plain data, and the state right after reset. -/

namespace Sys2Proof.Machine

/-- The ordering code (spec/00 R1): with a Caddy for a market 01 to 99, or the laboratory's 00, or without one. -/
inductive Part
  | m (market : Fin 100)
  | c
  deriving DecidableEq, Repr

/-- The major modes (spec/02 R29), with the start-up in progress of SYS_MODE (R40). -/
inductive Mode
  | startup | recovery | commission | run | degraded | safe | backup
  deriving DecidableEq, Repr

/-- How far the power-up sequence of spec/02 R47 has come. -/
inductive Stage
  | waitVin | regulators | resetEnded | tested | slotChosen | imageLoaded | entered | loader
  deriving DecidableEq, Repr

/-- What the power-fail sequence of spec/22 R572 is doing; `cause` is the SYS_BOOT.CAUSE of a reset that runs it, none for
PFW. -/
inductive PwrSeq
  | off
  | running (cause : Option Nat)
  | done (cause : Option Nat)
  | startupHalt
  deriving DecidableEq, Repr

/-- What ends the assertion of SAFE_N after an entry to RUN or DEGRADED (spec/02 R30). -/
inductive SafeWait
  | none | grant | tick
  deriving DecidableEq, Repr

/-- Modes, start-up and restart (spec/02). `runGen`: the generation of loop table and call lists that the last start-up or
restart took from CONFIG, recorded with every commit (R43, spec/08 R212). -/
structure SysSt where
  mode : Mode := .startup
  boot : Bool := true
  fatal : Bool := false
  prevMode : Mode := .startup
  lastRestart : Nat := 0
  safeCause : Nat := 0
  safeN : Bool := true
  safeWait : SafeWait := .none
  stage : Stage := .resetEnded
  bootCause : Nat := 0
  slot : Nat := 0
  trial : Bool := false
  trialCount : Nat := 0
  recovStrap : Bool := false
  recovReason : Nat := 0
  retain : Word := 0
  changes : Word := 0
  loopSeq : Word := 0
  ktlSeq : Word := 0
  restartTest : Bool := false
  runGen : Nat := 0
  deriving DecidableEq, Repr

/-- The life of a command slot (spec/04 R91, R107): free with its last record, in hand, completed and waiting for
queue space, or completed in a bank without a completion queue. -/
inductive SlotPhase
  | free | inHand | held | done
  deriving DecidableEq, Repr

/-- Where a command came from: a bank, a submission queue, or the USB session (spec/04 R87, R100, spec/19 R504). -/
inductive CmdOrigin
  | bank (b : Nat)
  | queue (q : Nat)
  | usb
  deriving DecidableEq, Repr

/-- Where a completion goes (spec/04 R91, R100, spec/19 R505). -/
inductive CqTo
  | poll
  | queue (q : Nat)
  | usbRing
  deriving DecidableEq, Repr

/-- A command slot (spec/04 R90 to R93, R111). `spoilt`: its record will fail its parity check when it is read next; `bad`: it
failed it when it was polled. -/
structure Slot where
  gen : Nat := 0
  glove : Nat := 0
  op : Nat := 0
  args : List Word := []
  origin : CmdOrigin := .bank 0
  cq : CqTo := .poll
  tag : Word := 0
  phase : SlotPhase := .free
  complete : Bool := false
  status : Nat := 0
  res0 : Word := 0
  res1 : Word := 0
  res2 : Word := 0
  tsSec : Word := 0
  tsNs : Word := 0
  bad : Bool := false
  spoilt : Bool := false
  deriving DecidableEq, Repr

/-- A hardware queue (spec/04 R98 to R111). `live` is whether it exists; `spoilt`, whether the next read of its context finds an
ECC error, and `ecc`, whether it behaves as full after one (R111). -/
structure Queue where
  live : Bool := false
  kind : Nat := 0
  wide : Bool := false
  log2n : Nat := 0
  base : Nat := 0
  pair : Option Nat := none
  arg5 : Word := 0
  arg6 : Word := 0
  arg7 : Word := 0
  sw : Nat := 0
  hw : Nat := 0
  arm : Bool := false
  ovf : Bool := false
  badidx : Bool := false
  drops : Word := 0
  ovfMark : Bool := false
  ecc : Bool := false
  spoilt : Bool := false
  deriving DecidableEq, Repr

/-- A frame transmit completion that waits for space in its completion queue (spec/04 R107, spec/16 R436): the queue, its
transmit queue's glove, and the entry's words. -/
structure Owed where
  pair : Nat
  glove : Nat
  handle : Nat
  status : Nat
  stamp : Nat
  len : Nat
  tag : Word
  deriving DecidableEq, Repr

/-- Commands and queues (spec/04). `owed` holds the frame transmit completions that wait. `fresh` counts the slots never allocated since power-up; `freed` is the order in
which the others were freed; `held` the completions that wait for space, oldest first. -/
structure CmdSt where
  slots : Sparse Slot := []
  fresh : Nat := 0
  freed : List Nat := []
  held : List Nat := []
  owed : List Owed := []
  queues : Sparse Queue := []
  deriving DecidableEq, Repr

/-- An entry of the glove table (spec/05 R124); KEYGEN is kept in MRAM. -/
structure Glove where
  active : Bool := false
  base : Nat := 0
  size : Nat := 0
  quota : Nat := 0
  deriving DecidableEq, Repr

/-- What an untouched glove table entry reads as (spec/05 R123). -/
def gloveDflt (g : Nat) : Glove := if g = 0 then ⟨true, 0, 0x1000, 0x1000⟩ else {}

/-- A GLOVE_RECLAIM in hand (spec/05 R128): its glove, the slot of its command, and what it has destroyed and moved. -/
structure Reclaim where
  glove : Nat
  slot : Option Nat
  queues : Nat
  moved : Nat
  deriving DecidableEq, Repr

/-- Gloves (spec/05): the table, the owners of the QID blocks, and the reclaims in hand. -/
structure GlvSt where
  table : Sparse Glove := []
  qmap : Sparse Nat := []
  reclaims : List Reclaim := []
  deriving DecidableEq, Repr

/-- The inputs of an invocation, taken from the tick image of its release boundary (spec/06 R147). -/
structure StepIns where
  meas : Nat := 0
  measOk : Bool := false
  aux : Nat := 0
  auxOk : Bool := false
  src : Nat := 0
  srcOk : Bool := false
  outV : Nat := 0
  deriving DecidableEq, Repr

/-- One role of a loop (spec/06 R134, R136, R140, R144): whether it is started, its channel, role slot and line, its role
copy and state line, the boundary of its first release while that is to come, whether it then copies the other role (R78),
its running or finished invocation with its inputs and compare record, the cups that ran that invocation, the last first,
and whether it still primes under spec/09 R231 (`adoptOut`) or begins to at its next release (`reprime`, R242). `ran`: the boundary and the cups of an earlier invocation while the other
role's of the same boundary is not stored (R143). -/
structure Role where
  started : Bool := false
  chan : Nat := 0
  slot : Nat := 0
  copy : List Byte := []
  line : Line := {}
  sram : Bool := true
  lineAt : Nat := 0
  armed : Option Nat := none
  copyFrom : Bool := false
  warm : Option Int := none
  ins : StepIns := {}
  released : Option Nat := none
  stored : Bool := false
  cmp : CmpRec := ⟨[], 0⟩
  ranBy : List Nat := []
  ran : Option (Nat × List Nat) := none
  adoptOut : Bool := false
  reprime : Bool := false
  deriving DecidableEq, Repr

/-- A stop in hand (spec/06 R152): the slot of its command, and the roles it stops. -/
structure StopReq where
  slot : Option Nat
  owner : Bool
  shadow : Bool
  deriving DecidableEq, Repr

/-- A loop with at least one role, or a command in hand (spec/06 R150 to R153). `window` and `winAt`: the handover window of
spec/03 R80 and the first boundary from which both role copies can be equal; `resync`: the outcome of an unresolved
mismatch is due (spec/09 R218); `place`: the channel in which a new shadow starts at the next release boundary (spec/09 R221);
`restore`: the readmitted channels that take a role back as soon as the owner's can be copied (spec/09 R223). -/
structure LoopSt where
  owner : Role := {}
  shadow : Role := {}
  adopted : Bool := false
  window : Bool := false
  winAt : Nat := 0
  latePending : Bool := false
  lastPub : Nat := 0
  stop : Option StopReq := none
  handover : Option (Option Nat) := none
  clear : Option (Nat × Nat) := none
  resync : Bool := false
  place : Option Nat := none
  restore : List Nat := []
  deriving DecidableEq, Repr

/-- An entry of a home deque (spec/06 R141): a loop, which of its roles, and the boundary of the release. -/
structure DqEntry where
  loop : Nat
  shadow : Bool
  at_ : Nat
  deriving DecidableEq, Repr

/-- The control engine array (spec/06): tick count, loops, home deques by channel × 16 + cup, and the entry each cup
runs. `testing` marks the cups (channel × 16 + cup) taken by a cup test; `busy` counts cup cycles in the current second
(channel × 2) and millisecond (channel × 2 + 1) of TMB1 (R149). -/
structure CesSt where
  tick : Nat := 0
  loops : Sparse LoopSt := []
  deques : Sparse (List DqEntry) := []
  running : Sparse (Option DqEntry) := []
  testing : List Nat := []
  romId : Word := 0
  busy : Sparse Nat := []
  deriving DecidableEq, Repr

/-- An entry of the point table with the state the ring keeps beside it (spec/13 R346, R353, R362). -/
structure Point where
  value : Word := 0
  qual : Nat := 0
  ptype : Nat := 0
  owner : Nat := 0
  glove : Nat := 0
  age : Nat := 0
  tchg : Word := 0
  miss : Nat := 0
  dirW : Bool := false
  adopted : Bool := false
  forced : Bool := false
  seen : Bool := false
  wrote : Bool := false
  held : Option (Bool × Nat) := none
  deriving DecidableEq, Repr

/-- The results that loops read beside points (spec/07 R179): value and quality of each AIN and PIN. -/
structure InRes where
  value : Word := 0
  qual : Nat := 0
  deriving DecidableEq, Repr

/-- The tick image (spec/01 R19, spec/07 R179): points, and AIN (0 to 15) and PIN (16 to 23) results. -/
structure Image where
  points : Sparse Point := []
  inputs : Sparse InRes := []
  deriving DecidableEq, Repr

/-- What a change-of-value queue last posted for a point (spec/13 R366): key queue × 65536 + point. -/
structure Posted where
  value : Word := 0
  qual : Nat := 0
  done : Bool := false
  deriving DecidableEq, Repr

/-- Points and the tower point image (spec/13). `map` is the ownership map in force; `mapRead`, whether one was
read yet; `bad` the points that R349 and R350 take out of use; `boundAt`, the TMB1 time in ns of the last TPI cycle boundary, from
which the scheduled window is measured (R356). -/
structure PtbSt where
  points : Sparse Point := []
  map : Sparse Word := []
  bad : List Nat := []
  mapRead : Bool := false
  image : Image := {}
  posted : Sparse Posted := []
  cycleCode : Nat := 2
  ringId : Nat := 0
  staleAt : Nat := 3
  addr : Nat := 0
  cycle : Nat := 0
  closedE : Bool := false
  closedW : Bool := false
  backE : Bool := false
  backW : Bool := false
  sentAny : Bool := false
  winUs : Nat := 250
  boundAt : Option Nat := none
  deriving DecidableEq, Repr

/-- The state of a lease group (spec/09 R248). -/
inductive GrpState
  | idle | claiming | held | lost | released
  deriving DecidableEq, Repr

/-- A release being sent: cycles still to send, with the disposition (spec/09 R238). -/
structure Releasing where
  left : Nat
  hat : Bool
  deriving DecidableEq, Repr

/-- A DEFINED entry of the group table as read at STARTING (spec/09 R247): points and hats of its outputs in order; a CAN
address holds the identifier with bit 31 for the extended form, a floor port's MAC its byte 0 in bits 7 to 0. -/
structure GroupRow where
  auth : Bool
  can : Bool
  port : Nat
  glove : Nat
  nval : Nat
  nodeGroup : Nat
  vlan : Nat
  addr0 : Nat
  addr1 : Nat
  points : List Nat
  hats : List Nat
  deriving DecidableEq, Repr

/-- A lease group, own (0 to 1,023) or of the partner (1,024 to 2,047): spec/09 R238, R239, R248, R252. State and epoch are
journalled in MRAM; `known` says whether an epoch is recorded. `start` is the first TPI cycle in which a claim or renewal is
sent, `prior` the state an LSE_CLAIM returns to, `cmd` the slot of the command that claims or releases it, `sent` the SEQ
of its last frame, `retrying` that a claim was refused NOT_EXPIRED and goes on. -/
structure GroupSt where
  st : GrpState := .idle
  epoch : Nat := 0
  known : Bool := false
  seq : Nat := 0
  next : Bool := false
  force : Bool := false
  tries : Nat := 0
  claimEpoch : Nat := 0
  start : Nat := 0
  rel : Option Releasing := none
  nak : Nat := 0
  nodeEpoch : Nat := 0
  prior : GrpState := .idle
  cmd : Option Nat := none
  retrying : Bool := false
  sent : Nat := 0
  deriving DecidableEq, Repr

/-- An LSE_CLAIM in hand (spec/09 R249): its slot, whether it named all LOST groups, the groups still open, what has come of
the others, the last refusal (reason and node epoch), and the TMB1 time at which its retries end, if it retries. -/
structure ClaimCmd where
  slot : Nat
  all : Bool
  left : List Nat
  granted : Nat := 0
  refused : Nat := 0
  lastEpoch : Nat := 0
  nak : Option (Nat × Nat) := none
  until_ : Option Nat := none
  deriving DecidableEq, Repr

/-- A unit test after a mismatch (spec/09 R218): the item, a loop or a task, and the two units that are tested, each a
channel and, for a loop, a cup. -/
structure UnitTest where
  task : Bool
  item : Nat
  ownChan : Nat
  ownCup : Nat
  shChan : Nat
  shCup : Nat
  ownDone : Option Bool := none
  shDone : Option Bool := none
  deriving DecidableEq, Repr

/-- Shadows, fencing, leases and adoption (spec/09). `fenced` and `testPass` list channels; `unres` the TMB1 times in ns of
the unresolved mismatches by channel; `selftests` the channels under CH_SELFTEST with their slots, `selftestHit` the sources
that occurred in them; `gt` the group table as read at STARTING; `unadopt` the slot of an LSE_UNADOPT that waits for the send
instant, with the groups released. `partnerSeen`: the partner was seen; `armed`: seen since the last adoption;
`partnerNow`: seen in this cycle. `pubPend` takes effect on `pubStopped` at the next cycle; `silentSafe` is spec/09 R244;
`stopWait`: the page waits in STOPPING for the send instant (R252). -/
structure LseSt where
  fenced : List Nat := []
  testPass : List Nat := []
  unres : Sparse (List Nat) := []
  tests : List UnitTest := []
  selftests : List (Nat × Nat) := []
  selftestHit : List Nat := []
  groups : Sparse GroupSt := []
  gt : Sparse GroupRow := []
  claims : List ClaimCmd := []
  unadopt : Option (Nat × Nat) := none
  partnerSeen : Bool := false
  armed : Bool := false
  partnerMiss : Nat := 0
  partnerNow : Bool := false
  adopting : Bool := false
  adoptGranted : Bool := false
  pubStopped : Bool := false
  pubPend : Option Bool := none
  warmGen : Word := 0
  silentSafe : Bool := false
  stopWait : Bool := false
  deriving DecidableEq, Repr

/-- A role of a task (spec/08 R195, R196): its copies with the working image, the boundary of its first release while that
is to come, the calls (by entry) whose edge memories are primed, and the cycle it runs: boundary, TMB0 seconds, tick image,
LOOPCTL results, next entry, the calls degraded in it, whether it read a foreign point (spec/05 R121), the requests of its
LOOPCTL calls (entry and request, R205), and whether END is reached. A stopped role runs its cycle to the end unused (R213). -/
structure TaskRole where
  started : Bool := false
  chan : Nat := 0
  copy : TaskCopy := {}
  armed : Option Nat := none
  copyFrom : Bool := false
  primed : List Nat := []
  released : Option Nat := none
  sec : Nat := 0
  img : Image := {}
  lcs : Sparse LoopCtl := []
  pc : Nat := 0
  deg : List Nat := []
  foreign : Bool := false
  asks : List (Nat × Nat) := []
  done : Bool := false
  deriving DecidableEq, Repr

/-- A task with at least one role, or a command in hand (spec/08 R192, R209, R213): fields as in `LoopSt`. -/
structure TaskSt where
  owner : TaskRole := {}
  shadow : TaskRole := {}
  window : Bool := false
  winAt : Nat := 0
  latePending : Bool := false
  lateCount : Nat := 0
  lastSeq : Nat := 0
  stop : Option StopReq := none
  handover : Option (Option Nat) := none
  resync : Bool := false
  place : Option Nat := none
  restore : List Nat := []
  deriving DecidableEq, Repr

/-- A slot of an MRAM buffer (spec/08 R206), key buffer × 16 + task: its header, and the task image with the places of the
words written into it. -/
structure KSlot where
  seq : Nat := 0
  task : Nat := 0
  layout : Nat := 0
  gen : Nat := 0
  count : Nat := 0
  crc : Nat := 0
  mark : Nat := 0
  fields : List Nat := []
  words : Sparse Word := []
  deriving DecidableEq, Repr

/-- A commit in progress or pending (spec/08 R207), with the channel of its Kettle. -/
structure KCommit where
  chan : Nat
  seq : Nat
  layout : Nat
  gen : Nat
  fields : List Nat
  words : Sparse Word
  deriving DecidableEq, Repr

/-- An operation that a LOOPCTL call has in progress (spec/08 R205): task, instance offset, loop, glove, the stage of spec/03 R79
(1 to 7; 0 for a start, 8 for a stop), and the place that stands for the slot of its command. -/
structure LcOp where
  task : Nat
  inst : Nat
  loop : Nat
  glove : Nat
  stage : Nat
  slot : Nat
  deriving DecidableEq, Repr

/-- The Kettles (spec/08). Tasks 0 to 15 are the module's own, 16 to 31 the partner's warm copy. LOOPCTL results are kept by
task × 65,536 + instance, and in `lcDone` the statuses of completions that are still to enter a tick image (R205); `busy` counts busy cycles in the current second (channel × 2) and millisecond (channel × 2 + 1). -/
structure KtlSt where
  table : Sparse TaskCopy := []
  tasks : Sparse TaskSt := []
  commits : Sparse (Option KCommit) := []
  pendingC : Sparse (Option KCommit) := []
  lc : Sparse LoopCtl := []
  lcOps : List LcOp := []
  lcDone : Sparse (Option Nat) := []
  testing : List Nat := []
  busy : Sparse Nat := []
  romId : Word := 0
  deriving DecidableEq, Repr

/-- What a pulse input's timer holds (spec/18 R471, R472), in TCLK periods: the filtered level after INV, how long the other level has
held before the filter takes it, whether a rising edge was seen, and since the last one the time and the time high. -/
structure PinWave where
  level : Bool := false
  cand : Nat := 0
  seen : Bool := false
  t : Nat := 0
  hi : Nat := 0
  deriving DecidableEq, Repr

/-- Direct field inputs and outputs (spec/18), beside their registers. `slots`: the next slot of each converter (R465); `pinRaw`:
inputs whose ball is high; `waves`: their timers; `hatsIn`: the hat table was loaded in start-up (spec/02 R47). `clamp`: inputs whose overrange clamp is engaged;
`discard`: converters whose next slot is discarded; `shuntTry`: shunts closed for one conversion; `pinHigh`: inputs whose
filtered level is high; `pinFirst`: inputs whose first complete period is still to be discarded; `dioIn`: debounced
external levels; `vio`: good banks; `bankOff`: banks that wait for a STARTING; `pwmDuty`: TCLK periods that each PWM pin
stays high; ranges, hats and pin configurations are those latched at the last STARTING, and `aoutUp`, `dioUp` whether
there was one. -/
structure FioSt where
  clamp : List Nat := []
  discard : List Nat := []
  shuntTry : List Nat := []
  pinHigh : List Nat := []
  pinFirst : List Nat := []
  dioIn : Word := 0
  vio : List Nat := []
  bankOff : List Nat := []
  pwmDuty : Sparse Nat := []
  aoutHat : Sparse Word := []
  aoutRange : Word := 0
  dioCfg : Sparse Word := []
  aoutUp : Bool := false
  dioUp : Bool := false
  slots : Sparse Nat := []
  pinRaw : List Nat := []
  waves : Sparse PinWave := []
  hatsIn : Bool := false
  deriving DecidableEq, Repr

/-- Faults (spec/22): severities by source ID where they differ from the default, and the occurrences still to be
reacted to, held while FCLK is stopped (R559). -/
structure FltSt where
  sev : Sparse Nat := []
  occ : List Nat := []
  deriving DecidableEq, Repr

/-- The Hatstand (spec/22 R566 to R570), in its own domain: `path`, its output path is engaged; `beating`, the channels
whose heartbeat arrived; `beatOk`, its own beat reaches the channels; `last`, the TMB1 time in ns of the last heartbeat while
armed. -/
structure HstSt where
  armed : Bool := false
  acted : Bool := false
  path : Bool := false
  beating : List Nat := []
  supSeen : Bool := false
  beatOk : Bool := true
  last : Option Nat := none
  deriving DecidableEq, Repr

/-- Supplies and the power-fail sequence (spec/22 R571 to R579). `kPassed`: boundary k of R572 has passed. -/
structure PwrSt where
  seq : PwrSeq := .off
  kPassed : Bool := false
  vbatOk : Bool := false
  vmetOk : Bool := false
  deriving DecidableEq, Repr

/-- Clocks and pins (spec/23). `gated`: CCLK and ACLK stay gated until a power cycle; `rtcRef`: XIN was measured. -/
structure ClkSt where
  rootLocked : Bool := true
  gated : Bool := false
  usbPll : Bool := false
  rtcRef : Bool := false
  resetLow : Bool := false
  deriving DecidableEq, Repr

/-- A buffer of the loop integrator commit (spec/01 R13, spec/02 R51). -/
structure LBuf where
  valid : Bool := false
  seq : Nat := 0
  gen : Nat := 0
  integ : Sparse Int := []
  deriving DecidableEq, Repr

/-- The restart record in MRAM (spec/02 R42). -/
structure RestartRec where
  ok : Bool := true
  target : Bool := false
  cold : Bool := false
  lastStop : Nat := 0
  pfwCount : Word := 0
  deriving DecidableEq, Repr

/-- Which roles of a loop or task are recorded as started, and in which channels (spec/03 R74). -/
structure RoleRec where
  owner : Option Nat := none
  shadow : Option Nat := none
  deriving DecidableEq, Repr

/-- The CONFIG generation in force (spec/03 R74, spec/05 R123, spec/11 R312, spec/22 R577). Tables are recorded from
offset 0. -/
structure CfgRec where
  gen : Nat := 0
  ltGen : Nat := 0
  regs : Sparse Word := []
  canFilt : Sparse Byte := []
  run : List Nat := []
  loopTab : List Host.Cell := []
  loopRoles : Sparse RoleRec := []
  tasks : Sparse TaskCopy := []
  taskRoles : Sparse RoleRec := []
  map : List Host.Cell := []
  groups : List Host.Cell := []
  adopt : List Host.Cell := []
  gloves : Sparse Glove := []
  qmap : Sparse Nat := []
  views : Sparse Nat := []
  publish : Word := 0
  sev : Sparse Nat := []
  deriving DecidableEq, Repr

/-- What a reclaimed glove owned when its reclaim was carried out (spec/05 R128). -/
structure Had where
  pages : List Nat
  loops : List Nat
  points : List Nat
  tasks : List Nat
  deriving DecidableEq, Repr

/-- A change to the CONFIG generation (spec/03 R74): the whole save; a loop entry; a task; the glove table and QID blocks;
the same with everything of a reclaimed glove given to glove 0 (spec/05 R128); a circuit view; CDY_PUBLISH; severities. -/
inductive CfgEdit
  | save (r : CfgRec)
  | loop (id : Nat) (bytes : List Byte)
  | task (id : Nat) (c : TaskCopy)
  | gloves (table : Sparse Glove) (qmap : Sparse Nat)
  | reclaim (g : Nat) (table : Sparse Glove) (qmap : Sparse Nat) (had : Had)
  | view (circuit glove : Nat)
  | publish (w : Word)
  | severities (t : Sparse Nat)
  deriving DecidableEq, Repr

/-- A journal write into CONFIG in hand (spec/03 R74): the slot that waits, and the change. -/
structure Journal where
  slot : Option Nat
  edit : CfgEdit
  deriving DecidableEq, Repr

/-- What MRAM and the CONFIG partition of the NAND keep without power (spec/01 R12, R13). -/
structure NvSt where
  restart : RestartRec := {}
  keygen : Sparse Nat := []
  cfg : CfgRec := {}
  journal : List Journal := []
  kslots : Sparse KSlot := []
  kseq : Nat := 0
  lbuf0 : LBuf := {}
  lbuf1 : LBuf := {}
  lseq : Nat := 0
  reclaims : List Nat := []
  log : List Byte := []
  spare : List Byte := []
  deriving DecidableEq, Repr

/-- A time base (spec/15): seconds, nanoseconds and the fraction in 1 ÷ 2^32 ns; the rate in force and the servo's integral
in 2^-24 ppb; the lock state; `manual`, the mode
taken at the last STARTING; captures in registers. `unset`: no STARTING yet. -/
structure TmbSt where
  sec : Nat := 0
  ns : Nat := 0
  frac : Nat := 0
  rate : Int := 0
  integ : Int := 0
  locked : Bool := false
  good : Nat := 0
  hold : Bool := false
  limit : Bool := false
  last : Int := 0
  manual : Bool := false
  unset : Bool := true
  deriving DecidableEq, Repr

/-- The real-time clock in the VBAT domain (spec/15 R420 to R425). `load` counts the crystal edges still to come before a
load is applied; `nudge` is the nudge that waits. -/
structure RtcSt where
  phase : Nat := 0
  subsec : Nat := 0
  sec : Nat := 0
  min : Nat := 0
  hour : Nat := 0
  day : Nat := 1
  month : Nat := 1
  year : Nat := 2000
  weekday : Nat := 5
  loadBusy : Bool := false
  nudge : Option Int := none
  lost : Bool := true
  xtalStop : Bool := false
  deriving DecidableEq, Repr

/-- The rest of the VBAT domain (spec/20 R531, spec/23 R608): the cover seal record and a tamper that waits for VIN. -/
structure VbatSt where
  csealOpen : Bool := false
  tamperOpen : Bool := false
  openings : Nat := 0
  chDate : Word := 0
  chTime : Word := 0
  tamper : Bool := false
  deriving DecidableEq, Repr

/-- A frame under way from a transmit queue (spec/16 R436): queue, its glove and paired completion queue, TAG, LEN, stamp
if sent, stamp of leaving the queue, whether it is late, and whether it is really on the wire (spec/16 R434). -/
structure TxFlight where
  queue : Nat
  glove : Nat
  pair : Option Nat
  tag : Word
  len : Nat
  stamp : Nat
  left : Nat
  late : Bool
  real : Bool
  deriving DecidableEq, Repr

/-- A riser frame: its tag (spec/14 R374) and the frame from the destination address without FCS; `own`, the transmit entry that
completes when it leaves. -/
structure RFrame where
  cls : Nat
  hop : Nat
  src : Nat
  dest : Nat
  limit : Nat
  body : List Byte
  poison : Bool := false
  own : Option TxFlight := none
  deriving DecidableEq, Repr

/-- A riser port (spec/14 R374 to R394): state, the ring address read at STARTING, lanes, peer, authentication, the ring map (hops by address, from 1), and
the frames that wait: transit and local TPI, CONTROL and BEST_EFFORT, the last only if another port's queue gave them; `flight`, the
frame that it started last (R395). -/
structure RsPort where
  st : Nat := 0
  addr : Nat := 0
  first : Bool := true
  lanes : Nat := 0
  present : Bool := false
  crossed : Bool := false
  why : Nat := 0
  narrow : Bool := false
  bad : Nat := 0
  peer : Nat := 0
  peerValid : Bool := false
  nonce : List Byte := []
  challenged : Bool := false
  answered : Bool := false
  verified : Bool := false
  okSeen : Bool := false
  map : Sparse Nat := []
  ownBack : Bool := false
  deskew : Nat := 0
  tpiT : List RFrame := []
  tpiL : List RFrame := []
  ctlT : List RFrame := []
  ctlL : List RFrame := []
  beT : List RFrame := []
  beL : List RFrame := []
  turn : Bool := false
  flight : Option RFrame := none
  deriving DecidableEq, Repr

/-- The riser (spec/14): ports east and west, and the address clash. -/
structure RsSt where
  east : RsPort := {}
  west : RsPort := {}
  clash : Bool := false
  deriving DecidableEq, Repr

/-- A floor port (spec/16): link state, low-power idle, MDIO, lease frames that wait, the queue served last, the frame under
way, and the queues whose head is held for launch. -/
structure FpPort where
  link : Bool := false
  phyRate : Nat := 0
  half : Bool := false
  lpiTx : Bool := false
  lpiRx : Bool := false
  mdioBusy : Bool := false
  mdioOp : Word := 0
  mdioData : Nat := 0
  lease : List (List Byte) := []
  turn : Nat := 0
  flight : Option TxFlight := none
  held : List Nat := []
  deriving DecidableEq, Repr

/-- What is offered to arbitration (spec/17 R453, R455); `late`: a reference message whose cycle ended while it was on offer. -/
inductive CanSrc
  | lease (f : CanFrame)
  | reference
  | late
  | buf (n : Nat)
  | queue (q : Nat)
  deriving DecidableEq, Repr

/-- A rate detection (spec/17 R460): its slot, APPLY, DWELL, the total timeout, the candidate it listens under, the frames
received by candidate, the error frames seen, and the frames in a row without error under this candidate. -/
structure CanDetect where
  slot : Nat
  apply : Bool
  dwell : Nat
  total : Nat
  cand : Nat
  frames : Sparse Nat := []
  errors : Nat := 0
  good : Nat := 0
  deriving DecidableEq, Repr

/-- A receive FIFO (spec/17 R451). -/
structure CanFifo where
  fill : Nat := 0
  get : Nat := 0
  put : Nat := 0
  deriving DecidableEq, Repr

/-- A CAN channel (spec/17): error state, message RAM by byte, pending requests and started frames, FIFOs, time-triggered
state, detection. `refAt`: the cycle has its reference; `tried`: buffers offered in this cycle; `ready`: those of them still
to be sent; `sof`: the stamp of the start of the frame that is offered; `spoilt`: the words of the message RAM that hold an
uncorrectable error (spec/17 R463). -/
structure CanCh where
  tec : Nat := 0
  rxc : Nat := 0
  busOff : Bool := false
  recovering : Bool := false
  lec : Nat := 0
  lecData : Bool := false
  txPend : List Nat := []
  fifo0 : CanFifo := {}
  fifo1 : CanFifo := {}
  ram : Sparse Byte := []
  ttSync : Bool := false
  ttClash : Bool := false
  ttCount : Nat := 0
  ttStamp : Nat := 0
  refPend : Bool := false
  refAt : Bool := false
  tried : List Nat := []
  ready : List Nat := []
  offered : Option CanSrc := none
  frame : Option CanFrame := none
  sof : Nat := 0
  lease : List CanFrame := []
  spoilt : List Nat := []
  detect : Option CanDetect := none
  deriving DecidableEq, Repr

/-- The cluster event block and the PCI Express path (spec/19 R490 to R500): routes, enables, latched queue events of the
core path and of each function (8: none yet), page events whose message is still due; functions with MSI-X enabled, and the
vectors that are not masked, by function × 64 + vector; `table`: words 0 to 2 of the MSI-X table entries, by function × 256 +
vector × 4 + word; `d3`: functions in D3hot; `aerCorr`, `aerUncorr`: the errors that Advanced Error Reporting shows. -/
structure PciSt where
  route : Sparse Nat := []
  enable : List Nat := []
  coreLatch : List Nat := []
  fnLatch : List (Nat × Nat) := []
  fnEdge : List (Nat × Nat) := []
  msixEn : List Nat := []
  unmasked : List Nat := []
  table : Sparse Word := []
  linkUp : Bool := false
  width : Nat := 0
  speed : Nat := 0
  numVf : Nat := 0
  d3 : List Nat := []
  aerCorr : Bool := false
  aerUncorr : Bool := false
  deriving DecidableEq, Repr

/-- An entry of a USB completion ring (spec/19 R505). -/
abbrev UsbEntry := List Byte

/-- The USB port (spec/19 R501 to R510). `driving`: the device drives K; `nonce`: the nonce that the next SESSION_OPEN may use;
`latch`: events by glove and number that wait for their ring. -/
structure UsbSt where
  dstate : Nat := 0
  vbus : Bool := false
  suspended : Bool := false
  high : Bool := false
  address : Nat := 0
  armed : Bool := false
  driving : Bool := false
  session : Option Nat := none
  nonce : Option (List Byte) := none
  rings : Sparse (List UsbEntry) := []
  latch : List (Nat × Nat) := []
  deriving DecidableEq, Repr

/-- A handle of the key vault (spec/20 R518): subtree 1 to 5, or 7 for a public key; the labels and usages of the chain
from the subtree root, the leaf last. -/
structure Handle where
  subtree : Nat
  glove : Nat
  keygen : Nat
  usage : Nat
  chain : List (List Byte × Nat) := []
  pub : List Byte := []
  deriving DecidableEq, Repr

/-- The key vault and the life cycle (spec/20): the sealed state in MRAM, what OTP holds, and the volatile status. Seeds
by glove, RING at 64. `cut`: the state that a transition left whose fuse has burned and whose other steps wait (R527). -/
structure KeySt where
  handles : Sparse (Option Handle) := []
  seeds : Sparse (Option (List Byte)) := []
  opSeed : List Nat := []
  ident : Option (List Byte) := none
  xport : Option (List Byte) := none
  endorse : List Byte := []
  cert : List Byte := []
  lcs : Nat := 1
  lcsCount : Nat := 0
  root : List Byte := []
  serial : Nat := 0
  rngOk : Bool := false
  tampered : Bool := false
  cut : Option Nat := none
  deriving DecidableEq, Repr

/-- An image slot of the NAND (spec/21 R538). -/
structure SlotImg where
  hdr : List Byte := []
  hashes : List Byte := []
  chunks : Sparse (List Byte) := []
  complete : Bool := false
  deriving DecidableEq, Repr

/-- The slot record (spec/21 R539). -/
structure SlotRec where
  ok : Bool := true
  active : Nat := 0
  armed : Option Nat := none
  count : Nat := 0
  time : Nat := 0
  deriving DecidableEq, Repr

/-- The onward side of a relay (spec/21 R542 to R544): the port it leaves by, REMAIN as it sends it, its SESSION and ORIGIN;
chunks sent and not acknowledged with their resends, chunks that wait for the window, the header and hash list
acknowledged; whether this module is the end of the chain, with the reason; FINISH sent. -/
structure RelaySt where
  west : Bool
  remain : Nat
  session : Nat
  origin : Nat
  sent : List (Nat × Nat) := []
  wait : List Nat := []
  hdrAck : Bool := false
  endHere : Bool := false
  broken : Nat := 0
  finSent : Bool := false
  deriving DecidableEq, Repr

/-- A NAND write in hand (spec/21 R541): the command's slot, and what is written: header and hash list, or chunks;
`written`: stored, and the command waits for acknowledgements. -/
structure UpdWrite where
  slot : Option Nat
  chunks : List Nat
  written : Bool := false
  deriving DecidableEq, Repr

/-- Where the units of a session come from (spec/21 R541 to R551): commands, a riser port, a host on FP0 by its MAC
address, or this module's own slot, which it serves to a loader. -/
inductive UpdFrom
  | host
  | riser (west : Bool)
  | fp0 (mac : List Byte)
  | slot
  deriving DecidableEq, Repr

/-- An update session (spec/21 R541 to R551): the slot opened, whether the image is stored here and why not, the units and
chunks that arrived and were verified, the chunks stored, the writes in hand. `session`, `origin`, `remain`: of the frames
received; `finish`: the slot of UPD_FINISH; `finished`: FINISH was received; `loaded`: its LOADED; `fail`: an ABORT that
found no command. -/
structure UpdSess where
  img : Nat
  src : UpdFrom
  keep : Bool
  why : Nat := 0
  session : Nat := 0
  origin : Nat := 0
  remain : Nat := 0
  hdr : List Byte := []
  hashes : List Byte := []
  units : Sparse (List Byte) := []
  have_ : Sparse (List Byte) := []
  stored : List Nat := []
  writes : List UpdWrite := []
  fwd : Option RelaySt := none
  finish : Option Nat := none
  finished : Bool := false
  marked : Bool := false
  loaded : Nat := 0
  fail : Option (Nat × Nat) := none
  deriving DecidableEq, Repr

/-- Firmware update and recovery (spec/21): slots, slot record, rollback fuses, the session of the update commands and the
relayed one, and the loader. `staged`: the slot that did not boot holds an image stored for activation; `dfu`: bytes
received over DFU; `dfuErr`: its status; `manifest`: the download is complete; `burnt`: UPD_CONFIRM has done its step 1 and
not yet the others (R546). -/
structure UpdSt where
  slotA : SlotImg := {}
  slotB : SlotImg := {}
  record : SlotRec := {}
  rollback : Nat := 0
  staged : Bool := false
  own : Option UpdSess := none
  via : Option UpdSess := none
  fp0Sgmii : Bool := true
  dfu : List Byte := []
  dfuErr : Nat := 0
  manifest : Bool := false
  burnt : Bool := false
  deriving DecidableEq, Repr

/-- A multi-word value of the CDY page as a bank last read its first word (spec/10 R282): the offset of that word, the tick of
the Caddy, and the words. -/
structure CdyLatch where
  bank : Nat
  base : Nat
  tick : Nat
  words : List Word
  deriving DecidableEq, Repr

/-- What the core die holds of the Caddy: the latched multi-word values (spec/10 R282), and `silent` that it gave no answer
within 100 ms and has not been heard of since (spec/10 R286). -/
structure CdyLink where
  silent : Bool := false
  latches : List CdyLatch := []
  deriving DecidableEq, Repr

/-- What leaves the module (log entry 19); `riserCut`: the frame that a riser port is sending ends early. -/
inductive Emit
  | fp (port : Nat) (frame : List Byte)
  | riser (port : Nat) (bytes : List Byte)
  | riserCut (port : Nat)
  | can (ch : Nat) (f : CanFrame)
  | msix (fn vector : Nat) (low high data : Word)
  | ep0 (data : List Byte)
  | read (r : Requester) (data : List Byte)
  | stall
  | ep1 (data : List Byte)
  | wakeK
  | mdio (port : Nat) (op : Word)
  deriving DecidableEq, Repr

/-- The state of the module. `win` holds every stored register of the window, banks included, at the places of `rkey` and
`bkey`; registers that show structured state are computed where they are read. `mem` is DRAM and cluster SRAM by physical
address (spec/19 R488). `pending` is the queue of commands that wait. -/
structure State where
  pending : List Instr := []
  part : Part := .m 0
  win : Sparse Word := []
  mem : List Host.Cell := []
  emitted : List Emit := []
  freeCtr : Nat := 0
  sys : SysSt := {}
  cmd : CmdSt := {}
  glv : GlvSt := {}
  coreGlove : Sparse Nat := []
  ces : CesSt := {}
  ktl : KtlSt := {}
  ptb : PtbSt := {}
  lse : LseSt := {}
  fio : FioSt := {}
  flt : FltSt := {}
  hst : HstSt := {}
  pwr : PwrSt := {}
  clk : ClkSt := {}
  nv : NvSt := {}
  tmb0 : TmbSt := {}
  tmb1 : TmbSt := { unset := false }
  tmb2 : TmbSt := {}
  tmb3 : TmbSt := {}
  rtc : RtcSt := {}
  vbat : VbatSt := {}
  cdy : CdySt := {}
  link : CdyLink := {}
  rs : RsSt := {}
  fp : Sparse FpPort := []
  can : Sparse CanCh := []
  pci : PciSt := {}
  usb : UsbSt := {}
  key : KeySt := {}
  upd : UpdSt := {}
  deriving DecidableEq, Repr

/-- The state right after reset (spec/02 R47, R53): every field at the value of its declaration, which is the value the
spec gives or one that a log entry names. -/
def State.reset : State := {}

/-- The faults of the model. None is raised: the spec gives every command an effect, and a command whose moment the state
rules out changes nothing (log entry 2). -/
inductive Fault
  /-- A violation that the spec leaves without an effect; raised by no command (safe). -/
  | unreachable
  deriving DecidableEq, Repr

/-- The refusals of the model. -/
inductive Refusal
  /-- Raised by an arm of `exec` whose command has no meaning yet (safe). -/
  | notModelled (mnemonic : String)
  deriving DecidableEq, Repr

end Sys2Proof.Machine
end

