-- ==== Sys2Proof/Machine/Ops.lean ====
section
/-! DEFINITION. The shared operations: registers and who may touch them (spec/03), gloves and memory (spec/05), queues,
command slots and completions (spec/04), sticky bits. -/

namespace Sys2Proof.Machine

-- Registers

/-- A stored register. -/
def State.reg (s : State) (p off : Nat) : Word := Sparse.get regReset s.win (rkey p off)

/-- Stores a register. -/
def State.setReg (s : State) (p off : Nat) (v : Word) : State :=
  { s with win := Sparse.set regReset s.win (rkey p off) v }

/-- A banked register of bank `b`. -/
def State.breg (s : State) (b p off : Nat) : Word := Sparse.get regReset s.win (bkey b p off)

/-- Stores a banked register. -/
def State.setBreg (s : State) (b p off : Nat) (v : Word) : State :=
  { s with win := Sparse.set regReset s.win (bkey b p off) v }

/-- A saturating counter register moves on by one (spec/00 R10). -/
def State.bump (s : State) (p off : Nat) : State := s.setReg p off (satInc (s.reg p off))

/-- A saturating counter register moves on by `n`. -/
def State.bumpBy (s : State) (p off n : Nat) : State := s.setReg p off (satAdd (s.reg p off) n)

/-- A field of a register. -/
def State.fld (s : State) (p off lo len : Nat) : Nat := bf (s.reg p off) lo len

/-- A bit of a register. -/
def State.flag (s : State) (p off i : Nat) : Bool := bit (s.reg p off) i

/-- A 64-bit value in two registers, the low word at `off` (spec/00 R7). -/
def State.reg64 (s : State) (p off : Nat) : Nat := (s.reg p off).toNat + 2 ^ 32 * (s.reg p (off + 4)).toNat

/-- The bank of a requester (spec/04 R86). -/
def bankOf : Requester → Nat
  | .core c => c.val
  | .pf => 8
  | .vf v => 9 + v.val
  | .usb => 16

-- Free values

/-- Draws a fresh free value (log entry 7). -/
def State.draw (s : State) : Nat × State := (Config.freeNat s.freeCtr, { s with freeCtr := s.freeCtr + 1 })

-- Run state of a page (spec/03 R61, R69)

/-- PG_RUN.CUR. -/
def State.cur (s : State) (p : Nat) : Nat := bf (s.reg p Hd.run) 8 2
/-- PG_RUN.REQ. -/
def State.req (s : State) (p : Nat) : Nat := bf (s.reg p Hd.run) 0 2
/-- The page is RUNNING. -/
def State.running (s : State) (p : Nat) : Bool := s.cur p == 2
/-- The page is STOPPED. -/
def State.stopped (s : State) (p : Nat) : Bool := s.cur p == 0
/-- Sets PG_RUN.CUR. -/
def State.setCur (s : State) (p c : Nat) : State := s.setReg p Hd.run (setBf (s.reg p Hd.run) 8 2 c)
/-- Sets PG_RUN.REQ. -/
def State.setReq (s : State) (p c : Nat) : State := s.setReg p Hd.run (setBf (s.reg p Hd.run) 0 2 c)

-- Sticky bits and faults (spec/03 R65, spec/22 R559)

/-- Fault source `b` of page `p` occurs: its sticky bit is set and the occurrence goes to the fault collector. -/
def State.raiseSrc (s : State) (p b : Nat) : State :=
  let s1 := s.setReg p Hd.sticky (s.reg p Hd.sticky ||| oneBit b)
  { s1 with flt := { s1.flt with occ := s1.flt.occ ++ [p * 32 + b] } }

/-- A sticky bit is set. -/
def State.stickyBit (s : State) (p b : Nat) : Bool := bit (s.reg p Hd.sticky) b

/-- PG_IRQ_PEND bits set by a condition that lasts one FCLK cycle (spec/03 R82). -/
def State.pulse (s : State) (p b : Nat) : State := s.setReg p Hd.irqPend (s.reg p Hd.irqPend ||| oneBit b)

-- Power and clocks

/-- The core die is powered and out of reset (spec/02 R47, spec/22 R572, spec/23 R605). -/
def State.powered (s : State) : Bool :=
  decide (s.sys.mode ≠ .backup) && !s.clk.resetLow && decide (s.sys.stage ≠ .waitVin) && decide (s.sys.stage ≠ .regulators)
    && (match s.pwr.seq with | .done _ => false | _ => true)

/-- The clocks of the core die run: without ROOT no register can be read (spec/23 R593). -/
def State.coreUp (s : State) : Bool := s.powered && s.clk.rootLocked

/-- The power-fail sequence has begun (spec/22 R572). -/
def State.pfw (s : State) : Bool := decide (s.pwr.seq ≠ .off)

/-- The ports still send and receive: until boundary k of the power-fail sequence has passed (spec/22 R572). -/
def State.portsOn (s : State) : Bool := s.coreUp && !s.pwr.kPassed

-- Gloves (spec/05)

/-- The entry of glove `g`. -/
def State.glove (s : State) (g : Nat) : Glove := Sparse.get gloveDflt s.glv.table g

/-- Sets the entry of glove `g`. -/
def State.setGlove (s : State) (g : Nat) (e : Glove) : State :=
  { s with glv := { s.glv with table := Sparse.set gloveDflt s.glv.table g e } }

/-- Glove `g` is active (spec/05 R113): glove 0 always is. -/
def State.active (s : State) (g : Nat) : Bool := g == 0 || (s.glove g).active

/-- A violation of glove `g` is counted (spec/05 R121). -/
def State.violation (s : State) (g : Nat) : State := s.bump Pg.glv (Rg.GLV_VIOL + 16 * g)

/-- The glove of core `c` (spec/19 R490). -/
def State.coreGloveOf (s : State) (c : Nat) : Nat := Sparse.get (dflt 0) s.coreGlove c

/-- The glove of PCI Express function `f`, none for a virtual function that the host has not enabled or that is not mapped (spec/05
R114, spec/19 R499, R500). -/
def State.fnGlove (s : State) (f : Nat) : Option Nat :=
  if f = 0 then some 0
  else
    let w := s.reg Pg.pci (Rg.PCI_VF_GLOVE + 4 * (f - 1))
    if f ≤ s.pci.numVf ∧ bit w 8 then some (bf w 0 6) else none

/-- Function `f` is there for the host: the link is up, the function enabled and in D0 (spec/19 R493, R500, log entry 158). -/
def State.fnAwake (s : State) (f : Nat) : Bool := s.pci.linkUp && decide (f ≤ s.pci.numVf) && !s.pci.d3.contains f

/-- A requester's glove (spec/05 R114); none has no access at all. -/
def State.gloveOf (s : State) : Requester → Option Nat
  | .core c => some (s.coreGloveOf c.val)
  | .pf => if s.fnAwake 0 then some 0 else none
  | .vf v => if s.fnAwake (v.val + 1) then s.fnGlove (v.val + 1) else none
  | .usb => s.usb.session

/-- The owning glove of page `p` (spec/03 R63): the GLV and CLK pages read 0, GVWn reads n. -/
def State.owner (s : State) (p : Nat) : Nat :=
  if p = Pg.glv ∨ p = Pg.clk then 0
  else if 0x80 ≤ p ∧ p ≤ 0xBF then p - 0x80
  else bf (s.reg p Hd.owner) 0 6

/-- PG_OWNER.SHARED_READ. -/
def State.sharedRead (s : State) (p : Nat) : Bool := p != Pg.glv && p != Pg.clk && bit (s.reg p Hd.owner) 8

/-- The register at this place holds fields that glove 0 alone writes (spec/03 R67). -/
def isOp0 (p off : Nat) : Bool :=
  match regRow p off with
  | some r => r.op0
  | none => false

/-- The place is a banked register, which every requester reaches in its own bank (spec/04 R86, spec/17 R446). -/
def isBanked (p off : Nat) : Bool := p == Pg.cmd && decide (0x40 ≤ off)

/-- Glove `g` may read (spec/03 R66, R67). -/
def State.mayRead (s : State) (g p off : Nat) : Bool :=
  isBanked p off || g == s.owner p || (g == 0 && (decide (off < 0x40) || isOp0 p off)) || s.sharedRead p

/-- Glove `g` may write (spec/03 R66, R67): what an owner other than glove 0 writes to PG_OWNER is ignored there (R63). -/
def State.mayWrite (s : State) (g p off : Nat) : Bool :=
  if isBanked p off then true
  else if isOp0 p off then g == 0
  else if g = s.owner p then true
  else g == 0 && (off == Hd.run || off == Hd.owner || off == Hd.drop || off == Hd.sticky)

-- Memory (spec/05 R118, spec/19 R488, R489)

/-- The first byte of DRAM in the physical map. -/
abbrev dramBase : Nat := 0x100000000
/-- The byte after DRAM. -/
abbrev dramEnd : Nat := 0x300000000

/-- The bytes `a` to `a + n - 1` lie in DRAM. -/
def inDram (a n : Nat) : Bool := decide (dramBase ≤ a) && decide (a + n ≤ dramEnd)

/-- The region of glove `g`: first byte and length. -/
def State.region (s : State) (g : Nat) : Nat × Nat :=
  let e := s.glove g
  (dramBase + e.base * 0x200000, e.size * 0x200000)

/-- The bytes touch a role region or a work region that its channel holds (spec/06 R135, spec/08 R196). -/
def State.guarded (s : State) (a n : Nat) : Bool :=
  let hit (base len : Nat) : Bool := decide (a < base + len) && decide (base < a + n)
  (List.range 4).any (fun c =>
    (!s.stopped (Pg.cea c) && hit (s.reg64 (Pg.cea c) Rg.CEA_ROLE_BASE_LO) 0x800000)
      || (!s.stopped (Pg.ktl c) && hit (s.reg64 (Pg.ktl c) Rg.KTL_WORK_BASE_LO) 0x4000000))

/-- The bytes lie in the memory that glove `g` may address (spec/05 R118). -/
def State.memOk (s : State) (g a n : Nat) : Bool :=
  inDram a n && !s.guarded a n &&
    (if g = 0 then
      (List.range 63).all (fun k =>
        let e := s.region (k + 1)
        !(s.glove (k + 1)).active || decide (e.2 = 0) || decide (a + n ≤ e.1) || decide (e.1 + e.2 ≤ a))
    else
      let e := s.region g
      s.active g && decide (e.1 ≤ a) && decide (a + n ≤ e.1 + e.2))

/-- Writes bytes to memory. -/
def State.store (s : State) (a : Nat) (b : List Byte) : State := { s with mem := wrBytes s.mem a b }

/-- Reads bytes of memory. -/
def State.load (s : State) (a n : Nat) : List Byte := rdBytes s.mem a n

/-- Something leaves the module (log entry 19). -/
def State.emit (s : State) (e : Emit) : State := { s with emitted := s.emitted ++ [e] }

-- Time (spec/15)

/-- Time base `n`. -/
def State.tmb (s : State) (n : Nat) : TmbSt :=
  match n with | 0 => s.tmb0 | 1 => s.tmb1 | 2 => s.tmb2 | _ => s.tmb3

/-- Sets time base `n`. -/
def State.setTmb (s : State) (n : Nat) (t : TmbSt) : State :=
  match n with
  | 0 => { s with tmb0 := t } | 1 => { s with tmb1 := t } | 2 => { s with tmb2 := t } | _ => { s with tmb3 := t }

/-- TMB1 as nanoseconds, the module's own monotonic time. -/
def State.now1 (s : State) : Nat := s.tmb1.sec * 1000000000 + s.tmb1.ns

-- Queues (spec/04)

/-- The queue of a QID. -/
def State.queue (s : State) (q : Nat) : Queue := Sparse.get (dflt {}) s.cmd.queues q

/-- Sets a queue. -/
def State.setQueue (s : State) (q : Nat) (x : Queue) : State :=
  { s with cmd := { s.cmd with queues := Sparse.set (dflt {}) s.cmd.queues q x } }

/-- The owner of a QID: its block's (spec/05 R124). -/
def State.queueOwner (s : State) (q : Nat) : Nat := Sparse.get (dflt 0) s.glv.qmap (q / 128)

/-- Bytes of one ring entry. -/
def Queue.entry (x : Queue) : Nat := if x.wide then 64 else 32
/-- Entries of the ring. -/
def Queue.n (x : Queue) : Nat := 2 ^ x.log2n
/-- The kind is one that software produces (spec/04 R99). -/
def Queue.soft (x : Queue) : Bool := x.kind == 0 || x.kind == 4
/-- Entries the queue holds (spec/04 R101). -/
def Queue.count (x : Queue) : Nat :=
  if x.soft then (x.sw + 2 ^ 32 - x.hw) % 2 ^ 32 else (x.hw + 2 ^ 32 - x.sw) % 2 ^ 32
/-- The address of entry `i`. -/
def Queue.slotAt (x : Queue) (i : Nat) : Nat := x.base + i % x.n * x.entry
/-- PHASE of the entry to be written next (spec/04 R102). -/
def Queue.phase (x : Queue) : Bool := x.hw / x.n % 2 == 0

/-- The function that takes an event of glove `g`: the lowest numbered with that glove (spec/19 R496). -/
def State.fnFor (s : State) (g : Nat) : Option Nat := (List.range 8).find? (fun f => s.fnGlove f == some g)

/-- A USB ring of glove `g` (spec/19 R505). -/
def State.ring (s : State) (g : Nat) : List UsbEntry := Sparse.get (dflt []) s.usb.rings g

/-- Appends to a USB ring. -/
def State.pushRing (s : State) (g : Nat) (e : UsbEntry) : State :=
  { s with usb := { s.usb with rings := Sparse.set (dflt []) s.usb.rings g (s.ring g ++ [e]) } }

/-- The 32 bytes of a completion entry with PHASE 0 (spec/04 R93). -/
def State.entryBytes (s : State) (handle status kind : Nat) (r0 r1 r2 tag : Word) : List Byte :=
  leBytes 4 handle ++ leBytes 2 status ++ leBytes 2 kind ++ leBytes 4 s.tmb1.sec ++ leBytes 4 s.tmb1.ns
    ++ leBytes 4 r0.toNat ++ leBytes 4 r1.toNat ++ leBytes 4 r2.toNat ++ leBytes 4 tag.toNat

/-- Events latched for the USB session's glove go to its ring while there is room (spec/19 R505). -/
def State.usbFlush (s : State) : State :=
  match s.usb.session with
  | none => s
  | some g =>
    (s.usb.latch.filter (fun e => e.1 == g)).foldl (fun a e =>
      if (a.ring g).length < 256 then
        let b := a.pushRing g (a.entryBytes e.2 0 (if 0x1000 ≤ e.2 then 4 else 2) 0 0 0 0)
        { b with usb := { b.usb with latch := b.usb.latch.filter (fun x => x != e) } }
      else a) s

/-- Queue `q` raises its event (spec/04 R106): ARM is cleared and each path latches it on its own (spec/19 R492, R495,
R496, R505); function 8 stands for none available yet (spec/03 R85). -/
def State.raiseQueue (s : State) (q : Nat) : State :=
  let x := s.queue q
  let g := s.queueOwner q
  let s1 := s.setQueue q { x with arm := false }
  let f := (s.fnFor g).getD 8
  let s2 := { s1 with
    pci := { s1.pci with coreLatch := if s1.pci.coreLatch.contains q then s1.pci.coreLatch else s1.pci.coreLatch ++ [q],
                         fnLatch := if s1.pci.fnLatch.contains (f, q) then s1.pci.fnLatch else s1.pci.fnLatch ++ [(f, q)] },
    usb := { s1.usb with latch := if s1.usb.latch.contains (g, 0x1000 + q) then s1.usb.latch
                                  else s1.usb.latch ++ [(g, 0x1000 + q)] } }
  s2.usbFlush

/-- The queue's event condition (spec/04 R106). -/
def Queue.due (x : Queue) : Bool :=
  x.live && x.arm && (if x.soft then x.sw == x.hw else decide (0 < x.count))

/-- Raises the event if its condition holds. -/
def State.checkQueue (s : State) (q : Nat) : State := if (s.queue q).due then s.raiseQueue q else s

/-- The module may write one more entry: the queue exists, is not full, is not withheld by an ECC error, and its ring place
lies in its owner's memory (spec/04 R107, R109, R111). -/
def State.canPost (s : State) (q : Nat) : Bool :=
  let x := s.queue q
  x.live && !x.ecc && !x.spoilt && decide (x.count < x.n) && s.memOk (s.queueOwner q) (x.slotAt x.hw) x.entry

/-- Writes an entry of a module-produced queue: `f` gives its bytes for a PHASE; the index moves after it (R102). -/
def State.post (s : State) (q : Nat) (f : Bool → List Byte) : State :=
  let x := s.queue q
  let s1 := s.store (x.slotAt x.hw) (f x.phase)
  (s1.setQueue q { x with hw := (x.hw + 1) % 2 ^ 32 }).checkQueue q

/-- The queue's next ring access is barred by the rules of memory alone (spec/04 R109). -/
def State.ringBarred (s : State) (q : Nat) : Bool :=
  let x := s.queue q
  x.live && !x.ecc && (if x.soft then decide (0 < x.count) else decide (x.count < x.n))
    && !s.memOk (s.queueOwner q) (x.slotAt x.hw) x.entry

/-- An uncorrectable ECC error in a queue context or a ring entry: the queue behaves as full from then on (spec/04 R111). -/
def State.queueEcc (s : State) (q : Nat) : State :=
  (s.setQueue q { s.queue q with ecc := true, spoilt := false }).raiseSrc Pg.cmd 1

/-- The context of queue `q` is read, and checked (spec/04 R111). -/
def State.queueChecked (s : State) (q : Nat) : State :=
  if (s.queue q).live && (s.queue q).spoilt then s.queueEcc q else s

/-- A ring access that was not performed: its queue's context was read (spec/04 R111), and a place that is not the owner's
memory counts as a violation (spec/05 R118, R121). -/
def State.ringTried (s : State) (q : Nat) : State :=
  let s1 := s.queueChecked q
  if s1.ringBarred q then s1.violation (s1.queueOwner q % 64) else s1

/-- An entry dropped for want of space (spec/04 R107). -/
def State.dropEntry (s : State) (q : Nat) : State :=
  let x := s.queue q
  (s.setQueue q { x with drops := satInc x.drops, ovf := true, ovfMark := true }).ringTried q

/-- The module takes the head entry of a software-produced queue. -/
def State.consume (s : State) (q : Nat) : State :=
  let x := s.queue q
  (s.setQueue q { x with hw := (x.hw + 1) % 2 ^ 32 }).checkQueue q

/-- The head entry of a software-produced queue is there and its ring place may be read. -/
def State.canTake (s : State) (q : Nat) : Bool :=
  let x := s.queue q
  x.live && x.soft && !x.ecc && !x.spoilt && decide (0 < x.count) && s.memOk (s.queueOwner q) (x.slotAt x.hw) x.entry

/-- The bytes of the head entry. -/
def State.headEntry (s : State) (q : Nat) : List Byte :=
  let x := s.queue q
  s.load (x.slotAt x.hw) x.entry

-- Slots and completions (spec/04 R90 to R97, R107)

/-- A slot. -/
def State.slotOf (s : State) (n : Nat) : Slot := Sparse.get (dflt {}) s.cmd.slots n

/-- Sets a slot. -/
def State.setSlot (s : State) (n : Nat) (x : Slot) : State :=
  { s with cmd := { s.cmd with slots := Sparse.set (dflt {}) s.cmd.slots n x } }

/-- The handle of slot `n` (spec/04 R90). -/
def Slot.handle (x : Slot) (n : Nat) : Nat := x.glove * 2 ^ 26 + x.gen * 2 ^ 12 + n

/-- Slots held by glove `g` (spec/05 R124). Places from 8,192 on are no slots: they hold what LOOPCTL issues (spec/08 R205). -/
def State.heldBy (s : State) (g : Nat) : Nat :=
  (s.cmd.slots.filter (fun e => decide (e.1 < 4096) && decide (e.2.phase ≠ .free) && e.2.glove == g)).length

/-- The next free slot (spec/04 R91): the least recently freed first, those never used before all others. -/
def State.nextSlot (s : State) : Option Nat :=
  if s.cmd.fresh < 4096 then some s.cmd.fresh else s.cmd.freed.head?

/-- Frees a slot; its record stays (spec/04 R92). -/
def State.freeSlot (s : State) (n : Nat) : State :=
  let s1 := s.setSlot n { s.slotOf n with phase := .free }
  { s1 with cmd := { s1.cmd with freed := s1.cmd.freed ++ [n], held := s1.cmd.held.filter (fun k => k != n) } }

/-- A slot and quota are available to glove `g` (spec/04 R88). -/
def State.canIssue (s : State) (g : Nat) : Bool :=
  s.nextSlot.isSome && decide (s.heldBy g < (s.glove g).quota)

/-- Allocates a slot: its GEN moves on, never to 0 (spec/04 R91). -/
def State.alloc (s : State) (n g op : Nat) (args : List Word) (o : CmdOrigin) (cq : CqTo) (tag : Word) : State :=
  let x := s.slotOf n
  let y : Slot := { gen := if x.gen = 0x3FFF then 1 else x.gen + 1, glove := g, op := op, args := args, origin := o, cq := cq,
                    tag := tag, phase := .inHand }
  let s1 := s.setSlot n y
  { s1 with cmd := { s1.cmd with
      fresh := if n = s1.cmd.fresh ∧ s1.cmd.fresh < 4096 then s1.cmd.fresh + 1 else s1.cmd.fresh,
      freed := s1.cmd.freed.filter (fun k => k != n) } }

/-- The completion entry of slot `n`. -/
def State.slotEntry (s : State) (n : Nat) (phase : Bool) : List Byte :=
  let x := s.slotOf n
  let b := s.entryBytes (x.handle n) x.status 1 x.res0 x.res1 x.res2 x.tag
  patchB b 7 [if phase then 0x80 else 0]

/-- The completion of slot `n` can be posted now. -/
def State.canComplete (s : State) (n : Nat) : Bool :=
  let x := s.slotOf n
  match x.cq with
  | .poll => false
  | .queue q => (s.queue q).kind == 1 && s.queueOwner q == x.glove && s.canPost q
  | .usbRing => decide ((s.ring x.glove).length < 256)

/-- Posts the completion of slot `n` and frees it. -/
def State.postSlot (s : State) (n : Nat) : State :=
  match (s.slotOf n).cq with
  | .poll => s
  | .queue q => (s.post q (fun ph => s.slotEntry n ph)).freeSlot n
  | .usbRing => (s.pushRing (s.slotOf n).glove (s.slotEntry n false)).freeSlot n

/-- A completion waits for the same queue before this one (spec/04 R107). -/
def State.heldBefore (s : State) (n : Nat) : Bool :=
  s.cmd.held.any (fun k => k != n && decide ((s.slotOf k).cq = (s.slotOf n).cq))

/-- The completion of slot `n` was tried at its queue and waits. -/
def State.completeTried (s : State) (n : Nat) : State :=
  match (s.slotOf n).cq with
  | .queue q => if (s.queue q).kind == 1 && s.queueOwner q == (s.slotOf n).glove then s.ringTried q else s
  | _ => s

/-- What a record that fails its parity check completes as: FAILED_INTERNAL with zero results (spec/04 R111). -/
def Slot.checked (x : Slot) : Slot :=
  if x.spoilt then { x with status := 0x02FF, res0 := 0, res1 := 0, res2 := 0, spoilt := false } else x

/-- The record of slot `n` is read, and checked (spec/04 R111). -/
def State.slotChecked (s : State) (n : Nat) : State :=
  if (s.slotOf n).spoilt then (s.setSlot n (s.slotOf n).checked).raiseSrc Pg.cmd 0 else s

/-- The record of a command that completes now, checked (spec/04 R91, R111). -/
def State.recordOf (s : State) (x : Slot) (status : Nat) (r0 r1 r2 : Word) : Slot :=
  ({ x with
    complete := true, status := status, res0 := r0, res1 := r1, res2 := r2, tsSec := wd s.tmb1.sec, tsNs := wd s.tmb1.ns } :
    Slot).checked

/-- Completes the command in slot `n` (spec/04 R91, R93, R107, R110, R111). A command no longer in hand stays as it is, and from
PFW on no command completes (R112). -/
def State.complete (s : State) (n status : Nat) (r0 : Word := 0) (r1 : Word := 0) (r2 : Word := 0) : State :=
  let x := s.slotOf n
  if x.phase = .inHand ∧ s.pfw = false then
    let y := s.recordOf x status r0 r1 r2
    let s0 := if x.spoilt then s.raiseSrc Pg.cmd 0 else s
    match x.cq with
    | .poll => s0.setSlot n { y with phase := .done }
    | _ =>
      let s1 := s0.setSlot n { y with phase := .held }
      if s1.canComplete n && !s1.heldBefore n then s1.postSlot n
      else
        let s2 := s1.completeTried n
        { s2 with cmd := { s2.cmd with held := s2.cmd.held ++ [n] } }
  else s

/-- A command being carried out: its slot, glove, opcode and arguments. -/
structure Ctx where
  slot : Nat
  g : Nat
  op : Nat
  a : List Word
  deriving DecidableEq, Repr

namespace Ctx
/-- Argument word `k`. -/
def arg (c : Ctx) (k : Nat) : Word := nth c.a k 0
/-- A field of argument word `k`. -/
def f (c : Ctx) (k lo len : Nat) : Nat := bf (c.arg k) lo len
/-- A bit of argument word `k`. -/
def b (c : Ctx) (k i : Nat) : Bool := bit (c.arg k) i
/-- An address in argument words `k` and `k + 1`. -/
def addr (c : Ctx) (k : Nat) : Nat := (c.arg k).toNat + 2 ^ 32 * (c.arg (k + 1)).toNat
end Ctx

/-- Completes the command. -/
def State.fin (s : State) (c : Ctx) (status : Nat) (r0 : Word := 0) (r1 : Word := 0) (r2 : Word := 0) : State :=
  s.complete c.slot status r0 r1 r2

/-- Completes DONE. -/
def State.done (s : State) (c : Ctx) (r0 : Word := 0) (r1 : Word := 0) (r2 : Word := 0) : State := s.fin c 0 r0 r1 r2

/-- Step 3 of spec/04 R96: a resource of another glove; DONE with zero results, and a violation (spec/05 R121). -/
def State.foreign (s : State) (c : Ctx) : State := (s.violation c.g).fin c 0

namespace St
abbrev note : Nat := 0x0001
abbrev aborted : Nat := 0x0010
abbrev internal : Nat := 0x02FF
abbrev state : Nat := 0x0101
abbrev arg : Nat := 0x0102
abbrev busy : Nat := 0x0103
abbrev op : Nat := 0x0104
end St

/-- The command of a requester whose glove is not active: it completes DONE with zero results and counts (spec/05 R115). -/
def ownsNothing (c : Ctx) (s : State) : State := s.foreign c

/-- Runs a command body in a fresh slot of a bank (spec/04 R86 to R88, spec/05 R115, spec/22 R572). Where an inactive glove finds
no slot, its write of CMD_OP counts alone. -/
def State.issue (s : State) (r : Requester) (op : Nat) (body : Ctx → State → State) : State :=
  if s.coreUp then
    match s.gloveOf r with
    | none => s
    | some g =>
      let b := bankOf r
      if s.pfw then (if s.active g then s else s.violation g).setBreg b Pg.cmd Rg.CMD_TICKET 0
      else if s.canIssue g then
        let n := s.nextSlot.getD 0
        let args := (List.range 8).map (fun k => s.breg b Pg.cmd (Rg.CMD_ARG + 4 * k))
        let cq := s.breg b Pg.cmd Rg.CMD_CQ
        let dst : CqTo := if bit cq 31 then .queue (bf cq 0 15) else .poll
        let s1 := s.alloc n g op args (.bank b) dst 0
        let s2 := s1.setBreg b Pg.cmd Rg.CMD_TICKET (wd ((s1.slotOf n).handle n))
        (if s.active g then body else ownsNothing) ⟨n, g, op, args⟩ s2
      else
        ((if s.active g then s else s.violation g).setBreg b Pg.cmd Rg.CMD_TICKET 0).setBreg b Pg.cmd Rg.CMD_NOSLOT
          (satInc (s.breg b Pg.cmd Rg.CMD_NOSLOT))
  else s

/-- The buffer lies in the issuer's memory and is 64-byte aligned. -/
def State.bufOk (s : State) (c : Ctx) (a n : Nat) : Bool := a % 64 == 0 && s.memOk c.g a n

/-- FATAL is latched. -/
def State.isFatal (s : State) : Bool := s.sys.fatal

/-- The part has a Caddy (spec/00 R1, R5). -/
def State.metrology (s : State) : Bool := match s.part with | .m _ => true | .c => false

/-- The market code. -/
def State.market (s : State) : Nat := match s.part with | .m n => n.val | .c => 0

end Sys2Proof.Machine
end

