-- ==== Sys2Proof/Machine/RiserOps.lean ====
section
/-! DEFINITION. What other blocks hand to the riser: ports, ring maps, and how a frame is given to a port
(spec/14 R374 to R380). -/

namespace Sys2Proof.Machine

/-- A riser port. -/
def State.rsPort (s : State) (west : Bool) : RsPort := if west then s.rs.west else s.rs.east

/-- Sets a riser port. -/
def State.setRsPort (s : State) (west : Bool) (x : RsPort) : State :=
  if west then { s with rs := { s.rs with west := x } } else { s with rs := { s.rs with east := x } }

/-- The page of a riser port. -/
abbrev rsPage (west : Bool) : Nat := Pg.rs west.toNat

/-- The port is UP on a running page. -/
def State.rsUp (s : State) (west : Bool) : Bool := (s.rsPort west).st == 4

/-- REACH of a port (spec/14 R380). -/
def State.reach (s : State) (west : Bool) : Nat := (s.rsPort west).map.length

/-- Members known through either port, plus this module (spec/14 R380). -/
def State.ringN (s : State) : Nat :=
  s.rs.east.map.length + (s.rs.west.map.filter (fun e => !(s.rs.east.map.keys.contains e.1))).length + 1

/-- RS_RING.CLOSED of both ports: the own ANNOUNCE has returned in both directions. -/
def State.ringClosed (s : State) : Bool := s.rs.east.ownBack && s.rs.west.ownBack

/-- Bytes of a stored frame: tag, frame and FCS. -/
def RFrame.size (f : RFrame) : Nat := f.body.length + 11

/-- Bytes waiting in a transit buffer. -/
def waiting (l : List RFrame) : Nat := l.foldl (fun n f => n + f.size) 0

/-- The transit buffer of a class (spec/14 R379). -/
def transitRoom (cls : Nat) : Nat := if cls = 0 then 0x100000 else if cls = 1 then 0x40000 else 0x200000

/-- A local frame is given to a port that is UP, or dropped there (spec/14 R379). -/
def State.rsLocal (s : State) (west : Bool) (f : RFrame) : State :=
  let x := s.rsPort west
  if s.rsUp west then
    if f.cls = 0 then s.setRsPort west { x with tpiL := x.tpiL ++ [f] }
    else if f.cls = 1 then s.setRsPort west { x with ctlL := x.ctlL ++ [f] }
    else s
  else s.bump (rsPage west) Rg.RS_DROP_DOWN

/-- A transit frame is given to its egress port (spec/14 R379). -/
def State.rsTransit (s : State) (west : Bool) (f : RFrame) : State :=
  let x := s.rsPort west
  if s.rsUp west then
    let q := if f.cls = 0 then x.tpiT else if f.cls = 1 then x.ctlT else x.beT
    if transitRoom f.cls < waiting q + f.size then s.bump (rsPage west) Rg.RS_DROP_BUF
    else if f.cls = 0 then s.setRsPort west { x with tpiT := q ++ [f] }
    else if f.cls = 1 then s.setRsPort west { x with ctlT := q ++ [f] }
    else s.setRsPort west { x with beT := q ++ [f] }
  else s.bump (rsPage west) Rg.RS_DROP_DOWN

/-- A frame of a port's own with its tag (spec/14 R374). -/
def State.ownFrame (s : State) (west : Bool) (cls dest limit : Nat) (body : List Byte) : RFrame :=
  { cls := cls, hop := 0, src := (s.rsPort west).addr, dest := dest, limit := limit, body := body }

/-- A frame to every member by both ports: TPI, ANNOUNCE and LINK_EVENT (spec/14 R376). -/
def State.rsAll (s : State) (cls : Nat) (body : Bool → List Byte) : State :=
  (s.rsLocal false (s.ownFrame false cls 0xFF 128 (body false))).rsLocal true (s.ownFrame true cls 0xFF 128 (body true))

/-- The port that reaches member `d` at fewer hops, east on a tie (spec/14 R376). -/
def State.route (s : State) (d : Nat) : Option Bool :=
  let e := s.rs.east.map.find? (fun x => x.1 == d)
  let w := s.rs.west.map.find? (fun x => x.1 == d)
  match e, w with
  | none, none => none
  | some _, none => some false
  | none, some _ => some true
  | some a, some b => some (decide (b.2 < a.2))

/-- A CONTROL frame to one member, dropped and counted without a route (spec/14 R376). -/
def State.rsTo (s : State) (d : Nat) (body : Bool → List Byte) : State :=
  match s.route d with
  | none => s.bump (rsPage false) Rg.RS_DROP_DOWN
  | some w => s.rsLocal w (s.ownFrame w 1 d 128 (body w))

/-- The MAC address of a riser port, which the spec does not give (log entry 20). -/
def rsMac (west : Bool) : List Byte := (List.range 6).map (fun k => Config.riserMacByte west k)

/-- A queue, its entry and PHASE apart, takes an entry with the OVF mark of dropped ones (spec/04 R107, spec/13 R366). -/
def State.postMarked (s : State) (q : Nat) (f : Bool → Bool → List Byte) : State :=
  let x := s.queue q
  (s.setQueue q { x with ovfMark := false }).post q (fun ph => f ph x.ovfMark)

end Sys2Proof.Machine
end

