-- ==== Sys2Proof/Machine/Points.lean ====
section
/-! DEFINITION. Points and the tower point image (spec/13 R345 to R373). -/

namespace Sys2Proof.Machine

/-- The word of point `p` in the ownership map in force (spec/13 R349). -/
def State.mapW (s : State) (p : Nat) : Word := Sparse.get (dflt 0) s.ptb.map p

/-- ROLE of a map word: 0 REMOTE, 1 OWN, 2 PARTNER, 3 LOCAL. -/
def mRole (w : Word) : Nat := bf w 0 2
/-- TYPE of a map word. -/
def mType (w : Word) : Nat := bf w 2 3
/-- WKIND of a map word. -/
def mKind (w : Word) : Nat := bf w 5 4
/-- GLOVE of a map word. -/
def mGlove (w : Word) : Nat := bf w 9 6
/-- SHARED_READ of a map word. -/
def mShared (w : Word) : Bool := bit w 15
/-- WID of a map word. -/
def mWid (w : Word) : Nat := bf w 16 16

/-- A map word whose codes make its point unused (spec/13 R349). -/
def mBad (w : Word) : Bool := decide (5 ≤ mType w) || decide (8 ≤ mKind w)

/-- The point is unused (spec/13 R349, R350). -/
def State.unused (s : State) (p : Nat) : Bool := mBad (s.mapW p) || s.ptb.bad.contains p

/-- The entry of a point. -/
def State.pointOf (s : State) (p : Nat) : Point := Sparse.get (dflt {}) s.ptb.points p

/-- Sets the entry of a point. -/
def State.setPoint (s : State) (p : Nat) (x : Point) : State :=
  { s with ptb := { s.ptb with points := Sparse.set (dflt {}) s.ptb.points p x } }

/-- TCHG at this moment (spec/13 R346). -/
def State.tchgNow (s : State) : Word := wd (s.tmb0.sec * 1000000 + s.tmb0.ns / 1000)

/-- Value and quality written; TCHG follows a change (spec/13 R346). -/
def Point.put (x : Point) (t v : Word) (q : Nat) : Point :=
  if x.value = v ∧ x.qual = q then x else { x with value := v, qual := q, tchg := t }

/-- Glove `g` may read the entry (spec/05 R118). -/
def State.mayReadPoint (s : State) (g p : Nat) : Bool := g == mGlove (s.mapW p) || mShared (s.mapW p)

/-- The entry as a reader of glove `g` sees it: all-zero where it may not read (spec/05 R119). -/
def State.pointFor (s : State) (pts : Sparse Point) (g p : Nat) : Point :=
  if s.mayReadPoint g p then Sparse.get (dflt {}) pts p else {}

/-- A usable quality (spec/07 R178): GOOD, CLAMPED, FALLBACK or FORCED. -/
def usableQ (q : Nat) : Bool := q == 1 || q == 3 || q == 4 || q == 5

/-- A writer of points (spec/13 R351): kind, identity, glove, and its type where the rule compares it. -/
structure Writer where
  kind : Nat
  wid : Nat
  glove : Nat
  ptype : Option Nat
  deriving DecidableEq, Repr

/-- The conditions of spec/13 R351. -/
def State.mayWritePoint (s : State) (w : Writer) (p : Nat) : Bool :=
  let m := s.mapW p
  !s.unused p && (mRole m == 1 || mRole m == 3 || (mRole m == 2 && s.lse.adopting))
    && mKind m == w.kind && mWid m == w.wid && mGlove m == w.glove
    && (match w.ptype with | some t => mType m == t | none => true)
    && !(s.pointOf p).forced && s.running Pg.ptb

/-- The entry of point `p` after a write that is made (spec/13 R351). -/
def State.written (s : State) (p : Nat) (v : Word) (q : Nat) : Point :=
  let m := s.mapW p
  { (s.pointOf p).put s.tchgNow v q with ptype := mType m, glove := mGlove m, owner := s.ptb.addr, age := 0, wrote := true }

/-- A write to a point (spec/13 R351). -/
def State.writePoint (s : State) (w : Writer) (p : Nat) (v : Word) (q : Nat) : State :=
  if s.mayWritePoint w p then s.setPoint p (s.written p v q) else s.bump Pg.ptb Rg.PTB_WDENY

/-- A writer stops: the points it writes turn NONE and keep their values, forced ones apart (spec/13 R352): the module's own, or
the partner's, which an adopted loop or task writes (R351). -/
def State.writerNone (s : State) (adopted : Bool) (stops : Nat → Nat → Bool) : State :=
  s.ptb.points.foldl (fun a e =>
    let m := a.mapW e.1
    let role := if adopted then mRole m == 2 && a.lse.adopting else mRole m == 1 || mRole m == 3
    if role && stops (mKind m) (mWid m) && !e.2.forced then a.setPoint e.1 (e.2.put a.tchgNow e.2.value 0) else a) s

-- The ownership map (spec/13 R349, R350)

/-- The words of the map in memory from address `base`. -/
def mapFrom (m : List Host.Cell) (base : Nat) : Sparse Word :=
  m.foldl (fun t c =>
    if base ≤ c.1 ∧ c.1 < base + 0x40000 then
      let i := (c.1 - base) / 4
      Sparse.set (dflt 0) t i (Sparse.get (dflt 0) t i ||| wd (c.2.toNat * 2 ^ (8 * ((c.1 - base) % 4))))
    else t) []

/-- The points of a role beyond the 8,192nd. -/
def overLimit (m : Sparse Word) (role : Nat) : List Nat :=
  ((m.filter (fun e => mRole e.2 == role)).map (·.1)).drop 8192

/-- PTB enters STARTING (spec/13 R349, R350): the map is read whole; `spoilt`: points whose words cannot be read. -/
def State.ptbStarting (s : State) (spoilt : List Nat) : State :=
  let m := Sparse.keep (fun p => !spoilt.contains p) (mapFrom s.mem (s.reg64 Pg.ptb Rg.PTB_MAP_BASE_LO))
  let above := overLimit m 1 ++ overLimit m 2
  let s1 := { s with ptb := { s.ptb with map := m, bad := above ++ spoilt, mapRead := true } }
  let s2 := { s1 with ptb := { s1.ptb with points := Sparse.keep (fun p => !s1.unused p) s1.ptb.points } }
  let s3 := if above = [] then s2 else s2.raiseSrc Pg.ptb 3
  if spoilt = [] then s3 else s3.raiseSrc Pg.ptb 2

/-- The points of the map in force with a role that are in use, ascending. -/
def State.pointsOf (s : State) (role : Nat) : List Nat :=
  (s.ptb.map.filter (fun e => mRole e.2 == role && !s.unused e.1)).map (·.1)

/-- The points that the module forces now. -/
def State.forcedPoints (s : State) : List Nat := (s.ptb.points.filter (fun e => e.2.forced)).map (·.1)

/-- Forced state is not kept across a restart (spec/13 R353). -/
def State.unforce (s : State) : State :=
  s.ptb.points.foldl (fun a e =>
    if e.2.forced then a.setPoint e.1 { e.2.put a.tchgNow e.2.value 0 with forced := false } else a) s

-- The TPI cycle (spec/13 R354)

/-- The length of a cycle code in µs. -/
def cycleLen (c : Nat) : Nat :=
  match c with | 0 => 250 | 1 => 500 | 3 => 2000 | 4 => 2500 | 5 => 5000 | 6 => 10000 | _ => 1000

/-- The cycle in force, in µs. -/
def State.cycleUs (s : State) : Nat := cycleLen s.ptb.cycleCode

/-- The cycle number c of TMB0. -/
def State.cycleNo (s : State) : Nat :=
  s.tmb0.sec * (1000000 / s.cycleUs) + s.tmb0.ns / (s.cycleUs * 1000)

/-- TPI enters STARTING (spec/13 R354, R370). -/
def State.tpiStarting (s : State) : State :=
  let c := s.reg Pg.tpi Rg.TPI_CTRL
  let s1 := { s with ptb := { s.ptb with cycleCode := bf c 0 3, staleAt := bf c 4 4, ringId := bf c 16 16,
                                         addr := bf (s.reg Pg.lse Rg.LSE_CTRL) 0 7,
                                         winUs := bf (s.reg Pg.tpi Rg.TPI_WIN) 0 14 } }
  { s1 with ptb := { s1.ptb with cycle := s1.cycleNo } }

/-- The scheduled window in µs, at most half the cycle (spec/13 R370). -/
def State.windowUs (s : State) : Nat := min s.ptb.winUs (s.cycleUs / 2)

/-- The scheduled window, measured from the last boundary on the time base that does not step, is open (spec/13 R356). -/
def State.inWindow (s : State) : Bool :=
  match s.ptb.boundAt with
  | none => false
  | some t => decide (s.now1 < t + s.windowUs * 1000)

/-- Own publication is stopped by PUB_STOPPED or by R244. -/
def State.ownPubStopped (s : State) : Bool := s.lse.pubStopped || s.lse.silentSafe

/-- Own points are being published (spec/13 R355), from the entry of a mode on (spec/02 R47). -/
def State.publishing (s : State) : Bool :=
  s.running Pg.tpi && s.running Pg.ptb && decide (s.sys.mode ≠ .recovery) && decide (s.sys.mode ≠ .startup) && !s.ownPubStopped

/-- The partner's set is being published (spec/13 R355, spec/09 R230). -/
def State.adoptPublishing (s : State) : Bool := s.running Pg.tpi && s.lse.adopting && s.lse.adoptGranted

/-- A run of a TPI frame under construction: its points. -/
abbrev TRun := List Nat

/-- Cuts ascending points into frames of runs (spec/13 R358): at most 1,024 records and 255 runs each. `cur` is the frame
being filled, its last run first. -/
def cutFrames : List Nat → List TRun → Nat → List (List TRun)
  | [], cur, _ => if cur = [] then [] else [cur.reverse]
  | p :: t, cur, n =>
    match cur with
    | [] => cutFrames t [[p]] 1
    | r :: rs =>
      if n = 1024 then cur.reverse :: cutFrames t [[p]] 1
      else if r.getLast? = some (p - 1) ∧ p ≠ 0 then cutFrames t ((r ++ [p]) :: rs) (n + 1)
      else if cur.length = 255 then cur.reverse :: cutFrames t [[p]] 1
      else cutFrames t ([p] :: cur) (n + 1)

/-- A record of the publication image (spec/13 R358). -/
def State.recBytes (s : State) (p : Nat) : List Byte :=
  let x := s.pointOf p
  let m := s.mapW p
  beBytes 4 x.value.toNat ++ beBytes 4 (x.qual + 16 * mType m + 256 * x.age + 65536 * mGlove m)

/-- A run: header and records. -/
def State.runBytes (s : State) (r : TRun) : List Byte :=
  beBytes 2 (r.headD 0) ++ beBytes 2 r.length ++ r.flatMap s.recBytes

/-- The destination of TPI frames (spec/13 R357). -/
def tpiDest : List Byte := [0x03, 0x0F, 0xC7, 0x14, 0x00, 0x01]

/-- The bytes of a TPI frame from its destination on (spec/13 R357). -/
def State.tpiBytes (s : State) (origin : Nat) (adopt last : Bool) (frag : Nat) (runs : List TRun) (west : Bool) :
    List Byte :=
  tpiDest ++ rsMac west ++ [0x88, 0xB5, 0x50, 0x01, BitVec.ofNat 8 (adopt.toNat + 2 * last.toNat), 0x00]
    ++ beBytes 2 s.ptb.ringId ++ [BitVec.ofNat 8 s.ptb.addr, BitVec.ofNat 8 origin] ++ beBytes 4 (s.ptb.cycle % 2 ^ 32)
    ++ [BitVec.ofNat 8 s.ptb.cycleCode, BitVec.ofNat 8 frag] ++ beBytes 2 runs.length
    ++ beBytes 2 (runs.foldl (fun n r => n + r.length) 0) ++ List.replicate 14 0 ++ runs.flatMap s.runBytes

/-- The frames of a set are handed to both riser ports (spec/13 R356). -/
def State.publishSet (s : State) (origin : Nat) (adopt : Bool) (pts : List Nat) : State :=
  let fs := cutFrames pts [] 0
  (fs.zipIdx).foldl (fun a f =>
    a.rsAll 0 (fun west => s.tpiBytes origin adopt (f.2 + 1 == fs.length) f.2 f.1 west)) s

/-- The publication of a boundary (spec/13 R355, R356). -/
def State.publish (s : State) : State :=
  let s1 := if s.publishing then s.publishSet s.ptb.addr false (s.pointsOf 1) else s
  if s.adoptPublishing then s1.publishSet (bf (s.reg Pg.lse Rg.LSE_CTRL) 8 7) true (s.pointsOf 2) else s1

-- Ageing (spec/13 R352, R363)

/-- Saturation at 255. -/
def inc255 (n : Nat) : Nat := min (n + 1) 255

/-- One entry at a TPI boundary. -/
def State.agePoint (s : State) (p : Nat) : Point :=
  let x := s.pointOf p
  let role := mRole (s.mapW p)
  let remote := role == 0 || (role == 2 && !s.lse.adopting)
  let taken := role == 1 && s.ownPubStopped
  let hit := x.held.isSome
  let agesOwn := (role == 1 || role == 3) && !x.wrote && !hit
  let ages := (remote || taken) && x.seen && !hit
  let y := { x with age := if agesOwn || ages then inc255 x.age else x.age,
                    miss := if ages then inc255 x.miss else if (role == 1 && !taken) || role == 3 then 0 else x.miss,
                    wrote := false, held := none }
  if ages && decide (s.ptb.staleAt ≤ y.miss) && !x.forced then y.put s.tchgNow y.value 2 else y

/-- The points whose entries age: those written or received, and own and local points. -/
def State.ageKeys (s : State) : List Nat :=
  let own := s.ptb.map.filter (fun e => (mRole e.2 == 1 || mRole e.2 == 3) && !s.unused e.1)
  Sparse.keys (own.foldl (fun (m : Sparse Unit) e => Sparse.put m e.1 ()) (s.ptb.points.map (fun e => (e.1, ()))))

/-- A receiver cycle ends while PTB does not age its entries: what took effect, or was written, in it counts no further. -/
def Point.cycleOver (x : Point) : Point := { x with wrote := false, held := none }

/-- A TPI boundary ends a receiver cycle (spec/13 R362); while PTB is RUNNING, entries age (R352, R363). -/
def State.agePoints (s : State) : State :=
  if s.running Pg.ptb then
    let ks := s.ageKeys
    let s1 := ks.foldl (fun a p => a.setPoint p (s.agePoint p)) s
    if ks.any (fun p => (s.agePoint p).qual == 2 && (s.pointOf p).qual != 2) then s1.raiseSrc Pg.tpi 3 else s1
  else s.ptb.points.foldl (fun a e => a.setPoint e.1 e.2.cycleOver) s

/-- Entries now STALE (spec/13 R370). -/
def State.staleNow (s : State) : Nat := (s.ptb.points.filter (fun e => e.2.qual == 2)).length

/-- Closure of the ring at a boundary (spec/13 R371). -/
def State.closeRing (s : State) : State :=
  let b := s.ptb
  let s1 := { s with ptb := { b with closedE := if b.sentAny then b.backE else b.closedE,
                                     closedW := if b.sentAny then b.backW else b.closedW,
                                     backE := false, backW := false, sentAny := false } }
  if (b.closedE && !s1.ptb.closedE) || (b.closedW && !s1.ptb.closedW) then s1.raiseSrc Pg.tpi 0 else s1

-- Change-of-value events (spec/13 R365, R366)

/-- What queue `q` last posted of point `p`. -/
def State.postedOf (s : State) (q p : Nat) : Posted := Sparse.get (dflt {}) s.ptb.posted (q * 65536 + p)

/-- Sets it. -/
def State.setPosted (s : State) (q p : Nat) (x : Posted) : State :=
  { s with ptb := { s.ptb with posted := Sparse.set (dflt {}) s.ptb.posted (q * 65536 + p) x } }

/-- An entry of a change-of-value queue (spec/13 R366). -/
def State.covEntry (s : State) (p : Nat) (phase ovf : Bool) : List Byte :=
  let x := s.pointOf p
  leBytes 2 p ++ leBytes 2 (x.qual + 16 * x.ptype + 0x4000 * ovf.toNat + 0x8000 * phase.toNat) ++ leBytes 4 x.value.toNat
    ++ leBytes 4 x.tchg.toNat ++ leBytes 1 x.age ++ leBytes 1 x.owner ++ leBytes 2 0 ++ leBytes 4 (s.ptb.cycle % 2 ^ 32)
    ++ leBytes 12 0

/-- The entry shows nothing but zeros. -/
def Point.blank (x : Point) : Bool :=
  decide (x.value = 0) && x.qual == 0 && x.ptype == 0 && x.owner == 0 && x.glove == 0 && x.age == 0 && decide (x.tchg = 0)
    && x.miss == 0 && !x.dirW && !x.adopted

/-- Queue `q` posts point `p` at this boundary. -/
def State.covDue (s : State) (q p : Nat) : Bool :=
  let m := s.mapW p
  let x := s.pointOf p
  let l := s.postedOf q p
  (mGlove m == s.queueOwner q || mShared m) &&
    (if l.done then x.qual != l.qual || decide ((s.queue q).arg6.toNat < (x.value.toInt - l.value.toInt).natAbs)
     else !x.blank)

/-- Posts or drops one change-of-value entry (spec/04 R107). -/
def State.covPost (s : State) (q p : Nat) : State :=
  if s.covDue q p then
    if s.canPost q then
      let x := s.pointOf p
      (s.postMarked q (fun ph ov => s.covEntry p ph ov)).setPosted q p ⟨x.value, x.qual, true⟩
    else s.dropEntry q
  else s

/-- The queues of kind `k`. -/
def State.queuesOf (s : State) (k : Nat) : List Nat :=
  (s.cmd.queues.filter (fun e => e.2.live && e.2.kind == k)).map (·.1)

/-- The points a queue may have to post: those with an entry or a posting in its range. -/
def State.covKeys (s : State) (q : Nat) : List Nat :=
  let a := (s.queue q).arg5
  let lo := bf a 0 16
  let hi := bf a 16 16
  let posted := (s.ptb.posted.filter (fun e => e.1 / 65536 == q)).map (fun e => e.1 % 65536)
  let ks := Sparse.keys (posted.foldl (fun (m : Sparse Unit) p => Sparse.put m p ())
    (s.ptb.points.map (fun e => (e.1, ()))))
  ks.filter (fun p => decide (lo ≤ p) && decide (p ≤ hi))

/-- Change-of-value events of a boundary. -/
def State.postCov (s : State) : State :=
  (s.queuesOf 2).foldl (fun a q => (a.covKeys q).foldl (fun b p => b.covPost q p) a) s

-- Taking points from the ring (spec/13 R359 to R362)

/-- A run of a received frame: first point, count, and the offset of its records. -/
structure RxRun where
  first : Nat
  count : Nat
  off : Nat
  deriving DecidableEq, Repr

/-- The runs of a frame from offset `o`. -/
def rxRuns (b : List Byte) : Nat → Nat → List RxRun
  | 0, _ => []
  | n + 1, o =>
    let c := beNat (sliceB b (o + 2) 2)
    ⟨beNat (sliceB b o 2), c, o + 4⟩ :: rxRuns b n (o + 4 + 8 * c)

/-- A TPI header field of `n` bytes. -/
def tpiField (b : List Byte) (o n : Nat) : Nat := beNat (sliceB b (14 + o) n)

/-- The frame passes spec/13 R360. -/
def State.tpiGood (s : State) (b : List Byte) : Bool :=
  let runs := rxRuns b (tpiField b 0x0E 2) 46
  let n := runs.foldl (fun n r => n + r.count) 0
  tpiField b 0 1 == 0x50 && tpiField b 1 1 == 1 && tpiField b 4 2 == s.ptb.ringId && tpiField b 0x0C 1 == s.ptb.cycleCode
    && tpiField b 0x10 2 == n && b.length == 46 + 4 * tpiField b 0x0E 2 + 8 * n
    && runs.all (fun r => decide (r.first + r.count ≤ 65536))

/-- What a received frame says of all its records. -/
structure RxFrame where
  west : Bool
  adopt : Bool
  src : Nat
  origin : Nat
  cyc : Nat
  deriving DecidableEq, Repr

/-- The role of a point lets a record of this frame in (spec/13 R361 condition 2). -/
def State.roleTakes (s : State) (f : RxFrame) (p : Nat) : Bool :=
  let r := mRole (s.mapW p)
  r == 0 || (r == 2 && !s.lse.adopting) || (r == 1 && s.ownPubStopped && f.origin == s.ptb.addr)

/-- The later of two cycle numbers in serial arithmetic (spec/13 R362). -/
def laterCycle (new old : Nat) : Bool :=
  let d := (new + 2 ^ 32 - old % 2 ^ 32) % 2 ^ 32
  decide (1 ≤ d) && decide (d < 2 ^ 31)

/-- A valid record takes effect (spec/13 R362). -/
def takesEffect (held : Option (Bool × Nat)) (f : RxFrame) : Bool :=
  match held with
  | none => true
  | some (a, c) => (f.adopt && !a) || (f.adopt == a && laterCycle f.cyc c)

/-- The counts of a record that is not valid (spec/13 R361): of conditions 3 and 4, whatever the others say, and of an OWN point
that another module publishes. -/
def State.rxCounts (s : State) (f : RxFrame) (p tag : Nat) : State :=
  let m := s.mapW p
  let t := wd tag
  let s1 := if bf t 16 6 != mGlove m || bf t 4 3 != mType m || decide (5 < bf t 0 4) then s.bump Pg.tpi Rg.TPI_REC_DENY else s
  if mRole m == 1 && !s.roleTakes f p && f.origin != s.ptb.addr then (s1.bump Pg.tpi Rg.TPI_CLASH).raiseSrc Pg.tpi 1 else s1

/-- The record is valid (spec/13 R361), and its point is not forced: a forced point keeps its value and quality (R352). -/
def State.rxValid (s : State) (f : RxFrame) (p tag : Nat) : Bool :=
  let m := s.mapW p
  let t := wd tag
  !s.unused p && s.roleTakes f p && bf t 16 6 == mGlove m && bf t 4 3 == mType m && decide (bf t 0 4 ≤ 5)
    && !(s.pointOf p).forced

/-- One record of an accepted frame (spec/13 R361, R362): while PTB is not RUNNING it is counted and writes no entry (R373). -/
def State.rxRecord (s : State) (f : RxFrame) (p : Nat) (v tag : Nat) : State :=
  let m := s.mapW p
  let t := wd tag
  let s1 := s.rxCounts f p tag
  let x := s.pointOf p
  if s.rxValid f p tag && s.running Pg.ptb && takesEffect x.held f then
    let s2 := s1.setPoint p { x.put s.tchgNow (wd v) (bf t 0 4) with
      age := bf t 8 8, ptype := mType m, glove := mGlove m, owner := f.src, dirW := f.west, adopted := f.adopt, miss := 0,
      seen := true, held := some (f.adopt, f.cyc) }
    if bf t 0 4 = 2 ∧ x.qual ≠ 2 then s2.raiseSrc Pg.tpi 3 else s2
  else s1

/-- The records of one run. -/
def State.rxRun (s : State) (f : RxFrame) (b : List Byte) (r : RxRun) : State :=
  (List.range r.count).foldl (fun a k =>
    a.rxRecord f (r.first + k) (beNat (sliceB b (r.off + 8 * k) 4)) (beNat (sliceB b (r.off + 8 * k + 4) 4))) s

/-- A TPI frame reaches the TPI block (spec/13 R359, R360, R373). The partner is seen by a frame of its own publication; its frames
with ADOPT = 1, which carry a third module's points, are not counted (spec/09 R229; DESIGN CHOICE, log entry 144). -/
def State.tpiReceive (s : State) (west : Bool) (b : List Byte) : State :=
  if s.running Pg.tpi then
    if tpiField b 6 1 = s.ptb.addr then
      { s with ptb := { s.ptb with backE := s.ptb.backE || west, backW := s.ptb.backW || !west } }
    else if s.tpiGood b then
      let f : RxFrame := { west := west, adopt := tpiField b 2 1 % 2 == 1, src := tpiField b 6 1, origin := tpiField b 7 1,
                           cyc := tpiField b 8 4 }
      let s1 := s.bump Pg.tpi Rg.TPI_RX_FRAMES
      let s2 := (rxRuns b (tpiField b 0x0E 2) 46).foldl (fun a r => a.rxRun f b r) s1
      let c := s.reg Pg.lse Rg.LSE_CTRL
      if f.src == bf c 8 7 && !f.adopt then { s2 with lse := { s2.lse with partnerNow := true } } else s2
    else (s.bump Pg.tpi Rg.TPI_BAD_HDR).raiseSrc Pg.tpi 2
  else s

-- Commands (spec/13 R367, R368)

/-- The 16 bytes of an entry (spec/13 R346). -/
def Point.bytes (x : Point) : List Byte :=
  leBytes 4 x.value.toNat ++ leBytes 4 (x.qual + 16 * x.ptype + 256 * x.owner + 65536 * x.glove + 16777216 * x.age)
    ++ leBytes 4 x.tchg.toNat ++ leBytes 4 (x.miss + 256 * x.dirW.toNat + 512 * x.adopted.toNat)

/-- PT_READ. -/
def ptReadBody (c : Ctx) (s : State) : State :=
  let first := c.f 0 0 16
  let n := c.f 1 0 13
  if n = 0 ∨ 4096 < n ∨ 65536 < first + n ∨ !s.bufOk c (c.addr 2) (16 * n) then s.fin c St.arg
  else
    let bytes := (List.range n).flatMap (fun k => (s.pointFor s.ptb.points c.g (first + k)).bytes)
    (s.store (c.addr 2) bytes).done c (wd n) (wd s.cycleNo)

/-- PT_WRITE. -/
def ptWriteBody (c : Ctx) (s : State) : State :=
  let p := c.f 0 0 16
  let force := c.b 0 16
  let rel := c.b 0 17
  let q := c.f 2 0 4
  let m := s.mapW p
  let x := s.pointOf p
  let plain := !force && !rel
  if (force && rel) || (plain && !(q == 0 || q == 1 || q == 3 || q == 4)) then s.fin c St.arg
  else if mGlove m ≠ c.g then s.foreign c
  else if s.isFatal
      || !(s.sys.mode == .commission || s.sys.mode == .run || s.sys.mode == .degraded || s.sys.mode == .safe)
      || !s.running Pg.ptb || s.unused p || !(mRole m == 1 || mRole m == 3) || (plain && mKind m != 7)
      || (plain && x.forced) || (rel && !x.forced) then s.fin c St.state
  else
    let y := if rel then { x.put s.tchgNow x.value 0 with forced := false }
      else if force then { s.written p (c.arg 1) 5 with forced := true }
      else s.written p (c.arg 1) q
    (s.setPoint p y).done c y.tchg

end Sys2Proof.Machine
end

