-- ==== Sys2Proof/Machine/Field.lean ====
section
/-! DEFINITION. Direct field inputs and outputs (spec/18 R465 to R487). -/

namespace Sys2Proof.Machine

/-- An entry added to a list of numbers without repeating it. -/
def addN (l : List Nat) (n : Nat) : List Nat := if l.contains n then l else l ++ [n]

/-- An entry removed. -/
def delN (l : List Nat) (n : Nat) : List Nat := l.filter (fun k => k != n)

/-- A quotient of a number rounded to the nearest integer; the spec does not say which at a tie (log entry 12). -/
def nearestDiv (a b : Nat) : Nat :=
  if b = 0 then 0
  else
    let r := a % b
    if 2 * r < b then a / b else if b < 2 * r then a / b + 1 else if Config.roundUp a b then a / b + 1 else a / b

/-- The same for a number of either sign. -/
def nearestInt (a : Int) (b : Nat) : Int :=
  let r := (a % b).toNat
  if 2 * r < b then a / b else if b < 2 * r then a / b + 1 else if Config.roundUp a b then a / b + 1 else a / b

-- Analogue inputs (spec/18 R465 to R470)

/-- The range of input `n`. -/
def State.ainRange (s : State) (n : Nat) : Nat := bf (s.reg Pg.ain Rg.AIN_RANGE) (2 * n) 2

/-- Writes an input's point, if it is enabled (spec/18 R467, R476). -/
def State.inputPoint (s : State) (page off wkind wid ptype : Nat) (v : Word) (q : Nat) : State :=
  let c := s.reg page off
  if bit c 31 then s.writePoint ⟨wkind, wid, s.owner page, some ptype⟩ (bf c 0 16) v q else s

/-- The code of input `n` sign-extended to a Q15 value. -/
def State.ainValue (s : State) (n : Nat) : Word :=
  BitVec.ofInt 32 (signed 16 (bf (s.reg Pg.ain (Rg.AIN_RES + 4 * n)) 0 16))

/-- A conversion result is used (spec/18 R467). -/
def State.ainUse (s : State) (n : Nat) (code : Int) (q : Nat) : State :=
  let s1 := s.setReg Pg.ain (Rg.AIN_RES + 4 * n) (wd (unsigned 16 code + 65536 * q))
  s1.inputPoint Pg.ain (Rg.AIN_PT + 4 * n) 3 n 0 (s1.ainValue n) q

/-- The exact value of a conversion as a fraction of codes (spec/18 R466): `level` is the voltage in nV, or in range 3 the current in
pA (log entry 156). -/
def ainExact (range : Nat) (level : Int) : Int × Nat :=
  if range = 3 then (level * 1600, 1000000000) else (level * 32768, 10000000000)

/-- A conversion of input `n` ends (spec/18 R466 to R469). With its shunt open the input overranges, whatever its current. -/
def State.ainConvert (s : State) (n : Nat) (level : Int) : State :=
  let k := n / 4
  let f := s.fio
  if f.discard.contains k then
    ({ s with fio := { f with discard := delN f.discard k } }).bump Pg.ain Rg.AIN_DISCARDS
  else if s.ainRange n = 0 then s
  else
    let try_ := f.shuntTry.contains n
    let forced := s.ainRange n == 3 && s.flag Pg.ain Rg.AIN_SHUNT n && !try_
    let clamped := f.clamp.contains n
    let v := ainExact (s.ainRange n) level
    let code := nearestInt v.1 v.2
    let above := forced || decide (32767 * v.2 < v.1) || decide (v.1 < -32768 * v.2)
      || (clamped && (decide (32767 ≤ code) || decide (code ≤ -32768)))
    let s1 := { s with fio := { f with shuntTry := delN f.shuntTry n } }
    if above then
      let lim : Int := if forced || decide (0 ≤ v.1) then 32767 else -32768
      let s2 := if clamped then s1
        else
          ({ s1 with fio := { s1.fio with clamp := addN s1.fio.clamp n, discard := addN s1.fio.discard k } }).setReg Pg.ain
            Rg.AIN_OVR (s1.reg Pg.ain Rg.AIN_OVR ||| oneBit n) |>.raiseSrc Pg.ain 0
      s2.ainUse n lim 3
    else
      let s2 := { s1 with fio := { s1.fio with clamp := delN s1.fio.clamp n } }
      let s3 := if try_ then s2.setReg Pg.ain Rg.AIN_SHUNT (setBit (s2.reg Pg.ain Rg.AIN_SHUNT) n false) else s2
      s3.ainUse n code 1

/-- A converter ends the conversion of its slot: the slots follow in ascending order, and never change it (spec/18 R465). -/
def State.ainSlot (s : State) (n : Nat) (level : Int) : State :=
  let k := n / 4
  if Sparse.get (dflt 0) s.fio.slots k = n % 4 then
    ({ s with fio := { s.fio with slots := Sparse.set (dflt 0) s.fio.slots k ((n + 1) % 4) } }).ainConvert n level
  else s

/-- AIN enters STARTING (spec/18 R470): clamps are released, an input whose range is off reads NONE, and the converters begin with
their first slots (log entry 156). -/
def State.ainStarting (s : State) : State :=
  let s1 := { s with fio := { s.fio with clamp := [], discard := [], slots := [] } }
  (List.range 16).foldl (fun a n =>
    if a.ainRange n = 0 then a.setReg Pg.ain (Rg.AIN_RES + 4 * n) (setBf (a.reg Pg.ain (Rg.AIN_RES + 4 * n)) 16 4 0) else a) s1

/-- AIN reaches STOPPED: each enabled point once with quality STALE (spec/18 R470). -/
def State.ainStopped (s : State) : State :=
  (List.range 16).foldl (fun a n =>
    a.inputPoint Pg.ain (Rg.AIN_PT + 4 * n) 3 n 0 (a.ainValue n) 2) s

-- Pulse inputs (spec/18 R471 to R476)

/-- Offset of a register of input `n`. -/
abbrev pinOff (off n : Nat) : Nat := off + 32 * n

/-- The mode of input `n`; that of an odd input whose even partner is QUAD is ignored (spec/18 R483). -/
def State.pinMode (s : State) (n : Nat) : Nat :=
  if n % 2 = 1 ∧ bf (s.reg Pg.pin (pinOff Rg.PIN_CFG (n - 1))) 0 3 = 4 then 0
  else bf (s.reg Pg.pin (pinOff Rg.PIN_CFG n)) 0 3

/-- The result and quality of input `n`. -/
def State.pinVal (s : State) (n : Nat) : Word := s.reg Pg.pin (pinOff Rg.PIN_VAL n)
/-- Its quality. -/
def State.pinQual (s : State) (n : Nat) : Nat := bf (s.reg Pg.pin (pinOff Rg.PIN_QUAL n)) 0 4

/-- Sets result and quality. -/
def State.setPin (s : State) (n : Nat) (v : Word) (q : Nat) : State :=
  (s.setReg Pg.pin (pinOff Rg.PIN_VAL n) v).setReg Pg.pin (pinOff Rg.PIN_QUAL n) (wd q)

/-- The type of a mode's point (spec/18 R476). -/
def pinType (mode : Nat) : Nat := if mode = 1 ∨ mode = 3 then 3 else 1

/-- FREQ and DUTY modes, which measure periods. -/
def periodic (mode : Nat) : Bool := mode == 1 || mode == 3

-- Inversion and the glitch filter (spec/18 R471, R483)

/-- PIN_CFGn.INV and FILT. -/
def State.pinInv (s : State) (n : Nat) : Bool := bit (s.reg Pg.pin (pinOff Rg.PIN_CFG n)) 7
/-- The glitch filter. -/
def State.pinFilt (s : State) (n : Nat) : Nat := bf (s.reg Pg.pin (pinOff Rg.PIN_CFG n)) 8 4

/-- The filter takes a level that has held for `d` TCLK periods. -/
def filterTakes (filt d : Nat) : Bool := filt == 0 || decide (2 ^ filt ≤ d)

/-- Time passes at the filtered level. -/
def PinWave.pass (w : PinWave) (d : Nat) : PinWave := { w with t := w.t + d, hi := if w.level then w.hi + d else w.hi }

/-- A run of `d` TCLK periods at level `l`, after INV: the timer, and the period that it completes, length and time high. -/
def PinWave.run (w : PinWave) (filt : Nat) (l : Bool) (d : Nat) : PinWave × List (Nat × Nat) :=
  let c := w.cand + d
  if l = w.level then ({ w with cand := 0 }.pass c, [])
  else if filterTakes filt c then
    let v : PinWave := if l then { level := true, seen := true } else { w with level := false, cand := 0 }
    (v.pass c, if l && w.seen then [(w.t, w.hi)] else [])
  else ({ w with cand := c }, [])

/-- The timer of an input after runs of levels on its ball, and the periods that they complete. -/
def State.pinRuns (s : State) (n : Nat) (l : List (Bool × Nat)) : PinWave × List (Nat × Nat) :=
  l.foldl (fun (a : PinWave × List (Nat × Nat)) r =>
    let b := a.1.run (s.pinFilt n) (xor r.1 (s.pinInv n)) r.2
    (b.1, a.2 ++ b.2)) (Sparse.get (dflt {}) s.fio.waves n, [])

/-- The millisecond's results of input `n` from the periods that completed in it, length and high time in TCLK periods
(spec/18 R472, R474). -/
def State.pinResult (s : State) (n : Nat) (periods : List (Nat × Nat)) : State :=
  let m := s.pinMode n
  if periodic m then
    match periods with
    | [] => s
    | _ :: rest =>
      let ps := if s.fio.pinFirst.contains n then rest else periods
      let s1 := { s with fio := { s.fio with pinFirst := delN s.fio.pinFirst n } }
      match ps.getLast? with
      | none => s1
      | some (t, hi) =>
        let v : Nat := if m = 1 then nearestDiv (ps.length * 25000000000) (ps.foldl (fun x p => x + p.1) 0)
          else if t = 0 then 0 else hi * 65536 / t
        s1.setPin n (wd v) 1
  else s

/-- A millisecond of TMB1 ends: `wave` are the levels on the ball within it (spec/18 R471, R472). -/
def State.pinUpdate (s : State) (n : Nat) (wave : List (Bool × Nat)) : State :=
  if periodic (s.pinMode n) then
    let r := s.pinRuns n wave
    ({ s with fio := { s.fio with waves := Sparse.set (dflt {}) s.fio.waves n r.1 } }).pinResult n r.2
  else s

/-- No rising edge for PIN_TMO (spec/18 R474): the next complete period is discarded. -/
def State.pinLate (s : State) (n : Nat) : State :=
  if periodic (s.pinMode n) && decide (bf (s.reg Pg.pin (pinOff Rg.PIN_TMO n)) 0 16 ≠ 0) then
    let s1 := s.setPin n (s.pinVal n) 2
    ({ s1 with fio := { s1.fio with pinFirst := addN s1.fio.pinFirst n } }).raiseSrc Pg.pin 1
  else s

/-- A count moved by `d`, modulo 2^32. -/
def State.pinCount (s : State) (n : Nat) (d : Int) : State :=
  s.setReg Pg.pin (pinOff Rg.PIN_VAL n) (BitVec.ofInt 32 ((s.pinVal n).toNat + d))

/-- A filtered edge on input `n`, with its partner changing in the same sample if `both` (spec/18 R473). -/
def State.pinMove (s : State) (n : Nat) (level both : Bool) : State :=
  let hi := s.fio.pinHigh
  if hi.contains n = level then s
  else
    let flip (l : List Nat) (k : Nat) : List Nat := if l.contains k then delN l k else addN l k
    let other := if n % 2 = 0 then n + 1 else n - 1
    let hi1 := if both then flip (flip hi n) other else flip hi n
    let s1 := { s with fio := { s.fio with pinHigh := hi1 } }
    let ev := n - n % 2
    if bf (s.reg Pg.pin (pinOff Rg.PIN_CFG ev)) 0 3 = 4 then
      if both then (s1.bump Pg.pin Rg.PIN_QERR).raiseSrc Pg.pin 2
      else
        let a := hi1.contains ev
        let b := hi1.contains (ev + 1)
        let up := if n % 2 = 0 then a != b else a == b
        s1.pinCount ev (if up then 1 else -1)
    else
      let one (a : State) (k : Nat) : State :=
        let c := a.reg Pg.pin (pinOff Rg.PIN_CFG k)
        let rise := hi1.contains k
        let sel := bf c 4 2 == 2 || (bf c 4 2 == 0 && rise) || (bf c 4 2 == 1 && !rise)
        if a.pinMode k = 2 && sel then a.pinCount k (if bit c 6 then -1 else 1) else a
      if both then one (one s1 n) other else one s1 n

/-- The other input of a pair. -/
def pinPartner (n : Nat) : Nat := if n % 2 = 0 then n + 1 else n - 1

/-- The balls of input `n`, and of its partner if `both`, change; they are seen in every state of the page. -/
def State.pinSees (s : State) (n : Nat) (level both : Bool) : State :=
  let raw := s.fio.pinRaw
  let r1 := if level then addN raw n else delN raw n
  let o := pinPartner n
  { s with fio := { s.fio with pinRaw := if both then (if raw.contains o then delN r1 o else addN r1 o) else r1 } }

/-- The level of input `n` after INV. -/
def State.pinNow (s : State) (n : Nat) : Bool := xor (s.fio.pinRaw.contains n) (s.pinInv n)

/-- A change on input `n`, and on its partner if `both`, that has held for `held` TCLK periods passes each input's filter or is
removed (spec/18 R471). -/
def State.pinFilter (s : State) (n : Nat) (level both : Bool) (held : Nat) : State :=
  let o := pinPartner n
  let a := filterTakes (s.pinFilt n) held
  let b := both && filterTakes (s.pinFilt o) held && s.fio.pinHigh.contains o != s.pinNow o
  if a then s.pinMove n (xor level (s.pinInv n)) b else if b then s.pinMove o (s.pinNow o) false else s

/-- The expected count nearest to `c` (spec/18 R475); at a tie between two the spec names none (log entry 12). -/
def expectedAt (c e : Int) (per : Nat) : Int := if per = 0 then e else e + nearestInt (c - e) per * per

/-- Signed saturation to 32 bits. -/
def sat32 (x : Int) : Int := clampI (-(2 ^ 31)) (2 ^ 31 - 1) x

/-- A rising index edge on IDXk (spec/18 R475). -/
def State.pinIdx (s : State) (k : Nat) : State :=
  let n := 2 * k
  let o (off : Nat) : Nat := pinOff off k
  let s1 := s.setReg Pg.pin (o Rg.PIN_IDXSTAT) (s.reg Pg.pin (o Rg.PIN_IDXSTAT) ||| 2)
  if s.pinMode n = 4 && bit (s.reg Pg.pin (pinOff Rg.PIN_CFG n)) 12 then
    let c := (s.pinVal n).toInt
    let e := expectedAt c (s.reg Pg.pin (o Rg.PIN_IDXEXP)).toInt (s.reg Pg.pin (o Rg.PIN_IDXPER)).toNat
    if (c - e).natAbs ≤ bf (s.reg Pg.pin (o Rg.PIN_IDXTOL)) 0 16 then
      (s1.setReg Pg.pin (pinOff Rg.PIN_VAL n) (BitVec.ofInt 32 e)).setReg Pg.pin (o Rg.PIN_IDXDRIFT)
        (BitVec.ofInt 32 (sat32 ((s.reg Pg.pin (o Rg.PIN_IDXDRIFT)).toInt + (c - e))))
    else
      ((s1.setReg Pg.pin (o Rg.PIN_IDXCAP) (s.pinVal n)).setReg Pg.pin (o Rg.PIN_IDXSTAT)
        (s1.reg Pg.pin (o Rg.PIN_IDXSTAT) ||| 1)).raiseSrc Pg.pin 0
  else s1

/-- PIN enters STARTING (spec/18 R473, R474, R482): levels are taken as they stand, the first period is discarded, SEEN is cleared,
counts are GOOD. -/
def State.pinStarting (s : State) : State :=
  let waves := (List.range 8).foldl (fun m n => Sparse.set (dflt {}) m n ({ level := s.pinNow n } : PinWave)) []
  let s1 := { s with fio := { s.fio with pinFirst := (List.range 8).filter (fun n => periodic (s.pinMode n)),
                                         pinHigh := (List.range 8).filter s.pinNow, waves := waves } }
  let s2 := (List.range 4).foldl (fun a k =>
    a.setReg Pg.pin (pinOff Rg.PIN_IDXSTAT k) (setBit (a.reg Pg.pin (pinOff Rg.PIN_IDXSTAT k)) 1 false)) s1
  (List.range 8).foldl (fun a n =>
    let m := a.pinMode n
    let q := if m = 0 then 0 else if periodic m then (if a.pinQual n = 0 then 0 else 2) else 1
    a.setReg Pg.pin (pinOff Rg.PIN_QUAL n) (wd q)) s2

-- Digital inputs and outputs, analogue outputs (spec/18 R477 to R480)

/-- The configuration of pin `n` as latched at the last STARTING. -/
def State.dioCfgOf (s : State) (n : Nat) : Word := Sparse.get (dflt 8) s.fio.dioCfg n

/-- The pins of bank `b` are supplied and have had their STARTING since (spec/18 R479). -/
def State.bankGood (s : State) (b : Nat) : Bool := s.fio.vio.contains b && !s.fio.bankOff.contains b

/-- An output of `page` whose source register is at `off` follows its point, whose entry this is (spec/18 R478). -/
def State.follows (s : State) (page off : Nat) : Option Point :=
  let c := s.reg page off
  let x := s.pointFor s.ptb.points (s.owner page) (bf c 0 16)
  if (s.sys.mode == .run || s.sys.mode == .degraded) && s.running page && bit c 31 && usableQ x.qual && !s.pfw then some x
  else none

/-- What an analogue output drives: 0 hat, 1 point, 2 Hatstand, 3 off; and the code (spec/18 R477 to R480). Before the hat table is
loaded, and in RECOVERY, it stays at 0 V (spec/02 R47, R48); the Hatstand uses what was latched at the last STARTING, 0 V before a
first one. -/
def State.aoutDrive (s : State) (n : Nat) : Nat × Int :=
  let f := s.fio
  let rg := bf f.aoutRange (2 * n) 2
  let conv (w : Word) : Int := let x := signed 16 w.toNat; if rg = 0 then 0 else if rg = 1 then max x 0 else x
  let hat := conv (Sparse.get (dflt 0) f.aoutHat n)
  if s.hst.path then (2, if f.aoutUp && s.sys.mode != .recovery then hat else 0)
  else if !(f.aoutUp || f.hatsIn) then (0, 0)
  else if rg = 0 ∨ s.sys.mode = .recovery then (3, 0)
  else match s.follows Pg.aout (Rg.AOUT_PT + 4 * n) with
    | some x => (1, conv x.value)
    | none => (0, hat)

/-- What a DIO pin does: high impedance (also an input or a released pin), or drives a level. -/
inductive PinDrive
  | hiZ
  | released
  | level (high : Bool)
  deriving DecidableEq, Repr

/-- An output level on a push-pull or open-drain pin. -/
def outLevel (dir : Nat) (high : Bool) : PinDrive := if dir = 2 ∧ high then .released else .level high

/-- The hat of a pin (spec/18 R485). -/
def hatDrive (c : Word) : PinDrive :=
  match bf c 2 2 with | 0 => outLevel (bf c 0 2) false | 1 => outLevel (bf c 0 2) true | _ => .hiZ

/-- What pin `n` does now (spec/18 R478 to R480). Before the hat table is loaded, and in RECOVERY, it stays high-impedance (spec/02
R47, R48); the Hatstand drives what was latched at the last STARTING, high impedance before a first one, and its drive returns with
the bank's supply (spec/23 R610). -/
def State.dioDrive (s : State) (n : Nat) : PinDrive :=
  let c := s.dioCfgOf n
  let dir := bf c 0 2
  if dir = 0 || !s.fio.vio.contains (n / 8) || s.sys.mode == .recovery then .hiZ
  else if s.hst.path then (if s.fio.dioUp then hatDrive c else .hiZ)
  else if !(s.fio.dioUp || s.fio.hatsIn) || !s.bankGood (n / 8) then .hiZ
  else match s.follows Pg.dio (Rg.DIO_PT + 8 * n) with
    | none => hatDrive c
    | some x =>
      let h := if dir = 3 then decide (0 < Sparse.get (dflt 0) s.fio.pwmDuty n) else decide (x.value ≠ 0)
      outLevel dir (xor h (bit c 8))

/-- The level on pin `n`, before INV. -/
def State.pinLevel (s : State) (n : Nat) : Bool :=
  match s.dioDrive n with | .level h => h | _ => bit s.fio.dioIn n

/-- DIO_IN bit `n` (spec/18 R485). -/
def State.dioInBit (s : State) (n : Nat) : Bool :=
  s.bankGood (n / 8) && xor (s.pinLevel n) (bit (s.dioCfgOf n) 8)

/-- DIO_OUT bit `n` (spec/18 R485). -/
def State.dioOutBit (s : State) (n : Nat) : Bool :=
  match s.dioDrive n with | .hiZ => false | .released => true | .level h => h

/-- The tick's writes of PIN and DIO points with a quality given for the whole page, none for its own (spec/18 R476). -/
def State.pinPoints (s : State) (q : Option Nat) : State :=
  (List.range 8).foldl (fun a n =>
    let m := a.pinMode n
    if m = 0 then a
    else a.inputPoint Pg.pin (pinOff Rg.PIN_PT n) 4 n (pinType m) (a.pinVal n) (q.getD (a.pinQual n))) s

/-- The same for the DIO inputs of good banks. -/
def State.dioPoints (s : State) (q : Nat) : State :=
  (List.range 32).foldl (fun a n =>
    if bf (a.dioCfgOf n) 0 2 = 0 && a.bankGood (n / 8) then
      a.inputPoint Pg.dio (Rg.DIO_PT + 8 * n) 4 (0x100 + n) 2 (wd (a.dioInBit n).toNat) q
    else a) s

/-- The writes of a tick boundary (spec/18 R476). -/
def State.fieldTick (s : State) : State :=
  let s1 := if s.running Pg.pin then s.pinPoints none else s
  if s1.running Pg.dio then s1.dioPoints 1 else s1

/-- The hats of the analogue outputs as their registers hold them. -/
def State.aoutHats (s : State) : Sparse Word :=
  (List.range 8).foldl (fun m n => Sparse.set (dflt 0) m n (s.reg Pg.aout (Rg.AOUT_HAT + 4 * n))) []

/-- AOUT enters STARTING: ranges and hats are latched (spec/18 R480), but never in RECOVERY (spec/02 R29). -/
def State.aoutStarting (s : State) : State :=
  if s.sys.mode = .recovery then s
  else { s with fio := { s.fio with aoutRange := s.reg Pg.aout Rg.AOUT_RANGE, aoutUp := true, aoutHat := s.aoutHats } }

/-- DIO enters STARTING: configurations are latched, and banks whose supply is good recover (spec/18 R479, R480), but never in
RECOVERY (spec/02 R29). -/
def State.dioStarting (s : State) : State :=
  if s.sys.mode = .recovery then s
  else
    let off := (List.range 4).filter (fun b => !s.fio.vio.contains b)
    let cfg := (List.range 32).foldl (fun m n => Sparse.set (dflt 8) m n (s.reg Pg.dio (Rg.DIO_CFG + 8 * n))) []
    { s with fio := { s.fio with dioUp := true, bankOff := off, dioCfg := cfg } }

/-- The hat table is loaded in start-up: the outputs move to their hats (spec/02 R47), which the Hatstand does not use (R480). -/
def State.hatsLoaded (s : State) : State :=
  let u := s.fio
  let t := s.aoutStarting.dioStarting
  { t with fio := { t.fio with aoutUp := u.aoutUp, dioUp := u.dioUp, hatsIn := true } }

/-- A bank supply changes (spec/18 R479). -/
def State.vioChange (s : State) (b : Nat) (good : Bool) : State :=
  if good then { s with fio := { s.fio with vio := addN s.fio.vio b } }
  else if s.fio.vio.contains b then
    ({ s with fio := { s.fio with vio := delN s.fio.vio b, bankOff := addN s.fio.bankOff b } }).raiseSrc Pg.dio 1
  else s

/-- A PWM period of bank `b` begins (spec/18 R479). -/
def State.pwmPeriod (s : State) (b : Nat) : State :=
  let per := (s.reg Pg.dio (Rg.DIO_PWMPER + 4 * b)).toNat * 250
  (List.range 8).foldl (fun a k =>
    let n := 8 * b + k
    let d := match a.follows Pg.dio (Rg.DIO_PT + 8 * n) with
      | some x => if bf (a.dioCfgOf n) 0 2 = 3 then (max (signed 16 x.value.toNat) 0).toNat * per / 32768 else 0
      | none => 0
    { a with fio := { a.fio with pwmDuty := Sparse.set (dflt 0) a.fio.pwmDuty n d } }) s

/-- One TCLK period of every PWM pin. -/
def FioSt.pwmTick (f : FioSt) : FioSt :=
  { f with pwmDuty := (f.pwmDuty.filter (fun e => decide (1 < e.2))).map (fun e => (e.1, e.2 - 1)) }

/-- Output `k` reaches its current limit: 0 to 7 analogue, from 8 digital (spec/18 R486). -/
def State.overload (s : State) (k : Nat) : State :=
  if k < 8 then (s.setReg Pg.aout Rg.AOUT_OVL (s.reg Pg.aout Rg.AOUT_OVL ||| oneBit k)).raiseSrc Pg.aout 0
  else (s.setReg Pg.dio Rg.DIO_OVL (s.reg Pg.dio Rg.DIO_OVL ||| oneBit (k - 8))).raiseSrc Pg.dio 0

/-- AIN converts. -/
def State.ainOn (s : State) : Bool := s.coreUp && (s.running Pg.ain || s.cur Pg.ain == 3)

/-- The current of a closed shunt was too high for 100 µs: it opens (spec/18 R469). -/
def State.shuntOpen (s : State) (n : Nat) : State :=
  if s.ainOn && s.ainRange n == 3 && !s.flag Pg.ain Rg.AIN_SHUNT n then
    (s.setReg Pg.ain Rg.AIN_SHUNT (s.reg Pg.ain Rg.AIN_SHUNT ||| oneBit n)).raiseSrc Pg.ain 1
  else s

/-- Every 1 s an opened shunt is closed for one conversion (spec/18 R469). -/
def State.shuntRetry (s : State) (n : Nat) : State :=
  if s.ainOn && s.flag Pg.ain Rg.AIN_SHUNT n then { s with fio := { s.fio with shuntTry := addN s.fio.shuntTry n } } else s

/-- A write of PIN_VALn loads a count, and is ignored in the other modes (spec/18 R473, R482). -/
def State.pinLoad (s : State) (n : Nat) (v : Word) : State :=
  if s.pinMode n = 2 ∨ s.pinMode n = 4 then s.setReg Pg.pin (pinOff Rg.PIN_VAL n) v else s

/-- A debounced level of a DIO pin (spec/18 R479). -/
def State.dioLevel (s : State) (n : Nat) (level : Bool) : State :=
  { s with fio := { s.fio with dioIn := setBit s.fio.dioIn n level } }

/-- An analogue output's readback differs for 1 ms (spec/18 R486). -/
def State.readback (s : State) (n : Nat) : State := if n < 8 then s.raiseSrc Pg.aout 1 else s

/-- The inputs' results that the tick image holds (spec/07 R179): AIN at 0 to 15, PIN at 16 to 23. -/
def State.inputResults (s : State) : Sparse InRes :=
  let a := (List.range 16).foldl (fun m n =>
    Sparse.set (dflt {}) m n ⟨s.ainValue n, bf (s.reg Pg.ain (Rg.AIN_RES + 4 * n)) 16 4⟩) ([] : Sparse InRes)
  (List.range 8).foldl (fun m n => Sparse.set (dflt {}) m (16 + n) ⟨s.pinVal n, s.pinQual n⟩) a

end Sys2Proof.Machine
end

