-- ==== Sys2Proof/Machine/LoopOps.lean ====
section
/-! DEFINITION. Loops in the control engine array (spec/06 R130 to R163, spec/07 R177 to R185, spec/03 R77 to R81): roles,
deques, steps, lateness, publication and the loop commands. -/

namespace Sys2Proof.Machine

/-- A loop's state. -/
def State.loop (s : State) (l : Nat) : LoopSt := Sparse.get (dflt {}) s.ces.loops l

/-- Sets a loop's state. -/
def State.setLoop (s : State) (l : Nat) (x : LoopSt) : State :=
  { s with ces := { s.ces with loops := Sparse.set (dflt {}) s.ces.loops l x } }

/-- A role of a loop. -/
def LoopSt.role (x : LoopSt) (shadow : Bool) : Role := if shadow then x.shadow else x.owner

/-- Sets a role. -/
def LoopSt.setRole (x : LoopSt) (shadow : Bool) (r : Role) : LoopSt :=
  if shadow then { x with shadow := r } else { x with owner := r }

/-- Where a role is: no two roles share a seat. -/
def Role.seat (r : Role) : Nat × Nat := (r.chan, r.slot)

/-- Some role of the loop is started. -/
def LoopSt.any (x : LoopSt) : Bool := x.owner.started || x.shadow.started

/-- The role that publishes: the owner, or a shadow whose loop has no owner (spec/06 R144): is it the shadow? -/
def LoopSt.lead (x : LoopSt) : Bool := !x.owner.started && x.shadow.started

/-- The descriptor a role computes from. -/
def Role.desc (r : Role) : Desc := Desc.read r.copy

/-- The address of the loop table entry `l` (spec/06 R158). -/
def State.ltAddr (s : State) (l : Nat) : Nat := s.reg64 Pg.ces Rg.CES_LT_BASE_LO + 128 * l

/-- The loop table entry. -/
def State.ltEntry (s : State) (l : Nat) : List Byte := s.load (s.ltAddr l) 128

/-- The ticks of a descriptor's period, at least one. -/
def Desc.per (d : Desc) : Nat := max d.ticks 1

/-- The first release boundary after the present one of a descriptor for loop `l` (spec/06 R139, R140). -/
def State.firstRelease (s : State) (d : Desc) (l : Nat) : Nat :=
  let p := d.per
  let k := s.ces.tick + 1
  k + (l % p + p - k % p) % p

/-- Every role with its loop and which role it is. -/
def State.roles (s : State) : List (Nat × Bool × Role) :=
  s.ces.loops.flatMap (fun e => [(e.1, false, e.2.owner), (e.1, true, e.2.shadow)])

/-- The roles started in channel `c`. -/
def State.rolesIn (s : State) (c : Nat) : List Role :=
  (s.roles.filter (fun e => e.2.2.started && e.2.2.chan == c)).map (fun e => e.2.2)

/-- The least number not in a list. -/
def leastFree (l : List Nat) : Nat := ((List.range (l.length + 1)).find? (fun n => !l.contains n)).getD 0

/-- A regular role takes an SRAM line while fewer than 14,336 regular roles of the channel hold one (spec/06 R136). -/
def State.sramFree (s : State) (c : Nat) (d : Desc) : Bool :=
  !d.regular || decide (((s.rolesIn c).filter (fun r => r.sram && r.desc.regular)).length < 14336)

/-- The bytes of a role copy without its channel fields: those that spec/03 R80 compares (log entry 22). -/
def copyCore (b : List Byte) : Nat := leNat b - getLE b 0 4 + (getLE b 0 4 / 2 ^ 24 * 2 ^ 24 + getLE b 0 4 % 2 ^ 20)

/-- An overflow line stands in the role region of its channel (spec/06 R135, R136). -/
def State.putLine (s : State) (r : Role) : State :=
  if r.started && !r.sram then
    s.store (s.reg64 (Pg.cea r.chan) Rg.CEA_ROLE_BASE_LO + 0x440000 + 64 * r.lineAt) r.line.bytes
  else s

/-- A role of loop `l` changes, its line with it. -/
def State.putRole (s : State) (l : Nat) (shadow : Bool) (r : Role) : State :=
  (s.setLoop l ((s.loop l).setRole shadow r)).putLine r

/-- A role that starts in channel `c` from the descriptor bytes `b`: its slot and line (spec/06 R134, R136). -/
def State.newRole (s : State) (c : Nat) (b : List Byte) : Role :=
  let d := Desc.read b
  let held := s.rolesIn c
  let sram := s.sramFree c d
  { started := true, chan := c, slot := leastFree (held.map (·.slot)), copy := b, line := Line.cold d, sram := sram,
    lineAt := leastFree ((held.filter (fun r => r.sram == sram)).map (·.lineAt)) }

/-- A role starts: its copy goes to the role region, and the handover window opens if it differs from the other role's
(spec/06 R134, spec/03 R80). `k` is its start boundary. -/
def State.seatRole (s : State) (k l : Nat) (shadow : Bool) (r : Role) : State :=
  let x := s.loop l
  let other := x.role (!shadow)
  let differ := other.started && copyCore other.copy != copyCore r.copy
  let y := { x with window := differ || (x.window && other.started), winAt := k, place := if shadow then none else x.place }
  ((s.setLoop l y).putRole l shadow r).store (s.reg64 (Pg.cea r.chan) Rg.CEA_ROLE_BASE_LO + 128 * r.slot) r.copy

/-- A role of loop `l` is started in channel `c` from the descriptor bytes `b`, armed for its first release (spec/06 R152):
`copy` to copy the other role's state there (spec/03 R78), `adopt` to prime under spec/09 R231. -/
def State.makeRole (s : State) (l : Nat) (shadow : Bool) (c : Nat) (b : List Byte) (copy adopt : Bool)
    (warm : Option Int := none) : State :=
  let k := s.firstRelease (Desc.read b) l
  s.seatRole k l shadow { s.newRole c b with armed := some k, copyFrom := copy, warm := warm, adoptOut := adopt }

/-- A role ends. -/
def State.dropRole (s : State) (l : Nat) (shadow : Bool) : State :=
  let x := s.loop l
  let y := x.setRole shadow {}
  if y.any then s.setLoop l y
  else s.setLoop l { owner := {}, shadow := {}, lastPub := y.lastPub }

-- Deques and cups (spec/06 R141 to R143)

/-- The deque of a cup. -/
def State.deque (s : State) (c cup : Nat) : List DqEntry := Sparse.get (dflt []) s.ces.deques (c * 16 + cup)

/-- Sets it. -/
def State.setDeque (s : State) (c cup : Nat) (q : List DqEntry) : State :=
  { s with ces := { s.ces with deques := Sparse.set (dflt []) s.ces.deques (c * 16 + cup) q } }

/-- An entry is added to a deque, whose greatest length CEA_DEPTH_MAX shows (spec/06 R160). -/
def State.growDeque (s : State) (c cup : Nat) (q : List DqEntry) : State :=
  let s1 := s.setDeque c cup q
  if (s1.reg (Pg.cea c) Rg.CEA_DEPTH_MAX).toNat < q.length then s1.setReg (Pg.cea c) Rg.CEA_DEPTH_MAX (wd (min q.length 0xFFFF))
  else s1

/-- The entry a cup runs. -/
def State.cupRuns (s : State) (c cup : Nat) : Option DqEntry := Sparse.get (dflt none) s.ces.running (c * 16 + cup)

/-- Sets it. -/
def State.setCup (s : State) (c cup : Nat) (e : Option DqEntry) : State :=
  { s with ces := { s.ces with running := Sparse.set (dflt none) s.ces.running (c * 16 + cup) e } }

/-- The home cup of a role (spec/06 R141). -/
def homeCup (l : Nat) (shadow : Bool) : Nat := if shadow then (l + 8) % 16 else l % 16

/-- The role has the invocation of the entry in hand in channel `c`. -/
def Role.runs (r : Role) (c : Nat) (e : DqEntry) : Bool :=
  r.started && r.chan == c && decide (r.released = some e.at_) && !r.stored

/-- Which role of its loop an entry of channel `c` belongs to now: a fence or a handover may have changed the role that its
invocation was released for (spec/09 R221, spec/06 R152). -/
def State.entrySh (s : State) (c : Nat) (e : DqEntry) : Bool :=
  let x := s.loop e.loop
  if (x.role e.shadow).runs c e then e.shadow else if (x.role (!e.shadow)).runs c e then !e.shadow else e.shadow

/-- The cups that run or have run the role's invocation of boundary `k`. -/
def Role.cupsAt (r : Role) (k : Nat) : List Nat :=
  (if r.released = some k then r.ranBy else []) ++ (match r.ran with | some (b, l) => if b = k then l else [] | none => [])

/-- The cup may take the entry: it has not run, and does not run, the loop's other role's invocation of the same boundary in
this channel (spec/06 R143). -/
def State.cupMay (s : State) (c cup : Nat) (e : DqEntry) : Bool :=
  let other := (s.loop e.loop).role (!s.entrySh c e)
  !(other.chan == c && (other.cupsAt e.at_).contains cup)

/-- The kind of the descriptor of an entry, 9 if its role is gone. -/
def State.entryKind (s : State) (c : Nat) (e : DqEntry) : Nat :=
  let r := (s.loop e.loop).role (s.entrySh c e)
  if r.started then r.desc.kind else 9

/-- The upper bound of a step of each kind in CCLK cycles (spec/06 R133). -/
def maxCycles : Nat → Nat
  | 0 => 56 | 1 => 48 | 2 => 26 | 3 => 22 | 4 => 58 | 5 => 38 | 6 => 24 | 7 => 66 | _ => 20

/-- Busy cycles are counted for the channel (spec/06 R149). -/
def State.addBusy (s : State) (c n : Nat) : State :=
  let b := s.ces.busy
  let b1 := Sparse.set (dflt 0) b (2 * c) (Sparse.get (dflt 0) b (2 * c) + n)
  { s with ces := { s.ces with busy := Sparse.set (dflt 0) b1 (2 * c + 1) (Sparse.get (dflt 0) b1 (2 * c + 1) + n) } }

/-- The cycles that a step of an entry is booked with when it is taken (spec/06 R133, R149). -/
def State.stepBooked (s : State) (c : Nat) (e : DqEntry) : Nat :=
  let k := s.entryKind c e
  min (Config.stepCycles k) (maxCycles k)

/-- A cup takes an entry and starts it. -/
def State.cupTake (s : State) (c cup : Nat) (e : DqEntry) (stolen : Bool) : State :=
  let x := s.loop e.loop
  let sh := s.entrySh c e
  let r := x.role sh
  let s1 := s.setCup c cup (some e)
  let s2 := if r.runs c e then s1.setLoop e.loop (x.setRole sh { r with ranBy := cup :: r.ranBy }) else s1
  s2.addBusy c (s.stepBooked c e + if stolen then 6 else 0)

/-- A cup that may take an entry: idle and not under test. -/
def State.cupIdle (s : State) (c cup : Nat) : Bool := (s.cupRuns c cup).isNone && !s.ces.testing.contains (c * 16 + cup)

/-- Pops of one cycle: each idle cup takes the head of its own deque (spec/06 R142 step 1). -/
def State.popAll (s : State) (c : Nat) : State :=
  (List.range 16).foldl (fun a cup =>
    match a.deque c cup with
    | [] => a
    | e :: t => if a.cupIdle c cup && a.cupMay c cup e then (a.setDeque c cup t).cupTake c cup e false else a) s

/-- The deque a steal chooses: the longest of at least STEAL_MIN entries at the start of the cycle that has given up no tail
yet, the lowest-numbered among equals. -/
def stealFrom (lens : List Nat) (minLen : Nat) (given : List Nat) : Option Nat :=
  (List.range 16).foldl (fun best q =>
    let n := nth lens q 0
    if minLen ≤ n ∧ !given.contains q then
      match best with
      | none => some q
      | some b => if nth lens b 0 < n then some q else best
    else best) none

/-- Steals of one cycle (spec/06 R142 step 2), on the deques as they stood at its start. -/
def State.stealAll (s0 s : State) (c : Nat) : State :=
  let w := s.reg Pg.ces Rg.CES_STEAL
  if bit w 0 then
    let lens := (List.range 16).map (fun q => (s0.deque c q).length)
    ((List.range 16).foldl (fun (a : State × List Nat) cup =>
      if a.1.cupIdle c cup && (s0.deque c cup).isEmpty then
        match stealFrom lens (bf w 4 4) a.2 with
        | none => a
        | some q =>
          match (a.1.deque c q).getLast? with
          | none => a
          | some e =>
            if a.1.cupMay c cup e then
              (((a.1.setDeque c q (a.1.deque c q).dropLast).cupTake c cup e true).bump (Pg.cea c) Rg.CEA_STEALS, a.2 ++ [q])
            else a
      else a) (s, [])).1
  else s

/-- One cycle of a channel's idle cups. -/
def State.cupCycle (s : State) (c : Nat) : State := State.stealAll s (s.popAll c) c

/-- The cups of a channel take entries until none more can be taken. Sixteen cycles serve sixteen cups. -/
def State.cupsTake (s : State) (c : Nat) : State := Nat.repeat (fun a => a.cupCycle c) 16 s

/-- One cycle of appending: the first entry still to be appended of each deque, in the order given (spec/06 R141). -/
def State.appendOne (s : State) (c : Nat) (es : List DqEntry) : State × List DqEntry :=
  let r := es.foldl (fun (a : State × List DqEntry × List Nat) e =>
    let h := homeCup e.loop e.shadow
    if a.2.2.contains h then (a.1, a.2.1 ++ [e], a.2.2)
    else
      (a.1.growDeque c h (a.1.deque c h ++ [e]), a.2.1, a.2.2 ++ [h])) (s, [], [])
  (r.1, r.2.1)

/-- The scheduler appends, one entry per deque and cycle, while idle cups take entries (spec/06 R141, R142). -/
def State.appendAll (c : Nat) : Nat → State → List DqEntry → State
  | 0, s, _ => s
  | n + 1, s, es =>
    match es with
    | [] => s.cupsTake c
    | _ =>
      let a := (s.cupCycle c).appendOne c es
      State.appendAll c n a.1 a.2

-- Release (spec/06 R138 to R140, spec/07 R178, R179)

/-- A point as loop code of glove `g` finds it in the tick image. -/
def State.imagePoint (s : State) (g p : Nat) : Point := s.pointFor s.ptb.image.points g p

/-- A result of an AIN or PIN input in the tick image. -/
def State.imageInput (s : State) (n : Nat) : InRes := Sparse.get (dflt {}) s.ptb.image.inputs n

/-- The inputs of an invocation of a role copy, and whether it reads foreign points (spec/07 R181, spec/05 R119, R121);
`primes`: it may prime from its OUT point (spec/09 R231). -/
def State.captureIns (s : State) (d : Desc) (primes : Bool) : StepIns × Bool :=
  let m := s.imagePoint d.glove d.meas
  let usesAux := d.kind == 8
  let usesPt := d.usesSp && d.spsrc == 1
  let a := if usesAux then s.imagePoint d.glove d.aux else {}
  let src : InRes :=
    if !d.usesSp then {}
    else if d.spsrc = 1 then let x := s.imagePoint d.glove d.spPt; ⟨x.value, x.qual⟩
    else if d.spsrc = 2 then s.imageInput d.input
    else if d.spsrc = 3 then s.imageInput (16 + d.input)
    else {}
  ({ meas := m.value.toNat, measOk := usableQ m.qual, aux := a.value.toNat, auxOk := usableQ a.qual,
     src := src.value.toNat, srcOk := usableQ src.qual,
     outV := if primes then (s.imagePoint d.glove d.out).value.toNat else 0 },
   !s.mayReadPoint d.glove d.meas || (usesAux && !s.mayReadPoint d.glove d.aux)
     || (usesPt && !s.mayReadPoint d.glove d.spPt) || (primes && !s.mayReadPoint d.glove d.out))

/-- The line with its outputs as the actuators stand: the values of the OUT and, for SPLIT, AUX points in the tick image (spec/09
R231, spec/05 R119). -/
def State.lineAtPoints (s : State) (d : Desc) (l : Line) : Line :=
  let pt (p : Nat) : Int := signed 16 (s.imagePoint d.glove p).value.toNat
  { l with outLast := pt d.out, out2Last := if d.kind = 7 then pt d.aux else d.hat2 }

/-- The line with which a role begins (spec/07 R176, spec/03 R78, spec/09 R231); periods that were late while its channel could
not begin it stay counted (spec/06 R144). -/
def State.firstLine (s : State) (r other : Role) : Line :=
  let d := r.desc
  let cold := { Line.cold d with late := r.line.late, latePeriods := r.line.latePeriods }
  if r.copyFrom && other.started then other.line
  else if r.adoptOut then s.lineAtPoints d cold
  else match r.warm with
    | some i => { cold with integ := i }
    | none => cold

/-- The line of a running role that primes again (spec/09 R242): what R185 and R231 prime is as in a cold line, the outputs stand
as the points do, and the rest goes on (log entry 142). -/
def State.primeAgain (s : State) (d : Desc) (l : Line) : Line :=
  let z := Line.cold d
  s.lineAtPoints d { l with integ := z.integ, m0 := z.m0, m1 := z.m1, m2 := z.m2, m3 := z.m3, primed := false }

/-- A role is released at boundary `k`. -/
def State.releaseRole (s : State) (k l : Nat) (shadow : Bool) : State :=
  let x := s.loop l
  let r := x.role shadow
  let other := x.role (!shadow)
  let d := r.desc
  let copies := r.armed.isSome && r.copyFrom && other.started
  let again := r.reprime || (copies && other.reprime)
  let primes := (if copies then other.adoptOut else r.adoptOut) || again
  let line := if r.armed.isSome then s.firstLine r other else r.line
  let i := s.captureIns d primes
  let aux := primes && (again || (r.armed.isSome && !copies)) && d.kind == 7 && !s.mayReadPoint d.glove d.aux
  let r1 := { r with armed := none, copyFrom := false, warm := none, reprime := false, adoptOut := primes,
                     line := if again then s.primeAgain d line else line, ins := i.1,
                     released := some k, stored := false, ranBy := [] }
  let s1 := s.putRole l shadow r1
  if i.2 || aux then s1.violation d.glove else s1

/-- The shadow of a loop starts at boundary `k` in channel `c` as a copy of the owner role as it stands there (spec/09 R221,
R223, spec/06 R134); beside an owner that has yet to begin, it waits to copy it. Answers whether the boundary is a release
boundary of its own period. -/
def State.startShadow (s : State) (k l c : Nat) : State × Bool :=
  let b := s.ltEntry l
  let d := Desc.read b
  let o := (s.loop l).owner
  let now := k % d.per == l % d.per
  let r := s.newRole c b
  (s.seatRole k l true
    (if o.armed.isSome then { r with armed := some (if now then k else s.firstRelease d l), copyFrom := true }
     else { r with line := o.line, adoptOut := o.adoptOut, reprime := o.reprime }), now)

/-- One step of a role on the inputs of its invocation. -/
def Role.step (r : Role) : Line :=
  let d := r.desc
  let i := r.ins
  let src : StepIn := if d.spsrc = 3 then pinSource d i.src i.srcOk else ⟨q15Of i.src, i.srcOk, false⟩
  loopStep d r.line ⟨q15Of i.meas, i.measOk, false⟩ ⟨q15Of i.aux, i.auxOk, false⟩ src
    (if r.adoptOut then some (signed 16 i.outV) else none)

/-- The compare record of a stored step: outputs and a CRC of the fields the step writes (spec/06 R147, log entry 23). -/
def Role.compare (d : Desc) (l : Line) : CmpRec := Line.record d { l with late := false, latePeriods := 0 }

-- Boundaries (spec/06 R144, R145, spec/09 R217, R218)

/-- The channel of a role can run it (spec/06 R156). -/
def State.chanOk (s : State) (c : Nat) : Bool := s.running Pg.ces && s.running (Pg.cea c) && !s.lse.fenced.contains c

/-- The role takes part in boundary `k`: started, and not armed for a later one. -/
def Role.due (r : Role) (k l : Nat) : Bool :=
  let p := r.desc.per
  r.started && (match r.armed with | some f => decide (f ≤ k) | none => true) && k % p == l % p

/-- The period that ends has stored, or there was none. -/
def State.roleDone (s : State) (r : Role) : Bool :=
  match r.released with | some _ => r.stored | none => s.chanOk r.chan

/-- A role's line takes a late period (spec/06 R144). -/
def Role.lateMark (r : Role) : Role :=
  { r with line := { r.line with late := true, latePeriods := min (r.line.latePeriods + 1) 0xFFFFFFFF } }

/-- The late counter of a channel moves on (spec/06 R144, R158, R163). -/
def State.countLate (s : State) (c : Nat) : State :=
  ((s.bump (Pg.cea c) Rg.CEA_LATE).bump Pg.ces Rg.CES_LATE_TOTAL).raiseSrc (Pg.cea c) 4

/-- A period of the given roles is late: each line takes it, and each channel with a role that has not stored counts one (spec/06
R144). A late period of a loop is pending while one of the publishing role is. -/
def State.latePeriod (s : State) (l : Nat) (rs : List Bool) : State :=
  let x := s.loop l
  let s1 := s.setLoop l { x with latePending := x.latePending || rs.contains x.lead }
  let s2 := rs.foldl (fun a sh => a.putRole l sh ((a.loop l).role sh).lateMark) s1
  (((rs.map x.role).filter (fun r => !s.roleDone r)).map (·.chan)).eraseDups.foldl State.countLate s2

/-- The quality of a published output (spec/07 R182). -/
def oqQual (oq : Nat) : Nat := if oq = 0 then 1 else if oq = 1 then 3 else 4

/-- The owner's result is written to its points (spec/01 R20, spec/07 R182). -/
def State.publishLoop (s : State) (k l : Nat) (r : Role) : State :=
  let d := r.desc
  let w : Writer := ⟨1, l, d.glove, some 0⟩
  let q := oqQual r.line.oq
  let s1 := s.writePoint w d.out (BitVec.ofInt 32 r.line.outLast) q
  let s2 := if d.kind = 7 then s1.writePoint w d.aux (BitVec.ofInt 32 r.line.out2Last) q else s1
  s2.setLoop l { s2.loop l with lastPub := k }

/-- A role's finished invocation is taken away; its cups are remembered while the other role's invocation of the same boundary
is still to be run (spec/06 R143). -/
def Role.taken (r other : Role) : Role :=
  let waits (b : Nat) : Bool := decide (other.released = some b) && !other.stored
  { r with
    released := none, stored := false, ranBy := [],
    ran := match r.released with
      | some b => if waits b then some (b, r.ranBy) else r.ran.filter (fun e => waits e.1)
      | none => r.ran.filter (fun e => waits e.1) }

/-- The finished invocations of the given roles are taken away. -/
def LoopSt.takeAll (x : LoopSt) (rs : List Bool) : LoopSt :=
  let y := rs.foldl (fun y sh => y.setRole sh { y.role sh with stored := true }) x
  rs.foldl (fun z sh => z.setRole sh ((x.role sh).taken (y.role (!sh)))) x

/-- The command in a slot still owns the loop it names (spec/04 R96, spec/05 R129). -/
def State.slotOwnsLoop (s : State) (n l : Nat) : Bool :=
  (s.slotOf n).glove == 0 || (Desc.read (s.ltEntry l)).glove == (s.slotOf n).glove

/-- The stop in hand takes effect (spec/06 R152), unless its command has lost the loop. -/
def State.stopNow (s : State) (l : Nat) : State :=
  match (s.loop l).stop with
  | none => s
  | some q =>
    let s0 := s.setLoop l { s.loop l with stop := none }
    let lost := match q.slot with | some n => !s.slotOwnsLoop n l | none => false
    if lost then s0.complete (q.slot.getD 0) St.aborted
    else
      let s1 := if q.owner && (s0.loop l).owner.started then s0.dropRole l false else s0
      let s2 := if q.shadow && (s1.loop l).shadow.started then s1.dropRole l true else s1
      let s3 := if (s2.loop l).any then s2 else s2.writerNone (s.loop l).adopted (fun kind wid => kind == 1 && wid == l)
      let x := s3.loop l
      match q.slot with
      | some n => s3.complete n 0 0 (wd (x.owner.started.toNat + 2 * x.shadow.started.toNat))
      | none => s3

/-- The flags that a mask clears (spec/06 R150, R153). -/
def Line.clearFlags (l : Line) (m : Nat) : Line :=
  { l with satAcc := l.satAcc && !m.testBit 0, satInt := l.satInt && !m.testBit 1, satOut := l.satOut && !m.testBit 2,
           satSp := l.satSp && !m.testBit 3, late := l.late && !m.testBit 4 }

/-- LOOP_CLEAR_FLAGS takes effect at a release boundary, unless it has lost the loop. -/
def State.clearNow (s : State) (l : Nat) : State :=
  let x := s.loop l
  match x.clear with
  | none => s
  | some (n, m) =>
    let s1 := s.setLoop l { x with clear := none }
    if s.slotOwnsLoop n l then
      let f (r : Role) : Role := { r with line := r.line.clearFlags m }
      ((s1.putRole l false (f x.owner)).putRole l true (f x.shadow)).complete n 0
    else s1.complete n St.aborted

/-- The swap of a handover (spec/06 R152, spec/03 R79 step 4), unless its command has lost the loop: roles, and the channel
fields of the table entry. -/
def State.swapLoop (s : State) (k l : Nat) : State :=
  let x := s.loop l
  let slot := x.handover.getD none
  if (match slot with | some n => !s.slotOwnsLoop n l | none => false) then
    (s.setLoop l { x with handover := none }).complete (slot.getD 0) St.aborted
  else
    let a := s.ltAddr l
    let w := wd (getLE (s.load a 4) 0 4)
    let w1 := setBf (setBf w 20 2 x.shadow.chan) 22 2 x.owner.chan
    let s1 := (s.setLoop l { x with owner := x.shadow, shadow := x.owner, handover := none }).store a (leBytes 4 w1.toNat)
    match slot with
    | some n => s1.complete n 0 (wd k)
    | none => s1

/-- A unit test of a loop's mismatch is in hand. -/
def State.testing (s : State) (task : Bool) (item : Nat) : Bool :=
  s.lse.tests.any (fun t => t.task == task && t.item == item)

/-- A mismatch (spec/09 R218): nothing is published, and both units are tested. -/
def State.mismatch (s : State) (task : Bool) (item oc ocup sc scup : Nat) : State :=
  let s1 := (s.bump Pg.lse Rg.LSE_MISMATCH).raiseSrc Pg.lse 1
  let t : UnitTest := { task := task, item := item, ownChan := oc, ownCup := ocup, shChan := sc, shCup := scup }
  { s1 with lse := { s1.lse with tests := s1.lse.tests ++ [t] },
            ces := if task then s1.ces else { s1.ces with testing := addN (addN s1.ces.testing (oc * 16 + ocup)) (sc * 16 + scup) },
            ktl := if task then { s1.ktl with testing := addN (addN s1.ktl.testing oc) sc } else s1.ktl }

/-- The publication of a period whose result the publishing role has stored (spec/09 R217, R218): compared with the shadow's
when both roles take part outside a handover window. Answers whether the roles may be released. -/
def State.publishPeriod (s : State) (k l : Nat) (joint : Bool) : State × Bool :=
  let x := s.loop l
  let o := x.role x.lead
  let h := x.shadow
  match o.released with
  | none => (s, true)
  | some ko =>
    match joint, h.released with
    | true, some kh =>
      let same := copyCore o.copy == copyCore h.copy
      let win := x.window && !(same && decide (x.winAt ≤ ko) && decide (x.winAt ≤ kh))
      let s1 := s.setLoop l { x.takeAll [false, true] with window := win }
      if !win && o.cmp != h.cmp then
        (s1.mismatch false l o.chan (o.ranBy.headD 0) h.chan (h.ranBy.headD 0), false)
      else (s1.publishLoop k l o, true)
    | _, _ => ((s.setLoop l (x.takeAll [x.lead])).publishLoop k l o, true)

/-- The limit of spec/01 R26. -/
def loopLimit (regular : Bool) : Nat := if regular then 8192 else 512

/-- A start of loop `l` with descriptor `d` would exceed a limit (spec/01 R26, spec/06 R148). A handover may make any role the
owner: every other loop with a role of the class counts. -/
def State.loopFull (s : State) (adopted : Bool) (l : Nat) (d : Desc) : Bool :=
  let has (r : Role) : Bool := r.started && r.desc.regular == d.regular
  decide (loopLimit d.regular ≤ (s.ces.loops.filter (fun e =>
    e.1 != l && e.2.adopted == adopted && (has e.2.owner || has e.2.shadow))).length)

/-- The outcome of an unresolved mismatch at a release boundary (spec/09 R218). -/
def State.resyncLoop (s : State) (l : Nat) : State :=
  let x := s.loop l
  if x.resync then (s.setLoop l { x with resync := false }).putRole l true { x.shadow with line := x.owner.line } else s

/-- The role's first release was due at boundary `f`, before `k`: it counts as one that has not stored while its channel cannot
run it (spec/06 R144, spec/08 R216). -/
def awaited (k : Nat) : Option Nat → Bool
  | none => true
  | some f => decide (f < k)

/-- A group of roles of loop `l` that share a boundary is checked, published and marked for release (spec/06 R144, R145).
`rs` lists the roles, `pub` whether the owner's result is published from them. -/
def State.checkRoles (s : State) (k l : Nat) (rs : List Bool) (pub : Bool) : State × List Bool :=
  let x := s.loop l
  let fresh := rs.filter (fun sh => awaited k (x.role sh).armed)
  if fresh.any (fun sh => !s.roleDone (x.role sh)) then (s.latePeriod l fresh, [])
  else
    let s1 := s.setLoop l { x with latePending := x.latePending && !rs.contains x.lead }
    let joint := rs.length == 2
    let p := if pub then s1.publishPeriod k l joint
      else (s1.setLoop l ((s1.loop l).takeAll rs), true)
    let ready := x.shadow.started && (match x.shadow.armed with | some f => decide (f ≤ k) | none => true)
    let s2 := if pub && (s1.loop l).handover.isSome && p.2 && ready then p.1.swapLoop k l else p.1
    (s2, if p.2 then rs else [])

/-- A shadow that waits for the item's release boundary starts there (spec/09 R221 step 3), within the limits of a start (spec/01
R26; log entry 129): `go` are the roles to release. -/
def State.startPlaced (s : State) (k l : Nat) (go : List Bool) : State × List Bool :=
  match (s.loop l).place with
  | some c =>
    if s.loopFull (s.loop l).adopted l (Desc.read (s.ltEntry l)) then (s.setLoop l { s.loop l with place := none }, go)
    else if go.contains false then
      let r := s.startShadow k l c
      (r.1, go.filter (fun sh => !sh) ++ if r.2 then [true] else [])
    else (s, go)
  | none => (s, go)

/-- One loop at boundary `k`: answers the roles to release (spec/06 R140, R144, R145). -/
def State.checkLoop (s : State) (k l : Nat) : State × List Bool :=
  let x := s.loop l
  let o := x.owner
  let h := x.shadow
  let od := o.due k l
  let hd := h.due k l
  let joint := od && hd && o.desc.ticks == h.desc.ticks
  let s0 := if od || (hd && x.lead) then s.clearNow l else s
  if s.testing false l then (s0, [])
  else
    let s1 := if od then s0.resyncLoop l else s0
    if joint then s1.checkRoles k l [false, true] true
    else
      let a := if od then s1.checkRoles k l [false] true else (s1, [])
      let swapped := od && h.started && (a.1.loop l).owner.seat == h.seat
      let b := if hd then a.1.checkRoles k l [!swapped] x.lead else (a.1, [])
      b.1.startPlaced k l ((a.2.map (fun sh => if swapped then !sh else sh)) ++ b.2)

/-- The loops with a role or a stop in hand, ascending. -/
def State.liveLoops (s : State) : List Nat :=
  (s.ces.loops.filter (fun e => e.2.any || e.2.stop.isSome)).map (·.1)

/-- Insertion of an entry by period, then loop ID, then owner before shadow (spec/06 R141). -/
def insertEntry (e : Nat × DqEntry) : List (Nat × DqEntry) → List (Nat × DqEntry)
  | [] => [e]
  | h :: t =>
    if e.1 < h.1 ∨ (e.1 = h.1 ∧ (e.2.loop < h.2.loop ∨ (e.2.loop = h.2.loop ∧ h.2.shadow))) then e :: h :: t
    else h :: insertEntry e t

/-- The loops at boundary `k`: stops, checks and publications (spec/06 R140 to R145); answers the roles to be released. -/
def State.loopsCheck (s : State) (k : Nat) : State × List (Nat × Bool) :=
  let s1 := s.liveLoops.foldl (fun a l => a.stopNow l) s
  s1.liveLoops.foldl (fun (a : State × List (Nat × Bool)) l =>
    let c := a.1.checkLoop k l
    (c.1, a.2 ++ c.2.map (fun sh => (l, sh)))) (s1, [])

/-- The releases of boundary `k`, in the channels that can run them (spec/06 R140, R141, R156). -/
def State.loopsRelease (s : State) (k : Nat) (rs : List (Nat × Bool)) : State :=
  let go := rs.filter (fun e => s.chanOk ((s.loop e.1).role e.2).chan)
  let s2 := go.foldl (fun a e => a.releaseRole k e.1 e.2) s
  (List.range 4).foldl (fun a c =>
    let es := (go.filter (fun e => ((s2.loop e.1).role e.2).chan == c)).foldl
      (fun l e => insertEntry (((s2.loop e.1).role e.2).desc.per, ⟨e.1, e.2, k⟩) l) []
    State.appendAll c (es.length + 1) a (es.map (·.2))) s2

/-- Occupancy at the end of a millisecond or second of TMB1 (spec/06 R149). -/
def State.occupancy (s : State) (k : Nat) : State :=
  let frac (n den : Nat) : Nat := min (n * 65536 / (16 * den)) 0xFFFF
  let ms (a : State) (c : Nat) : State :=
    let f := frac (Sparse.get (dflt 0) a.ces.busy (2 * c + 1)) 875000
    let b := { a with ces := { a.ces with busy := Sparse.set (dflt 0) a.ces.busy (2 * c + 1) 0 } }
    if (b.reg (Pg.cea c) Rg.CEA_OCC_PEAK).toNat < f then b.setReg (Pg.cea c) Rg.CEA_OCC_PEAK (wd f) else b
  let sec (a : State) (c : Nat) : State :=
    let f := frac (Sparse.get (dflt 0) a.ces.busy (2 * c)) 875000000
    ({ a with ces := { a.ces with busy := Sparse.set (dflt 0) a.ces.busy (2 * c) 0 } }).setReg (Pg.cea c) Rg.CEA_OCC (wd f)
  let s1 := if k % 32 = 0 then (List.range 4).foldl ms s else s
  if k % 32000 = 0 then (List.range 4).foldl sec s1 else s1

-- Steps (spec/06 R130, R142, R146)

/-- A cup becomes free and takes its next entry. -/
def State.cupFree (s : State) (c cup : Nat) : State := (s.setCup c cup none).cupsTake c

/-- The cup's entry returns to the head of its home deque (spec/06 R146). -/
def State.cupRetry (s : State) (c cup : Nat) (e : DqEntry) : State :=
  let h := homeCup e.loop e.shadow
  (s.growDeque c h (e :: s.deque c h)).cupFree c cup

/-- The result of a step is stored, unless its role has gone or was restarted (spec/06 R147, R152). -/
def State.storeStep (s : State) (c : Nat) (e : DqEntry) (mask : Word) : State :=
  let x := s.loop e.loop
  let sh := s.entrySh c e
  let r := x.role sh
  if r.runs c e then
    let l0 := r.step
    let l := if mask = 0 then l0 else { l0 with outLast := signed 16 (unsigned 16 l0.outLast ^^^ mask.toNat) }
    let r1 := { r with line := l, stored := true, cmp := Role.compare r.desc l, adoptOut := r.adoptOut && !l.primed }
    s.putRole e.loop sh r1
  else s

/-- The end of a cup's step on an entry (spec/06 R130, R142, R146, R163). A single-bit error counts only in the loop-state
SRAM. -/
def State.stepEnd (s : State) (c cup : Nat) (e : DqEntry) (u : Upset) : State :=
  let sram := ((s.loop e.loop).role (s.entrySh c e)).sram
  match u with
  | .none => (s.storeStep c e 0).cupFree c cup
  | .flip m => (s.storeStep c e m).cupFree c cup
  | .corrected =>
    let s1 := if sram then (s.bump (Pg.cea c) Rg.CEA_SRAM_CE).raiseSrc (Pg.cea c) 2 else s
    (s1.storeStep c e 0).cupFree c cup
  | .lockstep => (s.raiseSrc (Pg.cea c) 0).cupFree c cup
  | .romParity => (s.raiseSrc (Pg.cea c) 6).cupFree c cup
  | .dequeParity => (s.raiseSrc (Pg.cea c) 7).cupFree c cup
  | .lineEcc => (s.raiseSrc (Pg.cea c) (if sram then 1 else 5)).cupRetry c cup e
  | .copyEcc => (s.raiseSrc (Pg.cea c) 5).cupRetry c cup e
  | .badEntry => s

/-- A cup ends its step, for whose data it was stalled `stall` cycles (spec/06 R133). -/
def State.cupDone (s : State) (c cup : Nat) (u : Upset) (stall : Nat) : State :=
  match s.cupRuns c cup with
  | none => s
  | some e => (s.bumpBy (Pg.cea c) Rg.CEA_STALL stall).stepEnd c cup e u

/-- A step has run for 4,096 cycles, of which it was stalled for `stall` (spec/06 R146): the others were busy (R149). -/
def State.cupTimeout (s : State) (c cup stall : Nat) : State :=
  match s.cupRuns c cup with
  | none => s
  | some e =>
    let s1 := (s.bumpBy (Pg.cea c) Rg.CEA_STALL stall).addBusy c (4096 - stall - s.stepBooked c e)
    (s1.raiseSrc (Pg.cea c) 3).cupRetry c cup e

-- Fences, readmission and stops of all (spec/09 R221, R223, spec/03 R81)

/-- The unfenced channels. -/
def State.unfenced (s : State) : List Nat := (List.range 4).filter (fun c => !s.lse.fenced.contains c)

/-- Where spec/09 R221 puts the shadow of an owner in channel `o`. -/
def placeShadow (unf : List Nat) (o : Nat) : Nat := (unf.find? (fun c => c != o)).getD o

/-- A loop whose last role a fence took (spec/03 R81): a command that waits for one of its boundaries ends, LOOP_CLEAR_FLAGS as
spec/06 R153 has it for a loop without a role (log entry 101). -/
def State.loopLost (s : State) (l : Nat) : State :=
  let x := s.loop l
  let s1 := s.setLoop l { lastPub := x.lastPub, stop := x.stop }
  let s2 := match x.handover with | some (some n) => s1.complete n St.aborted | _ => s1
  match x.clear with | some (n, _) => s2.complete n 0 | none => s2

/-- Loop `l` is reassigned when channel `c` is fenced; `unf` are the channels left (spec/09 R221, spec/03 R81). -/
def State.fenceLoop (s : State) (c : Nat) (unf : List Nat) (l : Nat) : State :=
  let x := s.loop l
  let hitO := x.owner.started && x.owner.chan == c
  let hitS := x.shadow.started && x.shadow.chan == c
  let sh : Role := if hitS then {} else x.shadow
  if hitO then
    if sh.started then
      s.setLoop l { x with owner := sh, shadow := {}, place := unf.head?.map (fun _ => placeShadow unf sh.chan), restore := delN x.restore c }
    else s.loopLost l
  else if hitS then
    if x.owner.started then
      s.setLoop l { x with shadow := {}, place := unf.head?.map (fun _ => placeShadow unf x.owner.chan), restore := delN x.restore c }
    else s.loopLost l
  else
    s.setLoop l { x with
      place := if x.place = some c then unf.head?.map (fun _ => placeShadow unf x.owner.chan) else x.place,
      restore := delN x.restore c }

/-- The loops of a fenced channel; what its cups still do arrives nowhere (spec/01 R17). -/
def State.fenceLoops (s : State) (c : Nat) (unf : List Nat) : State :=
  let s1 := s.liveLoops.foldl (fun a l => a.fenceLoop c unf l) s
  { s1 with ces := { s1.ces with deques := Sparse.keep (fun k => k / 16 != c) s1.ces.deques,
                                 running := Sparse.keep (fun k => k / 16 != c) s1.ces.running,
                                 testing := s1.ces.testing.filter (fun k => k / 16 != c) } }

/-- The owner role runs no invocation that is still to be stored: its line can be copied now. -/
def Role.idle (r : Role) : Bool := r.released.isNone || r.stored

/-- Loop `l` takes a role back in the readmitted channel `c` at boundary `k` (spec/09 R223): always a shadow. The temporary role
stops at the same boundary: a shadow elsewhere, or an owner whose shadow stands where the descriptor names it. With owner and
shadow in one channel the shadow moves whatever the descriptor names (spec/01 R22). While the role to be copied runs its step,
or has yet to begin, everything stays, and the restoration waits for the next boundary. `go` are the roles to be released at
the boundary. -/
def State.restoreLoop (s : State) (k c : Nat) (go : List (Nat × Bool)) (l : Nat) : State × List (Nat × Bool) :=
  let x := s.loop l
  let d := Desc.read (s.ltEntry l)
  let named (n : Nat) : Bool := n == d.owner || n == d.shadow
  let twin := x.shadow.started && x.owner.chan == x.shadow.chan || x.place == some x.owner.chan
  if x.owner.started && x.owner.chan != c && !(x.shadow.started && x.shadow.chan == c) && (named c || twin) then
    let up := x.shadow.started && named x.shadow.chan && !named x.owner.chan
    let source := if up then x.shadow else x.owner
    if !source.idle || (up && x.shadow.armed.isSome) then (s.setLoop l { x with restore := addN x.restore c }, go)
    else
      let go1 := if up then go.filter (fun e => e != (l, false)) |>.map (fun e => if e = (l, true) then (l, false) else e)
        else go.filter (fun e => e != (l, true))
      let s1 := s.setLoop l { x with owner := source, shadow := {}, place := none, restore := delN x.restore c }
      if s1.loopFull x.adopted l d then (s1, go1)
      else
        let r := s1.startShadow k l c
        (r.1, if r.2 && go1.contains (l, false) then go1 ++ [(l, true)] else go1)
  else (s.setLoop l { x with restore := delN x.restore c }, go)

/-- A readmitted channel takes back its loops, in ascending order. -/
def State.restoreLoops (s : State) (k c : Nat) (go : List (Nat × Bool)) : State × List (Nat × Bool) :=
  s.liveLoops.foldl (fun a l => a.1.restoreLoop k c a.2 l) (s, go)

/-- The loops whose restoration waits go on with it. -/
def State.restoreLate (s : State) (k : Nat) (go : List (Nat × Bool)) : State × List (Nat × Bool) :=
  s.liveLoops.foldl (fun a l =>
    (a.1.loop l).restore.foldl (fun b c => b.1.restoreLoop k c b.2 l) a) (s, go)

/-- All roles of loops stop at once, adopted ones only if so said; commands in hand on them end ABORTED (spec/03 R81). -/
def State.stopLoops (s : State) (adoptedOnly : Bool) : State :=
  s.liveLoops.foldl (fun a l =>
    let x := a.loop l
    if x.adopted || !adoptedOnly then
      let a1 := match x.stop with | some q => (match q.slot with | some n => a.complete n St.aborted | none => a) | none => a
      let a2 := match x.handover with | some (some n) => a1.complete n St.aborted | _ => a1
      let a3 := match x.clear with | some (n, _) => a2.complete n St.aborted | none => a2
      a3.setLoop l { lastPub := x.lastPub }
    else a) s

/-- Loops counted (spec/06 R148), own or adopted, regular or fast. -/
def State.loopCount (s : State) (adopted regular : Bool) : Nat :=
  (s.ces.loops.filter (fun e => e.2.any && e.2.adopted == adopted
    && ((e.2.role e.2.lead).desc.regular == regular))).length

/-- Where the roles of a descriptor go when they are started by the module (spec/09 R230, R221). -/
def placeRoles (unf : List Nat) (d : Desc) : Option (Nat × Nat) :=
  match unf with
  | [] => none
  | c :: _ =>
    let o := if unf.contains d.owner then d.owner else if unf.contains d.shadow then d.shadow else c
    some (o, if unf.contains d.shadow && d.shadow != o then d.shadow else placeShadow unf o)

/-- The loops that the adoption bitmap marks (spec/09 R227); those in `spoilt`, whose bits cannot be read, count as not marked
(R251). -/
def State.adoptLoops (s : State) (spoilt : List Nat) : List Nat :=
  let base := s.reg64 Pg.lse Rg.LSE_AL_BASE_LO
  (s.mem.flatMap (fun e =>
    if base ≤ e.1 ∧ e.1 < base + 8192 then
      ((List.range 8).filter (fun b => e.2.getLsbD b)).map (fun b => (e.1 - base) * 8 + b)
    else [])).filter (fun l => !spoilt.contains l)

/-- An adoption starts the partner's loops (spec/09 R230, R231), within the limits of R26. -/
def State.adoptStartLoops (s : State) (spoilt : List Nat) : State :=
  (s.adoptLoops spoilt).foldl (fun a l =>
    let b := a.ltEntry l
    let d := Desc.read b
    if (a.loop l).any || !d.defined || !Desc.passes b || a.loopFull true l d then a
    else match placeRoles a.unfenced d with
      | none => a
      | some (o, h) =>
        let a1 := a.setLoop l { a.loop l with adopted := true }
        (a1.makeRole l false o b false true).makeRole l true h b false true) s

/-- A group was reclaimed: the roles of its loops prime at their next release boundary (spec/09 R242). -/
def State.reprimeFor (s : State) (pts : List Nat) : State :=
  s.liveLoops.foldl (fun a l =>
    let x := a.loop l
    let d := (x.role x.lead).desc
    let due (r : Role) : Role := { r with reprime := r.started }
    if x.any && (pts.contains d.out || (d.kind == 7 && pts.contains d.aux)) then
      a.setLoop l { x with owner := due x.owner, shadow := due x.shadow } else a) s

-- Commands (spec/06 R150 to R154)

/-- Loops and tasks run in COMMISSION, RUN and DEGRADED. -/
def State.live (s : State) : Bool :=
  (s.sys.mode == .commission || s.sys.mode == .run || s.sys.mode == .degraded) && !s.isFatal

/-- Another command in hand satisfies `p`. -/
def State.otherCmd (s : State) (c : Ctx) (p : Slot → Bool) : Bool :=
  s.cmd.slots.any (fun e => e.1 != c.slot && decide (e.2.phase = .inHand) && p e.2)

/-- Another loop command on the same loop is in hand. -/
def State.loopBusy (s : State) (c : Ctx) (l : Nat) : Bool :=
  s.otherCmd c (fun x => x.op / 256 == 3 && bf (x.args.headD 0) 0 16 == l) || (s.loop l).stop.isSome
    || (s.loop l).handover.isSome

/-- The command may name loop `l` (spec/06 R150). -/
def State.loopMine (s : State) (c : Ctx) (l : Nat) : Bool := c.g == 0 || (Desc.read (s.ltEntry l)).glove == c.g

/-- The relayed write of a persisted entry: the spec gives no format, so the model lays it out itself (log entry 24):
destination of R387, source, EtherType, SUBTYPE 0x57, kind (0 loop, 1 task), the sender's ring address, zero, ID, data. -/
def relayBytes (task : Bool) (addr id : Nat) (data : List Byte) (west : Bool) : List Byte :=
  [0x03, 0x0F, 0xC7, 0x14, 0x00, 0x02] ++ rsMac west
    ++ [0x88, 0xB5, 0x57, BitVec.ofNat 8 task.toNat, BitVec.ofNat 8 addr, 0x00] ++ beBytes 2 id ++ data

/-- A persisted write is relayed to the adopter (spec/09 R228). -/
def State.relayOut (s : State) (task : Bool) (id : Nat) (data : List Byte) : State :=
  let w := s.reg Pg.lse Rg.LSE_CTRL
  if bit w 15 then s.rsTo (bf w 16 7) (relayBytes task (bf w 0 7) id data) else s

/-- A change is journalled into CONFIG; its command waits (spec/03 R74). -/
def State.journalAdd (s : State) (slot : Option Nat) (e : CfgEdit) : State :=
  { s with nv := { s.nv with journal := s.nv.journal ++ [⟨slot, e⟩] } }

/-- LOOP_WRITE (spec/06 R151). -/
def loopWriteBody (c : Ctx) (s : State) : State :=
  let l := c.f 0 0 16
  let b := s.load (c.addr 1) 128
  if !s.bufOk c (c.addr 1) 128 || !Desc.writable b then s.fin c St.arg
  else if !s.loopMine c l then s.foreign c
  else if s.isFatal then s.fin c St.state
  else if s.loopBusy c l then s.fin c St.busy
  else
    let g := if c.g = 0 then getLE b 3 1 else (getLE (s.ltEntry l) 3 1 % 64) + getLE b 3 1 / 64 * 64
    let b1 := patchB b 3 (leBytes 1 g)
    let s1 := s.store (s.ltAddr l) b1
    if c.b 0 16 then (s1.journalAdd (some c.slot) (.loop l b1)).relayOut false l b1 else s1.done c

/-- LOOP_READ. -/
def loopReadBody (c : Ctx) (s : State) : State :=
  let l := c.f 0 0 16
  let src := c.f 0 16 2
  if src = 3 ∨ !s.bufOk c (c.addr 1) 128 then s.fin c St.arg
  else if !s.loopMine c l then s.foreign c
  else if s.isFatal then s.fin c St.state
  else if src = 0 then (s.store (c.addr 1) (s.ltEntry l)).done c 1
  else
    let r := (s.loop l).role (src == 2)
    if r.started then (s.store (c.addr 1) r.copy).done c 1 else s.done c 0

/-- The roles that a ROLE field names. -/
def rolesOf (role : Nat) : List Bool := if role = 0 then [false] else if role = 1 then [true] else [false, true]

/-- The channel in which LOOP_START starts a role: the descriptor's, but apart from the other role while two channels are unfenced
(spec/01 R22). -/
def State.startChan (s : State) (x : LoopSt) (d : Desc) (shadow : Bool) : Nat :=
  let c := if shadow then d.shadow else d.owner
  let other := x.role (!shadow)
  if other.started && other.chan == c && !s.lse.fenced.contains c then placeShadow s.unfenced c else c

/-- LOOP_START (spec/06 R148, R152); `ecc`: reading the table entry meets an uncorrectable error (R163). -/
def loopStartBody (ecc : Bool) (c : Ctx) (s : State) : State :=
  let l := c.f 0 0 16
  let role := c.f 0 16 2
  let x := s.loop l
  let b := s.ltEntry l
  let d := Desc.read b
  let todo := (rolesOf role).filter (fun sh => !(x.role sh).started)
  let chan (sh : Bool) : Nat := s.startChan x d sh
  if role = 3 then s.fin c St.arg
  else if ecc then (s.raiseSrc Pg.ces 0).fin c 0x0201
  else if !s.loopMine c l then s.foreign c
  else if !s.live || todo.isEmpty then s.fin c St.state
  else if s.loopBusy c l then s.fin c St.busy
  else if !d.defined || !Desc.passes b then s.fin c St.arg
  else if todo.any (fun sh => s.lse.fenced.contains (chan sh)) then s.fin c 0x0107
  else if todo.any (fun sh => !s.running (Pg.cea (chan sh))) then s.fin c St.state
  else if s.loopFull x.adopted l d then s.fin c 0x0105
  else if todo.any (fun sh => decide (34816 < (s.rolesIn (chan sh)).length + (todo.filter (fun t => chan t == chan sh)).length)) then
    s.fin c 0x0106
  else
    let cold := !x.any
    let s1 := todo.foldl (fun a sh => a.makeRole l sh (chan sh) b (!cold) false) s
    let y := s1.loop l
    s1.fin c (if cold then St.note else 0) (wd (s.firstRelease d l)) (wd (y.owner.started.toNat + 2 * y.shadow.started.toNat))

/-- LOOP_STOP (spec/06 R152). -/
def loopStopBody (c : Ctx) (s : State) : State :=
  let l := c.f 0 0 16
  let role := c.f 0 16 2
  let x := s.loop l
  let todo := (rolesOf role).filter (fun sh => (x.role sh).started)
  if role = 3 then s.fin c St.arg
  else if !s.loopMine c l then s.foreign c
  else if s.isFatal || todo.isEmpty || (role == 0 && x.shadow.started)
      || todo.any (fun sh => !s.running (Pg.cea (x.role sh).chan)) then s.fin c St.state
  else if s.loopBusy c l then s.fin c St.busy
  else s.setLoop l { x with stop := some ⟨some c.slot, todo.contains false, todo.contains true⟩ }

/-- LOOP_HANDOVER (spec/06 R152, spec/03 R81). -/
def loopHandoverBody (c : Ctx) (s : State) : State :=
  let l := c.f 0 0 16
  let x := s.loop l
  if !s.loopMine c l then s.foreign c
  else if !s.live || !x.owner.started || !x.shadow.started || !s.running (Pg.cea x.owner.chan)
      || !s.running (Pg.cea x.shadow.chan) then s.fin c St.state
  else if s.loopBusy c l then s.fin c St.busy
  else s.setLoop l { x with handover := some (some c.slot) }

/-- LOOP_QUERY: LOOP_LATE and the late periods are those of the owner's line, or of a lone shadow's (log entry 102). -/
def loopQueryBody (c : Ctx) (s : State) : State :=
  let l := c.f 0 0 16
  let x := s.loop l
  let o := x.owner
  let lead := x.role x.lead
  if !s.loopMine c l then s.foreign c
  else
    let f := o.started.toNat + 2 * x.shadow.started.toNat + 4 * o.chan + 16 * x.shadow.chan + 64 * x.window.toNat
      + 128 * x.latePending.toNat + 256 * (o.line.satAcc.toNat + 2 * o.line.satInt.toNat + 4 * o.line.satOut.toNat
      + 8 * o.line.satSp.toNat) + 4096 * lead.line.late.toNat
    s.done c (wd f) (wd lead.line.latePeriods) (wd x.lastPub)

/-- LOOP_CLEAR_FLAGS (spec/06 R153). -/
def loopClearBody (c : Ctx) (s : State) : State :=
  let l := c.f 0 0 16
  let x := s.loop l
  if !s.loopMine c l then s.foreign c
  else if s.isFatal then s.fin c St.state
  else if s.loopBusy c l then s.fin c St.busy
  else if !x.any then s.done c
  else s.setLoop l { x with clear := some (c.slot, c.f 1 0 5) }

/-- The loop commands that wait for a boundary of a loop with a role in channel `c` end with a stop of its page (spec/06 R154). -/
def State.abortLoops (s : State) (c : Nat) : State :=
  s.ces.loops.foldl (fun (a : State) (e : Nat × LoopSt) =>
    let x := a.loop e.1
    if (x.owner.started && x.owner.chan == c) || (x.shadow.started && x.shadow.chan == c) then
      let a0 := a.setLoop e.1 { x with stop := none, handover := none, clear := none }
      let a1 := match x.stop with | some q => (match q.slot with | some n => a0.complete n St.aborted | none => a0) | none => a0
      let a2 := match x.handover with | some (some n) => a1.complete n St.aborted | _ => a1
      match x.clear with | some (n, _) => a2.complete n St.aborted | none => a2
    else a) s

-- The loop integrator commit (spec/01 R13, spec/02 R51)

/-- Once per second the integrators of the own loops' owner roles go to the other buffer; a commit that fails its read-back
leaves the previous one valid (spec/22 R580). -/
def State.commitIntegrators (s : State) (ok : Bool) : State :=
  let own := s.ces.loops.filter (fun e => e.2.owner.started && !e.2.adopted && e.2.owner.armed.isNone)
  let b : LBuf := { valid := ok, seq := s.nv.lseq + 1, gen := s.sys.runGen,
                    integ := own.foldl (fun m e => Sparse.put m e.1 e.2.owner.line.integ) [] }
  let toOne := s.nv.lbuf0.valid && (!s.nv.lbuf1.valid || decide (s.nv.lbuf1.seq < s.nv.lbuf0.seq))
  let s1 := { s with nv := { s.nv with lseq := s.nv.lseq + 1, lbuf0 := if toOne then s.nv.lbuf0 else b,
                                       lbuf1 := if toOne then b else s.nv.lbuf1 } }
  if ok then { s1 with sys := { s1.sys with loopSeq := wd (s.nv.lseq + 1) } } else s1.raiseSrc Pg.pwr 5

end Sys2Proof.Machine
end

