-- ==== Sys2Proof/Machine/KettleOps.lean ====
section
/-! DEFINITION. Tasks on the Kettles (spec/08 R192 to R216, spec/03 R77 to R81): roles, call entries, publication, LOOPCTL,
commits and the task commands. Task numbers 16 to 31 are the partner's tasks 0 to 15. -/

namespace Sys2Proof.Machine

/-- A task's state. -/
def State.task (s : State) (t : Nat) : TaskSt := Sparse.get (dflt {}) s.ktl.tasks t

/-- Sets a task's state. -/
def State.setTask (s : State) (t : Nat) (x : TaskSt) : State :=
  { s with ktl := { s.ktl with tasks := Sparse.set (dflt {}) s.ktl.tasks t x } }

/-- The task table entry of a task (spec/08 R192). -/
def State.taskEntry (s : State) (t : Nat) : TaskCopy := Sparse.get (dflt {}) s.ktl.table t

/-- Writes the task table. -/
def State.setTaskEntry (s : State) (t : Nat) (c : TaskCopy) : State :=
  { s with ktl := { s.ktl with table := Sparse.set (dflt {}) s.ktl.table t c } }

/-- The descriptor of a copy. -/
def TaskCopy.d (c : TaskCopy) : TaskDesc := TaskDesc.read c.desc

/-- The bytes of a copy as the task commands lay them out (spec/08 R213). -/
def TaskCopy.bytes (c : TaskCopy) : List Byte :=
  sliceB c.desc 0 64 ++ (List.range (4 * c.d.len)).flatMap (fun k => leBytes 4 (kw c.list k).toNat)
    ++ (List.range (c.d.isize / 4)).flatMap (fun k => leBytes 4 (kw c.image k).toNat)

/-- Words kept sparsely. -/
def sparseWords (l : List Word) : Sparse Word :=
  (l.zipIdx.filter (fun e => decide (e.1 ≠ 0))).map (fun e => (e.2, e.1))

/-- A copy from the bytes of a buffer. -/
def TaskCopy.ofBytes (b : List Byte) : TaskCopy :=
  let d := TaskDesc.read b
  { desc := sliceB b 0 64, list := sparseWords (leWords (4 * d.len) (sliceB b 64 (16 * d.len))),
    image := sparseWords (leWords (d.isize / 4) (sliceB b (64 + 16 * d.len) d.isize)) }

/-- The bytes a copy with this descriptor takes in a buffer. -/
def taskLen (b : List Byte) : Nat := 64 + 16 * (TaskDesc.read b).len + (TaskDesc.read b).isize

/-- A role of a task. -/
def TaskSt.role (x : TaskSt) (shadow : Bool) : TaskRole := if shadow then x.shadow else x.owner

/-- Sets a role. -/
def TaskSt.setRole (x : TaskSt) (shadow : Bool) (r : TaskRole) : TaskSt :=
  if shadow then { x with shadow := r } else { x with owner := r }

/-- The role runs a cycle that has not reached END. -/
def TaskRole.busy (r : TaskRole) : Bool := r.released.isSome && !r.done

/-- Some role of the task is started. -/
def TaskSt.any (x : TaskSt) : Bool := x.owner.started || x.shadow.started

/-- The role that publishes: the owner, or a shadow whose task has no owner (spec/03 R81): is it the shadow? -/
def TaskSt.lead (x : TaskSt) : Bool := !x.owner.started && x.shadow.started

/-- The fields of a role copy that spec/03 R80 compares: the descriptor without its channel fields, and the call list
(log entry 22). -/
def sameTaskCopy (a b : TaskCopy) : Bool :=
  setBf (wd (getLE a.desc 0 4)) 4 4 0 == setBf (wd (getLE b.desc 0 4)) 4 4 0 && sliceB a.desc 4 60 == sliceB b.desc 4 60
    && decide (a.list = b.list)

/-- The cycle of a task in ticks. -/
def TaskDesc.ticks (d : TaskDesc) : Nat := 32 * max d.cycle 1

/-- The first release boundary after the present one (spec/08 R194). -/
def State.firstTaskRelease (s : State) (d : TaskDesc) : Nat :=
  let k := s.ces.tick + 1
  k + (32 * d.phase + d.ticks - k % d.ticks) % d.ticks

/-- The Kettle of a channel may run tasks (spec/08 R216, spec/09 R220). -/
def State.kettleOk (s : State) (c : Nat) : Bool := s.running (Pg.ktl c) && !s.lse.fenced.contains c

/-- The address of a role slot (spec/08 R196). -/
def State.workAt (s : State) (c t : Nat) (shadow : Bool) : Nat :=
  s.reg64 (Pg.ktl c) Rg.KTL_WORK_BASE_LO + (2 * t + shadow.toNat) * 0x100000

/-- The copies of a role are written to its slot: call list and image where R196 has them, the descriptor in the last 64 bytes
before the reserved part (log entry 104). -/
def State.storeWork (s : State) (t : Nat) (shadow : Bool) : State :=
  let r := (s.task t).role shadow
  let a := s.workAt r.chan t shadow
  if r.started then
    ((s.store a ((List.range (4 * r.copy.d.len)).flatMap (fun k => leBytes 4 (kw r.copy.list k).toNat))).store (a + 0x40000)
      ((List.range (r.copy.d.isize / 4)).flatMap (fun k => leBytes 4 (kw r.copy.image k).toNat))).store (a + 0xBFFC0)
        (sliceB r.copy.desc 0 64)
  else s

/-- A role of task `t` starts with the start boundary `k`: its copies go to its slot, and the handover window opens if they
differ from the other role's (spec/08 R196, spec/03 R80). -/
def State.seatTask (s : State) (k t : Nat) (shadow : Bool) (r : TaskRole) : State :=
  let x := s.task t
  let other := x.role (!shadow)
  let differ := other.started && !sameTaskCopy other.copy r.copy
  (s.setTask t { x.setRole shadow r with
    window := differ || (x.window && other.started), winAt := k, place := if shadow then none else x.place }).storeWork t shadow

/-- A role of a task is started in channel `c` from the copy `b`, armed for its first release (spec/08 R196, R212, spec/03 R78):
`copy` to take the other role's image there, which needs equal LAYOUT_IDs. -/
def State.makeTaskRole (s : State) (t : Nat) (shadow : Bool) (c : Nat) (b : TaskCopy) (copy : Bool) : State :=
  let k := s.firstTaskRelease b.d
  s.seatTask k t shadow
    { started := true, chan := c, copy := b, armed := some k,
      copyFrom := copy && b.d.layout == ((s.task t).role (!shadow)).copy.d.layout }

/-- The shadow of a task starts at boundary `k` in channel `c` as a copy of the owner role as it stands there (spec/09 R221,
R223, spec/08 R212): answers whether the boundary is a release boundary of its own cycle. -/
def State.startTaskShadow (s : State) (k t c : Nat) : State × Bool :=
  let b := s.taskEntry t
  let o := (s.task t).owner
  let same := b.d.layout == o.copy.d.layout
  let now := k % b.d.ticks == 32 * b.d.phase
  let r : TaskRole := { started := true, chan := c, copy := b }
  (s.seatTask k t true
    (if o.armed.isSome then { r with armed := some (if now then k else s.firstTaskRelease b.d), copyFrom := same }
     else if same then { r with copy := { b with image := o.copy.image }, primed := o.primed } else r), now)

/-- What is left of a role that stops: a cycle in progress runs on unused (spec/08 R213). -/
def TaskRole.stopped (r : TaskRole) : TaskRole :=
  if r.started && r.busy then { r with started := false, armed := none } else {}

/-- A role ends. -/
def State.dropTaskRole (s : State) (t : Nat) (shadow : Bool) : State :=
  let x := s.task t
  let y := x.setRole shadow (x.role shadow).stopped
  if y.any then s.setTask t y else s.setTask t { owner := y.owner, shadow := y.shadow, lateCount := y.lateCount, lastSeq := y.lastSeq }

-- One call entry (spec/08 R195 to R202)

/-- A binding read by a call: the pin, whether it marks the call degraded, and whether it names a foreign point. -/
def State.readBind (s : State) (r : TaskRole) (w : Word) : KIn × Bool × Bool :=
  match bf w 30 2 with
  | 0 => ({ w := BitVec.ofInt 32 (signed 30 (bf w 0 30)), bound := true }, false, false)
  | 1 =>
    let p := bf w 0 16
    let x := s.pointFor r.img.points r.copy.d.glove p
    ({ w := x.value, bound := true, qual := x.qual, age := x.age }, !usableQ x.qual, !s.mayReadPoint r.copy.d.glove p)
  | 2 => ({ w := kw r.copy.image (bf w 0 17), bound := true }, false, false)
  | _ => ({}, false, false)

/-- Words are written into an image from word `a` on. -/
def patchWords (m : Sparse Word) (a : Nat) (l : List Word) : Sparse Word :=
  (l.zipIdx).foldl (fun m e => Sparse.set (dflt 0) m (a + e.2) e.1) m

/-- One call (spec/08 R199 to R204); `mask` inverts bits of its first output. Each role that reads a foreign point in a cycle counts
one violation (DESIGN CHOICE, log entry 146), and a call that its enable skips is not degraded by inputs it did not read (DESIGN
CHOICE, log entry 147). -/
def State.runCall (s : State) (r : TaskRole) (mask : Word) : State × TaskRole :=
  let l := r.copy.list
  let e := r.pc
  let w := kw l (4 * e)
  match blockTy (bf w 0 8) with
  | none => (s, r)
  | some t =>
    let en := bit w 13
    let next := e + 1 + contOf (bf w 8 5)
    let g := r.copy.d.glove
    let be := s.readBind r (bindWord l e 0)
    let run := !en || decide (be.1.w ≠ 0)
    let ins := if run then (List.range t.ins.length).map (fun k => s.readBind r (bindWord l e (en.toNat + k))) else []
    let reads := if en then be :: ins else ins
    let bad := reads.any (fun b => b.2.2)
    let s1 := if bad && !r.foreign then s.violation g else s
    let r1 := { r with pc := next, foreign := r.foreign || bad, deg := if reads.any (fun b => b.2.1) then r.deg ++ [e] else r.deg }
    if run then
      let base := bf w 16 16 * 2
      let env : CallEnv := { cyc := r.copy.d.cycle, sec := r.sec, ins := ins.map (·.1),
                             prime := hasEdge (bf w 0 8) && !r.primed.contains e,
                             lc := Sparse.get (dflt {}) r.lcs (bf w 16 16),
                             inst := (List.range (t.bytes / 4)).map (fun k => kw r.copy.image (base + k)) }
      let out := blockCall (bf w 0 8) env
      let out1 := match out with | [] => [] | x :: y => (x ^^^ mask) :: y
      let rq := if bf w 0 8 = 0x30 then (nth out 4 0).toNat else 0
      (s1, { r1 with copy := { r1.copy with image := patchWords r1.copy.image base out1 },
                     primed := if hasEdge (bf w 0 8) && !r.primed.contains e then r.primed ++ [e] else r.primed,
                     asks := r1.asks ++ ([1, 2, 4].filter (fun q => rq / q % 2 == 1)).map (fun q => (e, q)) })
    else (s1, r1)

/-- The cycles of the entry that a role is about to run (spec/08 R203). -/
def entryCycles (r : TaskRole) : Nat :=
  let w := kw r.copy.list (4 * r.pc)
  blockCycles (bf w 0 8)
    + 8 * ((List.range (bf w 8 5)).filter (fun k => bf (bindWord r.copy.list r.pc k) 30 2 == 1)).length

/-- Busy cycles of a Kettle (spec/08 R215). -/
def State.kettleBusy (s : State) (c n : Nat) : State :=
  let b := s.ktl.busy
  let b1 := Sparse.set (dflt 0) b (2 * c) (Sparse.get (dflt 0) b (2 * c) + n)
  { s with ktl := { s.ktl with busy := Sparse.set (dflt 0) b1 (2 * c + 1) (Sparse.get (dflt 0) b1 (2 * c + 1) + n) } }

/-- The order of spec/08 R195: PRIO, own before adopted, owner before shadow. -/
def rankOf (t : Nat) (shadow : Bool) (r : TaskRole) : Nat := r.copy.d.prio * 128 + (t / 16) * 64 + shadow.toNat * 32 + t % 16

/-- The role that the Kettle of channel `c` runs next. -/
def State.kettlePick (s : State) (c : Nat) : Option (Nat × Bool) :=
  let all := s.ktl.tasks.flatMap (fun e => [(e.1, false, e.2.owner), (e.1, true, e.2.shadow)])
  let can := all.filter (fun e => e.2.2.busy && e.2.2.chan == c)
  (can.foldl (fun (b : Option (Nat × Bool × TaskRole)) e =>
    match b with
    | none => some e
    | some x => if rankOf e.1 e.2.1 e.2.2 < rankOf x.1 x.2.1 x.2.2 then some e else b) none).map (fun e => (e.1, e.2.1))

/-- The deadline of a cycle (spec/08 R210). -/
def TaskRole.deadline (r : TaskRole) : Nat := r.released.getD 0 + 32 * r.copy.d.cycle * (100 + r.copy.d.margin) / 100

/-- A role reaches END: the least slack is kept (spec/08 R215). -/
def State.reachEnd (s : State) (c t : Nat) (shadow : Bool) : State :=
  let x := s.task t
  let r := x.role shadow
  let left := r.deadline - s.ces.tick
  let s1 := s.setTask t (x.setRole shadow (if r.started then { r with done := true } else {}))
  if left < (s1.reg (Pg.ktl c) Rg.KTL_SLACK_MIN).toNat then s1.setReg (Pg.ktl c) Rg.KTL_SLACK_MIN (wd left) else s1

/-- The entry at the role's place is run. -/
def State.runEntry (s : State) (c t : Nat) (shadow : Bool) (mask : Word) : State :=
  let r := (s.task t).role shadow
  let s1 := s.kettleBusy c (entryCycles r)
  if bf (kw r.copy.list (4 * r.pc)) 0 8 = 0 then s1.reachEnd c t shadow
  else
    let o := s1.runCall r mask
    let s2 := o.1.setTask t ((o.1.task t).setRole shadow o.2)
    let w := kw r.copy.list (4 * r.pc)
    let n := match blockTy (bf w 0 8) with | some b => b.bytes / 4 | none => 0
    s2.store (s2.workAt c t shadow + 0x40000 + bf w 16 16 * 8)
      ((List.range n).flatMap (fun k => leBytes 4 (kw o.2.copy.image (bf w 16 16 * 2 + k)).toNat))

/-- A Kettle runs one call entry (spec/08 R195), undisturbed or not (spec/08 R216). -/
def State.kettleCall (s : State) (c : Nat) (u : Upset) : State :=
  if s.kettleOk c && !s.ktl.testing.contains c then
    match s.kettlePick c with
    | none => s
    | some (t, sh) =>
      let p := Pg.ktl c
      match u with
      | .none => s.runEntry c t sh 0
      | .flip m => s.runEntry c t sh m
      | .corrected => ((s.bump p Rg.KTL_WORK_CE).raiseSrc p 2).runEntry c t sh 0
      | .lineEcc => s.raiseSrc p 1
      | .copyEcc => s.raiseSrc p 1
      | .romParity => s.raiseSrc p 3
      | .badEntry => s.raiseSrc p 4
      | .lockstep => s
      | .dequeParity => s
  else s

-- Commits (spec/08 R206 to R208)

/-- A slot of an MRAM buffer. -/
def State.kslot (s : State) (b t : Nat) : KSlot := Sparse.get (dflt {}) s.nv.kslots (b * 16 + t)

/-- Sets it. -/
def State.setKslot (s : State) (b t : Nat) (x : KSlot) : State :=
  { s with nv := { s.nv with kslots := Sparse.set (dflt {}) s.nv.kslots (b * 16 + t) x } }

/-- The header of a slot before its CRC-32 (spec/08 R206). -/
def KSlot.head (x : KSlot) : List Byte := [x.seq, x.task, x.layout, x.gen, x.count].flatMap (leBytes 4)

/-- The CRC-32 over the header and the retained bytes, in the order of the call list (log entry 105). -/
def KSlot.sum (x : KSlot) : Nat := (crc32 (x.head ++ x.fields.flatMap (fun k => leBytes 4 (kw x.words k).toNat))).toNat

/-- MARK and CRC are correct: the slot holds a complete commit (spec/08 R206, R207). -/
def KSlot.whole (x : KSlot) : Bool := x.mark == 0xC0DE0001 && x.crc == x.sum

/-- The slot that a commit of task `t` completes, MARK written last (spec/08 R206). -/
def KCommit.slot (k : KCommit) (t : Nat) : KSlot :=
  let x : KSlot := { seq := k.seq, task := t, layout := k.layout, gen := k.gen, count := 4 * k.fields.length,
                     fields := k.fields, words := k.words }
  { x with crc := x.sum, mark := 0xC0DE0001 }

/-- A slot is valid for a layout and a CONFIG generation (spec/08 R207). -/
def KSlot.valid (x : KSlot) (layout gen : Nat) : Bool := x.whole && x.layout == layout && x.gen == gen

/-- The buffer that holds the last valid commit of a task. -/
def State.klast (s : State) (t layout gen : Nat) : Option Nat :=
  let a := s.kslot 0 t
  let b := s.kslot 1 t
  match a.valid layout gen, b.valid layout gen with
  | true, true => some (if a.seq < b.seq then 1 else 0)
  | true, false => some 0
  | false, true => some 1
  | false, false => none

/-- The newest slot of a task that holds a complete commit, whatever its layout and generation. -/
def State.kNewest (s : State) (t : Nat) : Option KSlot :=
  let a := s.kslot 0 t
  let b := s.kslot 1 t
  match a.whole, b.whole with
  | true, true => some (if a.seq < b.seq then b else a)
  | true, false => some a
  | false, true => some b
  | false, false => none

/-- The places of the retained fields of a copy, in list order. -/
def TaskCopy.keep (c : TaskCopy) : List Nat := retainedWords c.list (c.d.len + 1) 0

/-- The retained fields of a copy. -/
def TaskCopy.retained (c : TaskCopy) : Sparse Word :=
  c.keep.foldl (fun m k => Sparse.set (dflt 0) m k (kw c.image k)) []

/-- A commit of the retained fields of a copy by the Kettle of channel `chan`, with the generation that the module runs on
(spec/08 R206, R212). -/
def State.commitOf (s : State) (chan : Nat) (c : TaskCopy) : KCommit := ⟨chan, 0, c.d.layout, s.sys.runGen, c.keep, c.retained⟩

/-- The buffer that a commit goes to (spec/08 R207). -/
def State.commitTo (s : State) (t : Nat) (k : KCommit) : Nat := if s.klast t k.layout k.gen = some 0 then 1 else 0

/-- A commit begins: its target slot is torn until it completes. -/
def State.commitBegin (s : State) (t : Nat) (k : KCommit) : State :=
  let b := s.commitTo t k
  let s1 := s.setKslot b t { s.kslot b t with mark := 0 }
  { s1 with nv := { s1.nv with kseq := s1.nv.kseq + 1 },
            ktl := { s1.ktl with commits := Sparse.set (dflt none) s1.ktl.commits t (some { k with seq := s1.nv.kseq + 1 }) } }

/-- The owner's Kettle commits the retained fields of the cycle just published (spec/08 R207). -/
def State.commitTask (s : State) (t : Nat) (r : TaskRole) : State :=
  if 16 ≤ t then s
  else
    let k := s.commitOf r.chan r.copy
    match Sparse.get (dflt none) s.ktl.commits t with
    | none => s.commitBegin t k
    | some _ =>
      let s1 := if (Sparse.get (dflt none) s.ktl.pendingC t).isSome then s.bump (Pg.ktl r.chan) Rg.KTL_COMMIT_SKIP else s
      { s1 with ktl := { s1.ktl with pendingC := Sparse.set (dflt none) s1.ktl.pendingC t (some k) } }

/-- A slot is completed: it holds the commit, which SYS_KTL_COMMIT_SEQ and KTL_COMMITS count (spec/08 R208, R215). -/
def State.slotDone (s : State) (b t : Nat) (k : KCommit) : State :=
  let s1 := s.setKslot b t (k.slot t)
  let s2 := { s1 with sys := { s1.sys with ktlSeq := wd k.seq } }
  (s2.setTask t { s2.task t with lastSeq := k.seq }).bump (Pg.ktl k.chan) Rg.KTL_COMMITS

/-- A commit ends, verified or not (spec/08 R207, R208, R216); a pending one begins. -/
def State.commitDone (s : State) (t : Nat) (ok : Bool) : State :=
  match Sparse.get (dflt none) s.ktl.commits t with
  | none => s
  | some k =>
    let s1 := { s with ktl := { s.ktl with commits := Sparse.set (dflt none) s.ktl.commits t none } }
    let s2 := if ok then s1.slotDone (s1.commitTo t k) t k else s1.raiseSrc (Pg.ktl k.chan) 5
    match Sparse.get (dflt none) s2.ktl.pendingC t with
    | none => s2
    | some n => ({ s2 with ktl := { s2.ktl with pendingC := Sparse.set (dflt none) s2.ktl.pendingC t none } }).commitBegin t n

-- LOOPCTL (spec/08 R205)

/-- The place that stands for the slot of what a LOOPCTL issues next: the first that no other holds. -/
def State.lcPlace (s : State) : Nat := 8192 + leastFree (s.ktl.lcOps.map (fun o => o.slot - 8192))

/-- A LOOPCTL issues the loop command of an operation's stage. -/
def State.lcIssue (s : State) (o : LcOp) : State :=
  let op := if o.stage = 0 ∨ o.stage = 3 ∨ o.stage = 7 then 0x0303 else if o.stage = 4 then 0x0305 else 0x0304
  let role := if o.stage = 0 ∨ o.stage = 8 then 2 else 1
  let args := [wd (o.loop + role * 65536)]
  let s1 := s.setSlot o.slot { glove := o.glove, op := op, args := args, cq := .poll, phase := .inHand }
  let c : Ctx := ⟨o.slot, o.glove, op, args⟩
  if op = 0x0303 then loopStartBody false c s1 else if op = 0x0305 then loopHandoverBody c s1 else loopStopBody c s1

/-- The stage after this one (spec/03 R79). -/
def lcNext (n : Nat) : Option Nat :=
  match n with | 1 => some 3 | 3 => some 4 | 4 => some 5 | 5 => some 7 | _ => none

/-- An operation whose last stage has completed, or a stage of which did not complete DONE or DONE_NOTE. -/
def State.lcOver (s : State) (o : LcOp) : Bool :=
  let x := s.slotOf o.slot
  x.phase == .done && ((lcNext o.stage).isNone || 1 < x.status)

/-- An operation of a LOOPCTL call goes on: a stage that has completed gives way to the next; one that is over leaves its status
for the next tick image. -/
def State.lcStep (s : State) (o : LcOp) : State :=
  let x := s.slotOf o.slot
  let rest := s.ktl.lcOps.filter (fun p => p.slot != o.slot)
  if s.lcOver o then
    let s1 := { s with ktl := { s.ktl with
      lcOps := rest, lcDone := Sparse.set (dflt none) s.ktl.lcDone (o.task * 65536 + o.inst) (some x.status) } }
    s1.setSlot o.slot {}
  else if x.phase == .done then
    match lcNext o.stage with
    | some n => ({ s with ktl := { s.ktl with lcOps := rest ++ [{ o with stage := n }] } }).lcIssue { o with stage := n }
    | none => s
  else s

/-- Every LOOPCTL in progress goes on as far as it can. -/
def State.lcAdvance (s : State) : State := Nat.repeat (fun (a : State) => a.ktl.lcOps.foldl State.lcStep a) 6 s

/-- LOOPCTL results of a task. -/
def State.setLc (s : State) (t inst : Nat) (x : LoopCtl) : State :=
  { s with ktl := { s.ktl with lc := Sparse.set (dflt {}) s.ktl.lc (t * 65536 + inst) x } }

/-- Completions enter the tick image of the task's release boundary (spec/08 R205): STATUS is the last one's, and BUSY is TRUE
while an operation of the call is in progress. -/
def State.lcHarvest (s : State) (t : Nat) : State :=
  let mine := s.ktl.lcDone.filter (fun e => e.1 / 65536 == t)
  let s1 := { s with ktl := { s.ktl with lcDone := Sparse.keep (fun k => k / 65536 != t) s.ktl.lcDone } }
  mine.foldl (fun a e =>
    match e.2 with
    | some st => a.setLc t (e.1 % 65536) ⟨a.ktl.lcOps.any (fun o => o.task == t && o.inst == e.1 % 65536), st⟩
    | none => a) s1

/-- A request of the owner's LOOPCTL at publication: start (1), stop (2) or apply (4). Its command is checked as any other is: one
that comes while another on the loop is in hand completes REFUSED_BUSY (spec/06 R154). -/
def State.lcAsk (s : State) (t : Nat) (r : TaskRole) (e rq : Nat) : State :=
  let inst := bf (kw r.copy.list (4 * e)) 16 16
  let word (k : Nat) : Word := kw r.copy.image (inst * 2 + k)
  let l := bf (word 5) 0 16
  let g := r.copy.d.glove
  let mine := g == 0 || (Desc.read (s.ltEntry l)).glove == g
  let a := s.ltAddr l
  let s1 := if rq = 4 ∧ mine then
      let w := wd (getLE (s.load (a + 0x24) 4) 0 4)
      let w1 := setBf (setBf w 0 3 (bf (word 7) 0 3)) 4 3 (bf (word 7) 4 3)
      (s.store (a + 0x1C) (leBytes 4 (word 6).toNat)).store (a + 0x24) (leBytes 4 w1.toNat)
    else s
  let o : LcOp := ⟨t, inst, l, g, if rq = 1 then 0 else if rq = 2 then 8 else 1, s1.lcPlace⟩
  let was : LoopCtl := Sparse.get (dflt {}) s1.ktl.lc (t * 65536 + inst)
  let s2 := ({ s1 with ktl := { s1.ktl with lcOps := s1.ktl.lcOps ++ [o] } }).setLc t inst { was with busy := true }
  (s2.lcIssue o).lcStep o

-- Publication (spec/08 R200, R201, spec/09 R217, R218)

/-- The TYPE code of a pin (spec/13 R348). -/
def pinCode : PinTy → Nat
  | .q => 0 | .i => 1 | .b => 2 | .t => 4

/-- The POINT outputs of a call list in list order: entry, binding, type, image word. -/
def pointOuts (l : Sparse Word) : Nat → Nat → List (Nat × Word × Nat × Nat)
  | 0, _ => []
  | fuel + 1, e =>
    let w := kw l (4 * e)
    match blockTy (bf w 0 8) with
    | none => []
    | some t =>
      let first := (bit w 13).toNat + t.ins.length
      ((t.outs.zipIdx.map (fun o => (e, bindWord l e (first + o.2), pinCode o.1, bf w 16 16 * 2 + o.2))).filter
          (fun o => bf o.2.1 30 2 == 1)) ++ pointOuts l fuel (e + 1 + contOf (bf w 8 5))

/-- The POINT outputs of a copy. -/
def TaskCopy.outs (c : TaskCopy) : List (Nat × Word × Nat × Nat) := pointOuts c.list (c.d.len + 1) 0

/-- The compare record of a finished cycle (spec/09 R217). -/
def TaskRole.cmp (r : TaskRole) : CmpRec :=
  ⟨r.copy.outs.map (fun o => (kw r.copy.image o.2.2.2).toNat),
   crc32 ((List.range (r.copy.d.isize / 4)).flatMap (fun k => leBytes 4 (kw r.copy.image k).toNat))⟩

/-- A cycle's results are written; the owner's LOOPCTL requests are issued and its retained fields committed (spec/08 R205, R207),
which a lone shadow does not do (log entry 106). -/
def State.publishTask (s : State) (t : Nat) (r : TaskRole) (own : Bool) : State :=
  let s1 := r.copy.outs.foldl (fun a o =>
    a.writePoint ⟨2, t % 16, r.copy.d.glove, some o.2.2.1⟩ (bf o.2.1 0 16) (kw r.copy.image o.2.2.2)
      (if bit o.2.1 17 && r.deg.contains o.1 then 4 else 1)) s
  if own then (r.asks.foldl (fun a q => a.lcAsk t r q.1 q.2) s1).commitTask t r else s1

/-- A role with its finished cycle taken away. -/
def TaskRole.taken (r : TaskRole) : TaskRole := { r with released := none, done := false, asks := [], deg := [] }

/-- The command in a slot still owns the task it names (spec/04 R96, spec/05 R129). -/
def State.slotOwnsTask (s : State) (n t : Nat) : Bool :=
  (s.slotOf n).glove == 0 || (s.taskEntry t).d.glove == (s.slotOf n).glove

/-- The stop in hand takes effect (spec/08 R213, spec/06 R152), unless its command has lost the task. -/
def State.stopTaskNow (s : State) (t : Nat) : State :=
  match (s.task t).stop with
  | none => s
  | some q =>
    let s0 := s.setTask t { s.task t with stop := none }
    let lost := match q.slot with | some n => !s.slotOwnsTask n t | none => false
    if lost then s0.complete (q.slot.getD 0) St.aborted
    else
      let s1 := if q.owner && (s0.task t).owner.started then s0.dropTaskRole t false else s0
      let s2 := if q.shadow && (s1.task t).shadow.started then s1.dropTaskRole t true else s1
      let s3 := if (s2.task t).any then s2 else s2.writerNone (decide (16 ≤ t)) (fun kind wid => kind == 2 && wid == t % 16)
      let x := s3.task t
      match q.slot with
      | some n => s3.complete n 0 0 (wd (x.owner.started.toNat + 2 * x.shadow.started.toNat))
      | none => s3

/-- The slot of a handover in hand whose command still owns the task. -/
def State.mayHandTask (s : State) (t : Nat) : Bool :=
  match (s.task t).handover with
  | some (some n) => s.slotOwnsTask n t
  | some none => true
  | none => false

/-- The swap of a handover, unless its command has lost the task: roles, and the channel fields of the table entry (spec/08
R213, spec/06 R152). -/
def State.swapTask (s : State) (k t : Nat) : State :=
  let x := s.task t
  let slot := x.handover.getD none
  if s.mayHandTask t then
    let e := s.taskEntry t
    let w := setBf (setBf (wd (getLE e.desc 0 4)) 4 2 x.shadow.chan) 6 2 x.owner.chan
    let s1 := (s.setTask t { x with owner := x.shadow, shadow := x.owner, handover := none }).setTaskEntry t
      { e with desc := patchB e.desc 0 (leBytes 4 w.toNat) }
    let s2 := (s1.storeWork t false).storeWork t true
    match slot with
    | some n => s2.complete n 0 (wd k)
    | none => s2
  else (s.setTask t { x with handover := none }).complete (slot.getD 0) St.aborted

/-- The period that ends is over for the role, or there was none (spec/08 R209, R216). -/
def State.taskDone (s : State) (r : TaskRole) : Bool :=
  match r.released with | some _ => r.done && s.kettleOk r.chan | none => s.kettleOk r.chan

/-- A late cycle (spec/08 R209): counted once for each Kettle with an unfinished role. -/
def State.lateTask (s : State) (t : Nat) (rs : List Bool) : State :=
  let x := s.task t
  let s1 := s.setTask t { x with latePending := true, lateCount := min (x.lateCount + 1) 0xFFFFFFFF }
  (((rs.map x.role).filter (fun r => !s.taskDone r)).map (·.chan)).eraseDups.foldl (fun a c =>
    (a.bump (Pg.ktl c) Rg.KTL_LATE).raiseSrc (Pg.ktl c) 6) s1

/-- The publication of a cycle that the publishing role has finished, compared with the shadow's when both roles take part
outside a handover window (spec/09 R217, R218); answers whether roles may be released. -/
def State.publishCycle (s : State) (t : Nat) (joint : Bool) : State × Bool :=
  let x := s.task t
  let o := x.role x.lead
  let h := x.shadow
  match o.released with
  | none => (s, true)
  | some ko =>
    match joint, h.released with
    | true, some kh =>
      let win := x.window && !(sameTaskCopy o.copy h.copy && decide (x.winAt ≤ ko) && decide (x.winAt ≤ kh))
      let s1 := s.setTask t { x with window := win, owner := o.taken, shadow := h.taken }
      if !win && o.cmp != h.cmp then (s1.mismatch true t o.chan 0 h.chan 0, false) else (s1.publishTask t o true, true)
    | _, _ => ((s.setTask t (x.setRole x.lead o.taken)).publishTask t o (!x.lead), true)

/-- Roles of a task that share a boundary are checked, published and marked for release. -/
def State.checkTaskRoles (s : State) (k t : Nat) (rs : List Bool) (pub : Bool) : State × List Bool :=
  let x := s.task t
  let fresh := rs.filter (fun sh => awaited k (x.role sh).armed)
  if fresh.any (fun sh => !s.taskDone (x.role sh)) then (s.lateTask t fresh, [])
  else
    let s1 := s.setTask t { x with latePending := false }
    let p := if pub then s1.publishCycle t (rs.length == 2)
      else (s1.setTask t (rs.foldl (fun y sh => y.setRole sh (y.role sh).taken) (s1.task t)), true)
    let ready := x.shadow.started && (match x.shadow.armed with | some f => decide (f ≤ k) | none => true)
    let s2 := if pub && x.handover.isSome && p.2 && ready then p.1.swapTask k t else p.1
    (s2, if p.2 then rs else [])

/-- The role takes part in boundary `k`. -/
def TaskRole.due (r : TaskRole) (k : Nat) : Bool :=
  let d := r.copy.d
  r.started && (match r.armed with | some f => decide (f ≤ k) | none => true) && k % d.ticks == 32 * d.phase

/-- The outcome of an unresolved mismatch at a release boundary (spec/09 R218): the shadow takes the owner's image. -/
def State.resyncTask (s : State) (t : Nat) : State :=
  let x := s.task t
  if x.resync then
    (s.setTask t { x with
      resync := false,
      shadow := { x.shadow with copy := { x.shadow.copy with image := x.owner.copy.image }, primed := x.owner.primed } }).storeWork t true
  else s

/-- A shadow that waits for the task's release boundary starts there (spec/09 R221 step 3): `go` are the roles to release. -/
def State.startPlacedTask (s : State) (k t : Nat) (go : List Bool) : State × List Bool :=
  match (s.task t).place with
  | some c =>
    if go.contains false then
      let r := s.startTaskShadow k t c
      (r.1, go.filter (fun sh => !sh) ++ if r.2 then [true] else [])
    else (s, go)
  | none => (s, go)

/-- One task at boundary `k`: answers the roles to release (spec/08 R194, R209). -/
def State.checkTask (s : State) (k t : Nat) : State × List Bool :=
  let x := s.task t
  let od := x.owner.due k
  let hd := x.shadow.due k
  if s.testing true t then (s, [])
  else
    let s1 := if od then s.resyncTask t else s
    if od && hd then s1.checkTaskRoles k t [false, true] true
    else
      let a := if od then s1.checkTaskRoles k t [false] true else (s1, [])
      let swapped := od && s.mayHandTask t && (a.1.task t).handover.isNone
      let b := if hd then a.1.checkTaskRoles k t [!swapped] x.lead else (a.1, [])
      b.1.startPlacedTask k t ((a.2.map (fun sh => if swapped then !sh else sh)) ++ b.2)

/-- A role is released at boundary `k` with the LOOPCTL results of the tick image. -/
def State.releaseTask (s : State) (k t : Nat) (shadow : Bool) (lcs : Sparse LoopCtl) : State :=
  let x := s.task t
  let r := x.role shadow
  let other := x.role (!shadow)
  let cp := r.armed.isSome && r.copyFrom && other.started
  let r1 := { r with armed := none, copyFrom := false,
                     copy := if cp then { r.copy with image := other.copy.image } else r.copy,
                     primed := if cp then other.primed else r.primed,
                     released := some k, sec := s.tmb0.sec, img := s.ptb.image, lcs := lcs, pc := 0, deg := [],
                     foreign := false, asks := [], done := false }
  let s1 := s.setTask t (x.setRole shadow r1)
  if cp then s1.storeWork t shadow else s1

/-- The tasks with a role or a command in hand. -/
def State.liveTasks (s : State) : List Nat :=
  (s.ktl.tasks.filter (fun e => e.2.any || e.2.stop.isSome)).map (·.1)

/-- The LOOPCTL results of a task, by instance. -/
def State.lcOf (s : State) (t : Nat) : Sparse LoopCtl :=
  (s.ktl.lc.filter (fun e => e.1 / 65536 == t)).map (fun e => (e.1 % 65536, e.2))

/-- The LOOPCTL completions that enter the tick image of boundary `k` (spec/08 R205). -/
def State.lcImage (s : State) (k : Nat) : State :=
  s.liveTasks.foldl (fun a t => if (a.task t).owner.due k || (a.task t).shadow.due k then a.lcHarvest t else a) s

/-- The LOOPCTL results in the tick image, by task. -/
def State.lcResults (s : State) : List (Nat × Sparse LoopCtl) := s.liveTasks.map (fun t => (t, s.lcOf t))

/-- The tasks at boundary `k`: stops, checks and publications (spec/08 R194, R209); answers the roles to be released. -/
def State.tasksCheck (s : State) (k : Nat) : State × List (Nat × Bool) :=
  let s1 := s.liveTasks.foldl (fun a t => a.stopTaskNow t) s
  s1.liveTasks.foldl (fun (a : State × List (Nat × Bool)) t =>
    let c := a.1.checkTask k t
    (c.1, a.2 ++ c.2.map (fun sh => (t, sh)))) (s1, [])

/-- The releases of boundary `k`, in the Kettles that can run them, with the LOOPCTL results `lcs` of the tick image (spec/08
R194, R216). -/
def State.tasksRelease (s : State) (k : Nat) (lcs : List (Nat × Sparse LoopCtl)) (rs : List (Nat × Bool)) : State :=
  rs.foldl (fun a e =>
    if a.kettleOk ((a.task e.1).role e.2).chan then
      a.releaseTask k e.1 e.2 ((lcs.find? (fun x => x.1 == e.1)).map (·.2) |>.getD [])
    else a) s

/-- Occupancy of the Kettles at the end of a millisecond or second of TMB1 (spec/08 R215). -/
def State.kettleOccupancy (s : State) (k : Nat) : State :=
  let frac (n den : Nat) : Nat := min (n * 65536 / den) 0xFFFF
  let ms (a : State) (c : Nat) : State :=
    let f := frac (Sparse.get (dflt 0) a.ktl.busy (2 * c + 1)) 875000
    let b := { a with ktl := { a.ktl with busy := Sparse.set (dflt 0) a.ktl.busy (2 * c + 1) 0 } }
    if (b.reg (Pg.ktl c) Rg.KTL_OCC_PEAK).toNat < f then b.setReg (Pg.ktl c) Rg.KTL_OCC_PEAK (wd f) else b
  let sec (a : State) (c : Nat) : State :=
    let f := frac (Sparse.get (dflt 0) a.ktl.busy (2 * c)) 875000000
    ({ a with ktl := { a.ktl with busy := Sparse.set (dflt 0) a.ktl.busy (2 * c) 0 } }).setReg (Pg.ktl c) Rg.KTL_OCC (wd f)
  let s1 := if k % 32 = 0 then (List.range 4).foldl ms s else s
  if k % 32000 = 0 then (List.range 4).foldl sec s1 else s1

/-- The cycle of a role is past its deadline (spec/08 R210). -/
def State.overrun (s : State) (t : Nat) (shadow : Bool) : Bool :=
  let r := (s.task t).role shadow
  r.started && r.busy && !s.lse.fenced.contains r.chan && decide (r.deadline ≤ s.ces.tick)

-- Fences, readmission, stops, restarts, adoption (spec/09 R221, R223, R230, spec/03 R81, spec/08 R211, R212)

/-- A task whose last role a fence took (spec/03 R81): a handover that waits ends (log entry 101). -/
def State.taskLost (s : State) (t : Nat) : State :=
  let x := s.task t
  let s1 := s.setTask t { lateCount := x.lateCount, lastSeq := x.lastSeq, stop := x.stop }
  match x.handover with | some (some n) => s1.complete n St.aborted | _ => s1

/-- A task is reassigned when channel `c` is fenced; `unf` are the channels left (spec/09 R221, spec/03 R81). A shadow that becomes
owner has its copies in the owner's slot (spec/08 R196). -/
def State.fenceTask (s : State) (c : Nat) (unf : List Nat) (t : Nat) : State :=
  let x := s.task t
  let hitO := x.owner.started && x.owner.chan == c
  let hitS := x.shadow.started && x.shadow.chan == c
  let sh : TaskRole := if hitS then {} else x.shadow
  let at_ (o : Nat) : Option Nat := unf.head?.map (fun _ => placeShadow unf o)
  if hitO then
    if sh.started then
      (s.setTask t { x with owner := sh, shadow := {}, place := at_ sh.chan, restore := delN x.restore c }).storeWork t false
    else s.taskLost t
  else if hitS then
    if x.owner.started then s.setTask t { x with shadow := {}, place := at_ x.owner.chan, restore := delN x.restore c } else s.taskLost t
  else
    s.setTask t { x with place := if x.place = some c then at_ x.owner.chan else x.place,
                         restore := delN x.restore c }

/-- The tasks of a fenced channel; a role that ran on unused goes too. -/
def State.fenceTasks (s : State) (c : Nat) (unf : List Nat) : State :=
  let s1 := (s.ktl.tasks.map (·.1)).foldl (fun a t =>
    let b := a.fenceTask c unf t
    let x := b.task t
    let gone (r : TaskRole) : TaskRole := if !r.started && r.chan == c then {} else r
    b.setTask t { x with owner := gone x.owner, shadow := gone x.shadow }) s
  { s1 with ktl := { s1.ktl with testing := s1.ktl.testing.filter (fun k => k != c) } }

/-- Task `t` takes a role back in the readmitted channel `c` at boundary `k` (spec/09 R223), as `restoreLoop` has it for loops.
`go` are the roles to be released at the boundary. -/
def State.restoreTask (s : State) (k c : Nat) (go : List (Nat × Bool)) (t : Nat) : State × List (Nat × Bool) :=
  let x := s.task t
  let d := (s.taskEntry t).d
  let named (n : Nat) : Bool := n == d.owner || n == d.shadow
  let twin := x.shadow.started && x.owner.chan == x.shadow.chan || x.place == some x.owner.chan
  if x.owner.started && x.owner.chan != c && !(x.shadow.started && x.shadow.chan == c) && (named c || twin) then
    let up := x.shadow.started && named x.shadow.chan && !named x.owner.chan
    let source := if up then x.shadow else x.owner
    if source.busy || (up && x.shadow.armed.isSome) then (s.setTask t { x with restore := addN x.restore c }, go)
    else
      let go1 := if up then go.filter (fun e => e != (t, false)) |>.map (fun e => if e = (t, true) then (t, false) else e)
        else go.filter (fun e => e != (t, true))
      let s1 := s.setTask t { x with owner := source, shadow := {}, place := none, restore := delN x.restore c }
      let r := (if up then s1.storeWork t false else s1).startTaskShadow k t c
      (r.1, if r.2 && go1.contains (t, false) then go1 ++ [(t, true)] else go1)
  else (s.setTask t { x with restore := delN x.restore c }, go)

/-- A readmitted channel takes back its tasks, in ascending order. -/
def State.restoreTasks (s : State) (k c : Nat) (go : List (Nat × Bool)) : State × List (Nat × Bool) :=
  s.liveTasks.foldl (fun a t => a.1.restoreTask k c a.2 t) (s, go)

/-- The tasks whose restoration waits go on with it. -/
def State.restoreTasksLate (s : State) (k : Nat) (go : List (Nat × Bool)) : State × List (Nat × Bool) :=
  s.liveTasks.foldl (fun a t =>
    (a.1.task t).restore.foldl (fun b c => b.1.restoreTask k c b.2 t) a) (s, go)

/-- All roles of tasks stop at once, adopted ones only if so said; commands in hand on them end ABORTED (spec/03 R81). -/
def State.stopTasks (s : State) (adoptedOnly : Bool) : State :=
  (s.ktl.tasks.map (·.1)).foldl (fun a t =>
    let x := a.task t
    if 16 ≤ t || !adoptedOnly then
      let a1 := match x.stop with | some q => (match q.slot with | some n => a.complete n St.aborted | none => a) | none => a
      let a2 := match x.handover with | some (some n) => a1.complete n St.aborted | _ => a1
      a2.setTask t { lateCount := x.lateCount, lastSeq := x.lastSeq }
    else a) s

/-- Every loop and task of the module and of an adoption stops: the own points they write turn NONE (spec/02 R32, R51, spec/13
R352). -/
def State.stopAll (s : State) : State := ((s.stopLoops false).stopTasks false).writerNone false (fun k _ => k == 1 || k == 2)

/-- Where two roles named for channels go among the channels left (spec/09 R230, R221). -/
def placePair (unf : List Nat) (owner shadow : Nat) : Option (Nat × Nat) :=
  match unf with
  | [] => none
  | c :: _ =>
    let o := if unf.contains owner then owner else if unf.contains shadow then shadow else c
    some (o, if unf.contains shadow && shadow != o then shadow else placeShadow unf o)

/-- An adoption starts the partner's tasks from their warm initial images (spec/09 R230). -/
def State.adoptStartTasks (s : State) : State :=
  ((List.range 16).map (· + 16)).foldl (fun a t =>
    let b := a.taskEntry t
    if (a.task t).any || !b.d.defined || !TaskCopy.passes b then a
    else match placePair a.unfenced b.d.owner b.d.shadow with
      | none => a
      | some (o, h) => (a.makeTaskRole t false o b false).makeTaskRole t true h b false) s

/-- The first commit of a cold task, to buffer 0 (spec/08 R211 steps 2 and 4), by the Kettle of channel `chan`. -/
def State.coldCommit (s : State) (chan t : Nat) (c : TaskCopy) : State :=
  let s1 := s.setKslot 1 t { s.kslot 1 t with mark := 0 }
  let s2 := { s1 with nv := { s1.nv with kseq := s1.nv.kseq + 1 } }
  s2.slotDone 0 t { s2.commitOf chan c with seq := s2.nv.kseq }

/-- The image with which a task restarts (spec/08 R211). -/
def State.warmImage (s : State) (t : Nat) (c : TaskCopy) (warm : Bool) : TaskCopy :=
  match warm, s.klast t c.d.layout s.nv.cfg.ltGen with
  | true, some b =>
    let w := (s.kslot b t).words
    { c with image := c.keep.foldl (fun m k => Sparse.set (dflt 0) m k (kw w k)) c.image }
  | _, _ => c

/-- The MARK of every slot is invalid (spec/08 R211). -/
def tearAll (m : Sparse KSlot) : Sparse KSlot :=
  m.foldl (fun a e => Sparse.set (dflt {}) a e.1 { e.2 with mark := 0 }) []

/-- The tasks that CONFIG records as started are restored (spec/08 R211). -/
def State.restartTasks (s : State) (warm : Bool) : State :=
  let own := Sparse.keep (fun t => 16 ≤ t) s.ktl.table
  let table := s.nv.cfg.tasks.foldl (fun m e => Sparse.put m e.1 e.2) own
  let s1 := { s with ktl := { s.ktl with table := table,
                                         commits := [], pendingC := [], lc := [], lcOps := [], lcDone := [] } }
  let s2 := if warm then s1
    else { s1 with nv := { s1.nv with kslots := tearAll s1.nv.kslots } }
  s2.nv.cfg.taskRoles.foldl (fun a e =>
    let t := e.1
    let c := a.taskEntry t
    if c.d.defined && TaskCopy.passes c then
      match placePair a.unfenced (e.2.owner.getD c.d.owner) (e.2.shadow.getD c.d.shadow) with
      | none => if warm then a else a.coldCommit c.d.owner t c
      | some (o, h) =>
        let a1 := if warm then a else a.coldCommit o t c
        let w := a1.warmImage t c warm
        let a2 := if e.2.owner.isSome then a1.makeTaskRole t false o w false else a1
        if e.2.shadow.isSome then a2.makeTaskRole t true h w false else a2
    else a) s2

/-- A KTL page runs again: the roles of its Kettle begin with the cold state (spec/08 R212). -/
def State.kettleRestart (s : State) (c : Nat) : State :=
  s.liveTasks.foldl (fun a t =>
    [false, true].foldl (fun b sh =>
      let r := (b.task t).role sh
      if r.started && r.chan == c then
        let e := b.taskEntry t
        let b1 := if !sh && t < 16 then b.coldCommit c t e else b
        b1.makeTaskRole t sh c e false
      else b) a) s

-- Commands (spec/08 R213, R214)

/-- Another task command on the same task is in hand. -/
def State.taskBusy (s : State) (c : Ctx) (t : Nat) : Bool :=
  s.otherCmd c (fun x => x.op / 256 == 4 && bf (x.args.headD 0) 0 4 == t) || (s.task t).stop.isSome || (s.task t).handover.isSome

/-- The command may name task `t`. -/
def State.taskMine (s : State) (c : Ctx) (t : Nat) : Bool := c.g == 0 || (s.taskEntry t).d.glove == c.g

/-- PRIO is unique among the other defined tasks of the module (spec/08 R193). -/
def State.prioFree (s : State) (t prio : Nat) : Bool :=
  s.ktl.table.all (fun e => e.1 == t || 16 ≤ e.1 || !e.2.d.defined || e.2.d.prio != prio)

/-- A task buffer: the descriptor names its length. -/
def State.taskBufOk (s : State) (c : Ctx) (a : Nat) : Bool := s.bufOk c a 64 && s.bufOk c a (taskLen (s.load a 64))

/-- The copy in a buffer. -/
def State.taskBuf (s : State) (a : Nat) : TaskCopy := TaskCopy.ofBytes (s.load a (taskLen (s.load a 64)))

/-- TASK_WRITE (spec/08 R213, R214). -/
def taskWriteBody (c : Ctx) (s : State) : State :=
  let t := c.f 0 0 4
  let a := c.addr 1
  if !s.taskBufOk c a || !TaskCopy.passes (s.taskBuf a) then s.fin c St.arg
  else if !s.taskMine c t then s.foreign c
  else if s.isFatal then s.fin c St.state
  else if s.taskBusy c t then s.fin c St.busy
  else
    let b := s.taskBuf a
    if !s.prioFree t b.d.prio then s.fin c St.arg
    else
      let g := if c.g = 0 then b.d.glove else (s.taskEntry t).d.glove
      let b1 := { b with desc := patchB b.desc 0 (leBytes 4 (setBf (wd (getLE b.desc 0 4)) 8 6 g).toNat) }
      let s1 := s.setTaskEntry t b1
      if c.b 0 16 then (s1.journalAdd (some c.slot) (.task t b1)).relayOut true t b1.bytes else s1.done c

/-- TASK_READ. -/
def taskReadBody (c : Ctx) (s : State) : State :=
  let t := c.f 0 0 4
  let src := c.f 0 16 2
  let n := (c.arg 3).toNat
  if src = 3 ∨ !s.bufOk c (c.addr 1) n then s.fin c St.arg
  else if !s.taskMine c t then s.foreign c
  else if s.isFatal then s.fin c St.state
  else
    let out (x : TaskCopy) : State :=
      let b := x.bytes.take n
      (s.store (c.addr 1) b).done c (wd b.length)
    if src = 0 then out (s.taskEntry t)
    else
      let r := (s.task t).role (src == 2)
      if r.started then out r.copy else s.done c 0

/-- The channel in which TASK_START starts a role, as `startChan` for loops (spec/01 R22). -/
def State.startTaskChan (s : State) (x : TaskSt) (d : TaskDesc) (shadow : Bool) : Nat :=
  let c := if shadow then d.shadow else d.owner
  let other := x.role (!shadow)
  if other.started && other.chan == c && !s.lse.fenced.contains c then placeShadow s.unfenced c else c

/-- The task commands that wait for a boundary of a task with a role in channel `c` end with a stop of its page (spec/08 R214). -/
def State.abortTasks (s : State) (c : Nat) : State :=
  s.ktl.tasks.foldl (fun (a : State) (e : Nat × TaskSt) =>
    let x := a.task e.1
    if (x.owner.started && x.owner.chan == c) || (x.shadow.started && x.shadow.chan == c) then
      let a0 := a.setTask e.1 { x with stop := none, handover := none }
      let a1 := match x.stop with | some q => (match q.slot with | some n => a0.complete n St.aborted | none => a0) | none => a0
      match x.handover with | some (some n) => a1.complete n St.aborted | _ => a1
    else a) s

/-- TASK_START. -/
def taskStartBody (c : Ctx) (s : State) : State :=
  let t := c.f 0 0 4
  let role := c.f 0 16 2
  let x := s.task t
  let b := s.taskEntry t
  let todo := (rolesOf role).filter (fun sh => !(x.role sh).started)
  let chan (sh : Bool) : Nat := s.startTaskChan x b.d sh
  if role = 3 then s.fin c St.arg
  else if !s.taskMine c t then s.foreign c
  else if !s.live || todo.isEmpty then s.fin c St.state
  else if s.taskBusy c t then s.fin c St.busy
  else if !b.d.defined || !TaskCopy.passes b || !s.prioFree t b.d.prio then s.fin c St.arg
  else if todo.any (fun sh => s.lse.fenced.contains (chan sh)) then s.fin c 0x0107
  else if todo.any (fun sh => !s.kettleOk (chan sh)) then s.fin c St.state
  else
    let cold := !x.any
    let s0 := if cold then { s with ktl := { s.ktl with lc := Sparse.keep (fun k => k / 65536 != t) s.ktl.lc,
                                                                lcDone := Sparse.keep (fun k => k / 65536 != t) s.ktl.lcDone } } else s
    let s1 := todo.foldl (fun a sh => a.makeTaskRole t sh (chan sh) b (!cold)) s0
    let y := s1.task t
    let note := todo.any (fun sh => !(y.role sh).copyFrom)
    s1.fin c (if note then St.note else 0) (wd (s.firstTaskRelease b.d)) (wd (y.owner.started.toNat + 2 * y.shadow.started.toNat))

/-- TASK_STOP. -/
def taskStopBody (c : Ctx) (s : State) : State :=
  let t := c.f 0 0 4
  let role := c.f 0 16 2
  let x := s.task t
  let todo := (rolesOf role).filter (fun sh => (x.role sh).started)
  if role = 3 then s.fin c St.arg
  else if !s.taskMine c t then s.foreign c
  else if s.isFatal || todo.isEmpty || (role == 0 && x.shadow.started)
      || todo.any (fun sh => !s.running (Pg.ktl (x.role sh).chan)) then s.fin c St.state
  else if s.taskBusy c t then s.fin c St.busy
  else s.setTask t { x with stop := some ⟨some c.slot, todo.contains false, todo.contains true⟩ }

/-- TASK_HANDOVER. -/
def taskHandoverBody (c : Ctx) (s : State) : State :=
  let t := c.f 0 0 4
  let x := s.task t
  if !s.taskMine c t then s.foreign c
  else if !s.live || !x.owner.started || !x.shadow.started || !s.running (Pg.ktl x.owner.chan)
      || !s.running (Pg.ktl x.shadow.chan) then s.fin c St.state
  else if s.taskBusy c t then s.fin c St.busy
  else s.setTask t { x with handover := some (some c.slot) }

/-- TASK_QUERY: RES2 is the SEQ of the newest complete commit that MRAM holds, after a power-up too (log entry 148). -/
def taskQueryBody (c : Ctx) (s : State) : State :=
  let t := c.f 0 0 4
  let x := s.task t
  if !s.taskMine c t then s.foreign c
  else
    let f := x.owner.started.toNat + 2 * x.shadow.started.toNat + 4 * x.owner.chan + 16 * x.shadow.chan + 64 * x.window.toNat
      + 128 * x.latePending.toNat
    s.done c (wd f) (wd x.lateCount) (wd (match s.kNewest t with | some k => k.seq | none => x.lastSeq))

end Sys2Proof.Machine
end

