-- ==== Sys2Proof/Machine/KeyBase.lean ====
section
/-! DEFINITION. The values that the key vault computes from its roots (spec/20 R512 to R518). -/

namespace Sys2Proof.Machine

/-- The bytes of an ASCII string. -/
def asciiBytes (t : String) : List Byte := t.toList.map (fun c => BitVec.ofNat 8 c.toNat)

/-- The KDF of spec/20 R514: NIST SP 800-108 in counter mode with HMAC-SHA-384; input key, label, context, number of bits. -/
def kdf (key label context : List Byte) (bits : Nat) : List Byte :=
  ((List.range ((bits + 383) / 384)).flatMap (fun i =>
    Config.hmac key (beBytes 4 (i + 1) ++ label ++ [0] ++ context ++ beBytes 4 bits))).take (bits / 8)

/-- KEYGEN of a glove (spec/05 R123). -/
def State.keygen (s : State) (g : Nat) : Nat := Sparse.get (dflt 0) s.nv.keygen g

/-- The active root (spec/20 R513, R524); a transition whose steps are not over has not switched it (R527). -/
def State.activeRoot (s : State) : Option (List Byte) :=
  match s.key.cut.getD s.key.lcs with
  | 1 => some s.key.root
  | 2 => some s.key.root
  | 3 => some Config.testRoot
  | _ => none

/-- The path code (spec/20 R514): GLOVE is subtree 5. -/
def pathCode (sub g keygen depth usage : Nat) : List Byte :=
  leBytes 1 sub ++ (if sub = 5 then leBytes 1 g ++ beBytes 2 keygen else leBytes 3 0) ++ leBytes 1 depth ++ leBytes 1 usage
    ++ leBytes 2 0

/-- The seed installed for a subtree: RING at place 64 (spec/20 R516). -/
def State.seedOf (s : State) (sub g : Nat) : Option (List Byte) :=
  if sub = 4 then Sparse.get (dflt none) s.key.seeds 64
  else if sub = 5 then Sparse.get (dflt none) s.key.seeds g
  else none

/-- A subtree root (spec/20 R515). -/
def State.subtreeRoot (s : State) (sub g : Nat) : Option (List Byte) :=
  match s.activeRoot with
  | none => none
  | some r => some (kdf ((s.seedOf sub g).getD r) (asciiBytes "TAROS-SUBTREE") (pathCode sub g (s.keygen g) 0 0) 384)

/-- The length of a leaf by its usage (spec/20 R515). -/
def leafBits (usage : Nat) : Nat := if usage = 8 ∨ usage = 32 then 384 else 256

/-- A chain of leaves from a parent at depth `d` (spec/20 R515). -/
def leafValue (sub g keygen : Nat) : Nat → List Byte → List (List Byte × Nat) → List Byte
  | _, k, [] => k
  | d, k, (label, usage) :: t =>
    leafValue sub g keygen (d + 1) (kdf k label (pathCode sub g keygen (d + 1) usage) (leafBits usage)) t

/-- The value of the leaf that a handle names. -/
def State.handleKey (s : State) (h : Handle) : Option (List Byte) :=
  (s.subtreeRoot h.subtree h.glove).map (fun r => leafValue h.subtree h.glove (s.keygen h.glove) 0 r h.chain)

/-- A handle of the vault. -/
def State.handle (s : State) (n : Nat) : Option Handle := Sparse.get (dflt none) s.key.handles n

/-- The MAC key under a handle of the RING subtree, for lease TAGs and the riser (spec/09 R240, spec/14 R387). -/
def State.ringKey (s : State) (n : Nat) : Option (List Byte) :=
  match s.handle n with
  | none => none
  | some h => if h.subtree = 4 ∧ h.usage = 8 then s.handleKey h else none

/-- The USB session leaf of a glove (spec/20 R517). -/
def State.sessionKey (s : State) (g : Nat) : Option (List Byte) :=
  match s.seedOf 5 g with
  | none => none
  | some _ => (s.subtreeRoot 5 g).map (fun r => leafValue 5 g (s.keygen g) 0 r [(asciiBytes "USB-SESSION", 8)])

/-- Fresh random bytes (spec/20 R512). -/
def State.random (s : State) (n : Nat) : List Byte × State :=
  ((List.range n).map (fun k => Config.randomByte (s.freeCtr + k)), { s with freeCtr := s.freeCtr + n })

end Sys2Proof.Machine
end

