-- ==== Sys2Proof/Machine/LeaseOps.lean ====
section
/-! DEFINITION. Fencing and the supervisor (spec/09 R217 to R226), leases and adoption (spec/09 R227 to R252), and their
commands. -/

namespace Sys2Proof.Machine

/-- The supervisor: the lowest-lettered unfenced channel; none after a FATAL reaction, when every channel is halted
(spec/01 R23, spec/22 R565). -/
def State.supervisor (s : State) : Option Nat := if s.isFatal then none else s.unfenced.head?

/-- The major mode changes (spec/02 R40). Leaving start-up is not counted as a change. -/
def State.setMode (s : State) (m : Mode) : State :=
  if s.sys.mode = m then s
  else { s with sys := { s.sys with mode := m, prevMode := s.sys.mode,
                                    changes := if s.sys.boot then s.sys.changes else satInc s.sys.changes } }

-- Fencing (spec/09 R218 to R221)

/-- A test of a unit in a channel that is fenced counts as failed (spec/09 R218). -/
def UnitTest.failIn (c : Nat) (t : UnitTest) : UnitTest :=
  { t with ownDone := if t.ownChan == c && t.ownDone.isNone then some false else t.ownDone,
           shDone := if t.shChan == c && t.shDone.isNone then some false else t.shDone }

/-- One channel is fenced: gate, roles, counts, mode (spec/01 R17, spec/09 R219 to R221, spec/02 R34). -/
def State.fenceOne (s : State) (c : Nat) : State :=
  if s.lse.fenced.contains c then s
  else
    let f := (List.range 4).filter (fun k => k == c || s.lse.fenced.contains k)
    let unf := (List.range 4).filter (fun k => !f.contains k)
    let s1 := { s with lse := { s.lse with fenced := f, testPass := delN s.lse.testPass c,
                                           unres := Sparse.set (dflt []) s.lse.unres c [],
                                           tests := s.lse.tests.map (UnitTest.failIn c) },
                       hst := { s.hst with beating := delN s.hst.beating c } }
    let s2 := (s1.fenceLoops c unf).fenceTasks c unf
    if s2.sys.mode = .run then s2.setMode .degraded else s2

/-- The units of a test are free when no open test uses them; idle cups then take entries (spec/09 R218). -/
def State.freeUnits (s : State) : State :=
  let cups := s.lse.tests.flatMap (fun t => if t.task then [] else
    (if t.ownDone.isNone then [t.ownChan * 16 + t.ownCup] else []) ++ (if t.shDone.isNone then [t.shChan * 16 + t.shCup] else []))
  let ks := s.lse.tests.flatMap (fun t => if t.task then
    (if t.ownDone.isNone then [t.ownChan] else []) ++ (if t.shDone.isNone then [t.shChan] else []) else [])
  let s1 := { s with ces := { s.ces with testing := s.ces.testing.filter (fun k => cups.contains k) },
                     ktl := { s.ktl with testing := s.ktl.testing.filter (fun k => ks.contains k) } }
  (List.range 4).foldl (fun a c => a.cupsTake c) s1

/-- An unresolved mismatch counts against the channels that ran it; answers those to be fenced (spec/09 R219). -/
def State.countUnres (s : State) (oc sc : Nat) : State × List Nat :=
  let now := s.now1
  let add (a : State) (c : Nat) : State :=
    let l := (Sparse.get (dflt []) a.lse.unres c).filter (fun t => decide (now < t + 60000000000))
    { a with lse := { a.lse with unres := Sparse.set (dflt []) a.lse.unres c (l ++ [now]) } }
  let s1 := if oc = sc then add s oc else add (add s oc) sc
  let lim := s1.fld Pg.lse Rg.LSE_MIS_CFG 0 4
  let hit (c : Nat) : Bool := decide (lim ≤ (Sparse.get (dflt []) s1.lse.unres c).length)
  (s1, if hit sc then [sc] else if hit oc then [oc] else [])

/-- Decided tests come to their outcome (spec/09 R218); answers the channels to be fenced. -/
def State.concludeTests (s : State) : State × List Nat :=
  let ended := s.lse.tests.filter (fun t => t.ownDone.isSome && t.shDone.isSome)
  let s1 := { s with lse := { s.lse with tests := s.lse.tests.filter (fun t => !(t.ownDone.isSome && t.shDone.isSome)) } }
  ended.foldl (fun (a : State × List Nat) t =>
    match t.ownDone, t.shDone with
    | some true, some true =>
      let b := a.1.bump Pg.lse Rg.LSE_MIS_UNRES
      let b1 := if t.task then b.setTask t.item { b.task t.item with resync := true }
        else b.setLoop t.item { b.loop t.item with resync := true }
      let r := b1.countUnres t.ownChan t.shChan
      (r.1, a.2 ++ r.2)
    | some o, some h => (a.1, a.2 ++ (if o then [] else [t.ownChan]) ++ (if h then [] else [t.shChan]))
    | _, _ => a) (s1, [])

/-- Channels are fenced, with the fences that follow from tests of their units (spec/09 R218, R219). Each round fences one
more of the four. -/
def State.fenceMany : Nat → State → List Nat → State
  | 0, s, _ => s
  | n + 1, s, cs =>
    let r := (cs.foldl (fun a c => a.fenceOne c) s).concludeTests
    let more := r.2.filter (fun c => !r.1.lse.fenced.contains c)
    let s1 := r.1.freeUnits
    if more.isEmpty then s1 else State.fenceMany n (s1.raiseSrc Pg.lse 2) more

/-- A channel is fenced. -/
def State.fence (s : State) (c : Nat) : State := s.fenceMany 5 [c]

/-- A unit test ends: it serves every open test of the same unit (spec/09 R218). -/
def State.unitTested (s : State) (task : Bool) (item : Nat) (shadow pass : Bool) : State :=
  match s.lse.tests.find? (fun t => t.task == task && t.item == item) with
  | none => s
  | some t =>
    let c := if shadow then t.shChan else t.ownChan
    let u := if shadow then t.shCup else t.ownCup
    let put (x : UnitTest) : UnitTest :=
      { x with ownDone := if x.task == task && x.ownChan == c && x.ownCup == u && x.ownDone.isNone then some pass else x.ownDone,
               shDone := if x.task == task && x.shChan == c && x.shCup == u && x.shDone.isNone then some pass else x.shDone }
    ({ s with lse := { s.lse with tests := s.lse.tests.map put } }).fenceMany 5 []

/-- Readmission at tick boundary `k` (spec/09 R223), after the restorations that waited: `go` are the roles of loops and of tasks to be released there, to which those
of the restored roles come that share the boundary. -/
def State.readmit (s : State) (k : Nat) (go : List (Nat × Bool) × List (Nat × Bool)) :
    State × List (Nat × Bool) × List (Nat × Bool) :=
  (List.range 4).foldl (fun a c =>
    let s0 := a.1
    if s0.lse.fenced.contains c && s0.lse.testPass.contains c && s0.running (Pg.cea c) && s0.running (Pg.ktl c) && !s0.isFatal then
      let b := { s0 with lse := { s0.lse with fenced := delN s0.lse.fenced c, testPass := delN s0.lse.testPass c } }
      let l := b.restoreLoops k c a.2.1
      let t := l.1.restoreTasks k c a.2.2
      (if t.1.sys.mode = .degraded && t.1.lse.fenced.isEmpty then t.1.setMode .run else t.1, l.2, t.2)
    else a) (let l := s.restoreLate k go.1; let t := l.1.restoreTasksLate k go.2; (t.1, l.2, t.2))

-- Groups (spec/09 R234 to R252)

/-- A group. -/
def State.group (s : State) (i : Nat) : GroupSt := Sparse.get (dflt {}) s.lse.groups i

/-- Sets a group. -/
def State.setGroup (s : State) (i : Nat) (g : GroupSt) : State :=
  { s with lse := { s.lse with groups := Sparse.set (dflt {}) s.lse.groups i g } }

/-- The table row of a group, none if it is not DEFINED. -/
def State.row (s : State) (i : Nat) : Option GroupRow := (s.lse.gt.find? (fun e => e.1 == i)).map (·.2)

/-- The DEFINED groups, ascending. -/
def State.defined (s : State) : List Nat := s.lse.gt.map (·.1)

/-- Reads a group table entry (spec/09 R247): none if it is treated as not DEFINED. -/
def readGroup (b : List Byte) : Option GroupRow :=
  let n := fieldAt b 0 24 6
  let can := fieldAt b 0 2 1 == 1
  if fieldAt b 0 0 1 = 0 ∨ n = 0 ∨ 32 < n ∨ (can ∧ 8 < n) then none
  else some { auth := fieldAt b 0 1 1 == 1, can := can, port := fieldAt b 0 3 3, glove := fieldAt b 0 16 6, nval := n,
              nodeGroup := fieldAt b 4 0 16, vlan := fieldAt b 4 16 12, addr0 := getLE b 8 4, addr1 := getLE b 0xC 4,
              points := (List.range n).map (fun k => getLE b (0x20 + 2 * k) 2),
              hats := (List.range n).map (fun k => getLE b (0x60 + 4 * k) 4) }

/-- Entries of the table at `base` with a byte that is not zero, ascending. -/
def groupKeys (m : List Host.Cell) (base : Nat) : List Nat :=
  (m.foldl (fun (a : Sparse Unit) c =>
    if base ≤ c.1 ∧ c.1 < base + 0x80000 then Sparse.put a ((c.1 - base) / 256) () else a) []).keys

/-- The group table is read when LSE enters STARTING (spec/09 R247); an entry that cannot be read counts as not DEFINED (R251). -/
def State.lseStarting (s : State) (spoilt : List Nat) : State :=
  let base := s.reg64 Pg.lse Rg.LSE_GT_BASE_LO
  let keys := (groupKeys s.mem base).filter (fun i => !spoilt.contains i)
  let rows := keys.filterMap (fun i => (readGroup (s.load (base + 256 * i) 256)).map (fun r => (i, r)))
  let s1 := { s with lse := { s.lse with gt := rows } }
  if spoilt = [] then s1 else s1.raiseSrc Pg.lse 6

/-- The group is one of the module's own. -/
def ownGroup (i : Nat) : Bool := decide (i < 1024)

/-- Some own group is LOST (spec/09 R242, R245). -/
def State.ownLost (s : State) : Bool := s.defined.any (fun i => ownGroup i && (s.group i).st == .lost)

/-- Groups of a side in a state. -/
def State.countGroups (s : State) (own : Bool) (x : GrpState) : Nat :=
  (s.defined.filter (fun i => ownGroup i == own && (s.group i).st == x)).length

/-- An adoption ends (spec/09 R232). -/
def State.endAdopt (s : State) : State :=
  let s1 := { s with lse := { s.lse with adopting := false, adoptGranted := false } }
  (s1.stopLoops true).stopTasks true

/-- An adoption with no group HELD or CLAIMING ends (spec/09 R232). -/
def State.checkAdopt (s : State) : State :=
  if s.lse.adopting && s.countGroups false .held == 0 && s.countGroups false .claiming == 0 then s.endAdopt else s

/-- A group turns LOST (spec/09 R241). -/
def State.groupLost (s : State) (i : Nat) : State :=
  let s1 := (s.setGroup i { s.group i with st := .lost }).raiseSrc Pg.lse 0
  { s1 with lse := { s1.lse with pubPend := some true } }

/-- A group that ends IDLE. -/
def State.groupIdle (s : State) (i : Nat) (refused : Bool) : State :=
  let s1 := s.setGroup i { s.group i with st := .idle }
  let s2 := if refused then s1.raiseSrc Pg.lse 5 else s1
  if ownGroup i then s2 else s2.checkAdopt

/-- A claim begins in the next cycle (spec/09 R238): with NEXT, or with an epoch. -/
def GroupSt.claim (g : GroupSt) (start : Nat) (next : Bool) (epoch : Nat) (force : Bool) : GroupSt :=
  { g with st := .claiming, next := next, claimEpoch := epoch % 2 ^ 32, force := force, tries := 0, start := start,
           retrying := false, rel := none }

/-- A group is released: RELEASE in three cycles (spec/09 R238). -/
def GroupSt.release (g : GroupSt) (hat : Bool) : GroupSt := { g with st := .released, rel := some ⟨3, hat⟩ }

/-- SAFE_N is deasserted, if the mode and the Hatstand allow (spec/02 R30). -/
def State.safeOff (s : State) : State :=
  if (s.sys.mode == .run || s.sys.mode == .degraded) && !s.hst.path then
    { s with sys := { s.sys with safeN := false, safeWait := .none } }
  else s

/-- Entry to RUN or DEGRADED: own groups that are not LOST are claimed (spec/09 R238), and SAFE_N waits (spec/02 R30). -/
def State.claimAtEntry (s : State) : State :=
  let own := s.defined.filter ownGroup
  if s.running Pg.lse && !own.isEmpty then
    let c := s.ptb.cycle + 1
    let s1 := own.foldl (fun a i =>
      let g := a.group i
      if g.st = .lost ∨ g.st = .held then a
      else a.setGroup i (g.claim c (!g.known) (g.epoch + 1) false)) s
    { s1 with sys := { s1.sys with safeWait := .grant } }
  else { s with sys := { s.sys with safeWait := .tick } }

-- Frames (spec/09 R233, R234, R240)

/-- The values of a group (spec/09 R238): hats for a RELEASE to hat, and for a point that is STALE or NONE. -/
def State.groupVals (s : State) (r : GroupRow) (hat : Bool) : List Nat :=
  (r.points.zip r.hats).map (fun e =>
    let x := s.pointFor s.ptb.points r.glove e.1
    if hat || x.qual == 0 || x.qual == 2 then e.2 else x.value.toNat)

/-- The key of lease TAGs: LSE_AUTH names a MAC leaf of the RING subtree. -/
def State.tagKey (s : State) : Option (List Byte) :=
  let a := s.reg Pg.lse Rg.LSE_AUTH
  if bit a 0 then s.ringKey (bf a 8 8) else none

/-- A PDU without its TAG (spec/09 R234). -/
def State.pduBytes (s : State) (r : GroupRow) (op flags epoch seq : Nat) (vals : List Nat) : List Byte :=
  let c := s.reg Pg.lse Rg.LSE_CTRL
  leBytes 1 0x4C ++ leBytes 1 op ++ leBytes 1 (flags + 8 * r.auth.toNat) ++ leBytes 1 0 ++ beBytes 2 r.nodeGroup
    ++ leBytes 1 (bf c 0 7) ++ leBytes 1 vals.length ++ beBytes 4 epoch ++ beBytes 4 seq
    ++ beBytes 4 (bf c 24 4 * s.cycleUs) ++ beBytes 2 (s.fld Pg.lse Rg.LSE_TIMING 0 16) ++ beBytes 2 0 ++ vals.flatMap (beBytes 4)

/-- A floor port. -/
def State.fpOf (s : State) (p : Nat) : FpPort := Sparse.get (dflt {}) s.fp p

/-- Sets a floor port. -/
def State.setFp (s : State) (p : Nat) (x : FpPort) : State := { s with fp := Sparse.set (dflt {}) s.fp p x }

/-- FP_STAT.RATE_MISMATCH (spec/16 R440). -/
def State.rateMismatch (s : State) (p : Nat) : Bool := (s.fpOf p).link && (s.fpOf p).phyRate != s.fld (Pg.fp p) Rg.FP_CFG 1 3

/-- The port passes frames (spec/16 R427). -/
def State.fpPasses (s : State) (p : Nat) : Bool :=
  s.running (Pg.fp p) && (s.fpOf p).link && !(s.fpOf p).half && !s.rateMismatch p

/-- A CAN channel. -/
def State.canOf (s : State) (c : Nat) : CanCh := Sparse.get (dflt {}) s.can c

/-- Sets a CAN channel. -/
def State.setCan (s : State) (c : Nat) (x : CanCh) : State := { s with can := Sparse.set (dflt {}) s.can c x }

/-- The DLC of the next CAN FD data length that holds `n` bytes, and that length (spec/17 R443). -/
def canDlc (n : Nat) : Nat × Nat :=
  if n ≤ 8 then (n, n) else if n ≤ 12 then (9, 12) else if n ≤ 16 then (10, 16) else if n ≤ 20 then (11, 20)
  else if n ≤ 24 then (12, 24) else if n ≤ 32 then (13, 32) else if n ≤ 48 then (14, 48) else (15, 64)

/-- The six bytes of a port's MAC address (spec/16 R439). -/
def State.fpMac (s : State) (p : Nat) : List Byte :=
  leBytes 4 (s.reg (Pg.fp p) Rg.FP_MAC_LO).toNat ++ leBytes 2 (s.fld (Pg.fp p) Rg.FP_MAC_HI 0 16)

/-- Lease frames that wait at a channel are not sent any more (spec/17 R454, R458). -/
def State.canFlush (s : State) (c : Nat) : State := s.setCan c { s.canOf c with lease := [] }

/-- A PDU goes to its node (spec/09 R233, spec/16 R435, spec/17 R454): queued at the port or the channel, or not sent. -/
def State.leaseOut (s : State) (r : GroupRow) (pdu : List Byte) : State :=
  if r.can then
    let cfg := s.reg (Pg.can r.port) Rg.CAN_CFG
    if bit cfg 2 && r.glove == s.owner (Pg.can r.port) && s.running (Pg.can r.port) && !(s.canOf r.port).busOff then
      let d := canDlc pdu.length
      let f : CanFrame := { id := r.addr0 % 2 ^ 29, xtd := r.addr0 / 2 ^ 31 == 1, dlc := d.1, fdf := true, brs := bit cfg 3,
                            data := pdu ++ List.replicate (d.2 - pdu.length) 0 }
      let x := s.canOf r.port
      s.setCan r.port { x with lease := x.lease ++ [f] }
    else s
  else if s.fpPasses r.port then
    let head := leBytes 4 r.addr0 ++ leBytes 2 r.addr1 ++ s.fpMac r.port
      ++ (if r.vlan = 0 then [] else [0x81, 0x00] ++ beBytes 2 r.vlan) ++ [0x88, 0xB5]
    let x := s.fpOf r.port
    s.setFp r.port { x with lease := x.lease ++ [head ++ pdu ++ List.replicate (46 - pdu.length) 0] }
  else s

/-- A frame of a group is formed and sent; with AUTH it needs a key (spec/09 R240, spec/20 R529). -/
def State.groupTx (s : State) (i : Nat) (r : GroupRow) (op flags epoch seq : Nat) (hat : Bool) : State :=
  let pdu := s.pduBytes r op flags epoch seq (s.groupVals r hat)
  let s1 := s.setGroup i { s.group i with sent := seq % 2 ^ 32 }
  if r.auth then
    match s1.tagKey with
    | none => s1
    | some k => s1.leaseOut r (pdu ++ (Config.hmac k pdu).take 8)
  else s1.leaseOut r pdu

-- Claims by command (spec/09 R249)

/-- An LSE_CLAIM whose groups are all settled completes (spec/09 R248, R250). -/
def State.claimOver (s : State) (c : ClaimCmd) : State :=
  if c.all then s.complete c.slot (if c.refused = 0 then 0 else 1) (wd c.lastEpoch) (wd c.granted) (wd c.refused)
  else if 0 < c.granted then s.complete c.slot 0 (wd c.lastEpoch) 1 0
  else match c.nak with
    | some (r, e) => s.complete c.slot 0x0202 0 (wd r) (wd e)
    | none => s.complete c.slot 0x0203 0 0 1

/-- One group of an LSE_CLAIM is settled. -/
def State.claimSettle (s : State) (slot i : Nat) (f : ClaimCmd → ClaimCmd) : State :=
  match s.lse.claims.find? (fun c => c.slot == slot) with
  | none => s
  | some c =>
    let c1 := { f c with left := delN c.left i }
    let rest := s.lse.claims.filter (fun x => x.slot != slot)
    if c1.left.isEmpty then ({ s with lse := { s.lse with claims := rest } }).claimOver c1
    else { s with lse := { s.lse with claims := rest ++ [c1] } }

/-- A claim by command fails: the group keeps its former state (spec/09 R249). One that ends IDLE because the node does not know
the group or gave no answer is reported (R239, R251). An adoption left with no group HELD or CLAIMING ends (R232). -/
def State.claimFail (s : State) (i slot : Nat) (nak : Option (Nat × Nat)) : State :=
  let g := s.group i
  let s1 := s.setGroup i { g with st := g.prior, cmd := none, retrying := false }
  let unknown := match nak with | some (r, _) => r == 6 | none => true
  let s2 := (if g.prior == .idle && unknown then s1.raiseSrc Pg.lse 5 else s1).claimSettle slot i
    (fun c => { c with refused := c.refused + 1, nak := match nak with | some x => some x | none => c.nak })
  if ownGroup i then s2 else s2.checkAdopt

-- The send instant (spec/09 R238)

/-- A claim is sent, or ends after three attempts or its retry time. -/
def State.claimTx (s : State) (i : Nat) (r : GroupRow) : State :=
  let g := s.group i
  let cmd := g.cmd.bind (fun n => s.lse.claims.find? (fun c => c.slot == n))
  let late := match cmd with
    | some c => g.retrying && (match c.until_ with | some t => decide (t ≤ s.now1) | none => true)
    | none => false
  if late then s.claimFail i (g.cmd.getD 0) (some (g.nak, g.nodeEpoch))
  else if 3 ≤ g.tries then
    match g.cmd with
    | some n => s.claimFail i n none
    | none => s.groupIdle i true
  else
    let g1 := { g with tries := g.tries + 1, seq := 0, epoch := if g.next then g.epoch else g.claimEpoch,
                       known := g.known || !g.next }
    (s.setGroup i g1).groupTx i r 2 (2 * g.next.toNat + 4 * g.force.toNat) (if g.next then 0 else g.claimEpoch) 0 false

/-- One group at the send instant. -/
def State.groupSend (s : State) (ok live : Bool) (i : Nat) : State :=
  match s.row i with
  | none => s
  | some r =>
    let g := s.group i
    match g.rel with
    | some x =>
      if ok then
        let g1 := { g with seq := g.seq + 1, rel := if x.left = 1 then none else some { x with left := x.left - 1 }, cmd := none }
        let s1 := (s.setGroup i g1).groupTx i r 5 x.hat.toNat g.epoch g1.seq x.hat
        match g.cmd with
        | some n => s1.complete n 0 (wd g.epoch)
        | none => s1
      else s
    | none =>
      if live && decide (g.start ≤ s.ptb.cycle) then
        match g.st with
        | .held => (s.setGroup i { g with seq := g.seq + 1 }).groupTx i r 1 0 g.epoch (g.seq + 1) false
        | .claiming => s.claimTx i r
        | _ => s
      else s

/-- The module can send lease frames (spec/09 R224, R244, spec/22 R572). -/
def State.leaseOk (s : State) : Bool := s.coreUp && !s.lse.silentSafe && !s.pfw && s.supervisor.isSome && !s.isFatal

/-- The send instant of a TPI cycle (spec/09 R238, R252). -/
def State.leaseSend (s : State) : State :=
  let ok := s.leaseOk && !s.stopped Pg.lse
  let live := ok && s.running Pg.lse && (s.sys.mode == .run || s.sys.mode == .degraded)
  let s1 := s.defined.foldl (fun a i => a.groupSend ok live i) s
  let s2 := { s1 with lse := { s1.lse with stopWait := false } }
  match s2.lse.unadopt with
  | some (n, k) => if ok then ({ s2 with lse := { s2.lse with unadopt := none } }).complete n 0 (wd k) else s2
  | none => s2

-- Answers (spec/09 R239, R242)

/-- A group turns HELD by a GRANT (spec/09 R239, R242, spec/02 R30). -/
def State.grantHeld (s : State) (i : Nat) (r : GroupRow) (epoch : Nat) : State :=
  let g := s.group i
  let s1 := s.setGroup i { g with st := .held, epoch := epoch, known := true, seq := 0, start := s.ptb.cycle + 1, cmd := none,
                                  retrying := false }
  if ownGroup i then
    let s2 := if s1.sys.safeWait = .grant then s1.safeOff else s1
    let s3 := if g.cmd.isSome && g.prior == .lost then s2.reprimeFor r.points else s2
    let waits := s3.ownLost || s3.defined.any (fun j =>
      ownGroup j && (s3.group j).st == .claiming && (s3.group j).cmd.isSome && (s3.group j).prior == .lost)
    if s3.lse.pubStopped && !waits then { s3 with lse := { s3.lse with pubPend := some false } } else s3
  else { s1 with lse := { s1.lse with adoptGranted := s1.lse.adopting } }

/-- A GRANT, for which a claim by command ends (spec/09 R239, R249). -/
def State.granted (s : State) (i : Nat) (r : GroupRow) (epoch : Nat) : State :=
  let s1 := s.grantHeld i r epoch
  match (s.group i).cmd with
  | some n => s1.claimSettle n i (fun c => { c with granted := c.granted + 1, lastEpoch := epoch })
  | none => s1

/-- A NAK (spec/09 R239). -/
def State.nakked (s : State) (i reason epoch : Nat) : State :=
  let s1 := (s.bump Pg.lse Rg.LSE_NAKS).setGroup i { s.group i with nak := reason, nodeEpoch := epoch }
  let g := s1.group i
  match g.st with
  | .held =>
    if reason = 4 then
      (s1.bump Pg.lse Rg.LSE_RECLAIMS).setGroup i (g.claim (s1.ptb.cycle + 1) false (g.epoch + 1) false)
    else if reason = 1 ∨ reason = 5 ∨ reason = 7 then
      if ownGroup i then s1.groupLost i else s1.groupIdle i false
    else if reason = 6 then s1.groupIdle i true
    else s1
  | .claiming =>
    match g.cmd with
    | some n =>
      let retry := s1.lse.claims.any (fun c => c.slot == n && c.until_.isSome)
      if reason = 2 ∧ retry then s1.setGroup i { g with tries := 0, retrying := true, start := s1.ptb.cycle + 1 }
      else s1.claimFail i n (some (reason, epoch))
    | none =>
      if reason = 6 then s1.groupIdle i true
      else if reason = 2 ∨ reason = 3 ∨ reason = 5 then
        if ownGroup i then s1.groupLost i else s1.groupIdle i false
      else s1
  | _ => s1

/-- The frame carries the TAG its group requires (spec/09 R240). -/
def State.tagOk (s : State) (r : GroupRow) (pdu : List Byte) : Bool :=
  if r.auth then
    match s.tagKey with
    | none => false
    | some k => getLE pdu 2 1 / 8 % 2 == 1 && decide ((Config.hmac k (pdu.take 24)).take 8 = sliceB pdu 24 8)
  else true

/-- The node of a lease group table entry sent the frame: same port, same address, same VLAN (spec/09 R233, R247). -/
def GroupRow.isNode (r : GroupRow) (can : Bool) (port node vlan : Nat) : Bool :=
  r.can == can && r.port == port
    && (if can then r.addr1 % 2 ^ 29 == node % 2 ^ 29 && r.addr1 / 2 ^ 31 == node / 2 ^ 31
        else r.addr0 + 2 ^ 32 * (r.addr1 % 65536) == node && r.vlan == vlan)

/-- The group that an answer from a node belongs to: among those of this path, one in hand whose last SEQ it echoes, else the
first in hand, else the first. -/
def State.answerFor (s : State) (can : Bool) (port node vlan : Nat) (pdu : List Byte) : Option Nat :=
  let c := s.defined.filter (fun i =>
    match s.row i with
    | none => false
    | some r =>
      r.isNode can port node vlan && r.nodeGroup == beNat (sliceB pdu 4 2) && s.tagOk r pdu)
  let live := c.filter (fun i => (s.group i).st == .claiming || (s.group i).st == .held)
  ((live.find? (fun i => (s.group i).sent == beNat (sliceB pdu 12 4))).orElse (fun _ => live.head?)).orElse (fun _ => c.head?)

/-- A GRANT or NAK reaches the lease engine (spec/09 R239). -/
def State.leaseAnswer (s : State) (can : Bool) (port node vlan : Nat) (pdu : List Byte) : State :=
  if s.running Pg.lse && !s.lse.silentSafe && !s.pfw && decide (24 ≤ pdu.length) && getLE pdu 0 1 == 0x4C then
    match s.answerFor can port node vlan pdu with
    | none => s
    | some i =>
      let epoch := beNat (sliceB pdu 8 4)
      let op := getLE pdu 1 1
      if op = 3 then
        match s.row i with
        | some r => if (s.group i).st = .claiming then (s.setGroup i { s.group i with nodeEpoch := epoch }).granted i r epoch else s
        | none => s
      else if op = 4 then s.nakked i (getLE pdu 3 1) epoch
      else s
  else s

/-- The inputs that a frame of a field node carries are written to their points, the writer its lease group table entry
(spec/13 R349, R351; log entry 151). -/
def State.nodeInputs (s : State) (can : Bool) (port node vlan : Nat) (l : List NodeInput) : State :=
  l.foldl (fun a x =>
    match a.row x.group with
    | none => a
    | some r => if r.isNode can port node vlan then a.writePoint ⟨5, x.group, r.glove, none⟩ x.point x.value x.qual else a) s

-- Ends of claims and adoptions on mode changes (spec/02 R34, spec/09 R232, R244, R250)

/-- The claim and release commands in hand end ABORTED; claims by command return to their former state. -/
def State.abortLease (s : State) : State :=
  let s1 := s.lse.claims.foldl (fun a c => a.complete c.slot St.aborted) s
  let s2 := match s1.lse.unadopt with | some (n, _) => s1.complete n St.aborted | none => s1
  let s3 := { s2 with lse := { s2.lse with claims := [], unadopt := none } }
  s3.defined.foldl (fun a i =>
    let g := a.group i
    match g.cmd with
    | some n =>
      let b := a.setGroup i { g with cmd := none, retrying := false, st := if g.st = .claiming then g.prior else g.st }
      b.complete n St.aborted
    | none => a) s3

/-- Every lease is released, and an adoption ends (spec/02 R32, R34, spec/09 R252). -/
def State.releaseAll (s : State) (hat : Bool) : State :=
  let s1 := s.abortLease
  let s2 := s1.defined.foldl (fun a i =>
    let g := a.group i
    if g.st = .held then a.setGroup i (g.release hat)
    else if g.st = .claiming then a.setGroup i { g with st := .idle }
    else a) s1
  if s2.lse.adopting then s2.endAdopt else s2

/-- Entry to SAFE by a Hatstand action or a FATAL reaction: no RELEASE, no renewal (spec/09 R244). -/
def State.haltLease (s : State) : State :=
  let s1 := s.abortLease
  let s2 := s1.defined.foldl (fun a i => a.setGroup i { a.group i with rel := none }) s1
  let s3 := { s2 with lse := { s2.lse with silentSafe := true } }
  if s3.lse.adopting then s3.endAdopt else s3

-- Adoption (spec/09 R229, R230)

/-- LSE_TIMING.ADOPT_MISS. -/
def State.adoptMiss (s : State) : Nat := s.fld Pg.lse Rg.LSE_TIMING 16 4

/-- The condition of spec/09 R229. -/
def State.partnerLost (s : State) : Bool := s.lse.partnerSeen && decide (s.adoptMiss ≤ s.lse.partnerMiss)

/-- The partner is adopted: cycle 0 of spec/09 R230; `spoilt`: the loops whose bits in the adoption bitmap cannot be read
(R251). -/
def State.adopt (s : State) (spoilt : List Nat) : State :=
  let s1 := { s with lse := { s.lse with adopting := true, armed := false, adoptGranted := false } }
  let s2 := ((if spoilt = [] then s1 else s1.raiseSrc Pg.lse 6).raiseSrc Pg.lse 4).bump Pg.lse Rg.LSE_ADOPTIONS
  let s3 := (s2.adoptStartLoops spoilt).adoptStartTasks
  let s4 := (s3.defined.filter (fun i => !ownGroup i)).foldl (fun a i =>
    if (a.group i).cmd.isSome then a else a.setGroup i ((a.group i).claim (a.ptb.cycle + 1) true 0 false)) s3
  s4.checkAdopt

/-- PARTNER names another module: neither was it seen, nor is an adoption armed (spec/09 R229, R232). -/
def State.partnerNew (s : State) : State :=
  { s with lse := { s.lse with partnerSeen := false, armed := false, partnerMiss := 0, partnerNow := false } }

/-- The partner at a TPI cycle boundary (spec/09 R229, R232), adopted only with PARTNER_EN (R246); `spoilt` as in `adopt`. -/
def State.partnerCycle (s : State) (spoilt : List Nat) : State :=
  let l := s.lse
  let s1 := { s with lse := { l with partnerNow := false, partnerSeen := l.partnerSeen || l.partnerNow,
                                     armed := l.armed || l.partnerNow,
                                     partnerMiss := if l.partnerNow then 0 else if l.partnerSeen then inc255 l.partnerMiss
                                       else l.partnerMiss } }
  let lost := s1.partnerLost
  if lost && s1.lse.adopting then { s1 with lse := { s1.lse with armed := false } }
  else if lost && s1.lse.armed && bit (s.reg Pg.lse Rg.LSE_CTRL) 7 && s1.leaseOk && s1.running Pg.lse
      && (s1.sys.mode == .run || s1.sys.mode == .degraded) then
    s1.adopt spoilt
  else s1

/-- Publication, SAFE_N and the partner at a TPI cycle boundary (spec/02 R30, spec/09 R241, R242). A claim by command is none of
those of the mode entry, for which SAFE_N waits. `spoilt` as in `adopt`. -/
def State.leaseBoundary (s : State) (spoilt : List Nat) : State :=
  let s1 := match s.lse.pubPend with
    | some b => { s with lse := { s.lse with pubStopped := b, pubPend := none } }
    | none => s
  let s2 := s1.partnerCycle spoilt
  if s2.sys.safeWait = .grant && !(s2.defined.any (fun i => ownGroup i && (s2.group i).st == .claiming && (s2.group i).cmd.isNone)) then s2.safeOff else s2

-- Relayed writes (spec/09 R228)

/-- A bit of the adoption bitmap is set. -/
def State.markAdopt (s : State) (l : Nat) : State :=
  let a := s.reg64 Pg.lse Rg.LSE_AL_BASE_LO + l / 8
  s.store a [(rd8 s.mem a) ||| BitVec.ofNat 8 (2 ^ (l % 8))]

/-- A relayed write from the partner enters the warm copy (spec/09 R228, log entry 24). -/
def State.relayIn (s : State) (f : List Byte) : State :=
  let c := s.reg Pg.lse Rg.LSE_CTRL
  let id := beNat (sliceB f 18 2)
  let data := f.drop 20
  if getLE f 14 1 == 0x57 && getLE f 16 1 == bf c 8 7 && decide (20 < f.length) then
    let s1 := { s with lse := { s.lse with warmGen := s.lse.warmGen + 1 } }
    if getLE f 15 1 = 0 then
      if Desc.writable data && data.length == 128 then (s1.store (s1.ltAddr id) data).markAdopt id else s
    else if getLE f 15 1 = 1 then
      let b := TaskCopy.ofBytes data
      if TaskCopy.passes b && data.length == taskLen data then s1.setTaskEntry (16 + id % 16) b else s
    else s
  else s

-- Commands (spec/09 R222, R248 to R250)

/-- A command reserved to glove 0 was issued by another (spec/04 R96). -/
def Ctx.tenant (c : Ctx) : Bool := c.g != 0

/-- FENCED as bits. -/
def State.fencedBits (s : State) : Nat := s.lse.fenced.foldl (fun n c => n + 2 ^ c) 0

/-- CH_SELFTEST begins (spec/09 R222). -/
def chSelftestBody (c : Ctx) (s : State) : State :=
  let n := c.f 0 0 2
  if c.tenant then s.foreign c
  else if s.isFatal || !s.lse.fenced.contains n || !s.stopped (Pg.cea n) || !s.stopped (Pg.ktl n) then s.fin c St.state
  else if s.lse.selftests.any (fun e => e.1 == n) then s.fin c St.busy
  else { s with lse := { s.lse with selftests := s.lse.selftests ++ [(n, c.slot)] } }

/-- The RES0 bit of a source that occurred during the test (spec/09 R222, R248). -/
def partBit (src : Nat) : Nat :=
  let p := src / 32
  let b := src % 32
  if Pg.cea 0 ≤ p ∧ p ≤ Pg.cea 3 then
    (if b = 0 then 1 else if b = 1 ∨ b = 2 then 2 else if b = 6 then 3 else if b = 7 then 7 else 8)
  else if b = 3 then 5 else 8

/-- The self-test of a channel ends (spec/09 R222): `failed` names parts as RES0 does. -/
def State.selftestEnd (s : State) (n failed : Nat) : State :=
  match s.lse.selftests.find? (fun e => e.1 == n) with
  | none => s
  | some (_, slot) =>
    let hits := (s.lse.selftestHit.filter (fun x => x / 32 == Pg.cea n || x / 32 == Pg.ktl n)).map partBit
    let w := wd (failed / 2 % 512 * 2) ||| bitsWord hits
    let s1 := { s with lse := { s.lse with
      selftests := s.lse.selftests.filter (fun e => e.1 != n),
      selftestHit := s.lse.selftestHit.filter (fun x => !(x / 32 == Pg.cea n || x / 32 == Pg.ktl n)) } }
    if w = 0 then
      (if s1.lse.fenced.contains n then { s1 with lse := { s1.lse with testPass := addN s1.lse.testPass n } } else s1).complete
        slot 0 1
    else (s1.raiseSrc Pg.lse 7).complete slot 0x0201 w

/-- CH_FENCE (spec/09 R248). -/
def chFenceBody (c : Ctx) (s : State) : State :=
  let n := c.f 0 0 2
  if c.tenant then s.foreign c
  else if !s.live || (!s.lse.fenced.contains n && decide (s.unfenced = [n])) then s.fin c St.state
  else if s.lse.selftests.any (fun e => e.1 == n) then s.fin c St.busy
  else let s1 := s.fence n; s1.done c (wd s1.fencedBits)

/-- The lease engine acts in this mode. -/
def State.leaseLive (s : State) : Bool :=
  s.running Pg.lse && (s.sys.mode == .run || s.sys.mode == .degraded) && !s.isFatal

/-- LSE_CLAIM (spec/09 R248 to R250). A group that the mode entry claims is claimed anew, and IDLE if that fails (log entry
107). -/
def lseClaimBody (c : Ctx) (s : State) : State :=
  let i := c.f 0 0 11
  let all := c.b 0 15
  let gl := match s.row i with | some r => r.glove | none => 0
  if !all && (s.row i).isNone then s.fin c St.arg
  else if !all && gl != c.g then s.foreign c
  else
    let gs := if all then s.defined.filter (fun j => ownGroup j && (s.group j).st == .lost
        && (match s.row j with | some r => r.glove == c.g | none => false)) else [i]
    if !s.leaseLive || (!all && (s.group i).st == .held) then s.fin c St.state
    else if gs.any (fun j => (s.group j).cmd.isSome) then s.fin c St.busy
    else if gs.isEmpty then s.done c
    else
      let ms := c.f 1 0 16
      let cmd : ClaimCmd := { slot := c.slot, all := all, left := gs,
                              until_ := if ms = 0 then none else some (s.now1 + ms * 1000000) }
      let s1 := { s with lse := { s.lse with claims := s.lse.claims ++ [cmd] } }
      gs.foldl (fun a j =>
        let g := a.group j
        a.setGroup j ({ g with prior := if g.st = GrpState.claiming then .idle else g.st, cmd := some c.slot }.claim (a.ptb.cycle + 1) true 0 (c.b 0 16 && c.g == 0))) s1

/-- LSE_RELEASE (spec/09 R248). -/
def lseReleaseBody (c : Ctx) (s : State) : State :=
  let i := c.f 0 0 11
  match s.row i with
  | none => s.fin c St.arg
  | some r =>
    if r.glove ≠ c.g then s.foreign c
    else if !s.leaseLive || (s.group i).st != .held then s.fin c St.state
    else if (s.group i).cmd.isSome then s.fin c St.busy
    else
      let s1 := s.setGroup i { (s.group i).release (c.b 0 16) with cmd := some c.slot }
      if ownGroup i then s1 else s1.checkAdopt

/-- LSE_UNADOPT (spec/09 R232). An LSE_CLAIM in hand on an adopted group ends as one that no node answered (DESIGN CHOICE, log
entry 149). -/
def lseUnadoptBody (c : Ctx) (s : State) : State :=
  if c.tenant then s.foreign c
  else if !s.leaseLive || !s.lse.adopting then s.fin c St.state
  else
    let gs := s.defined.filter (fun i => !ownGroup i)
    let n := (gs.filter (fun i => (s.group i).st == .held)).length
    let s1 := gs.foldl (fun a i =>
      let g := a.group i
      if g.st = .held then a.setGroup i (g.release false)
      else if g.st = .claiming then
        match g.cmd with
        | some m => a.claimFail i m none
        | none => a.setGroup i { g with st := .idle }
      else a) s
    let s2 := s1.endAdopt
    if n = 0 then s2.done c else { s2 with lse := { s2.lse with unadopt := some (c.slot, n) } }

/-- The code of a group state (spec/09 R248). -/
def GrpState.code : GrpState → Nat
  | .idle => 0 | .claiming => 1 | .held => 2 | .lost => 3 | .released => 4

/-- LSE_QUERY (spec/09 R248). -/
def lseQueryBody (c : Ctx) (s : State) : State :=
  let i := c.f 0 0 11
  match s.row i with
  | none => s.fin c St.arg
  | some r =>
    if r.glove ≠ c.g then s.foreign c
    else
      let g := s.group i
      s.done c (wd (g.st.code + 256 * g.nak)) (wd g.epoch) (wd g.nodeEpoch)

/-- LSE_WARM_TASK (spec/09 R248); LSE_WARM_GEN counts relayed writes alone (R245). -/
def lseWarmTaskBody (c : Ctx) (s : State) : State :=
  let t := c.f 0 0 4
  let a := c.addr 1
  if !s.taskBufOk c a || !TaskCopy.passes (s.taskBuf a) then s.fin c St.arg
  else if c.tenant then s.foreign c
  else if s.isFatal then s.fin c St.state
  else
    (s.setTaskEntry (16 + t) (s.taskBuf a)).done c s.lse.warmGen

end Sys2Proof.Machine
end

