-- ==== Sys2Proof/Machine/CmdOps.lean ====
section
/-! DEFINITION. Commands and queues (spec/04): what polling, slots, doorbells, submission entries and the queue commands
do, and how a command in hand is ended before its time. -/

namespace Sys2Proof.Machine

-- Commands that end early (spec/04 R96, R112)

/-- Nothing waits on slot `n` any more. -/
def State.unhook (s : State) (n : Nat) : State :=
  let s1 := s.ces.loops.foldl (fun (a : State) e =>
    let x := a.loop e.1
    let st := x.stop.filter (fun q => q.slot != some n)
    let ho := x.handover.filter (fun h => h != some n)
    let cl := x.clear.filter (fun k => k.1 != n)
    if st = x.stop ∧ ho = x.handover ∧ cl = x.clear then a
    else a.setLoop e.1 { x with stop := st, handover := ho, clear := cl }) s
  let s2 := s1.ktl.tasks.foldl (fun (a : State) e =>
    let x : TaskSt := a.task e.1
    let st := x.stop.filter (fun q => q.slot != some n)
    let ho := x.handover.filter (fun h => h != some n)
    if st = x.stop ∧ ho = x.handover then a else a.setTask e.1 { x with stop := st, handover := ho }) s1
  let jr := (s2.nv.journal.filter (fun j => !(j.slot == some n && match j.edit with | .save _ => true | _ => false))).map
    (fun j => if j.slot = some n then { j with slot := none } else j)
  let cans := s2.can.foldl (fun m e =>
    if (e.2.detect.map (·.slot)) = some n then Sparse.set (dflt {}) m e.1 { e.2 with detect := none } else m) s2.can
  { s2 with
    nv := { s2.nv with journal := jr },
    can := cans,
    glv := { s2.glv with reclaims := s2.glv.reclaims.map (fun r => if r.slot = some n then { r with slot := none } else r) },
    cdy := s2.cdy.disown (· == n),
    lse := { s2.lse with
      claims := s2.lse.claims.filter (fun k => k.slot != n),
      unadopt := s2.lse.unadopt.filter (fun u => u.1 != n),
      selftests := s2.lse.selftests.filter (fun t => t.2 != n) } }

/-- The command in slot `n` ends ABORTED with zero results. -/
def State.abort (s : State) (n : Nat) : State := (s.unhook n).complete n St.aborted

/-- The commands in hand with one of two opcodes. -/
def State.inHand (s : State) (op1 op2 : Nat) : List Nat :=
  Sparse.keys (s.cmd.slots.filter (fun (e : Nat × Slot) => decide (e.2.phase = .inHand) && (e.2.op == op1 || e.2.op == op2)))

/-- The command in slot `n`. -/
def State.ctxOf (s : State) (n : Nat) : Ctx := ⟨n, (s.slotOf n).glove, (s.slotOf n).op, (s.slotOf n).args⟩

/-- Every command in hand that satisfies `p` ends ABORTED. -/
def State.abortWhere (s : State) (p : Slot → Bool) : State :=
  (s.cmd.slots.filter (fun e => decide (e.1 < 4096) && decide (e.2.phase = .inHand) && p e.2)).foldl
    (fun a e => a.abort e.1) s

/-- A mode command (spec/02 R37). -/
def modeOp (op : Nat) : Bool := decide (0x101 ≤ op) && decide (op ≤ 0x104)

/-- A command that a change to SAFE or COMMISSION lets continue: mode commands (spec/04 R112), CFG_SAVE and FLT_SAVE, which
PFW alone ends (spec/03 R74, spec/22 R577), a reclaim, which spec/05 R128 always completes, and the update commands, whose
chapter names the mode change that ends them. -/
def outlivesMode (op : Nat) : Bool := modeOp op || op == 0x105 || op == 0x203 || op == 0x0B01 || op / 256 == 0x0A

-- Changes to the CONFIG generation (spec/03 R74)

/-- The loop table entries of glove `g` in a copy of the table given to glove 0 (spec/05 R128). -/
def loopTabGive (g : Nat) (m : List Host.Cell) : List Host.Cell :=
  m.foldl (fun a e =>
    if e.1 % 128 = 3 ∧ e.2.toNat / 128 = 1 ∧ e.2.toNat % 64 = g then wr8 a e.1 (BitVec.ofNat 8 (e.2.toNat / 64 * 64)) else a) m

/-- A map word of glove `g` given to glove 0. -/
def mapWordGive (g : Nat) (w : Word) : Word := if mGlove w = g then setBf w 9 7 0 else w

/-- The keys of the map words that hold a byte. -/
def mapKeys (m : List Host.Cell) (base : Nat) : List Nat :=
  (m.filter (fun e => decide (base ≤ e.1) && decide (e.1 < base + 262144))).foldl
    (fun l e => let k := (e.1 - base) / 4; if l.headD 65536 = k then l else k :: l) []

/-- The map words of glove `g` in memory from `base` given to glove 0. -/
def mapGive (g base : Nat) (m : List Host.Cell) : List Host.Cell :=
  (mapKeys m base).foldl (fun a k =>
    let w := wd (rdLE a (base + 4 * k) 4)
    if mGlove w = g ∧ w ≠ 0 then wrLE a (base + 4 * k) 4 (mapWordGive g w).toNat else a) m

/-- A task copy given to glove 0. -/
def TaskCopy.toZero (c : TaskCopy) : TaskCopy := { c with desc := patchB c.desc 1 (leBytes 1 (getLE c.desc 1 1 / 64 * 64)) }

/-- A task copy of glove `g` given to glove 0. -/
def TaskCopy.give (g : Nat) (c : TaskCopy) : TaskCopy := if c.d.glove = g then c.toZero else c

/-- Loop table entries given to glove 0, whatever glove their saved copies name. -/
def loopTabZero (m : List Host.Cell) (loops : List Nat) : List Host.Cell :=
  loops.foldl (fun a k => wr8 a (128 * k + 3) (BitVec.ofNat 8 ((rd8 a (128 * k + 3)).toNat / 64 * 64))) m

/-- Map words given to glove 0, whatever glove their saved copies name. -/
def mapZero (m : List Host.Cell) (points : List Nat) : List Host.Cell :=
  points.foldl (fun a k => wrLE a (4 * k) 4 (setBf (wd (rdLE a (4 * k) 4)) 9 7 0).toNat) m

/-- The change made to a generation. -/
def CfgEdit.apply (e : CfgEdit) (r : CfgRec) : CfgRec :=
  match e with
  | .save n => { n with gen := r.gen, ltGen := r.ltGen, views := r.views, publish := r.publish, sev := r.sev }
  | .loop id b => { r with loopTab := wrBytes r.loopTab (128 * id) b }
  | .task id c => { r with tasks := Sparse.set (dflt {}) r.tasks id c }
  | .gloves t q => { r with gloves := t, qmap := q }
  | .reclaim g t q had =>
    let own := (r.regs.filter (fun k => k.1 % 0x1000 == Hd.owner && decide (k.1 < 0x80000) && bf k.2 0 6 == g)).map (fun k => k.1 / 0x1000)
      ++ had.pages
    { r with
      gloves := t, qmap := q,
      regs := Sparse.keep (fun k => !(own.contains (k / 0x1000) && (k % 0x1000 == Hd.owner || k % 0x1000 == Hd.irqEn))) r.regs,
      loopTab := loopTabZero (loopTabGive g r.loopTab) had.loops,
      map := mapZero (mapGive g 0 r.map) had.points,
      tasks := r.tasks.foldl (fun m k =>
        Sparse.set (dflt {}) m k.1 (if had.tasks.contains k.1 then k.2.toZero else k.2.give g)) r.tasks,
      views := r.views.foldl (fun m k => if k.2 = g then Sparse.set (dflt 0) m k.1 0 else m) r.views }
  | .view c g => { r with views := Sparse.set (dflt 0) r.views c g }
  | .publish w => { r with publish := w }
  | .severities t => { r with sev := t }

/-- What becomes of a change that is being journalled when the change `e` goes into CONFIG at once: a save holds what was read
before (spec/03 R74), and the entries that a reclaim gave to glove 0 stay glove 0's (spec/05 R128). -/
def CfgEdit.amend (e j : CfgEdit) : CfgEdit :=
  match j, e with
  | .save r, _ => .save (e.apply r)
  | .loop id b, .reclaim g _ _ had =>
    if had.loops.contains id || getLE b 3 1 % 64 == g then .loop id (patchB b 3 (leBytes 1 (getLE b 3 1 / 64 * 64))) else j
  | .task id c, .reclaim g _ _ had => .task id (if had.tasks.contains id then c.toZero else c.give g)
  | _, _ => j

/-- A change is in CONFIG at once, also in what is being written. -/
def State.cfgNow (s : State) (e : CfgEdit) : State :=
  { s with nv := { s.nv with cfg := e.apply s.nv.cfg,
                             journal := s.nv.journal.map (fun (j : Journal) => { j with edit := e.amend j.edit }) } }

/-- The glove table as CONFIG records it: a glove whose reclaim is in hand has no region any more (spec/05 R128). -/
def State.gloveCfg (s : State) : Sparse Glove :=
  s.glv.reclaims.foldl (fun (m : Sparse Glove) r => Sparse.set gloveDflt m r.glove {}) s.glv.table

-- Queues (spec/04 R98 to R112)

/-- The entry size and count fit the kind (spec/04 R99, R108). -/
def queueShape (kind : Nat) (wide : Bool) (log2n : Nat) : Bool :=
  decide (kind ≤ 5) && decide (4 ≤ log2n) && decide (log2n ≤ 16)
    && (if kind = 0 ∨ kind = 5 then wide else !wide)

/-- The source of kinds 3 and 4 is a CAN channel (spec/17 R452). -/
def canSource (src : Nat) : Bool := decide (0x20 ≤ src) && decide (src ≤ 0x27)

/-- The source of kinds 3 and 4 is an Ethernet port (spec/16 R431). -/
def ethSource (src : Nat) : Bool := src == 0x10 || src == 0x11 || (decide (0x18 ≤ src) && decide (src ≤ 0x1F))

/-- ARG5 to ARG7 fit the kind (spec/10 R281, spec/13 R365, spec/16 R431, spec/17 R452). -/
def queueSelector (c : Ctx) (kind : Nat) : Bool :=
  let src := c.f 5 0 8
  match kind with
  | 2 => decide (c.f 5 0 16 ≤ c.f 5 16 16) && c.arg 7 == 0
  | 3 =>
    if canSource src then c.f 5 16 4 == 6 && c.f 5 9 7 == 0 && c.f 5 20 12 == 0 && c.addr 6 % 64 == 0
    else ethSource src && decide (11 ≤ c.f 5 16 4) && decide (c.f 5 16 4 ≤ 14) && c.f 5 8 8 == 0 && c.f 5 20 12 == 0
      && c.addr 6 % 64 == 0
  | 4 => (canSource src || ethSource src) && c.f 5 8 24 == 0 && c.arg 6 == 0 && c.arg 7 == 0
  | 5 => c.f 5 1 31 == 0
  | _ => true

/-- The existing queues that satisfy `p`. -/
def State.queuesWith (s : State) (p : Nat → Queue → Bool) : List Nat :=
  (s.cmd.queues.filter (fun e => e.2.live && p e.1 e.2)).map (·.1)

/-- A queue of the kind could not be added (spec/13 R365, spec/16 R431, spec/17 R452). -/
def State.queueClash (s : State) (c : Ctx) (kind : Nat) : Bool :=
  let src := c.f 5 0 8
  match kind with
  | 2 => decide (64 ≤ (s.queuesWith (fun _ x => x.kind == 2)).length)
  | 3 =>
    if canSource src then !(s.queuesWith (fun _ x => x.kind == 3 && bf x.arg5 0 9 == c.f 5 0 9)).isEmpty
    else !(s.queuesWith (fun q x => x.kind == 3 && bf x.arg5 0 8 == src && s.queueOwner q == c.g)).isEmpty
  | _ => false

/-- The pool base of a receive queue. -/
def Ctx.pool (c : Ctx) : Nat := c.addr 6

/-- QUEUE_CREATE (spec/04 R108, R109). -/
def queueCreateBody (c : Ctx) (s : State) : State :=
  let q := c.f 0 0 15
  let kind := c.f 1 0 3
  let pair := c.f 4 0 15
  let src := c.f 5 0 8
  let framed := kind == 3 || kind == 4
  if !queueShape kind (c.b 1 8) (c.f 1 16 5) || c.addr 2 % 4096 != 0 || !queueSelector c kind then s.fin c St.arg
  else if s.queueOwner q != c.g || (framed && canSource src && s.owner src != c.g)
      || ((kind == 0 || kind == 4) && c.b 4 31 && s.queueOwner pair != c.g) then s.foreign c
  else if (s.queue q).live || s.queueClash c kind then (s.queueChecked q).fin c St.state
  else
    let x : Queue := { live := true, kind := kind, wide := c.b 1 8, log2n := c.f 1 16 5, base := c.addr 2,
                       pair := if (kind == 0 || kind == 4) && c.b 4 31 then some pair else none,
                       arg5 := c.arg 5, arg6 := c.arg 6, arg7 := c.arg 7 }
    let s1 := { s with ptb := { s.ptb with posted := Sparse.keep (fun k => k / 65536 != q) s.ptb.posted } }
    (s1.setQueue q x).done c (wd q)

/-- A queue ends at once (spec/04 R110). -/
def State.queueGone (s : State) (q : Nat) : State :=
  let s1 := s.setQueue q {}
  { s1 with cdy := s1.cdy.queueGone q,
            ptb := { s1.ptb with posted := Sparse.keep (fun k => k / 65536 != q) s1.ptb.posted },
            fp := s1.fp.foldl (fun m e => Sparse.set (dflt {}) m e.1 { e.2 with held := delN e.2.held q }) s1.fp }

/-- QUEUE_DESTROY. -/
def queueDestroyBody (c : Ctx) (s : State) : State :=
  let q := c.f 0 0 15
  if s.queueOwner q != c.g then s.foreign c
  else if !(s.queue q).live then s.fin c St.state
  else ((s.queueChecked q).queueGone q).done c (wd (s.queue q).hw)

/-- QUEUE_QUERY. -/
def queueQueryBody (c : Ctx) (s : State) : State :=
  let q := c.f 0 0 15
  let x := s.queue q
  if s.queueOwner q != c.g then s.foreign c
  else if !x.live then s.fin c St.state
  else (s.queueChecked q).done c (wd x.hw) (wd x.sw) x.drops

/-- NOP. -/
def nopBody (c : Ctx) (s : State) : State := s.done c

/-- An opcode that is not assigned (spec/04 R96). -/
def noOpBody (c : Ctx) (s : State) : State := s.fin c St.op

-- Polling and slots (spec/04 R91, R92)

/-- The slot that a bank's CMD_POLL names, if its record is the requester's to read and is whole (R111). -/
def State.polled (s : State) (b g : Nat) : Option Nat :=
  let h := s.breg b Pg.cmd Rg.CMD_POLL
  let n := bf h 0 12
  let x := s.slotOf n
  if bf h 12 14 ≠ 0 ∧ x.gen = bf h 12 14 ∧ x.glove = bf h 26 6 ∧ x.glove = g ∧ x.bad = false then some n else none

/-- What CMD_POLL_STAT reads; a record that fails its parity check is not known (R111). -/
def State.pollStat (s : State) (b g : Nat) : Word :=
  match s.polled b g with
  | none => 0
  | some n =>
    let x := s.slotOf n
    if x.spoilt then 0 else if x.complete then wd (0xC0000000 + x.status) else 0x80000000

/-- The record that a poll reads fails its parity check (spec/04 R111): its command in hand ends FAILED_INTERNAL; a record
that has ended is known no more. -/
def State.slotParity (s : State) (n : Nat) : State :=
  let s1 := (s.setSlot n { s.slotOf n with spoilt := false }).raiseSrc Pg.cmd 0
  if (s1.slotOf n).phase = .inHand then (s1.unhook n).complete n St.internal
  else s1.setSlot n { s1.slotOf n with bad := true }

/-- A read of CMD_POLL_STAT frees a completed slot of a bank without completion queue (spec/04 R91); `parity`: the record
fails its parity check. -/
def State.pollRead (s : State) (b g : Nat) (parity : Bool) : State :=
  match s.polled b g with
  | none => s
  | some n =>
    if parity || (s.slotOf n).spoilt then s.slotParity n else if (s.slotOf n).phase = .done then s.freeSlot n else s

/-- CMD_INFLIGHT: commands of the bank accepted and not yet completed. -/
def State.inflight (s : State) (b : Nat) : Nat :=
  (s.cmd.slots.filter (fun e => decide (e.1 < 4096) && decide (e.2.origin = .bank b) && decide (e.2.phase = .inHand))).length

/-- Ten seconds of TMB1 after completion (spec/04 R91). -/
def State.slotTimeout (s : State) (n : Nat) : State := if (s.slotOf n).phase = .done then s.freeSlot n else s

/-- A held completion is posted once there is space, in the order of completion (spec/04 R107); its record is read for it
(R111). -/
def State.postHeld (s : State) (n : Nat) : State :=
  let first := s.cmd.held.find? (fun k => decide ((s.slotOf k).cq = (s.slotOf n).cq))
  if (s.slotOf n).phase = .held ∧ first = some n ∧ s.canComplete n then (s.slotChecked n).postSlot n else s

-- Doorbells (spec/04 R103 to R106)

/-- The doorbell access of glove `g` to queue `q` is its owner's (spec/04 R105). -/
def State.bellMine (s : State) (g q : Nat) : Bool := s.active g && s.queueOwner q == g

/-- A write of DB_INDEX that R104 lets through; a queue that software fills takes no entry after an ECC error (R111). -/
def Queue.indexOk (x : Queue) (v : Nat) : Bool :=
  let d := (v + 2 ^ 32 - x.sw) % 2 ^ 32
  decide (d < 2 ^ 31) && (if x.soft then (!x.ecc || d == 0) && decide ((v + 2 ^ 32 - x.hw) % 2 ^ 32 ≤ x.n) else decide (d ≤ x.count))

/-- The queue's context is read for a doorbell access; `ecc`: an ECC error is found in it now (spec/04 R111). -/
def State.bellChecked (s : State) (q : Nat) (ecc : Bool) : State := if ecc then s.queueEcc q else s.queueChecked q

/-- DB_INDEX is written; `ecc` as in `bellChecked`. -/
def State.bellIndex (s : State) (g q : Nat) (v : Word) (ecc : Bool) : State :=
  if !s.bellMine g q then s.violation g
  else if !(s.queue q).live then s
  else
    let s1 := s.bellChecked q ecc
    let x := s1.queue q
    if x.indexOk v.toNat then (s1.setQueue q { x with sw := v.toNat }).checkQueue q
    else s1.setQueue q { x with badidx := true }

/-- DB_CTRL is written; `ecc` as in `bellChecked`. -/
def State.bellCtrl (s : State) (g q : Nat) (v : Word) (ecc : Bool) : State :=
  if !s.bellMine g q then s.violation g
  else if !(s.queue q).live then s
  else
    let s1 := s.bellChecked q ecc
    let x := s1.queue q
    (s1.setQueue q { x with arm := bit v 0, ovf := x.ovf && !bit v 8, badidx := x.badidx && !bit v 9 }).checkQueue q

/-- Another doorbell register is read or written: its queue's context is read. -/
def State.bellSeen (s : State) (g q : Nat) : State := if s.bellMine g q then s.queueChecked q else s.violation g

/-- What a doorbell register reads for its owner. -/
def State.bellRead (s : State) (q k : Nat) : Word :=
  let x := s.queue q
  if !x.live then 0
  else match k with
    | 0 => wd x.sw
    | 1 => wd x.hw
    | 2 => wd (x.arm.toNat + 256 * x.ovf.toNat + 512 * x.badidx.toNat)
    | _ => x.drops

/-- The head entry of a submission queue is read now (spec/04 R100): there is a slot and quota for its command. -/
def State.entryDue (s : State) (q : Nat) : Bool :=
  let g := s.queueOwner q
  s.coreUp && !s.pfw && s.canTake q && (s.queue q).kind == 0 && s.active g && s.canIssue g

/-- Where the completions of a submission queue go. -/
def Queue.pairCq (x : Queue) : CqTo := match x.pair with | some k => .queue k | none => .poll

/-- A submission entry is read and its command put into a slot (spec/04 R100): the command's context, if there is one. -/
def State.takeEntry (s : State) (q : Nat) : Option (Ctx × State) :=
  if s.entryDue q then
    let g := s.queueOwner q
    let b := s.headEntry q
    let n := s.nextSlot.getD 0
    let args := leWords 8 (b.drop 8)
    some (⟨n, g, getLE b 0 2, args⟩,
      (s.consume q).alloc n g (getLE b 0 2) args (.queue q) (s.queue q).pairCq (wd (getLE b 4 4)))
  else none

/-- An uncorrectable ECC error in a submission entry (spec/04 R111): its command ends FAILED_INTERNAL. The TAG, which could
not be read, is a free value. -/
def State.takeSpoilt (s : State) (q : Nat) : State :=
  if s.entryDue q then
    let n := s.nextSlot.getD 0
    let (t, s1) := s.draw
    (((s1.consume q).alloc n (s.queueOwner q) 0 [] (.queue q) (s.queue q).pairCq (wd t)).queueEcc q).complete n St.internal
  else s

end Sys2Proof.Machine
end

