-- ==== Sys2Proof/Machine/TimeOps.lean ====
section
/-! DEFINITION. Time bases and the real-time clock (spec/15). -/

namespace Sys2Proof.Machine

-- Time as a number (spec/15 R397)

/-- A time base in units of 2^-32 ns. -/
def TmbSt.value (t : TmbSt) : Nat := (t.sec * 1000000000 + t.ns) * 2 ^ 32 + t.frac

/-- A time base set to a number of 2^-32 ns, SEC cut to 64 bits. -/
def TmbSt.setValue (t : TmbSt) (v : Int) : TmbSt :=
  let u := (v % ((2 : Int) ^ 64 * 1000000000 * 2 ^ 32)).toNat
  { t with sec := u / 2 ^ 32 / 1000000000, ns := u / 2 ^ 32 % 1000000000, frac := u % 2 ^ 32 }

/-- One TCLK edge: 4 ns and the rate. -/
def TmbSt.edge (t : TmbSt) : TmbSt := t.setValue ((t.value : Int) + 4 * 2 ^ 32 + t.rate)

/-- The rate limit of ±200 ppm in units of TMB_RATE (spec/15 R397). -/
abbrev rateLimit : Int := 3435973

/-- ±200,000 ppb in 2^-24 ppb. -/
abbrev ppbLimit : Int := 200000 * 2 ^ 24

/-- An integer quotient rounded to the nearest; a tie is left open (log entry 12). -/
def nearestI (a : Int) (d : Nat) : Int :=
  let q := a / d
  let r := (a % d).toNat
  if 2 * r < d then q else if d < 2 * r then q + 1 else if Config.roundUp a d then q + 1 else q

/-- The TMB_RATE value of a rate in 2^-24 ppb, inside the limit of spec/15 R397. -/
def rateOf (r : Int) : Int := clampI (-rateLimit) rateLimit (nearestI (r * 1024) 1000000000)

-- The servo (spec/15 R400 to R404)

/-- A rate comes into force; the AT_LIMIT source occurs as the flag rises. -/
def State.setRate (s : State) (n : Nat) (rate : Int) (limit : Bool) : State :=
  let t := s.tmb n
  let s1 := s.setTmb n { t with rate := rate, limit := limit }
  if limit && !t.limit then s1.raiseSrc (Pg.tmb n) 2 else s1

/-- What every step and every SET does (spec/15 R402, R406). -/
def State.stepped (s : State) (n : Nat) : State :=
  let s1 := s.setTmb n { s.tmb n with locked := false, good := 0 }
  ((s1.bump (Pg.tmb n) Rg.TMB_STEPS).pulse (Pg.tmb n) 2).raiseSrc (Pg.tmb n) 1

/-- One sample is handed to the servo: `o` in 2^-16 ns (spec/15 R400 to R402). -/
def State.sample (s : State) (n : Nat) (o : Int) : State :=
  let p := Pg.tmb n
  let t0 := s.tmb n
  if n = 1 ∨ !s.running p ∨ t0.manual then s
  else
    let lockNs := s.fld p Rg.TMB_LOCK 0 16
    let t := { t0 with hold := false, last := o }
    let s1 := s.setTmb n t
    if (!t.locked && decide (10 * lockNs * 65536 < o.natAbs))
        || (t.locked && decide (1000000000 * 65536 < o.natAbs) && s.flag p Rg.TMB_CTRL 1) then
      (s1.setTmb n (t.setValue ((t.value : Int) - o * 65536))).stepped n
    else
      let kp : Int := s.fld p Rg.TMB_KP_KI 0 16
      let ki : Int := s.fld p Rg.TMB_KP_KI 16 16
      let iNew := t.integ - ki * o
      let rNew := iNew - kp * o
      let i := if (rNew.natAbs : Int) ≤ ppbLimit ∨ iNew.natAbs < t.integ.natAbs then clampI (-ppbLimit) ppbLimit iNew
               else t.integ
      let r := clampI (-ppbLimit) ppbLimit (i - kp * o)
      let good := if o.natAbs ≤ lockNs * 65536 then min (t.good + 1) 255 else 0
      let s2 := s1.setTmb n { t with integ := i, good := good,
                                     locked := t.locked || decide (s.fld p Rg.TMB_LOCK 16 8 ≤ good) }
      s2.setRate n (rateOf r) (decide ((r.natAbs : Int) = ppbLimit))

/-- Holdover begins (spec/15 R403). -/
def State.holdover (s : State) (n : Nat) : State :=
  let t := s.tmb n
  if n = 1 ∨ !s.running (Pg.tmb n) ∨ t.manual ∨ t.hold ∨ !s.coreUp then s
  else
    ((s.setTmb n { t with hold := true }).setRate n (rateOf t.integ) (decide ((t.integ.natAbs : Int) = ppbLimit))).raiseSrc
      (Pg.tmb n) 0

/-- Software writes TMB_RATE (spec/15 R404). -/
def State.rateWrite (s : State) (n : Nat) (w : Word) : State :=
  if n ≠ 1 ∧ (s.tmb n).manual then
    let r := clampI (-rateLimit) rateLimit w.toInt
    s.setRate n r (decide ((r.natAbs : Int) = rateLimit))
  else s

/-- The offset register pair hands a sample to the servo. -/
def State.offsetSample (s : State) (n : Nat) (lo : Word) : State :=
  s.sample n (signed 64 (lo.toNat + 2 ^ 32 * (s.reg (Pg.tmb n) Rg.TMB_OFS_HI).toNat))

-- Dates (spec/15 R405, R424)

/-- Year `y` is a leap year. -/
def leapYear (y : Nat) : Bool := y % 4 == 0 && (y % 100 != 0 || y % 400 == 0)

/-- The length of a month; months 0, 13, 14 and 15 have 31 days (spec/15 R424). -/
def monthLen (y m : Nat) : Nat :=
  if m = 2 then (if leapYear y then 29 else 28) else if m = 4 ∨ m = 6 ∨ m = 9 ∨ m = 11 then 30 else 31

/-- Days from 0000-01-01 to the first of January of a year. -/
def daysToYear (y : Nat) : Nat :=
  if y = 0 then 0 else 365 * y + (y - 1) / 4 - (y - 1) / 100 + (y - 1) / 400 + 1

/-- Days from the first of January to the first of a month. -/
def daysToMonth (y m : Nat) : Nat := (List.range (m - 1)).foldl (fun n k => n + monthLen y (k + 1)) 0

/-- Seconds from 1970-01-01 of a valid reading (spec/15 R405). -/
def RtcSt.seconds (r : RtcSt) : Option Int :=
  if 1 ≤ r.month ∧ r.month ≤ 12 ∧ 1 ≤ r.day ∧ r.day ≤ monthLen r.year r.month ∧ r.hour < 24 ∧ r.min < 60 ∧ r.sec < 60 then
    some ((((daysToYear r.year + daysToMonth r.year r.month + (r.day - 1) : Nat) : Int) - 719528) * 86400
      + (r.hour * 3600 + r.min * 60 + r.sec : Nat))
  else none

/-- What the first STARTING loads from the RTC (spec/15 R405). -/
def State.rtcLoadValue (s : State) (n : Nat) : Nat × Nat :=
  match s.rtc.seconds with
  | none => (0, 0)
  | some x =>
    let t := x + (s.reg (Pg.tmb n) Rg.TMB_UTC_OFS).toInt
    if s.rtc.lost ∨ t < 0 then (0, 0) else (t.toNat, s.rtc.subsec * 1000000000 / 32768)

/-- TMB0, TMB2 or TMB3 enters STARTING (spec/15 R405, R406). -/
def State.tmbStarting (s : State) (n : Nat) : State :=
  let p := Pg.tmb n
  let t := s.tmb n
  let manual := s.flag p Rg.TMB_CTRL 0
  let t1 := { t with manual := manual, hold := t.hold && !manual, unset := false }
  if s.flag p Rg.TMB_SET_NS 31 then
    let v : Nat := (s.reg64 p Rg.TMB_SET_SEC_LO * 1000000000 + s.fld p Rg.TMB_SET_NS 0 30) * 2 ^ 32
    ((s.setTmb n (t1.setValue (v : Int))).setReg p Rg.TMB_SET_NS (setBit (s.reg p Rg.TMB_SET_NS) 31 false)).stepped n
  else if t.unset then
    let v := s.rtcLoadValue n
    s.setTmb n { t1 with sec := v.1, ns := v.2, frac := 0, locked := false, good := 0 }
  else s.setTmb n t1

/-- A STOP of a time base's page clears LOCKED (spec/15 R402). -/
def State.tmbStopping (s : State) (n : Nat) : State := s.setTmb n { s.tmb n with locked := false, good := 0 }

/-- A read of TMB_NOW_NS latches SEC and FRAC in the requester's bank (spec/15 R398). -/
def State.nowLatch (s : State) (b n : Nat) : State :=
  let t := s.tmb n
  let p := Pg.tmb n
  ((s.setBreg b p Rg.TMB_NOW_SEC_LO (wd t.sec)).setBreg b p Rg.TMB_NOW_SEC_HI (wd (t.sec / 2 ^ 32))).setBreg b p
    Rg.TMB_NOW_FRAC (wd t.frac)

/-- A capture of all four time bases into the registers of page `n` (spec/15 R417). -/
def State.capture (s : State) (n : Nat) (w : Word) : State :=
  if bit w 0 then
    (List.range 4).foldl (fun a k =>
      let t := a.tmb k
      let p := Pg.tmb n
      (((a.setReg p (Rg.TMB_CAP_NS + 16 * k) (wd t.ns)).setReg p (Rg.TMB_CAP_SEC_LO + 16 * k) (wd t.sec)).setReg p
        (Rg.TMB_CAP_SEC_HI + 16 * k) (wd (t.sec / 2 ^ 32))).setReg p (Rg.TMB_CAP_FRAC + 16 * k) (wd t.frac)) s
  else s

/-- A stamp word of time base `n` for the instant `now + shift` ns, NS truncated (spec/15 R399). -/
def State.stampAt (s : State) (n : Nat) (shift : Int) : Nat :=
  let t := (s.tmb n).setValue (((s.tmb n).value : Int) + shift)
  t.ns + n * 2 ^ 30 + t.sec % 2 ^ 32 * 2 ^ 32

/-- TMB_STAT. -/
def State.tmbStat (s : State) (n : Nat) : Word :=
  let t := s.tmb n
  if n = 1 then 0 else wd (t.locked.toNat + 2 * t.hold.toNat + 4 * t.limit.toNat)

-- The real-time clock (spec/15 R420 to R425)

/-- RTC_TIME. -/
def RtcSt.time (r : RtcSt) : Word := wd (r.subsec + r.sec * 2 ^ 15 + r.min * 2 ^ 21 + r.hour * 2 ^ 27)

/-- RTC_DATE. -/
def RtcSt.date (r : RtcSt) : Word := wd (r.year + r.month * 2 ^ 12 + r.day * 2 ^ 16 + r.weekday * 2 ^ 21)

/-- RTC_STAT. -/
def RtcSt.stat (r : RtcSt) : Word :=
  wd (r.loadBusy.toNat + 2 * r.nudge.isSome.toNat + 4 * r.lost.toNat + 8 * r.xtalStop.toNat)

/-- A day carry (spec/15 R424). -/
def RtcSt.nextDay (r : RtcSt) : RtcSt :=
  let r1 := { r with weekday := if r.weekday = 6 ∨ r.weekday = 7 then 0 else r.weekday + 1 }
  if r.day < monthLen r.year r.month then { r1 with day := r.day + 1 }
  else if r.month = 12 ∨ r.month = 15 then { r1 with day := 1, month := 1, year := (r.year + 1) % 4096 }
  else { r1 with day := 1, month := r.month + 1 }

/-- The carry into SEC and what follows from it (spec/15 R424). -/
def RtcSt.carry (r : RtcSt) : RtcSt :=
  if r.sec ≠ 59 ∧ r.sec ≠ 63 then { r with sec := r.sec + 1 }
  else
    let r1 := { r with sec := 0 }
    if r.min ≠ 59 ∧ r.min ≠ 63 then { r1 with min := r.min + 1 }
    else
      let r2 := { r1 with min := 0 }
      if r.hour ≠ 23 ∧ r.hour ≠ 31 then { r2 with hour := r.hour + 1 } else { r2 with hour := 0 }.nextDay

/-- A wrap of SUBSEC without a nudge that waits. -/
def RtcSt.wrap (r : RtcSt) : RtcSt :=
  if r.nudge.isNone && !r.xtalStop then { r with subsec := 0, phase := 0 }.carry else r

/-- A wrap of SUBSEC at which the nudge is applied (spec/15 R423). -/
def RtcSt.nudged (r : RtcSt) : RtcSt :=
  match r.nudge with
  | none => r
  | some k =>
    if r.xtalStop then r
    else if 0 ≤ k then { r with subsec := k.toNat, phase := 0, nudge := none }.carry
    else { r with subsec := (32768 + k).toNat, phase := 0, nudge := none }

/-- The load is applied at the third crystal edge (spec/15 R422). -/
def RtcSt.loaded (r : RtcSt) (t d : Word) : RtcSt :=
  if r.loadBusy && !r.xtalStop then
    { r with phase := 0, subsec := bf t 0 15, sec := bf t 15 6, min := bf t 21 6, hour := bf t 27 5, year := bf d 0 12,
             month := bf d 12 4, day := bf d 16 5, weekday := bf d 21 3, loadBusy := false, nudge := none, lost := false }
  else r

/-- A write of RTC_NUDGE (spec/15 R423). -/
def State.nudgeWrite (s : State) (w : Word) : State :=
  if s.rtc.nudge.isSome then s
  else
    let k := clampI (-16384) 16384 (signed 16 w.toNat)
    { s.setReg Pg.rtc Rg.RTC_NUDGE (wd (unsigned 16 k)) with rtc := { s.rtc with nudge := some k } }

/-- A write of RTC_CTRL (spec/15 R422). -/
def State.rtcCtrl (s : State) (w : Word) : State :=
  if bit w 0 then { s with rtc := { s.rtc with loadBusy := true } } else s

/-- SUBSEC counts the crystal while 4 ns pass; its wrap is an event of its own (log entry 1). -/
def RtcSt.edge (r : RtcSt) : RtcSt :=
  if r.xtalStop then r
  else
    let p := r.phase + 4 * 32768
    if p < 1000000000 then { r with phase := p }
    else if r.subsec < 32767 then { r with phase := p - 1000000000, subsec := r.subsec + 1 } else r

end Sys2Proof.Machine
end

