-- ==== Sys2Proof/Machine/FrameOps.lean ====
section
/-! DEFINITION. Frames between ports and queues: what floor ports, riser ports and CAN channels share (spec/16 R431 to
R436, spec/14 R392, spec/17 R452). -/

namespace Sys2Proof.Machine

/-- The FCS of a frame (spec/16 R429, spec/13 R357): its CRC-32, the low byte first on the wire. -/
def fcsOf (b : List Byte) : List Byte := leBytes 4 (crc32 b).toNat

/-- What stands before a frame's last four bytes. -/
def fcsBody (b : List Byte) : List Byte := b.take (b.length - 4)

/-- The last four bytes are the FCS of the rest. -/
def fcsGood (b : List Byte) : Bool := decide (4 ≤ b.length) && b.drop (b.length - 4) == fcsOf (fcsBody b)

/-- They are the inverse of that FCS: the frame is poisoned (spec/14 R382). -/
def fcsPoison (b : List Byte) : Bool := decide (4 ≤ b.length) && b.drop (b.length - 4) == (fcsOf (fcsBody b)).map (fun x => ~~~x)

/-- A frame as a MAC sends it: padded to 60 bytes, with its FCS (spec/16 R429). -/
def macFrame (b : List Byte) : List Byte :=
  let f := b ++ List.replicate (60 - b.length) 0
  f ++ fcsOf f

/-- The glove of a VLAN in the map of a page: the lowest-numbered valid entry with the VID (spec/16 R430, spec/14 R392). -/
def State.vmapGlove (s : State) (page vid : Nat) : Option Nat :=
  ((List.range 64).find? (fun i => bit (s.reg page (0x100 + 4 * i)) 12 && s.fld page (0x100 + 4 * i) 0 12 == vid)).map
    (fun i => s.fld page (0x100 + 4 * i) 16 6)

/-- The receive queue of a glove for a source page. -/
def State.rxQueue (s : State) (page g : Nat) : Option Nat :=
  (s.queuesWith (fun q x => x.kind == 3 && bf x.arg5 0 8 == page && s.queueOwner q == g)).head?

/-- The buffer of the queue's next ring position (spec/16 R432). -/
def Queue.rxBuf (x : Queue) : Nat :=
  x.arg6.toNat + 2 ^ 32 * x.arg7.toNat + x.hw % x.n * 2 ^ bf x.arg5 16 4

/-- The queue takes one frame of `n` bytes now (spec/16 R430, spec/04 R109). -/
def State.rxRoom (s : State) (q n : Nat) : Bool :=
  let x := s.queue q
  s.canPost q && decide (n ≤ 2 ^ bf x.arg5 16 4) && s.memOk (s.queueOwner q) x.rxBuf (2 ^ bf x.arg5 16 4)

/-- Bytes go into the buffer and then the entry into the ring; `f` gives the entry for a PHASE. -/
def State.rxPut (s : State) (q : Nat) (b : List Byte) (f : Bool → List Byte) : State :=
  (s.store (s.queue q).rxBuf b).post q f

/-- A receive entry of an Ethernet source (spec/16 R432). -/
def rxEntry (len vid pcp flags rsrc stamp : Nat) (phase : Bool) : List Byte :=
  leBytes 2 len ++ leBytes 2 (vid + pcp * 4096 + phase.toNat * 32768) ++ leBytes 1 flags ++ leBytes 1 rsrc ++ leBytes 2 0
    ++ leBytes 8 stamp ++ leBytes 16 0

/-- An Ethernet frame without its FCS, taken apart: addresses, tag, and the rest from the EtherType. -/
structure Eth where
  dest : List Byte
  src : List Byte
  tagged : Bool
  vid : Nat
  pcp : Nat
  rest : List Byte
  deriving DecidableEq, Repr

/-- Takes a frame apart (spec/16 R429). -/
def Eth.read (b : List Byte) : Eth :=
  let tagged := sliceB b 12 2 == [0x81, 0x00]
  let tci := beNat (sliceB b 14 2)
  { dest := b.take 6, src := (b.drop 6).take 6, tagged := tagged, vid := if tagged then tci % 4096 else 0,
    pcp := if tagged then tci / 8192 else 0, rest := b.drop (if tagged then 16 else 12) }

/-- The frame as it is delivered, without its tag. -/
def Eth.bytes (e : Eth) : List Byte := e.dest ++ e.src ++ e.rest

/-- The EtherType. -/
def Eth.etype (e : Eth) : Nat := beNat (sliceB e.rest 0 2)

/-- The payload after the EtherType. -/
def Eth.payload (e : Eth) : List Byte := e.rest.drop 2

/-- The broadcast address. -/
def isBroadcast (a : List Byte) : Bool := a == List.replicate 6 0xFF

-- Transmit entries (spec/16 R433)

/-- A transmit entry. `clean`: its reserved fields are zero. -/
structure TxEntry where
  tag : Word
  len : Nat
  vlan : Word
  buf : Nat
  launch : Bool
  lbase : Nat
  dest : Nat
  lsec : Nat
  lns : Nat
  clean : Bool
  deriving DecidableEq, Repr

/-- Reads a transmit entry. -/
def TxEntry.read (b : List Byte) : TxEntry :=
  let fl := getLE b 0x10 1
  { tag := wd (getLE b 0 4), len := getLE b 4 2, vlan := wd (getLE b 6 2), buf := getLE b 8 8, launch := fl % 2 == 1,
    lbase := fl / 2 % 4, dest := getLE b 0x11 1, lsec := getLE b 0x14 4, lns := getLE b 0x18 4 % 2 ^ 30,
    clean := decide (fl / 8 = 0) && decide (getLE b 0x12 2 = 0) && decide (getLE b 0x18 4 / 2 ^ 30 = 0)
      && decide (getLE b 0x1C 4 = 0) }

/-- TAGGED. -/
def TxEntry.tagged (e : TxEntry) : Bool := bit e.vlan 15
/-- VID. -/
def TxEntry.vid (e : TxEntry) : Nat := bf e.vlan 0 12
/-- Bytes on the wire with tag and FCS. -/
def TxEntry.wire (e : TxEntry) : Nat := e.len + 4 + 4 * e.tagged.toNat

/-- The entry breaks a rule of its format (spec/16 R436). -/
def TxEntry.bad (e : TxEntry) : Bool := decide (9600 < e.wire) || decide (e.len < 14) || !e.clean

/-- The frame as it leaves, without FCS: tag inserted, padded to 60 bytes (spec/16 R429, R433). -/
def TxEntry.frame (e : TxEntry) (b : List Byte) : List Byte :=
  let tag := if e.tagged then [0x81, 0x00] ++ beBytes 2 (bf e.vlan 12 3 * 8192 + e.vid) else []
  let f := b.take 12 ++ tag ++ b.drop 12
  f ++ List.replicate (60 - f.length) 0

/-- Δ = L − now in ns, the seconds in serial arithmetic (spec/15 R413). -/
def State.launchDelta (s : State) (e : TxEntry) : Int :=
  let t := s.tmb e.lbase
  signed 32 (e.lsec + 2 ^ 32 - t.sec % 2 ^ 32) * 1000000000 + e.lns - t.ns

/-- What becomes of a launch (spec/15 R413). -/
inductive Launch
  | far | hold | now | lateDrop | lateSend
  deriving DecidableEq, Repr

/-- The judgement of spec/15 R413. -/
def State.judge (s : State) (e : TxEntry) : Launch :=
  let d := s.launchDelta e
  let w := s.reg (Pg.tmb e.lbase) Rg.TMB_LATE_WIN
  if 1000000000 < d then .far
  else if 0 ≤ d then .hold
  else if -d ≤ (bf w 0 20 * 1000 : Nat) then .now
  else if bit w 31 then .lateSend else .lateDrop

/-- The launch counters of a time base count frames of the glove that owns its page (spec/15 R413). -/
def State.countLaunch (s : State) (g : Nat) (e : TxEntry) (l : Launch) : State :=
  let p := Pg.tmb e.lbase
  if s.owner p = g then
    match l with
    | .far => s.bump p Rg.TMB_LAUNCH_FAR
    | .lateDrop => let s1 := s.bump p Rg.TMB_LATE_DROP; if e.lbase = 1 then s1 else s1.raiseSrc p 3
    | .lateSend => s.bump p Rg.TMB_LATE_SENT
    | _ => s
  else s

-- Transmit completions (spec/16 R436)

/-- A transmit completion can be posted now. -/
def State.owedFits (s : State) (o : Owed) : Bool :=
  (s.queue o.pair).kind == 1 && s.queueOwner o.pair == o.glove && s.canPost o.pair

/-- Posts a transmit completion. -/
def State.postOwed (s : State) (o : Owed) : State :=
  s.post o.pair (fun ph => patchB (s.entryBytes o.handle o.status 3 (wd o.stamp) (wd (o.stamp / 2 ^ 32)) (wd o.len) o.tag) 7
    [if ph then 0x80 else 0])

/-- Transmit completions that waited are posted where there is space, in order for each queue (spec/04 R107). Between them and
the completions that slots hold for the same queue the spec gives no order: they come first (DESIGN CHOICE, log entry 71). -/
def State.flushOwed (s : State) : State :=
  s.cmd.owed.foldl (fun a o =>
    if (a.cmd.owed.find? (fun k => k.pair == o.pair)) == some o && a.owedFits o then
      let b := a.postOwed o
      { b with cmd := { b.cmd with owed := b.cmd.owed.erase o } }
    else a) s

/-- A transmit entry completes; a completion that has to wait has tried its queue. -/
def State.txDone (s : State) (q g : Nat) (pair : Option Nat) (status stamp len : Nat) (tag : Word) : State :=
  match pair with
  | none => s
  | some k =>
    let o : Owed := ⟨k, g, q, status, stamp, len, tag⟩
    let s1 := { s with cmd := { s.cmd with owed := s.cmd.owed ++ [o] } }.flushOwed
    if s1.cmd.owed.contains o && (s1.queue k).kind == 1 && s1.queueOwner k == g then s1.ringTried k else s1

/-- The transmit queues of a source page, in the round-robin order after queue `turn` (spec/16 R435). -/
def State.txQueues (s : State) (page turn : Nat) : List Nat :=
  let l := s.queuesWith (fun _ x => x.kind == 4 && bf x.arg5 0 8 == page)
  l.filter (fun q => decide (turn < q)) ++ l.filter (fun q => decide (q ≤ turn))

end Sys2Proof.Machine
end

