-- ==== Sys2Proof/Machine/CanOps.lean ====
section
/-! DEFINITION. CAN FD channels (spec/17): message RAM, receiving, arbitration and transmission, errors, time-triggered
operation and rate detection. -/

namespace Sys2Proof.Machine

/-- CAN_CFG of a channel. -/
def State.canCfg (s : State) (c : Nat) : Word := s.reg (Pg.can c) Rg.CAN_CFG

/-- CAN_CFG.TT: 1 time master, 2 time slave. -/
def State.canTt (s : State) (c : Nat) : Nat := bf (s.canCfg c) 16 2

/-- CAN_CFG.MODE: 1 listen-only, 2 internal loopback. -/
def State.canMode (s : State) (c : Nat) : Nat := bf (s.canCfg c) 0 2

/-- Bytes of a frame's data by its DLC (spec/17 R443). -/
def dlcLen (dlc : Nat) (fdf : Bool) : Nat :=
  if dlc ≤ 8 ∨ !fdf then min dlc 8
  else match dlc with
    | 9 => 12 | 10 => 16 | 11 => 20 | 12 => 24 | 13 => 32 | 14 => 48 | _ => 64

/-- The data bytes of a frame; a remote frame has none. -/
def canLen (f : CanFrame) : Nat := if f.rtr then 0 else dlcLen f.dlc f.fdf

/-- The ID word of an element (spec/17 R447): a standard identifier lies in bits 28 to 18. -/
def canIdWord (f : CanFrame) : Nat := if f.xtd then f.id + 2 ^ 29 else f.id * 2 ^ 18

/-- The control word of an element. -/
def canControl (f : CanFrame) : Nat :=
  f.dlc + 16 * f.fdf.toNat + 32 * f.brs.toNat + 64 * f.esi.toNat + 128 * f.rtr.toNat

/-- A frame of an ID word, a control word and data. -/
def canFrameOf (idw ctl : Nat) (data : List Byte) : CanFrame :=
  let x := idw / 2 ^ 29 % 2 == 1
  let f : CanFrame := { id := if x then idw % 2 ^ 29 else idw / 2 ^ 18 % 2 ^ 11, xtd := x, dlc := ctl % 16,
                        fdf := ctl / 16 % 2 == 1, brs := ctl / 32 % 2 == 1, rtr := ctl / 128 % 2 == 1, data := [] }
  { f with data := data.take (canLen f) }

/-- The arbitration field as a number: the lower wins (ISO 11898-1). -/
def canArb (f : CanFrame) : Nat :=
  let rtr := (f.rtr && !f.fdf).toNat
  if f.xtd then f.id / 2 ^ 18 * 2 ^ 21 + 2 ^ 20 + 2 ^ 19 + f.id % 2 ^ 18 * 2 + rtr else f.id * 2 ^ 21 + rtr * 2 ^ 20

/-- Reads `n` bytes of message RAM. -/
def CanCh.rd (x : CanCh) (a n : Nat) : List Byte := (List.range n).map (fun k => Sparse.get (dflt 0) x.ram (a + k))

/-- A word of the `n` bytes at `a` holds an uncorrectable error (spec/17 R463). -/
def CanCh.lostIn (x : CanCh) (a n : Nat) : Bool := x.spoilt.any (fun w => decide (a / 4 ≤ w) && decide (w < (a + n + 3) / 4))

/-- The error goes with the element that is discarded. -/
def CanCh.forget (x : CanCh) (a n : Nat) : CanCh :=
  { x with spoilt := x.spoilt.filter (fun w => !(decide (a / 4 ≤ w) && decide (w < (a + n + 3) / 4))) }

/-- Writes message RAM: the words written hold no error any more. -/
def CanCh.wr (x : CanCh) (a : Nat) (b : List Byte) : CanCh := { x.forget a b.length with ram := wrBytes x.ram a b }

/-- The element of dedicated buffer `n`, or of an element of FIFO 0 or 1 (spec/17 R446). -/
def bufAt (n : Nat) : Nat := 128 * n
/-- The element of a FIFO. -/
def fifoAt (one : Bool) (n : Nat) : Nat := (if one then 0x4000 else 0x2000) + 128 * n

/-- Buffer `n` is a transmit buffer (spec/17 R448). -/
def State.canIsTx (s : State) (c n : Nat) : Bool := s.flag (Pg.can c) (Rg.CAN_BUFCFG + 4 * (n / 32)) (n % 32)

/-- Sets bit `n` of a pair of registers. -/
def State.canMark (s : State) (c off n : Nat) : State :=
  s.setReg (Pg.can c) (off + 4 * (n / 32)) (s.reg (Pg.can c) (off + 4 * (n / 32)) ||| oneBit (n % 32))

/-- Fresh free bytes (log entry 7). -/
def State.freeBytes (s : State) (n : Nat) : List Byte × State :=
  ((List.range n).map (fun k => BitVec.ofNat 8 (Config.freeNat (s.freeCtr + k))), { s with freeCtr := s.freeCtr + n })

/-- A received element is written whole (spec/17 R447, R449). What stands behind the frame's data the spec leaves open. -/
def State.canElement (s : State) (c a : Nat) (f : CanFrame) (stamp : Nat) : State :=
  let r := s.freeBytes (64 - (canLen f))
  let x := r.2.canOf c
  r.2.setCan c (x.wr a (leBytes 4 (canIdWord f) ++ leBytes 4 (canControl f) ++ leBytes 8 stamp ++ f.data.take (canLen f) ++ r.1))

-- FIFOs (spec/17 R451, R452)

/-- FIFO 0 or 1. -/
def CanCh.fifo (x : CanCh) (one : Bool) : CanFifo := if one then x.fifo1 else x.fifo0
/-- Sets a FIFO. -/
def CanCh.setFifo (x : CanCh) (one : Bool) (f : CanFifo) : CanCh := if one then { x with fifo1 := f } else { x with fifo0 := f }

/-- The queue that a FIFO is bound to. -/
def State.canBound (s : State) (c : Nat) (one : Bool) : Option Nat :=
  (s.queuesWith (fun _ x => x.kind == 3 && bf x.arg5 0 8 == Pg.can c && bit x.arg5 8 == one)).head?

/-- A receive entry of a CAN source (spec/17 R452). -/
def canEntry (one : Bool) (e : List Byte) (len : Nat) (phase : Bool) : List Byte :=
  leBytes 2 len ++ leBytes 2 (one.toNat + 32768 * phase.toNat) ++ sliceB e 0 8 ++ leBytes 4 0 ++ sliceB e 8 8 ++ leBytes 8 0

/-- The oldest element moves to the bound queue, if the queue is of the page's owner and has room; one with an uncorrectable error is
discarded (spec/17 R463). -/
def State.canMove (s : State) (c : Nat) (one : Bool) : State :=
  match s.canBound c one with
  | none => s
  | some q =>
    let x := s.canOf c
    let f := x.fifo one
    let a := fifoAt one f.get
    if decide (0 < f.fill) && x.lostIn a 80 then
      (s.setCan c ((x.forget a 80).setFifo one { f with fill := f.fill - 1, get := (f.get + 1) % 64 })).raiseSrc (Pg.can c) 4
    else if decide (0 < f.fill) && s.queueOwner q == s.owner (Pg.can c) && s.rxRoom q 64 then
      let e := x.rd a 80
      let fr := canFrameOf (getLE e 0 4) (getLE e 4 4) (e.drop 16)
      let s1 := s.setCan c (x.setFifo one { f with fill := f.fill - 1, get := (f.get + 1) % 64 })
      s1.rxPut q fr.data (canEntry one e (canLen fr))
    else if 0 < f.fill then s.queueChecked q
    else s

/-- Every bound FIFO is drained while its queue has room. -/
def State.canDrain (s : State) : State :=
  s.can.foldl (fun a e =>
    let b := if 0 < e.2.fifo0.fill then Nat.repeat (fun t => t.canMove e.1 false) e.2.fifo0.fill a else a
    if 0 < e.2.fifo1.fill then Nat.repeat (fun t => t.canMove e.1 true) e.2.fifo1.fill b else b) s

/-- An element that finds no place is counted (spec/17 R451, R463). -/
def State.canLost (s : State) (c : Nat) : State := (s.bump (Pg.can c) Rg.CAN_RX_LOST).raiseSrc (Pg.can c) 2

/-- A frame goes to a FIFO (spec/17 R451). -/
def State.canToFifo (s : State) (c : Nat) (one : Bool) (f : CanFrame) (stamp : Nat) : State :=
  let x := s.canOf c
  let q := x.fifo one
  let put (a : State) (g : CanFifo) : State :=
    let b := a.setCan c ((a.canOf c).setFifo one { g with fill := g.fill + 1, put := (g.put + 1) % 64 })
    ((b.canElement c (fifoAt one g.put) f stamp).bump (Pg.can c) Rg.CAN_RX_FRAMES)
  if q.fill < 64 then (put s q).canMove c one
  else match s.canBound c one with
    | some k => (s.canLost c).dropEntry k
    | none =>
      if bit (s.canCfg c) (20 + one.toNat) then put (s.canLost c) { q with fill := q.fill - 1, get := (q.get + 1) % 64 }
      else s.canLost c

/-- A frame goes to a dedicated buffer: the element first, then NEWDAT (spec/17 R449). -/
def State.canToBuf (s : State) (c n : Nat) (f : CanFrame) (stamp : Nat) : State :=
  if s.canIsTx c n then s.bump (Pg.can c) Rg.CAN_RX_NOMATCH
  else
    let s1 := s.canElement c (bufAt n) f stamp
    let s2 := if s1.flag (Pg.can c) (Rg.CAN_NEWDAT + 4 * (n / 32)) (n % 32) then s1.canMark c Rg.CAN_MSGLOST n else s1
    (s2.canMark c Rg.CAN_NEWDAT n).bump (Pg.can c) Rg.CAN_RX_FRAMES

/-- The filter entries that cannot be read (spec/17 R463). -/
def CanCh.badFilters (x : CanCh) : List Nat := (List.range 256).filter (fun i => x.lostIn (0x6000 + 16 * i) 12)

/-- The first valid filter entry that a frame matches: its DEST and BUF (spec/17 R448); entries in `bad` count as not VALID
(R463). -/
def CanCh.filter (x : CanCh) (f : CanFrame) (bad : List Nat) : Option (Nat × Nat) :=
  let id := (canIdWord f) % 2 ^ 29
  ((List.range 256).find? (fun i => !bad.contains i &&
    (let a := 0x6000 + 16 * i
    let w0 := leNat (x.rd a 4)
    let m := leNat (x.rd (a + 4) 4) % 2 ^ 29
    let w2 := leNat (x.rd (a + 8) 4)
    decide (w2 / 2 ^ 31 = 1) && (id &&& m) == (w0 % 2 ^ 29 &&& m) && (w0 / 2 ^ 29 % 2 == 1) == f.xtd))).map (fun i =>
      let w2 := leNat (x.rd (0x6000 + 16 * i + 8) 4)
      (w2 % 4, w2 / 256 % 64))

-- Receiving

/-- The SOF stamp of a frame that started `ago` ns ago, in steps of 25 ns (spec/17 R453; log entry 154). -/
def State.canStamp (s : State) (c ago : Nat) : Nat :=
  let t := s.stampAt (bf (s.canCfg c) 6 2) (-((ago * 2 ^ 32 : Nat) : Int))
  t - t % 2 ^ 30 % 25

/-- The frame carries the channel's reference identifier (spec/17 R455, R456). -/
def State.canIsRef (s : State) (c : Nat) (f : CanFrame) : Bool :=
  let w := s.reg (Pg.can c) Rg.CAN_TT_REF
  s.canTt c != 0 && f.xtd == bit w 29 && (canIdWord f) % 2 ^ 29 == bf w 0 29

/-- A reference message starts a cycle (spec/17 R455, R456, R457). -/
def State.canCycle (s : State) (c stamp count : Nat) : State :=
  let x := s.canOf c
  s.setCan c { x with ttStamp := stamp, ttCount := count % 64, ttSync := x.ttSync || s.canTt c == 2, refAt := true,
                      tried := [], ready := [] }

/-- What a received reference message does besides being received. -/
def State.canRefIn (s : State) (c : Nat) (f : CanFrame) (stamp : Nat) : State :=
  if s.canIsRef c f then
    if s.canTt c = 2 then s.canCycle c stamp (f.data.headD 0).toNat
    else s.setCan c { s.canOf c with ttClash := true }
  else s

/-- The identifier as a lease group's address holds it. -/
def canNode (f : CanFrame) : Nat := f.id + 2 ^ 31 * f.xtd.toNat

/-- The frame answers a lease group of the channel (spec/17 R454). -/
def State.canLeaseId (s : State) (c : Nat) (f : CanFrame) : Bool :=
  s.running Pg.lse && s.lse.gt.any (fun e => e.2.can && e.2.port == c && e.2.addr1 % 2 ^ 29 == f.id
    && (e.2.addr1 / 2 ^ 31 == 1) == f.xtd)

/-- REC after a frame received without error (ISO 11898-1; above 127 it takes a value of 119 to 127, which is open). -/
def State.canRecDown (s : State) (c : Nat) : State :=
  let x := s.canOf c
  if s.canMode c = 1 ∨ x.rxc = 0 then s
  else if x.rxc ≤ 127 then s.setCan c { x with rxc := x.rxc - 1 }
  else let r := s.draw; r.2.setCan c { x with rxc := 119 + r.1 % 9 }

/-- The frame goes where the filters send it; `bad`: filter entries that cannot be read. -/
def State.canAccept (s : State) (c : Nat) (f : CanFrame) (stamp : Nat) (bad : List Nat) : State :=
  if s.canLeaseId c f then (s.leaseAnswer true c (canNode f) 0 f.data).bump (Pg.can c) Rg.CAN_RX_FRAMES
  else match (s.canOf c).filter f bad with
    | none => s.bump (Pg.can c) Rg.CAN_RX_NOMATCH
    | some (0, _) => s
    | some (1, _) => s.canToFifo c false f stamp
    | some (2, _) => s.canToFifo c true f stamp
    | some (_, n) => s.canToBuf c n f stamp

/-- The channel takes part in the bus. -/
def State.canLive (s : State) (c : Nat) : Bool :=
  s.portsOn && (s.running (Pg.can c) || s.cur (Pg.can c) == 3) && !(s.canOf c).busOff

-- Rate detection (spec/17 R460)

/-- The candidates that are not zero, in index order. -/
def State.canRates (s : State) (c : Nat) : List Nat :=
  (List.range 8).filter (fun k => decide (s.reg (Pg.can c) (Rg.CAN_ABD + 4 * k) ≠ 0))

/-- A bit-timing value with each field at least its minimum (spec/17 R445, R462). -/
def canTiming (w : Word) : Word :=
  let a := if bf w 16 8 < 1 then setBf w 16 8 1 else w
  if bf a 24 7 < 1 then setBf a 24 7 1 else a

/-- A detection hears a frame without error, an FD frame up to its BRS bit: the second in a row confirms the candidate. -/
def State.canHeard (s : State) (c : Nat) (d : CanDetect) : State :=
  let x := s.canOf c
  let n := Sparse.get (dflt 0) d.frames d.cand + 1
  if 1 ≤ d.good then
    let s1 := s.setCan c { x with detect := none }
    let w := s1.reg (Pg.can c) (Rg.CAN_ABD + 4 * d.cand)
    let s2 := if d.apply then s1.setReg (Pg.can c) Rg.CAN_NBT (canTiming w) else s1
    s2.complete d.slot 0 (wd d.cand) (wd n) (wd d.errors)
  else s.setCan c { x with detect := some { d with frames := Sparse.set (dflt 0) d.frames d.cand n, good := d.good + 1 } }

/-- A detection hears an error: one in the data phase of an FD frame comes after its BRS bit. -/
def State.canUnheard (s : State) (c : Nat) (d : CanDetect) (dataPhase : Bool) : State :=
  if dataPhase then s.canHeard c d
  else s.setCan c { s.canOf c with detect := some { d with errors := d.errors + 1, good := 0 } }

-- Receiving

/-- A frame arrives whole and without error; its start of frame was `ago` ns ago. Uncorrectable errors in the message RAM
(spec/17 R463): `ecc`, in the element, which is discarded; `bad`, in filter entries, beside those that stand in it already.
`inputs`: what it carries for points, if a field node sent it (spec/13 R351). A rate detection only listens (R460). -/
def State.canReceive (s : State) (c : Nat) (f : CanFrame) (ago : Nat) (ecc : Bool) (bad : List Nat) (inputs : List NodeInput) :
    State :=
  if s.canLive c && s.canMode c != 2 then
    let stamp := s.canStamp c ago
    let s1 := (s.canRecDown c).canRefIn c f stamp
    let l := bad ++ (s1.canOf c).badFilters
    let s2 := if ecc || !l.isEmpty then s1.raiseSrc (Pg.can c) 4 else s1
    if ecc then s2 else (s2.nodeInputs true c (canNode f) 0 inputs).canAccept c f stamp l
  else match (s.canOf c).detect with
    | some d => if s.portsOn then s.canHeard c d else s
    | none => s

/-- A reference message arrives. -/
def State.canReference (s : State) (c : Nat) (f : CanFrame) (ago : Nat) : State :=
  if s.canIsRef c f then s.canReceive c f ago false [] [] else s

/-- Two cycles without a reference, in bus-off too (spec/17 R456). -/
def State.canSyncLost (s : State) (c : Nat) : State :=
  let x := s.canOf c
  if s.canTt c = 2 ∧ x.ttSync ∧ s.portsOn ∧ (s.running (Pg.can c) ∨ s.cur (Pg.can c) = 3) then
    (s.setCan c { x with ttSync := false, refAt := false }).raiseSrc (Pg.can c) 3
  else s

-- Transmission (spec/17 R452, R453, R455, R457)

/-- The frame of a transmit buffer. -/
def CanCh.bufFrame (x : CanCh) (n : Nat) : CanFrame :=
  canFrameOf (leNat (x.rd (bufAt n) 4)) (leNat (x.rd (bufAt n + 4) 4)) (x.rd (bufAt n + 16) 64)

/-- ONESHOT or DAR applies to buffer `n`; TT_EN of buffer `n`. -/
def CanCh.bufBit (x : CanCh) (n i : Nat) : Bool := leNat (x.rd (bufAt n + 4) 4) / 2 ^ i % 2 == 1

/-- The buffer is time-triggered (spec/17 R457). -/
def State.canTimed (s : State) (c n : Nat) : Bool := s.canTt c != 0 && (s.canOf c).bufBit n 9

/-- A transmit entry of a CAN source (spec/17 R452). -/
structure CanTxe where
  tag : Word
  f : CanFrame
  oneshot : Bool
  buf : Nat
  clean : Bool
  deriving DecidableEq, Repr

/-- Reads the transmit entry at the head of a queue, with its data; the bytes of a buffer outside the queue's memory read
zero (spec/05 R118). -/
def State.canTxEntry (s : State) (q : Nat) : CanTxe :=
  let b := s.headEntry q
  let idw := getLE b 4 4
  let ctl := getLE b 8 4
  let buf := getLE b 0x10 8
  let n := canLen (canFrameOf idw ctl [])
  let data := if n = 0 then [] else if s.memOk (s.queueOwner q) buf n then s.load buf n else List.replicate n 0
  { tag := wd (getLE b 0 4), f := canFrameOf idw ctl data, oneshot := ctl / 256 % 2 == 1, buf := buf,
    clean := decide (idw / 2 ^ 30 = 0) && decide (ctl / 2 ^ 9 = 0) && decide (ctl / 64 % 2 = 0)
      && (idw / 2 ^ 29 % 2 == 1 || decide (idw % 2 ^ 18 = 0)) && decide (getLE b 0xC 4 = 0) && decide (getLE b 0x18 8 = 0) }

/-- The entry breaks a rule of spec/17 R452. -/
def State.canTxBad (s : State) (c : Nat) (e : CanTxe) : Bool :=
  !e.clean || (decide (8 < e.f.dlc) && !e.f.fdf) || (e.f.fdf && !bit (s.canCfg c) 2) || (e.f.rtr && e.f.fdf)

/-- The head entry of queue `q` completes. -/
def State.canTxEnd (s : State) (q status stamp : Nat) : State :=
  let e := s.canTxEntry q
  let pair := (s.queue q).pair
  (s.consume q).txDone q (s.queueOwner q) pair status stamp (canLen e.f) e.tag

/-- The stamp of this edge. -/
def State.canEdge (s : State) (c : Nat) : Nat := s.canStamp c 0

/-- What a head entry that is not offered completes with (spec/17 R452): of another glove than the page's, as sent; in bus-off; or
against the rules. -/
def State.canRefused (s : State) (c q : Nat) : Option Nat :=
  if s.queueOwner q != s.owner (Pg.can c) then some 0
  else if (s.canOf c).busOff then some 0x202
  else if s.canTxBad c (s.canTxEntry q) then some St.arg
  else none

/-- Head entries that are not offered complete until one may be, at most `n` of them. -/
def State.canHeads (c q : Nat) : Nat → State → State
  | 0, s => s
  | n + 1, s =>
    if s.canTake q then
      match s.canRefused c q with
      | none => s
      | some st =>
        let s1 := s.canTxEnd q st (s.canEdge c)
        State.canHeads c q n (if s.queueOwner q != s.owner (Pg.can c) then s1.violation (s.queueOwner q) else s1)
    else s.ringTried q

/-- The transmit queues of the channel, in ascending QID order. -/
def State.canQueues (s : State) (c : Nat) : List Nat := s.queuesWith (fun _ x => x.kind == 4 && bf x.arg5 0 8 == Pg.can c)

/-- The head entries of a queue that are not offered complete. -/
def State.canHead (s : State) (c q : Nat) : State := State.canHeads c q ((s.queue q).count + 1) s

/-- The number of the master's cycle (spec/17 R455). -/
def State.canCycleNo (s : State) (c : Nat) : Nat :=
  (s.tmb0.sec * 1000000 + s.tmb0.ns / 1000) / s.fld (Pg.can c) Rg.CAN_TT_CYCLE 0 20

/-- The reference message. -/
def State.canRefFrame (s : State) (c : Nat) : CanFrame :=
  let w := s.reg (Pg.can c) Rg.CAN_TT_REF
  { canFrameOf (w.toNat % 2 ^ 30) 1 [] with data := leBytes 1 (s.canCycleNo c % 64) }

/-- The frames that may be offered, each with its place among equal fields (spec/17 R453; the reference message stands
between the lease frames and the buffers, log entry 26). -/
def State.canCands (s : State) (c : Nat) : List (CanSrc × CanFrame) :=
  let x := s.canOf c
  let lease := if bit (s.canCfg c) 2 then x.lease.map (fun f => (CanSrc.lease f, f)) else []
  let ref := if x.refPend then [(CanSrc.reference, s.canRefFrame c)] else []
  let bufs := (x.txPend.filter (fun n => s.canIsTx c n && (if s.canTimed c n then x.ready.contains n else true)
      && (bit (s.canCfg c) 2 || !(x.bufFrame n).fdf))).map (fun n => (CanSrc.buf n, x.bufFrame n))
  let qs := ((s.canQueues c).filter (fun q => s.canTake q)).map (fun q => (CanSrc.queue q, (s.canTxEntry q).f))
  lease ++ ref ++ bufs ++ qs

/-- The first candidate of the lowest field. -/
def lowestArb : List (CanSrc × CanFrame) → Option (CanSrc × CanFrame)
  | [] => none
  | a :: t =>
    match lowestArb t with
    | none => some a
    | some b => if (canArb b.2) < (canArb a.2) then some b else some a

/-- An uncorrectable error in the buffer element that is to be offered next: it is discarded (spec/17 R463). -/
def State.canSpoil (s : State) (c : Nat) : State :=
  if s.portsOn && s.running (Pg.can c) && (s.canOf c).offered.isNone && s.canMode c != 1 then
    match lowestArb (s.canCands c) with
    | some (.buf n, _) =>
      let x := s.canOf c
      (s.setCan c { x with txPend := delN x.txPend n, ready := delN x.ready n }).raiseSrc (Pg.can c) 4
    | _ => s
  else s

/-- The buffers whose frames wait and whose elements hold an uncorrectable error are discarded (spec/17 R463). -/
def State.canBufCheck (s : State) (c : Nat) : State :=
  let x := s.canOf c
  let bad := x.txPend.filter (fun n => x.lostIn (bufAt n) 128)
  if bad = [] then s
  else
    let y := { x with txPend := x.txPend.filter (fun n => !bad.contains n), ready := x.ready.filter (fun n => !bad.contains n) }
    (s.setCan c (bad.foldl (fun z n => z.forget (bufAt n) 128) y)).raiseSrc (Pg.can c) 4

/-- A start of frame is possible: the pending frame of the lowest field is offered (spec/17 R453). -/
def State.canArbitrate (s : State) (c : Nat) : State :=
  if s.portsOn && s.running (Pg.can c) && (s.canOf c).offered.isNone && s.canMode c != 1 then
    let s1 := (s.canQueues c).foldl (fun a q => a.canHead c q) (s.canBufCheck c)
    if (s1.canOf c).busOff then s1
    else match lowestArb (s1.canCands c) with
      | none => s1
      | some (src, f) =>
        let viol := match src with
          | .queue q => decide (0 < (canLen f)) && !s1.memOk (s1.queueOwner q) (s1.canTxEntry q).buf (canLen f)
          | _ => false
        let s2 := if viol then s1.violation (s1.owner (Pg.can c)) else s1
        s2.setCan c { s2.canOf c with offered := some src, frame := some { f with brs := f.brs && f.fdf && bit (s2.canCfg c) 3 },
                                      sof := s2.canEdge c }
  else s

/-- The frame that was offered is sent (spec/17 R453, R455, R457, R458). -/
def State.canSent (s : State) (c : Nat) : State :=
  let x := s.canOf c
  match x.offered, x.frame with
  | some src, some f =>
    if !s.canLive c then s
    else
      let s1 := s.setCan c { x with offered := none, frame := none, tec := x.tec - 1 }
      let s2 := (if s.canMode c = 2 then s1 else s1.emit (.can c f)).bump (Pg.can c) Rg.CAN_TX_FRAMES
      let s3 := match src with
        | .lease g => s2.setCan c { s2.canOf c with lease := (s2.canOf c).lease.erase g }
        | .late => s2
        | .reference =>
          (s2.setCan c { s2.canOf c with refPend := false }).canCycle c x.sof (f.data.headD 0).toNat
        | .buf n =>
          let y := (s2.canOf c).wr (bufAt n + 8) (leBytes 8 x.sof)
          (s2.setCan c { y with txPend := delN y.txPend n, ready := delN y.ready n }).canMark c Rg.CAN_TXDONE n
        | .queue q => s2.canTxEnd q 0 x.sof
      if s.canMode c = 2 then (if s.canTt c = 2 then s3.canRefIn c f x.sof else s3).canAccept c f x.sof (s3.canOf c).badFilters
      else s3
  | _, _ => s

/-- The frame that was offered is not repeated: it fails (spec/17 R457, R459). -/
def State.canFail (s : State) (c : Nat) (src : CanSrc) : State :=
  let x := s.canOf c
  let dar := bit (s.canCfg c) 4
  match src with
  | .lease g => if dar then s.setCan c { x with lease := x.lease.erase g } else s
  | .reference | .late => s
  | .buf n =>
    if s.canTimed c n then (s.setCan c { x with ready := delN x.ready n }).bump (Pg.can c) Rg.CAN_TT_MISSED
    else if dar || x.bufBit n 8 then s.setCan c { x with txPend := delN x.txPend n } else s
  | .queue q => if dar || (s.canTxEntry q).oneshot then s.canTxEnd q 0x201 (s.canEdge c) else s

/-- What was offered is over without success. -/
def State.canUnoffer (s : State) (c : Nat) : State :=
  let x := s.canOf c
  match x.offered with
  | none => s
  | some src => (s.setCan c { x with offered := none, frame := none }).canFail c src

/-- Error-passive (spec/17 R458). -/
def CanCh.passive (x : CanCh) : Bool := decide (128 ≤ x.tec) || decide (128 ≤ x.rxc)

/-- The error counters take new values (spec/17 R458). -/
def State.canCounters (s : State) (c tec rxc : Nat) : State :=
  let x := s.canOf c
  let off := decide (255 < tec)
  let y := { x with tec := min tec 511, rxc := min rxc 255, busOff := x.busOff || off }
  let s1 := s.setCan c y
  let s2 := if y.passive && !x.passive then s1.raiseSrc (Pg.can c) 1 else s1
  if off && !x.busOff then
    ((s2.setCan c { s2.canOf c with recovering := false, offered := none, frame := none, lease := [] }).bump (Pg.can c)
      Rg.CAN_BUSOFFS).raiseSrc (Pg.can c) 0
  else s2

/-- TEC and REC after an error, as the fault confinement of ISO 11898-1 moves them (spec/17 R443, R458; log entry 155): a transmitter
adds 8 to TEC, and a receiver 1 to REC; each further event of the standard's list (a dominant bit right after the error flag, a bit
error within it, eight more dominant bits) adds 8; `excepted` is one of its two exceptions, in which TEC stays: an acknowledgement
error of an error-passive transmitter, and a stuff error within the arbitration field. -/
def CanCh.afterError (x : CanCh) (lec more : Nat) (excepted : Bool) : Nat × Nat :=
  let spared := excepted && ((lec == 3 && x.passive) || lec == 1)
  if x.offered.isSome then (x.tec + (if spared then 0 else 8) + 8 * more, x.rxc) else (x.tec, x.rxc + 1 + 8 * more)

/-- An error, a lost arbitration, or with `lec` = 0 a protocol exception (spec/17 R458, R459). A rate detection only counts errors
(R460). -/
def State.canError (s : State) (c lec : Nat) (dataPhase : Bool) (more : Nat) (excepted lostArb : Bool) : State :=
  let x := s.canOf c
  if !s.canLive c then
    match x.detect with
    | some d => if s.portsOn && lec != 0 && !lostArb then s.canUnheard c d dataPhase else s
    | none => s
  else if lostArb then s.canUnoffer c
  else if lec = 0 then
    if bit (s.canCfg c) 5 then s else (s.bump (Pg.can c) Rg.CAN_PEX).raiseSrc (Pg.can c) 5
  else
    let s1 := (s.setCan c { x with lec := lec, lecData := dataPhase }).bump (Pg.can c) Rg.CAN_ERR_FRAMES
    let s2 := s1.canUnoffer c
    let n := x.afterError lec more excepted
    if s.canMode c = 1 then s2 else s2.canCounters c n.1 n.2

/-- A write of CAN_TXREQ (spec/17 R453): only transmit buffers take a request. -/
def State.canTxReq (s : State) (c half : Nat) (w : Word) : State :=
  let x := s.canOf c
  let l := ((List.range 32).filter (fun i => bit w i)).map (fun i => i + 32 * half)
  let new := l.filter (fun n => s.canIsTx c n && !x.txPend.contains n)
  s.setCan c { x with txPend := (List.range 64).filter (fun n => x.txPend.contains n || new.contains n) }

/-- A write of CAN_TXCANCEL: a request whose frame has not started is withdrawn. -/
def State.canTxCancel (s : State) (c half : Nat) (w : Word) : State :=
  let x := s.canOf c
  s.setCan c { x with txPend := x.txPend.filter (fun n => !(n / 32 == half && bit w (n % 32) && x.offered != some (.buf n))) }

/-- A write of CAN_RXFn_ACK frees unbound elements up to the index read (spec/17 R451). -/
def State.canAck (s : State) (c : Nat) (one : Bool) (w : Word) : State :=
  let x := s.canOf c
  let f := x.fifo one
  let k := (bf w 0 6 + 64 - f.get) % 64
  if (s.canBound c one).isNone && decide (k < f.fill) then
    s.setCan c (x.setFifo one { f with fill := f.fill - (k + 1), get := (f.get + k + 1) % 64 })
  else s

/-- A write of CAN_CTRL (spec/17 R458). -/
def State.canRecoverWrite (s : State) (c : Nat) (w : Word) : State :=
  let x := s.canOf c
  if bit w 0 && x.busOff then s.setCan c { x with recovering := true } else s

/-- Bus-off recovery is complete; it completes only while the page is RUNNING (spec/17 R458, R464). -/
def State.canRecovered (s : State) (c : Nat) : State :=
  let x := s.canOf c
  if x.recovering && s.portsOn && s.running (Pg.can c) then
    s.setCan c { x with recovering := false, busOff := false, tec := 0, rxc := 0 }
  else s

/-- A cycle boundary of a time master (spec/17 R455): a reference message of the old cycle that is not sent is dropped and counted;
one on offer runs to its end and counts as missed too. -/
def State.canBoundary (s : State) (c : Nat) : State :=
  if s.portsOn && s.running (Pg.can c) && s.canTt c == 1 then
    let s1 := if (s.canOf c).refPend then s.bump (Pg.can c) Rg.CAN_TT_MISSED else s
    let x := s1.canOf c
    s1.setCan c { x with refPend := true, ttClash := false, refAt := false, tried := [], ready := [],
                         offered := if x.offered = some .reference then some .late else x.offered }
  else s

/-- TT_OFS after the cycle's reference: a time-triggered buffer is offered once (spec/17 R457). -/
def State.canTrigger (s : State) (c n : Nat) : State :=
  let x := s.canOf c
  if s.portsOn && s.running (Pg.can c) && s.canTimed c n && s.canIsTx c n && x.txPend.contains n && x.refAt
      && !x.tried.contains n then
    s.setCan c { x with tried := addN x.tried n, ready := addN x.ready n }
  else s

-- CAN_RATE_DETECT (spec/17 R460)

/-- CAN_RATE_DETECT. -/
def canRateDetectBody (c : Ctx) (s : State) : State :=
  let ch := c.f 0 0 3
  let dwell := c.f 1 0 16
  if dwell < 10 ∨ 10000 < dwell then s.fin c St.arg
  else if s.owner (Pg.can ch) != c.g then s.foreign c
  else match s.canRates ch with
    | [] => s.fin c St.arg
    | k :: _ =>
      if !s.stopped (Pg.can ch) then s.fin c St.state
      else if (s.canOf ch).detect.isSome then s.fin c St.busy
      else
        let d : CanDetect := { slot := c.slot, apply := c.b 0 8, dwell := dwell, total := (c.arg 2).toNat, cand := k }
        s.setCan ch { s.canOf ch with detect := some d }

/-- A candidate's dwell ends, and the next is tried, unless the total timeout has come. -/
def State.canDwell (s : State) (ch : Nat) (timeout : Bool) : State :=
  let x := s.canOf ch
  match x.detect with
  | none => s
  | some d =>
    if timeout then (s.setCan ch { x with detect := none }).complete d.slot 0x201 0xFF
    else
      let l := s.canRates ch
      let next := ((l.find? (fun k => decide (d.cand < k))).orElse (fun _ => l.head?)).getD d.cand
      s.setCan ch { x with detect := some { d with cand := next, good := 0 } }

/-- RUN is requested while a detection runs (spec/17 R460). -/
def State.canAbortDetect (s : State) (ch : Nat) : State :=
  match (s.canOf ch).detect with
  | none => s
  | some d => (s.setCan ch { s.canOf ch with detect := none }).complete d.slot St.aborted

-- Registers

/-- CAN_STAT. -/
def State.canStat (s : State) (c : Nat) : Word :=
  let x := s.canOf c
  let e := if x.busOff then 2 else x.passive.toNat
  wd (e + 4 * x.recovering.toNat + 8 * x.lec + 64 * x.lecData.toNat + 128 * x.ttSync.toNat + 256 * x.ttClash.toNat
    + 512 * x.detect.isSome.toNat)

/-- CAN_RXFn. -/
def State.canRxf (s : State) (c : Nat) (one : Bool) : Word :=
  let f := (s.canOf c).fifo one
  wd (f.fill + 256 * f.get + 65536 * f.put + 2 ^ 24 * (decide (f.fill = 64)).toNat + 2 ^ 25 * (s.canBound c one).isSome.toNat)

/-- The place in the message RAM of an offset in the window of a bank, if it names one (spec/17 R446). -/
def State.canRamAt (s : State) (b c off : Nat) : Option Nat :=
  let bank := bf (s.breg b (Pg.can c) Rg.CAN_RAM_BANK) 0 4
  if 14 ≤ bank then none else some (bank * 2048 + (off - 0x800))

/-- The RAM window reads a word; one with an uncorrectable error reads zero (spec/17 R463; log entry 150). -/
def State.canRamRead (s : State) (b c off : Nat) : Word :=
  match s.canRamAt b c off with
  | none => 0
  | some a => if (s.canOf c).lostIn a 4 then 0 else wd (leNat ((s.canOf c).rd a 4))

/-- The element at a place of the message RAM is discarded (spec/17 R463): a buffer's NEWDAT or request goes, the oldest element of a
FIFO is freed, and what is left of it reads zero. -/
def State.canDiscard (s : State) (c a : Nat) : State :=
  let x := s.canOf c
  let n := a % 0x2000 / 128
  let e := a / 128 * 128
  let y := (x.wr e (List.replicate 128 0))
  if a < 0x2000 then
    let r := Rg.CAN_NEWDAT + 4 * (n / 32)
    (s.setCan c { y with txPend := delN y.txPend n, ready := delN y.ready n }).setReg (Pg.can c) r
      (s.reg (Pg.can c) r &&& ~~~(oneBit (n % 32)))
  else if a < 0x6000 then
    let one := decide (0x4000 ≤ a)
    let f := x.fifo one
    s.setCan c (if f.get = n ∧ 0 < f.fill then y.setFifo one { f with fill := f.fill - 1, get := (f.get + 1) % 64 } else y)
  else s.setCan c (x.wr (a / 16 * 16) (List.replicate 16 0))

/-- What a read through the RAM window does: a word that cannot be read raises CANn.RAM_ECC, and its element is discarded. -/
def State.canRamSeen (s : State) (b c off : Nat) : State :=
  match s.canRamAt b c off with
  | none => s
  | some a => if (s.canOf c).lostIn a 4 then (s.canDiscard c a).raiseSrc (Pg.can c) 4 else s

/-- The bits of a word of the message RAM that hold a field (spec/17 R447, R448); the others read zero. -/
def canRamMask (bank off : Nat) : Word :=
  if bank < 12 then
    let o := off % 128
    if o = 0 then 0x3FFFFFFF else if o = 4 then 0x3FF else if o < 0x50 then full else 0
  else match off % 16 with
    | 0 => 0x3FFFFFFF
    | 4 => 0x1FFFFFFF
    | 8 => 0x80003F03
    | _ => 0

/-- The RAM window is written. -/
def State.canRamWrite (s : State) (b c off : Nat) (w : Word) : State :=
  let bank := bf (s.breg b (Pg.can c) Rg.CAN_RAM_BANK) 0 4
  if 14 ≤ bank then s
  else if 12 ≤ bank ∧ !s.stopped (Pg.can c) then s.bump (Pg.can c) Hd.drop
  else s.setCan c ((s.canOf c).wr (bank * 2048 + (off - 0x800)) (leBytes 4 (w &&& canRamMask bank off).toNat))

end Sys2Proof.Machine
end

