-- ==== Sys2Proof/Machine/FloorOps.lean ====
section
/-! DEFINITION. Floor Ethernet ports (spec/16): receiving, transmitting, launch times, links, low-power idle and MDIO. -/

namespace Sys2Proof.Machine

/-- The MAC latency of a port in tenths of a ns (spec/15 R411): egress if `tx`, else ingress. -/
def macTenths (rate : Nat) (tx : Bool) : Nat :=
  match rate with
  | 0 => if tx then 56000 else 88000
  | 1 => if tx then 5600 else 8800
  | 2 => if tx then 640 else 960
  | 3 => if tx then 1024 else 1536
  | 4 => if tx then 512 else 768
  | _ => if tx then 256 else 384

/-- The stamp of a frame that crossed the PCS `ago` ns ago (spec/15 R409, R411; the nominal latencies, log entry 25). -/
def State.fpStamp (s : State) (p : Nat) (tx : Bool) (ago : Nat) : Nat :=
  let cfg := s.reg (Pg.fp p) Rg.FP_CFG
  let lat : Nat := (macTenths (bf cfg 1 3) tx * 2 ^ 32 / 10) + s.fld (Pg.fp p) Rg.FP_PHY_LAT (if tx then 0 else 16) 16 * 2 ^ 32
  s.stampAt (bf cfg 4 2) ((if tx then (lat : Int) else -(lat : Int)) - ago * 2 ^ 32)

/-- The stamp of this TCLK edge. -/
def State.fpEdge (s : State) (p : Nat) : Nat := s.stampAt (s.fld (Pg.fp p) Rg.FP_CFG 4 2) 0

-- Receiving (spec/16 R430)

/-- The destination is one of the port's own, its filters' or broadcast: not by the promiscuous enable. -/
def State.fpAccepts (s : State) (p : Nat) (d : List Byte) : Bool :=
  let g := Pg.fp p
  d == s.fpMac p || (isBroadcast d && s.flag g Rg.FP_CFG 8)
    || (List.range 8).any (fun n => s.flag g (Rg.FP_FILT_HI + 8 * n) 31
      && d == leBytes 4 (s.reg g (Rg.FP_FILT_LO + 8 * n)).toNat ++ leBytes 2 (s.fld g (Rg.FP_FILT_HI + 8 * n) 0 16))

/-- A frame dropped and counted. -/
def State.fpDrop (s : State) (p off : Nat) : State := s.bump (Pg.fp p) off

/-- Steps 5 to 8 of spec/16 R430 for a frame that passed the filter. -/
def State.fpDeliver (s : State) (p : Nat) (e : Eth) (promisc : Bool) (ago : Nat) : State :=
  let g := Pg.fp p
  match (if e.vid = 0 then some (s.fld g Rg.FP_GCTL 0 6) else s.vmapGlove g e.vid) with
  | none => s.fpDrop p Rg.FP_RX_VLAN_MISS
  | some glove =>
    match s.rxQueue g glove with
    | none => s.fpDrop p Rg.FP_RX_NOQ
    | some q =>
      let n := e.bytes.length
      if s.rxRoom q n then
        let bc := isBroadcast e.dest
        let mc := !bc && (e.dest.headD 0).getLsbD 0
        let fl := bc.toNat + 2 * mc.toNat + 4 * promisc.toNat + 8 * e.tagged.toNat
        (s.rxPut q e.bytes (rxEntry n e.vid e.pcp fl 0 (s.fpStamp p false ago))).bump g Rg.FP_RX_FRAMES
      else (s.fpDrop p Rg.FP_RX_QFULL).dropEntry q

/-- The MAC takes frames in: its page is RUNNING or finishing, and its link passes them (spec/16 R430, R442). -/
def State.fpHears (s : State) (p : Nat) : Bool :=
  s.portsOn && (s.running (Pg.fp p) || s.cur (Pg.fp p) == 3) && (s.fpOf p).link && !(s.fpOf p).half && !s.rateMismatch p

/-- A frame, its FCS included, arrives at a port whose link passes frames (spec/16 R429, R430, R442). `room`: the receive FIFO had
room for it; `ago`: ns since its start crossed the PCS; `ecc`: an uncorrectable error in the FIFO, which drops it at step 1
(R441); `inputs`: what it carries for points, if a field node sent it (spec/13 R351). -/
def State.fpReceive (s : State) (p : Nat) (frame : List Byte) (room : Bool) (ago : Nat) (ecc : Bool) (inputs : List NodeInput) :
    State :=
  let g := Pg.fp p
  if !s.fpHears p then s
  else if !room then (s.fpDrop p Rg.FP_RX_OVF).raiseSrc g 2
  else if ecc then (s.fpDrop p Rg.FP_RX_FCS_ERR).raiseSrc g 3
  else if !fcsGood frame then s.fpDrop p Rg.FP_RX_FCS_ERR
  else if frame.length < 64 ∨ 9600 < frame.length then s.fpDrop p Rg.FP_RX_LEN_ERR
  else
    let e := Eth.read (fcsBody frame)
    let own := s.fpAccepts p e.dest
    if !own && !s.flag g Rg.FP_GCTL 8 then s.fpDrop p Rg.FP_RX_FILTERED
    else if e.etype = 0x88B5 ∧ e.payload.headD 0 = 0x4C then
      if s.running Pg.lse then (s.leaseAnswer false p (leNat e.src) e.vid e.payload).bump g Rg.FP_RX_FRAMES
      else s.fpDrop p Rg.FP_RX_NOQ
    else (s.nodeInputs false p (leNat e.src) e.vid inputs).fpDeliver p e (!own) ago

-- Transmitting (spec/16 R434 to R436)

/-- The frame of a queue may leave: its VLAN or the port's default glove is the queue's, and its buffer lies in the
queue's memory (spec/16 R434); a launch names a base that the glove may read (spec/15 R413). -/
def State.txLawful (s : State) (p g : Nat) (e : TxEntry) : Bool :=
  let ours := if e.tagged then decide (s.vmapGlove (Pg.fp p) e.vid = some g) else s.fld (Pg.fp p) Rg.FP_GCTL 0 6 == g
  ours && s.memOk g e.buf e.len && (!e.launch || s.mayRead g (Pg.tmb e.lbase) Rg.TMB_NOW_NS)

/-- A queue passes over: its head is held for launch. -/
def State.fpHold (s : State) (p q : Nat) : State :=
  let x := s.fpOf p
  s.setFp p { x with held := addN x.held q }

/-- The head entry of queue `q` leaves the queue, and its frame is started; `real` unless it is discarded. -/
def State.fpStart (s : State) (p q : Nat) (e : TxEntry) (late real : Bool) : State :=
  let g := s.queueOwner q
  let fl : TxFlight := { queue := q, glove := g, pair := (s.queue q).pair, tag := e.tag, len := e.len,
                         stamp := s.fpStamp p true 0, left := s.fpEdge p, late := late, real := real }
  let body := e.frame (s.load e.buf e.len)
  let s1 := s.consume q
  let x := s1.fpOf p
  let s2 := s1.setFp p { x with turn := q, flight := some fl, held := delN x.held q }
  if real then s2.emit (.fp p (macFrame body)) else s2.violation g

/-- The head entry completes without being sent. -/
def State.fpRefuse (s : State) (p q : Nat) (e : TxEntry) (status : Nat) : State :=
  let g := s.queueOwner q
  let pair := (s.queue q).pair
  let s1 := s.consume q
  let x := s1.fpOf p
  (s1.setFp p { x with turn := q, held := delN x.held q }).txDone q g pair status (s.fpEdge p) e.len e.tag

/-- A launch that is judged: a frame that is not held leaves its queue. -/
def State.fpJudged (s : State) (p q : Nat) (e : TxEntry) (l : Launch) : State :=
  let s1 := s.countLaunch (s.queueOwner q) e l
  match l with
  | .far => s1.fpRefuse p q e 0x202
  | .hold => s1.fpHold p q
  | .now => s1.fpStart p q e false true
  | .lateDrop => s1.fpRefuse p q e 0x201
  | .lateSend => s1.fpStart p q e true true

/-- The head entry of queue `q` is taken; true if that gave or completed a frame, false if its head is held. -/
def State.fpTake (s : State) (p q : Nat) : State × Bool :=
  let e := TxEntry.read (s.headEntry q)
  if e.bad || e.dest != 0 then (s.fpRefuse p q e St.arg, true)
  else if !s.txLawful p (s.queueOwner q) e then (s.fpStart p q e false false, true)
  else if e.launch then
    let l := s.judge e
    (s.fpJudged p q e l, l != .hold)
  else (s.fpStart p q e false true, true)

/-- The first queue of the list whose head is not held gives its frame. -/
def State.fpTakeFrom (p : Nat) : List Nat → State → State
  | [], s => s
  | q :: t, s =>
    if s.canTake q && !(s.fpOf p).held.contains q then
      let r := s.fpTake p q
      if r.2 then r.1 else State.fpTakeFrom p t r.1
    else State.fpTakeFrom p t (s.ringTried q)

/-- The next frame boundary of a port (spec/16 R435). A MAC in low-power idle has to leave it first (R437). -/
def State.fpTransmit (s : State) (p : Nat) : State :=
  let x := s.fpOf p
  let g := Pg.fp p
  if !s.portsOn || !s.running g || x.flight.isSome then s
  else if s.fpPasses p then
    if x.lpiTx then s
    else match x.lease with
      | f :: t => ((s.setFp p { x with lease := t }).emit (.fp p (macFrame f))).bump g Rg.FP_TX_FRAMES
      | [] => State.fpTakeFrom p (s.txQueues g x.turn) s
  else
    let s1 := s.setFp p { x with lease := [] }
    match (s1.txQueues g x.turn).find? (fun q => s1.canTake q) with
    | some q => s1.fpRefuse p q (TxEntry.read (s1.headEntry q)) 0x203
    | none => s1

/-- The frame under way is over: sent whole, or cut short with its link (spec/16 R436, R442). -/
def State.fpTxDone (s : State) (p : Nat) (sent : Bool) : State :=
  let x := s.fpOf p
  match x.flight with
  | none => s
  | some f =>
    let s1 := s.setFp p { x with flight := none }
    if sent || !f.real then
      (if f.real then s1.bump (Pg.fp p) Rg.FP_TX_FRAMES else s1).txDone f.queue f.glove f.pair (if f.late then St.note else 0)
        f.stamp f.len f.tag
    else s1.txDone f.queue f.glove f.pair 0x203 f.left f.len f.tag

/-- A held launch falls due: the frame is started or judged late (spec/15 R413). While its port is at another frame, has a lease frame
to send first (spec/16 R435), is in low-power idle or does not pass frames, it waits. -/
def State.launchDue (s : State) (q : Nat) : State :=
  let src := bf (s.queue q).arg5 0 8
  let p := src - 0x18
  let x := s.fpOf p
  let e := TxEntry.read (s.headEntry q)
  if s.portsOn && decide (0x18 ≤ src) && decide (src < 0x20) && x.held.contains q && s.canTake q && s.fpPasses p
      && x.flight.isNone && x.lease.isEmpty && !x.lpiTx && decide (s.launchDelta e ≤ 0) then
    if s.txLawful p (s.queueOwner q) e then
      s.fpJudged p q e (match s.judge e with | .hold => .now | l => l)
    else s.fpStart p q e false false
  else s

-- Links, low-power idle, MDIO (spec/16 R427, R428, R437, R441)

/-- DUPLEX_ERR or RATE_MISMATCH is set. -/
def State.fpWrong (s : State) (p : Nat) : Bool := (s.fpOf p).half || s.rateMismatch p

/-- Low-power idle ends where a port no longer passes frames (spec/16 R437). -/
def State.fpIdleEnd (s : State) (p : Nat) : State :=
  if (s.fpOf p).lpiTx && !s.fpPasses p then s.setFp p { s.fpOf p with lpiTx := false } else s

/-- The link falls: a frame that is being sent is cut short (spec/16 R442), and with `cut` one that is being received is dropped at
step 1 of R430. A frame that R434 discards is not on the wire. -/
def State.fpCut (s : State) (p : Nat) (cut : Bool) : State :=
  let s1 := if cut && s.fpHears p then s.fpDrop p Rg.FP_RX_FCS_ERR else s
  match (s1.fpOf p).flight with
  | none => s1
  | some f => if f.real then s1.fpTxDone p false else s1

/-- The PHY's in-band word changes (spec/16 R426, R441). -/
def State.fpLink (s : State) (p : Nat) (link : Bool) (rate : Nat) (half cut : Bool) : State :=
  let a := if (s.fpOf p).link && !link then s.fpCut p cut else s
  let x := a.fpOf p
  let s1 := (a.setFp p { x with link := link, phyRate := rate % 8, half := half, lpiTx := x.lpiTx && link,
                                lpiRx := x.lpiRx && link }).fpIdleEnd p
  let dup := (half && !x.half) || (s1.rateMismatch p && !s.rateMismatch p)
  let s2 := if dup then s1.raiseSrc (Pg.fp p) 1 else s1
  if x.link && !link && s.running (Pg.fp p) then s2.raiseSrc (Pg.fp p) 0 else s2

/-- A frame waits at the port apart from held launches (spec/16 R437). -/
def State.fpWaiting (s : State) (p : Nat) : Bool :=
  let x := s.fpOf p
  !x.lease.isEmpty || x.flight.isSome || (s.txQueues (Pg.fp p) 0).any (fun q => s.canTake q && !x.held.contains q)

/-- The MAC enters low-power idle (spec/16 R437). -/
def State.fpLpi (s : State) (p : Nat) : State :=
  let x := s.fpOf p
  if s.coreUp && s.flag (Pg.fp p) Rg.FP_EEE_CTL 0 && s.fpPasses p && !x.lpiTx && !s.fpWaiting p then
    (s.setFp p { x with lpiTx := true }).bump (Pg.fp p) Rg.FP_LPI_ENTRIES
  else s

/-- The MAC leaves low-power idle. -/
def State.fpWake (s : State) (p : Nat) : State := s.setFp p { s.fpOf p with lpiTx := false }

/-- A STOP of the page: launches are judged again once the port runs (spec/16 R435). -/
def State.fpStopping (s : State) (p : Nat) : State := s.setFp p { s.fpOf p with held := [], lpiTx := false, lease := [] }

/-- FP_STAT. -/
def State.fpStat (s : State) (p : Nat) : Word :=
  let x := s.fpOf p
  wd (x.link.toNat + 2 * x.phyRate + 16 * x.half.toNat + 32 * (s.rateMismatch p).toNat + 64 * x.lpiTx.toNat
    + 128 * x.lpiRx.toNat)

/-- A write of FP_MDIO_CTL (spec/16 R428): ignored while a frame is under way; GO starts one unless OP names none. -/
def State.mdioWrite (s : State) (p : Nat) (w : Word) : State :=
  let x := s.fpOf p
  if x.mdioBusy then s
  else
    let s1 := s.setReg (Pg.fp p) Rg.FP_MDIO_CTL (w &&& 0x1FFFFFFF)
    let op := bf w 26 2
    if bit w 31 && (bit w 28 || op == 1 || op == 2) then
      (s1.setFp p { x with mdioBusy := true, mdioOp := w &&& 0x1FFFFFFF }).emit (.mdio p (w &&& 0x1FFFFFFF))
    else s1

/-- An MDIO frame ends; a read takes the PHY's data (spec/16 R428). -/
def State.mdioEnd (s : State) (p data : Nat) : State :=
  let x := s.fpOf p
  let op := bf x.mdioOp 26 2
  let read := op == 2 || (bit x.mdioOp 28 && op == 3)
  if x.mdioBusy then s.setFp p { x with mdioBusy := false, mdioData := if read then data % 65536 else x.mdioData } else s

/-- FP_MDIO_STAT. -/
def State.mdioStat (s : State) (p : Nat) : Word := wd ((s.fpOf p).mdioData + 65536 * (s.fpOf p).mdioBusy.toNat)

end Sys2Proof.Machine
end

