-- ==== Sys2Proof/Machine/GloveOps.lean ====
section
/-! DEFINITION. Gloves (spec/05): the words of the glove table, what a glove owns, and the glove commands. -/

namespace Sys2Proof.Machine

/-- GLV_CTRLn. -/
def State.glvCtrl (s : State) (n : Nat) : Word := wd ((s.active n).toNat + s.keygen n * 65536)

/-- GLV_MEMn. -/
def State.glvMem (s : State) (n : Nat) : Word := wd ((s.glove n).base + (s.glove n).size * 65536)

/-- GLV_SLOTSn. -/
def State.glvSlots (s : State) (n : Nat) : Word := wd (s.heldBy n + (s.glove n).quota * 65536)

/-- Glove `n`'s entry changed, or a resource passed to or from it (spec/05 R126). -/
def State.assign (s : State) (n : Nat) : State := s.pulse (Pg.gvw n) 0

/-- Pages that can pass between gloves. -/
def ownablePages : List Nat := allPages.filter (fun p => decide (p < 0x80) && p != Pg.glv && p != Pg.clk)

/-- Pages of glove `n`. -/
def State.pagesOf (s : State) (n : Nat) : List Nat := ownablePages.filter (fun p => s.owner p == n)

/-- QID blocks of glove `n`. -/
def State.blocksOf (s : State) (n : Nat) : List Nat :=
  (List.range 256).filter (fun b => Sparse.get (dflt 0) s.glv.qmap b == n)

/-- Points of glove `n` that are in use and whose map word is not zero (spec/05 R126). -/
def State.pointsOfGlove (s : State) (n : Nat) : List Nat :=
  (s.ptb.map.filter (fun e => mGlove e.2 == n && !s.unused e.1)).map (·.1)

/-- GVW_POINTS: the all-zero word is a REMOTE point of glove 0 (spec/13 R349) once a map was read. -/
def State.pointCount (s : State) (n : Nat) : Nat :=
  if n = 0 then
    if s.ptb.mapRead then
      65536 - s.ptb.map.length - (s.ptb.bad.filter (fun p => s.mapW p == 0)).length + (s.pointsOfGlove 0).length
    else 0
  else (s.pointsOfGlove n).length

/-- Keys of the loop table bytes that hold DEFINED and GLOVE of glove `n` (spec/06 R134). -/
def State.loopBytes (s : State) (n : Nat) : List Nat :=
  let base := s.reg64 Pg.ces Rg.CES_LT_BASE_LO
  (s.mem.filter (fun e => decide (base ≤ e.1) && decide (e.1 < base + 0x800000) && e.1 % 128 == 3
    && decide (e.2.toNat / 128 = 1) && e.2.toNat % 64 == n)).map (·.1)

/-- Tasks of glove `n`. -/
def State.tasksOfGlove (s : State) (n : Nat) : List Nat :=
  (s.ktl.table.filter (fun e => decide (e.1 < 16) && e.2.d.defined && e.2.d.glove == n)).map (·.1)

/-- The view glove of a circuit (spec/11 R306). -/
def State.viewOf (s : State) (k : Nat) : Nat := Sparse.get (dflt 0) s.nv.cfg.views k

/-- Circuits in the view of glove `n`; there are none on a part without a Caddy. -/
def State.viewsOf (s : State) (n : Nat) : List Nat :=
  if s.metrology then (List.range 64).filter (fun k => s.viewOf k == n) else []

/-- Key handles in GLOVE/n (spec/20 R518). -/
def State.keysOf (s : State) (n : Nat) : List Nat :=
  (s.key.handles.filter (fun e => match e.2 with | some h => h.subtree == 5 && h.glove == n | none => false)).map (·.1)

/-- Public-key handles of glove `n`: every handle belongs to a glove (spec/05 R113; log entry 112). -/
def State.pubKeysOf (s : State) (n : Nat) : List Nat :=
  (s.key.handles.filter (fun e => match e.2 with | some h => h.subtree == 7 && h.glove == n | none => false)).map (·.1)

/-- The glove owns something other than memory (spec/05 R127). -/
def State.ownsAny (s : State) (n : Nat) : Bool :=
  !((s.pagesOf n).isEmpty && (s.blocksOf n).isEmpty && (s.pointsOfGlove n).isEmpty && (s.loopBytes n).isEmpty
    && (s.tasksOfGlove n).isEmpty && (s.viewsOf n).isEmpty && (s.keysOf n).isEmpty && (s.pubKeysOf n).isEmpty)

/-- Two regions, each a base and a length, have a byte in common. -/
def overlaps (a b : Nat × Nat) : Bool :=
  decide (0 < a.2) && decide (0 < b.2) && decide (a.1 < b.1 + b.2) && decide (b.1 < a.1 + a.2)

/-- A ring of glove `n` lies outside a region. -/
def State.ringOutside (s : State) (n : Nat) (r : Nat × Nat) : Bool :=
  !(s.queuesWith (fun q x => s.queueOwner q == n
    && !(decide (r.1 ≤ x.base) && decide (x.base + x.n * x.entry ≤ r.1 + r.2)))).isEmpty

/-- A reclaim of glove `n` is in hand. -/
def State.reclaiming (s : State) (n : Nat) : Bool := s.glv.reclaims.any (fun r => r.glove == n)

/-- GLOVE_SET (spec/05 R127); a glove whose reclaim is in hand is busy (log entry 111). -/
def gloveSetBody (c : Ctx) (s : State) : State :=
  let n := c.f 0 0 6
  let act := n == 0 || c.b 0 8
  let e := s.glove n
  let base := if n = 0 then e.base else c.f 2 0 13
  let size := if n = 0 then e.size else c.f 2 16 13
  let quota := c.f 1 0 13
  let r : Nat × Nat := (dramBase + base * 0x200000, size * 0x200000)
  if decide (4096 < quota) || (n != 0 && decide (4096 < base + size)) then s.fin c St.arg
  else if c.tenant then s.foreign c
  else if n != 0 && ((act && (List.range 63).any (fun k => k + 1 != n && (s.glove (k + 1)).active && overlaps r (s.region (k + 1))))
      || (e.active && !act && s.ownsAny n) || s.ringOutside n r) then s.fin c St.state
  else if s.reclaiming n then s.fin c St.busy
  else
    let e1 : Glove := ⟨act, base, size, quota⟩
    let s1 := s.setGlove n e1
    let s2 := if e1 = e then s1 else s1.assign n
    let s3 := s2.cfgNow (.gloves s2.gloveCfg s2.glv.qmap)
    s3.fin c (if quota < s3.heldBy n then St.note else 0) (s3.glvCtrl n) (s3.glvMem n) (s3.glvSlots n)

/-- GLOVE_QBLOCK. -/
def gloveQblockBody (c : Ctx) (s : State) : State :=
  let b := c.f 0 0 8
  let n := c.f 1 0 6
  let old := Sparse.get (dflt 0) s.glv.qmap b
  if c.tenant then s.foreign c
  else if !(s.queuesWith (fun q _ => q / 128 == b)).isEmpty then s.fin c St.state
  else
    let s1 := { s with glv := { s.glv with qmap := Sparse.set (dflt 0) s.glv.qmap b n } }
    let s2 := if old = n then s1 else (s1.assign old).assign n
    (s2.cfgNow (.gloves s2.gloveCfg s2.glv.qmap)).done c (wd old)

/-- A loop or task of glove `n` is started, adopted ones and the partner's among them (spec/05 R127). -/
def State.worksFor (s : State) (n : Nat) : Bool :=
  s.ces.loops.any (fun e =>
      (e.2.owner.started && e.2.owner.desc.glove == n) || (e.2.shadow.started && e.2.shadow.desc.glove == n)
        || ((e.2.owner.started || e.2.shadow.started) && !e.2.adopted && (Desc.read (s.ltEntry e.1)).glove == n))
    || s.ktl.tasks.any (fun e =>
      (e.2.owner.started && e.2.owner.copy.d.glove == n) || (e.2.shadow.started && e.2.shadow.copy.d.glove == n)
        || ((e.2.owner.started || e.2.shadow.started) && (s.taskEntry e.1).d.glove == n))

/-- Points whose map word, in memory or in force, names glove `n`. -/
def State.mapWordsOf (s : State) (n : Nat) : List Nat :=
  let base := s.reg64 Pg.ptb Rg.PTB_MAP_BASE_LO
  (mapKeys s.mem base).filter (fun k => mGlove (wd (rdLE s.mem (base + 4 * k) 4)) == n)
    ++ (s.ptb.map.filter (fun e => mGlove e.2 == n)).map (·.1)

/-- What glove `n` owns now. -/
def State.hadBy (s : State) (n : Nat) : Had :=
  { pages := s.pagesOf n,
    loops := (s.loopBytes n).map (fun a => (a - s.reg64 Pg.ces Rg.CES_LT_BASE_LO) / 128),
    points := s.mapWordsOf n,
    tasks := s.tasksOfGlove n }

/-- Steps 4 and 5 of GLOVE_RECLAIM: everything of glove `n` passes to glove 0, and its keys are destroyed. -/
def State.giveUp (s : State) (n : Nat) : State :=
  let base := s.reg64 Pg.ptb Rg.PTB_MAP_BASE_LO
  let s1 := (s.pagesOf n).foldl (fun a p => (a.setReg p Hd.owner 0).setReg p Hd.irqEn 0) s
  let mem1 := (s1.loopBytes n).foldl (fun m a => wr8 m a (BitVec.ofNat 8 ((rd8 m a).toNat / 64 * 64))) s1.mem
  { s1 with
    mem := mapGive n base mem1,
    glv := { s1.glv with qmap := (s1.blocksOf n).foldl (fun m b => Sparse.set (dflt 0) m b 0) s1.glv.qmap },
    ptb := { s1.ptb with map := s1.ptb.map.foldl (fun m e => Sparse.set (dflt 0) m e.1 (mapWordGive n e.2)) s1.ptb.map },
    ktl := { s1.ktl with table := (s1.tasksOfGlove n).foldl (fun m t =>
      Sparse.set (dflt {}) m t ((Sparse.get (dflt {}) m t).give n)) s1.ktl.table },
    key := { s1.key with handles := (s1.keysOf n ++ s1.pubKeysOf n).foldl (fun m h => Sparse.set (dflt none) m h none) s1.key.handles,
                         seeds := Sparse.set (dflt none) s1.key.seeds n none, opSeed := delN s1.key.opSeed n },
    nv := { s1.nv with keygen := Sparse.set (dflt 0) s1.nv.keygen n ((s1.keygen n + 1) % 65536) } }

/-- Objects of glove `n` that a reclaim moves to glove 0; points out of use are not counted (log entry 113). -/
def State.objectsOf (s : State) (n : Nat) : Nat :=
  (s.pagesOf n).length + (s.blocksOf n).length + (s.pointsOfGlove n).length + (s.loopBytes n).length
    + (s.tasksOfGlove n).length + (s.viewsOf n).length

/-- GLOVE_RECLAIM, up to its zero fill (spec/05 R127, R128). KEYGEN moves on, so the glove's entry always changes; glove 0 is
told if something passes to it (R126). -/
def gloveReclaimBody (c : Ctx) (s : State) : State :=
  let n := c.f 0 0 6
  if n = 0 then s.fin c St.arg
  else if c.tenant then s.foreign c
  else if s.worksFor n || (s.pagesOf n).any (fun p => runCtrl p && !s.stopped p) then s.fin c St.state
  else if s.reclaiming n then s.fin c St.busy
  else
    let s1 := (s.setGlove n { s.glove n with active := false }).assign n
    let s2 := s1.abortWhere (fun x => x.glove == n)
    let qs := s2.queuesWith (fun q _ => s2.queueOwner q == n)
    let s3 := qs.foldl State.queueGone s2
    let moved := s3.objectsOf n
    let s4 := if moved = 0 then s3.giveUp n else (s3.giveUp n).assign 0
    let s5 := s4.cfgNow (.reclaim n (Sparse.set gloveDflt s4.gloveCfg n {}) s4.glv.qmap (s3.hadBy n))
    { s5 with glv := { s5.glv with reclaims := s5.glv.reclaims ++ [⟨n, some c.slot, qs.length, moved⟩] },
              nv := { s5.nv with reclaims := addN s5.nv.reclaims n } }

/-- The zero fill of glove `n`'s reclaim ends (spec/05 R128); its entry changes unless it was empty (R126). -/
def State.reclaimFilled (s : State) (n : Nat) : State :=
  match s.glv.reclaims.find? (fun r => r.glove == n) with
  | none => s
  | some r =>
    let g := s.region n
    let s1 := { s with mem := zeroRange s.mem g.1 g.2 }.setGlove n {}
    let s2 := if s.glove n = {} then s1 else s1.assign n
    let s3 := { s2 with glv := { s2.glv with reclaims := s2.glv.reclaims.filter (fun x => x.glove != n) },
                        nv := { s2.nv with reclaims := delN s2.nv.reclaims n } }
    match r.slot with
    | none => s3
    | some k => s3.complete k 0 (wd r.queues) (wd (s3.keygen n)) (wd r.moved)

end Sys2Proof.Machine
end

