-- ==== Sys2Proof/Machine/PageOps.lean ====
section
/-! DEFINITION. The configuration of the pages (spec/03): owners, what CFG_SAVE records, journal writes into CONFIG, and
their replay at start-up. -/

namespace Sys2Proof.Machine

-- Owners (spec/03 R63)

/-- PG_OWNER of these pages ignores writes (spec/05 R123, spec/22 R575, R578, spec/23 R595). -/
def ownerFixed (p : Nat) : Bool :=
  p == Pg.glv || p == Pg.clk || p == Pg.flt || p == Pg.hst || p == Pg.pwr

/-- A GVW page, whose PG_OWNER.GLOVE ignores writes (spec/03 R63). -/
def isGvwPage (p : Nat) : Bool := decide (0x80 ≤ p) && decide (p ≤ 0xBF)

/-- PG_OWNER is written by glove `g`, which glove 0 alone may: the enables are cleared and both gloves are told (spec/03 R63,
spec/05 R126); a command in hand on a page that its glove loses ends ABORTED (spec/04 R96). -/
def State.ownerWrite (s : State) (g p : Nat) (w : Word) : State :=
  if ownerFixed p || g != 0 then s
  else
    let old := s.owner p
    let s1 := (s.setReg p Hd.owner (if isGvwPage p then (w &&& 0x100) ||| wd (p - 0x80) else w &&& 0x13F)).setReg p Hd.irqEn 0
    if s1.owner p = old then s1
    else
      let s2 := if pageKind p = some .can then (s1.canAbortDetect (pageInst p)).canFlush (pageInst p) else s1
      (s2.assign old).assign (s2.owner p)

-- What CFG_SAVE records (spec/03 R74)

/-- The fields of a stored register that CFG_SAVE records; FLT_SEL is kept per bank (spec/22 R575). -/
def savedMask (k : Nat) : Word :=
  let p := k / 0x1000
  let off := k % 0x1000
  if 0x1000000 ≤ k then (if k % 0x1000000 = rkey Pg.flt Rg.FLT_SEL then 0x1FFF else 0)
  else if off = Hd.owner ∨ off = Hd.irqEn then full
  else if off < 0x40 then 0
  else match regRow p off with
    | some r => if r.saved then r.rw ||| r.rws else 0
    | none => 0

/-- The recorded registers of a window: those that differ from their reset values. -/
def savedRegs (m : Sparse Word) : Sparse Word :=
  m.foldl (fun a e => if savedMask e.1 = 0 then a else Sparse.set regReset a e.1 (e.2 &&& savedMask e.1)) []

/-- A table in memory, rebased to offset 0. -/
def tableCells (m : List Host.Cell) (base n : Nat) : List Host.Cell :=
  (m.filter (fun e => decide (base ≤ e.1) && decide (e.1 < base + n))).map (fun e => (e.1 - base, e.2))

/-- The started roles of an item as recorded. -/
def roleRec (oOn : Bool) (oc : Nat) (sOn : Bool) (sc : Nat) : RoleRec :=
  ⟨if oOn then some oc else none, if sOn then some sc else none⟩

/-- The recorded roles of the own loops. -/
def State.loopRoleRecs (s : State) : Sparse RoleRec :=
  s.ces.loops.foldl (fun m e =>
    if e.2.adopted then m
    else Sparse.set (dflt {}) m e.1
      (roleRec e.2.owner.started e.2.owner.chan e.2.shadow.started e.2.shadow.chan)) []

/-- The recorded roles of the own tasks. -/
def State.taskRoleRecs (s : State) : Sparse RoleRec :=
  s.ktl.tasks.foldl (fun m e =>
    if 16 ≤ e.1 then m
    else Sparse.set (dflt {}) m e.1
      (roleRec e.2.owner.started e.2.owner.chan e.2.shadow.started e.2.shadow.chan)) []

/-- The filter banks 12 and 13 of every CAN channel, by channel × 65,536 + byte. -/
def State.filterCells (s : State) : Sparse Byte :=
  s.can.foldl (fun m e =>
    (e.2.ram.filter (fun c => decide (12 * 2048 ≤ c.1))).foldl (fun a c => Sparse.set (dflt 0) a (e.1 * 65536 + c.1) c.2) m) []

/-- What CFG_SAVE records; views, publication and severities stand as they are in CONFIG (spec/03 R74). -/
def State.saveRec (s : State) : CfgRec :=
  { s.nv.cfg with
    regs := savedRegs s.win,
    canFilt := s.filterCells,
    run := allPages.filter (fun p => runCtrl p && s.req p == 1),
    loopTab := tableCells s.mem (s.reg64 Pg.ces Rg.CES_LT_BASE_LO) 0x800000,
    loopRoles := s.loopRoleRecs,
    tasks := Sparse.keep (fun t => t < 16) s.ktl.table,
    taskRoles := s.taskRoleRecs,
    map := tableCells s.mem (s.reg64 Pg.ptb Rg.PTB_MAP_BASE_LO) 262144,
    groups := tableCells s.mem (s.reg64 Pg.lse Rg.LSE_GT_BASE_LO) 0x80000,
    adopt := tableCells s.mem (s.reg64 Pg.lse Rg.LSE_AL_BASE_LO) 8192,
    gloves := s.gloveCfg,
    qmap := s.glv.qmap }

/-- A CFG_SAVE or a write with PERSIST is in hand. -/
def State.savingNow (s : State) : Bool :=
  s.nv.journal.any (fun j => match j.edit with | .save _ => true | .loop _ _ => true | .task _ _ => true | _ => false)

/-- CFG_SAVE (spec/03 R74). -/
def cfgSaveBody (c : Ctx) (s : State) : State :=
  if c.tenant then s.foreign c
  else if s.isFatal then s.fin c St.state
  else if s.savingNow then s.fin c St.busy
  else s.journalAdd (some c.slot) (.save s.saveRec)

/-- FLT_SAVE (spec/22 R577). -/
def fltSaveBody (c : Ctx) (s : State) : State :=
  if c.tenant then s.foreign c
  else if s.isFatal then s.fin c St.state
  else s.journalAdd (some c.slot) (.severities s.flt.sev)

-- Journal writes (spec/03 R74)

/-- The generation after a change, with its numbers: a save and a persisted write make a new generation; the loop table and
call lists have a new one if a save changed their content, or with every persisted write (spec/08 R214). -/
def CfgEdit.renewed (e : CfgEdit) (r : CfgRec) : CfgRec :=
  let n := e.apply r
  match e with
  | .save _ =>
    { n with gen := r.gen + 1, ltGen := if n.loopTab = r.loopTab ∧ n.tasks = r.tasks then r.ltGen else r.ltGen + 1 }
  | .loop _ _ => { n with gen := r.gen + 1, ltGen := r.ltGen + 1 }
  | .task _ _ => { n with gen := r.gen + 1, ltGen := r.ltGen + 1 }
  | _ => n

/-- RES0 of a command that journalled a change: the generation, the number of severities that differ, or the former view
glove (spec/11 R312). -/
def CfgEdit.result (e : CfgEdit) (old r : CfgRec) : Word :=
  match e with
  | .view k _ => wd (Sparse.get (dflt 0) old.views k)
  | .publish w => wd (bf w 0 16)
  | .severities t => wd t.length
  | .save _ => wd r.gen
  | .loop _ _ => wd r.gen
  | .task _ _ => wd r.gen
  | _ => 0

/-- A view that changes passes a circuit between two gloves (spec/05 R126). -/
def State.viewMoved (s : State) (old : CfgRec) (e : CfgEdit) : State :=
  match e with
  | .view k g =>
    let o := Sparse.get (dflt 0) old.views k
    if o = g then s else (s.assign o).assign g
  | _ => s

/-- The command of a journal write has lost the loop or task that it names (spec/04 R96, spec/05 R129). -/
def State.journalLost (s : State) (j : Journal) : Bool :=
  match j.slot, j.edit with
  | some n, .loop id _ => !s.slotOwnsLoop n id
  | some n, .task id _ => !s.slotOwnsTask n id
  | _, _ => false

/-- The oldest journal write ends (spec/03 R74): done, FAILED_NAND, or ABORTED and not made when its command has lost what it
names. -/
def State.journalDone (s : State) (ok : Bool) : State :=
  match s.nv.journal with
  | [] => s
  | j :: t =>
    let old := s.nv.cfg
    let lost := s.journalLost j
    let s1 := { s with nv := { s.nv with journal := t } }
    let s2 := if ok && !lost then ({ s1 with nv := { s1.nv with cfg := j.edit.renewed old } }).viewMoved old j.edit else s1
    match j.slot with
    | none => s2
    | some n =>
      if lost then s2.complete n St.aborted
      else if ok then s2.complete n 0 (j.edit.result old s2.nv.cfg) else s2.complete n 0x0203

/-- At start-up every write still in the journal is completed (spec/22 R572). -/
def State.journalReplay (s : State) : State :=
  let c := s.nv.journal.foldl (fun r j => j.edit.renewed r) s.nv.cfg
  { s with nv := { s.nv with cfg := c, journal := [] } }

-- Replay (spec/02 R47, spec/03 R73)

/-- Bytes of a table are put back at a base. -/
def putTable (m : List Host.Cell) (base n : Nat) (t : List Host.Cell) : List Host.Cell :=
  t.foldl (fun a e => wr8 a (base + e.1) e.2) (zeroRange m base n)

/-- The tables of CONFIG are copied to their bases: loop table, ownership map, group table, adoption bitmap. A table whose
base is zero is nowhere. -/
def State.putTables (s : State) : State :=
  let c := s.nv.cfg
  let put (m : List Host.Cell) (base n : Nat) (t : List Host.Cell) : List Host.Cell :=
    if base = 0 then m else putTable m base n t
  let m1 := put s.mem (s.reg64 Pg.ces Rg.CES_LT_BASE_LO) 0x800000 c.loopTab
  let m2 := put m1 (s.reg64 Pg.ptb Rg.PTB_MAP_BASE_LO) 262144 c.map
  let m3 := put m2 (s.reg64 Pg.lse Rg.LSE_GT_BASE_LO) 0x80000 c.groups
  { s with mem := put m3 (s.reg64 Pg.lse Rg.LSE_AL_BASE_LO) 8192 c.adopt }

/-- CONFIG is replayed: fields, owners and enables, filters, tables, gloves, severities; RUN is requested where it was
recorded (spec/03 R73). SYS_RESTART_POLICY stays as the restart record gave it (spec/02 R42; log entry 110). -/
def State.replay (s : State) : State :=
  let c := s.nv.cfg
  let s1 := { s with
    win := c.regs.foldl (fun (m : Sparse Word) (e : Nat × Word) =>
      if e.1 = rkey Pg.sys Rg.SYS_RESTART_POLICY then m else Sparse.set regReset m e.1 e.2) s.win,
    can := c.canFilt.foldl (fun (m : Sparse CanCh) (e : Nat × Byte) =>
      let x : CanCh := Sparse.get (dflt {}) m (e.1 / 65536)
      Sparse.set (dflt {}) m (e.1 / 65536) { x with ram := Sparse.set (dflt 0) x.ram (e.1 % 65536) e.2 }) s.can,
    glv := { s.glv with table := c.gloves, qmap := c.qmap },
    flt := { s.flt with sev := c.sev },
    ktl := { s.ktl with table := c.tasks.foldl (fun (m : Sparse TaskCopy) (e : Nat × TaskCopy) => Sparse.set (dflt {}) m e.1 e.2) s.ktl.table } }
  c.run.foldl (fun a p => a.setReq p 1) s1.putTables

end Sys2Proof.Machine
end

