-- ==== Sys2Proof/Machine/CaddyOps.lean ====
section
/-! DEFINITION. The core die's side of the Caddy: its page's conditions, the mailbox commands, event queues and published
points (spec/10 R281 to R288, spec/11 R303 to R307, R312, spec/12 R343, spec/21 R552). -/

namespace Sys2Proof.Machine

/-- The sources of spec/10 R287 that a change of the Caddy's state sets. -/
def cdySources (a b : CdySt) : List Nat :=
  let rose (x y : Bool) (n : Nat) : List Nat := if y && !x then [n] else []
  rose (decide (a.mode = .unpowered)) (decide (b.mode = .unpowered)) 0
    ++ rose (decide (a.mode = .halted)) (decide (b.mode = .halted)) 1
    ++ rose a.sealOpen b.sealOpen 2 ++ rose a.fallback b.fallback 3 ++ rose false b.ovrHit 4 ++ rose false b.lossHit 5
    ++ rose a.logFull b.logFull 6 ++ rose a.split b.split 7
    ++ (if b.paths.any (fun e => e.2.st == 3 && (a.path e.1).st != 3) then [8] else [])

/-- The Caddy as the core die has taken notice of it: new events go to the queues `qs` that exist now (spec/10 R281); a core die
without power takes none. -/
def CdySt.noticed (c : CdySt) (up : Bool) (qs : List Nat) : CdySt :=
  { c with ovrHit := false, lossHit := false,
           post := if up then c.post.map (fun p => if p.queues.isNone then { p with queues := some qs } else p) else [] }

/-- Something happens to the Caddy of a part that has one; the core die's stickies and the EVENT condition follow (spec/10
R284, R287). -/
def State.onCaddy (s : State) (f : CdySt → CdySt) : State :=
  if s.metrology then
    let c := f s.cdy
    let s1 := { s with cdy := c.noticed s.powered (s.queuesOf 5),
                       link := { s.link with silent := s.link.silent && decide (c.mode = .unpowered) } }
    if s.powered then
      let s2 := (cdySources s.cdy c).foldl (fun (a : State) n => a.raiseSrc Pg.cdy n) s1
      if c.evt = s.cdy.evt then s2 else s2.pulse Pg.cdy 0
    else s1
  else s

/-- VMET rises, or the Caddy's watchdog restarts it (spec/10 R277, R280). -/
def State.caddyUp (s : State) (fault : Nat) (isOpen : Bool) : State :=
  let s1 := if s.metrology then { s with pwr := { s.pwr with vmetOk := true } } else s
  s1.onCaddy (fun c =>
    if c.mode = .unpowered then c.start fault isOpen else { c.dropMail with restart := 2 }.start fault isOpen)

/-- VMET falls (spec/11 R309). -/
def State.caddyDown (s : State) (hold torn : Bool) : State :=
  let s1 := if s.metrology then { s with pwr := { s.pwr with vmetOk := false } } else s
  s1.onCaddy (fun c => c.vmetTrip hold torn)

/-- The fallback oscillator is measured (spec/10 R260). -/
def CdySt.measured (c : CdySt) (ppb : Int) : CdySt :=
  if c.mode = .unpowered ∨ c.fallback = true then c else { c with clkErr := ppb }

/-- A summary that is due is written to the log, 60 s after it opened (spec/10 R270); an episode that goes on opens the next one
at once (log entry 138). -/
def CdySt.sumDue (c : CdySt) (typ subject : Nat) : CdySt :=
  match c.sums.find? (fun s => s.typ == typ && s.subject == subject) with
  | some x =>
    if x.since + 480000 ≤ c.ticks ∧ c.mode ≠ .unpowered then
      let c1 := c.sumWrite x
      let y := c1.inp subject
      if typ = 0x40 ∧ y.ovr = true then (c1.setInp subject { y with ovrN := 0 }).sumEpisode typ subject c1.time
      else if typ = 0x41 ∧ y.loss = true then c1.sumEpisode typ subject c1.time
      else c1
    else c
  | none => c

-- Event queues (spec/10 R281)

/-- Posts one event to one queue, or drops it there (spec/04 R107). -/
def State.cdyPostTo (s : State) (e : EvEntry) (q : Nat) : State :=
  let x := s.queue q
  if s.cdy.visible s.viewOf (s.queueOwner q) e && (!bit x.arg5 0 || e.legal) then
    if s.canPost q then
      s.post q (fun ph => patchB e.bytes 7 [BitVec.ofNat 8 (e.flags / 256 + 128 * ph.toNat)])
    else s.dropEntry q
  else s

/-- Posts the events that wait, each to the queues that existed when it happened. -/
def State.cdyPost (s : State) : State :=
  let s1 := { s with cdy := { s.cdy with post := [] } }
  if s.coreUp then
    s.cdy.post.foldl (fun (a : State) p => (p.queues.getD []).foldl (fun (b : State) q => b.cdyPostTo p.e q) a) s1
  else s1

-- Published points (spec/11 R307)

/-- Writes the points of circuit `k`. -/
def State.cdyPoints (s : State) (base k : Nat) : State :=
  (s.cdy.instantPoints k).foldl (fun (a : State) j =>
    let v := a.cdy.instant k j
    a.writePoint ⟨6, k, a.viewOf k, some 1⟩ (base + 16 * k + j) (wd (unsigned 32 v.1)) v.2) s

/-- Writes the points of every defined circuit. -/
def State.cdyPublishPoints (s : State) : State :=
  let w := s.nv.cfg.publish
  if s.coreUp && s.metrology && bit w 16 then
    ((List.range 64).filter (fun k => (s.cdy.circ k).typ != 0)).foldl (fun (a : State) k => a.cdyPoints (bf w 0 16) k) s
  else s

-- The mailbox (spec/10 R285, R286)

/-- The Caddy commands in hand: in the mailbox, or waiting for CONFIG (spec/10 R286). -/
def State.cdyInHand (s : State) : Nat :=
  s.cdy.mail.length + (s.nv.journal.filter (fun j => j.slot.isSome && (match j.edit with
    | .view _ _ => true | .publish _ => true | _ => false))).length

/-- A command as it waits in the mailbox: a Caddy without power has no knowledge of it, and CDY_HARMONICS finds no window in one
that does not meter. -/
def CdySt.mailFor (k : CdySt) (c : Ctx) : Mail :=
  { slot := c.slot, op := c.op, glove := c.g, args := c.a,
    cold := decide (k.mode = .unpowered) || (c.op == 0x0614 && !k.meters) }

/-- A Caddy command is handed over, after its arguments and its issuer were found good; `run` is what a Caddy does at once
that carries out its commands. Step 4 and 5 of spec/04 R96. -/
def State.cdyHand (s : State) (c : Ctx) (afterFatal : Bool) (run : CdySt → CdySt) : State :=
  if s.isFatal && !afterFatal then s.fin c St.state
  else if 16 ≤ s.cdyInHand then s.fin c St.busy
  else
    s.onCaddy (fun k =>
      let k1 := { k with mail := k.mail ++ [k.mailFor c] }
      if k.mode = .unpowered then k1 else run k1)

/-- A command that the boot ROM does not answer in HALTED (spec/10 R285). -/
def notHalted (f : CdySt → CdySt) (c : CdySt) : CdySt := if c.mode = .halted then c else f c

/-- Step 2 and 3 of spec/04 R96 for a Caddy command. -/
def State.cdyCheck (s : State) (c : Ctx) (argOk mine : Bool) (go : State) : State :=
  if !s.metrology then s.fin c St.state
  else if !argOk then s.fin c St.arg
  else if !mine then s.foreign c
  else go

/-- CDY_STAT.STATE as a number (spec/10 R283). -/
def CdySt.stateNo (c : CdySt) : Nat := match c.mode with | .unpowered => 0 | .starting => 1 | .metering => 2 | .halted => 3

/-- CDY_IDENT. -/
def cdyIdentBody (c : Ctx) (s : State) : State :=
  s.cdyCheck c true true
    (s.cdyHand c true (fun k =>
      let k1 := if c.b 0 0 && c.g == 0 then k.showIdent else k
      k1.answer c.slot 0 (wd k.fwVer) (wd k.check) (wd (s.market + 256 * k.stateNo))))

/-- CDY_LOG_READ. Entries that the glove may not see count as overwritten; the lowest SEQ of an empty log is open (log entry
7). -/
def cdyLogReadBody (c : Ctx) (s : State) : State :=
  let n := c.f 1 0 11
  s.cdyCheck c (decide (1 ≤ n) && decide (n ≤ 1024) && s.bufOk c (c.addr 2) (64 * n)) true
    (let (f, s1) := s.draw
     s1.cdyHand c true (fun k =>
      let l := k.logRead s.viewOf c.g (c.arg 0).toNat n
      let low := match k.logRead s.viewOf c.g 0 1 with | e :: _ => e.seq | [] => f
      k.answer c.slot 0 (wd l.length) (wd low) (wd k.evt) (c.addr 2) (l.flatMap EvEntry.bytes)))

/-- CDY_SNAPSHOT: served by a window boundary (spec/11 R303). -/
def cdySnapshotBody (c : Ctx) (s : State) : State :=
  s.cdyCheck c (s.bufOk c (c.addr 0) 8256) true (s.cdyHand c true id)

/-- CDY_COMMIT: served by the next window boundary (spec/11 R308). -/
def cdyCommitBody (c : Ctx) (s : State) : State :=
  s.cdyCheck c true true (s.cdyHand c true (fun k => if k.mode = .halted then k else { k with commitReq := true }))

/-- CDY_HARMONICS (spec/11 R312, R313). -/
def cdyHarmonicsBody (c : Ctx) (s : State) : State :=
  let k := c.f 0 0 32
  s.cdyCheck c (decide (k ≤ 63) && s.bufOk c (c.addr 1) 1792) (c.g == 0 || s.viewOf k == c.g)
    (s.cdyHand c true (fun x =>
      if x.meters then x.answer c.slot 0 (wd x.window) 0 0 (c.addr 1) (x.harmonics k) else x))

/-- CDY_PARAM_LOAD (spec/12 R338). -/
def cdyParamLoadBody (fails : Bool) (c : Ctx) (s : State) : State :=
  s.cdyCheck c (s.bufOk c (c.addr 0) 31008) (!c.tenant)
    (s.cdyHand c false (notHalted (fun k => k.deliverBlock s.market c.slot (s.load (c.addr 0) 31008) fails)))

/-- CDY_PARAM_READ (spec/12 R343). -/
def cdyParamReadBody (c : Ctx) (s : State) : State :=
  s.cdyCheck c (s.bufOk c (c.addr 0) 31008) true
    (s.cdyHand c true (notHalted (fun k => k.answer c.slot 0 (wd k.paramId) 0 0 (c.addr 0) k.prm)))

/-- Every circuit that uses input `i` is in the view of glove `g` (spec/12 R343). -/
def State.pathMine (s : State) (g i : Nat) : Bool :=
  g == 0 || (List.range 64).all (fun k => !(s.cdy.circ k).uses i || s.viewOf k == g)

/-- CDY_PILOT_STATUS (spec/12 R343). -/
def cdyPilotStatusBody (c : Ctx) (s : State) : State :=
  let i := c.f 0 0 8
  s.cdyCheck c (decide (i ≤ 151)) (s.pathMine c.g i)
    (s.cdyHand c true (notHalted (fun k =>
      let p := k.path i
      k.answer c.slot 0
        (wd (k.pathState i + 4 * (k.pathHeld i).toNat + 16 * prmSteep k.prm i + 256 * p.noest))
        (wd (unsigned 32 p.tau)) (wd (k.asubOf i)))))

/-- CDY_CAL_MEASURE (spec/12 R340, R343); a second one while one is in hand is busy (log entry
16). A Caddy that is STARTING measures from its first window (log entry 157). -/
def cdyCalBody (c : Ctx) (s : State) : State :=
  let i := c.f 0 0 8
  let n := c.f 0 16 16
  let forced := ((List.range 32).filter (fun k => c.b 1 k)) ++ (((List.range 8).filter (fun k => c.b 2 k)).map (· + 32))
  s.cdyCheck c (decide (i ≤ 151) && decide (64 ≤ n) && decide (n ≤ 32768) && n % 64 == 0 && s.bufOk c (c.addr 3) 4928)
    (!c.tenant)
    (if s.cdy.cal.isSome && !s.isFatal then s.fin c St.busy
     else s.cdyHand c false (fun k =>
      notHalted (fun x =>
        if x.sealOpen then
          { x with cal := some { slot := c.slot, reference := i, total := n, left := n, forced := forced, start := x.time } }
        else x.answer c.slot 0x203 1 0 0) k))

/-- CDY_IMAGE_LOAD (spec/21 R552). -/
def cdyImageLoadBody (fails : Bool) (c : Ctx) (s : State) : State :=
  let n := (c.arg 2).toNat
  s.cdyCheck c (decide (1 ≤ n) && decide (n ≤ 0x100000) && s.bufOk c (c.addr 0) n) (!c.tenant)
    (s.cdyHand c false (notHalted (fun k => k.deliverImage s.market c.slot (s.load (c.addr 0) n) fails)))

/-- A command that the core die carries out itself, answered like any other while the Caddy is unpowered (spec/10 R288). -/
def State.cdyJournal (s : State) (c : Ctx) (e : CfgEdit) : State :=
  if s.isFatal then s.fin c St.state
  else if 16 ≤ s.cdyInHand then s.fin c St.busy
  else if s.cdy.mode = .unpowered then s.cdyHand c false id
  else s.journalAdd (some c.slot) e

/-- CDY_VIEW_SET (spec/11 R306, R312, R313). -/
def cdyViewSetBody (c : Ctx) (s : State) : State :=
  let k := c.f 0 0 8
  let g := c.f 0 8 24
  s.cdyCheck c (decide (k ≤ 63) && decide (g ≤ 63)) (!c.tenant) (s.cdyJournal c (.view k g))

/-- CDY_PUBLISH (spec/11 R307, R312). -/
def cdyPublishBody (c : Ctx) (s : State) : State :=
  let base := c.f 0 0 16
  s.cdyCheck c (base % 16 == 0 && decide (base ≤ 64512)) (!c.tenant)
    (s.cdyJournal c (.publish (wd (base + 65536 * (c.b 0 16).toNat))))

/-- The rows of a snapshot that glove `g` is given (spec/11 R306). -/
def State.snapRows (s : State) (g : Nat) : List Nat := (List.range 64).filter (fun k => g == 0 || s.viewOf k == g)

/-- A snapshot as it is delivered (spec/11 R304, R306). -/
def State.snapFor (s : State) (g : Nat) (d : List Byte) : List Byte :=
  let rows := s.snapRows g
  let w (half : Nat) : List Byte :=
    leBytes 4 (bitsWord ((rows.filter (fun k => k / 32 == half)).map (· % 32))).toNat
  let h := patchB (sliceB d 0 64) 0x24 (w 0 ++ w 1)
  h ++ (List.range 64).flatMap (fun k => if rows.contains k then sliceB d (64 + 128 * k) 128 else leBytes 128 0)

/-- A mailbox command leaves the mailbox. -/
def State.unmail (s : State) (n : Nat) : State :=
  { s with cdy := { s.cdy with mail := s.cdy.mail.filter (fun m => m.slot != n) } }

/-- The issuer of a mailbox command still owns what it names: its buffer, and the circuit or the path of a command that its view
lets it read (spec/05 R129). -/
def State.mailMine (s : State) (m : Mail) : Bool :=
  let a : Nat := (nth m.args 0 0).toNat
  (m.data.isEmpty || s.memOk m.glove m.buf m.data.length)
    && (m.op != 0x0614 || m.glove == 0 || s.viewOf a == m.glove) && (m.op != 0x0622 || s.pathMine m.glove (a % 256))

/-- The Caddy's answer arrives (spec/10 R285, R286); a command whose resource has changed owner ends ABORTED (spec/05 R129). -/
def State.cdyDeliver (s : State) (n : Nat) (linkFails : Bool) : State :=
  match s.cdy.mail.find? (fun m => m.slot == n && m.ready) with
  | none => s
  | some m =>
    let s1 := s.unmail n
    if (s.slotOf n).phase = .inHand then
      if !s.mailMine m then s1.complete n St.aborted
      else if linkFails then
        let (b, s2) := s1.freeBytes m.data.length
        ((s2.store m.buf b).raiseSrc Pg.cdy 9).complete n 0x202
      else if m.op = 0x0610 ∧ m.status = 0 then
        (s1.store m.buf (s1.snapFor m.glove m.data)).complete n 0 m.res0 m.res1 (wd (s1.snapRows m.glove).length)
      else (s1.store m.buf m.data).complete n m.status m.res0 m.res1 m.res2
    else s1

/-- CDY_STAT.STATE reads UNPOWERED: no answer comes from the Caddy (spec/10 R283, R286). -/
def State.cdyGone (s : State) : Bool := s.link.silent || decide (s.cdy.mode = .unpowered)

/-- 100 ms pass without an answer of a Caddy that does not meter, or that was not there to take the command (spec/10 R286): the core die shows it UNPOWERED until
it is heard of again. -/
def State.cdyTimeout (s : State) (n : Nat) : State :=
  if s.cdy.mail.any (fun m => m.slot == n && !m.ready && (!s.cdy.meters || m.cold)) then
    let cal := s.cdy.cal.filter (fun m => m.slot != n)
    let s1 := { s with
      link := { s.link with silent := true },
      cdy := { s.cdy with cal := cal } }
    ((if s.cdyGone then s1 else s1.raiseSrc Pg.cdy 0).unmail n).complete n 0x201
  else s

/-- CDY_STAT as the core die shows it (spec/10 R283, R288). -/
def State.cdyStat (s : State) : Word :=
  if s.metrology && !s.cdyGone then s.cdy.statWord else 0

/-- METLED is lit (spec/10 R276). -/
def State.metled (s : State) : Bool := s.metrology && s.cdy.metledOn s.market

/-- What MCLKOUT0 to MCLKOUT3 carry (spec/01 R15). -/
def State.mclkout (s : State) : Mclk := if s.metrology then s.cdy.mclk else .still

end Sys2Proof.Machine
end

