-- ==== Sys2Proof/Machine/HostOps.lean ====
section
/-! DEFINITION. The host side: who gets at a register, the events of the cores and of PCI Express, and the USB port
(spec/03 R66 to R68, R82 to R85, spec/19). -/

namespace Sys2Proof.Machine

-- Accesses of requesters

/-- The page has registers: it is assigned, and not the CDY page of a part without a Caddy (spec/03 R55, spec/00 R4). -/
def State.hasPage (s : State) (p : Nat) : Bool := (pageKind p).isSome && (p != Pg.cdy || s.metrology)

/-- A register write of a requester: denied writes count as violations, and after FATAL only PG_IRQ_PEND and the CMD banks
take writes (spec/02 R33, spec/03 R66 to R68, spec/05 R115). -/
def State.onWrite (s : State) (r : Requester) (p off : Nat) (f : Nat → State → State) : State :=
  if s.coreUp && s.hasPage p then
    match s.gloveOf r with
    | none => s
    | some g =>
      if s.active g && s.mayWrite g p off then
        if s.isFatal && off != Hd.irqPend && !isBanked p off then s else f g s
      else s.violation g
  else s

/-- The side effect of a register read of a requester (spec/03 R66, R68, spec/05 R115). -/
def State.onRead (s : State) (r : Requester) (p off : Nat) (f : Nat → State → State) : State :=
  if s.coreUp && s.hasPage p then
    match s.gloveOf r with
    | none => s
    | some g => if s.active g && s.mayRead g p off then f g s else s.violation g
  else s

-- Events (spec/03 R83 to R85)

/-- Page `p` asserts its event. -/
def State.pageEvent (s : State) (p : Nat) : Bool := s.reg p Hd.irqPend &&& s.reg p Hd.irqEn != 0

/-- The pages with an event enabled. -/
def State.enabledPages (s : State) : List Nat :=
  (s.win.filter (fun e => decide (e.1 < 0x1000000) && e.1 % 0x1000 == Hd.irqEn)).map (fun e => e.1 / 0x1000)

/-- CLE_ROUTE of a glove (spec/19 R491). -/
def State.routeOf (s : State) (g : Nat) : Nat := Sparse.get (fun k => if k = 0 then 1 else 0) s.pci.route g

/-- CLE_ROUTE is written. -/
def State.setRoute (s : State) (g v : Nat) : State :=
  { s with pci := { s.pci with route := Sparse.set (fun k => if k = 0 then 1 else 0) s.pci.route g (v % 256) } }

/-- The core that takes the events of a glove (spec/19 R492). -/
def State.routeCore (s : State) (g : Nat) : Option Nat :=
  (List.range 8).find? (fun c => (s.routeOf g).testBit c && s.coreGloveOf c == g)

/-- The events routed to a core and asserted (spec/19 R492). -/
def State.eventsOf (s : State) (c : Nat) : List Nat :=
  s.enabledPages.filter (fun p => s.pageEvent p && s.routeCore (s.owner p) == some c)
    ++ (s.pci.coreLatch.filter (fun q => s.routeCore (s.queueOwner q) == some c)).map (· + 0x1000)

/-- The event interrupt of core `c` is asserted: IRQ_EN is 1 and an event is routed to it (spec/19 R492). -/
def State.coreIrq (s : State) (c : Nat) : Bool := s.pci.enable.contains c && !(s.eventsOf c).isEmpty

/-- What CLE_CLAIM reads (spec/19 R491). -/
def State.claimed (s : State) (c : Nat) : Option Nat :=
  match s.eventsOf c with
  | [] => none
  | e :: t => some (t.foldl min e)

/-- A read of CLE_CLAIM (spec/19 R492). -/
def State.claimRead (s : State) (c : Nat) : State :=
  match s.claimed c with
  | some e =>
    if e < 0x1000 then s
    else { s with pci := { s.pci with coreLatch := s.pci.coreLatch.filter (fun q => q + 0x1000 != e) } }
  | none => s

/-- CORE_GLOVE is written (spec/19 R490). -/
def State.setCoreGlove (s : State) (c v : Nat) : State :=
  { s with coreGlove := Sparse.set (dflt 0) s.coreGlove c (v % 64) }

/-- An event that waited for a requester goes to the function and to the USB session there now is (spec/03 R85). -/
def State.deliverEvent (s : State) (e : Nat) : State :=
  let s1 :=
    if e < 0x1000 then
      if s.pageEvent e then
        match s.fnFor (s.owner e) with
        | some f =>
          if s.pci.fnEdge.contains (8, e) then
            { s with pci := { s.pci with fnEdge := s.pci.fnEdge.filter (fun x => x != (8, e) && x != (f, e)) ++ [(f, e)] } }
          else s
        | none => s
      else { s with pci := { s.pci with fnEdge := s.pci.fnEdge.filter (fun x => x != (8, e)) } }
    else
      let q := e - 0x1000
      match s.fnFor (s.queueOwner q) with
      | some f =>
        if s.pci.fnLatch.contains (8, q) then
          { s with pci := { s.pci with fnLatch := s.pci.fnLatch.filter (fun x => x != (8, q) && x != (f, q)) ++ [(f, q)] } }
        else s
      | none => s
  s1.usbFlush

-- PCI Express (spec/19 R493 to R500)

/-- TotalVFs of the SR-IOV capability (spec/19 R493, R499). -/
def State.totalVfs (s : State) : Nat := if s.flag Pg.pci Rg.PCI_CTRL 8 then 7 else 0

/-- What the configuration space of a function shows of the limits of spec/19 R493: identity, power state, MSI-X, Advanced Error
Reporting, SR-IOV and the maximum payload in bytes. -/
structure PciFn where
  vendor : Nat
  device : Nat
  classCode : Nat
  d3hot : Bool
  vectors : Nat
  msixOn : Bool
  aerCorr : Bool
  aerUncorr : Bool
  totalVfs : Nat
  numVfs : Nat
  payload : Nat
  deriving DecidableEq, Repr

/-- The configuration space of function `f`, none where the host sees no such function (spec/19 R493, R499). -/
def State.pciConfig (s : State) (f : Nat) : Option PciFn :=
  if s.pci.linkUp && decide (f ≤ s.pci.numVf) then
    some { vendor := 0x1F3B, device := if f = 0 then 0x7140 else 0x7141, classCode := 0x088000, d3hot := s.pci.d3.contains f,
           vectors := 64, msixOn := s.pci.msixEn.contains f, aerCorr := s.pci.aerCorr, aerUncorr := s.pci.aerUncorr,
           totalVfs := if f = 0 then s.totalVfs else 0, numVfs := if f = 0 then s.pci.numVf else 0, payload := 256 }
  else none

/-- Page events of function `f` that are no longer asserted are dropped (spec/19 R495, spec/03 R85). -/
def State.dropEdges (s : State) (f : Nat) : State :=
  { s with pci := { s.pci with fnEdge := s.pci.fnEdge.filter (fun x => x.1 != f || s.pageEvent x.2) } }

/-- Function `f` may send on vector `v`. -/
def State.msixReady (s : State) (f v : Nat) : Bool :=
  s.portsOn && s.fnAwake f && s.running Pg.pci && s.pci.msixEn.contains f && s.pci.unmasked.contains (f * 64 + v)

/-- The vector of a queue event (spec/19 R495). -/
def queueVector (q : Nat) : Nat := 1 + q % 63

/-- Word `k` of entry `v` of the MSI-X table of function `f`: address low and high, data, and the mask bit (spec/19 R494). -/
def State.msixWord (s : State) (f v k : Nat) : Word :=
  if k = 3 then (if s.pci.unmasked.contains (f * 64 + v) then 0 else 1) else Sparse.get (dflt 0) s.pci.table (f * 256 + v * 4 + k)

/-- The message of a vector is written to the address that its table entry holds. -/
def State.msixEmit (s : State) (f v : Nat) : State :=
  s.emit (.msix f v (s.msixWord f v 0) (s.msixWord f v 1) (s.msixWord f v 2))

/-- A message is sent for the first event due on the vector. -/
def State.msixSend (s : State) (f v : Nat) : State :=
  if s.msixReady f v then
    if v = 0 then
      match s.pci.fnEdge.find? (fun x => x.1 == f) with
      | some e => { s with pci := { s.pci with fnEdge := s.pci.fnEdge.filter (fun x => x != e) } }.msixEmit f 0
      | none => s
    else
      match s.pci.fnLatch.find? (fun x => x.1 == f && queueVector x.2 == v) with
      | some e => { s with pci := { s.pci with fnLatch := s.pci.fnLatch.filter (fun x => x != e) } }.msixEmit f v
      | none => s
  else s

/-- The mask bit of a vector is set or cleared in the MSI-X table. -/
def State.msixMask (s : State) (f v : Nat) (m : Bool) : State :=
  let rest := s.pci.unmasked.filter (fun k => k != f * 64 + v)
  if m then { s with pci := { s.pci with unmasked := rest } }
  else
    let s1 := { s with pci := { s.pci with unmasked := rest ++ [f * 64 + v] } }
    if v = 0 then s1.dropEdges f else s1

/-- A PBA bit: the vector is masked and an event is due on it (spec/19 R495). -/
def State.pbaBit (s : State) (f v : Nat) : Bool :=
  !s.pci.unmasked.contains (f * 64 + v) &&
    (if v = 0 then s.pci.fnEdge.any (fun x => x.1 == f) else s.pci.fnLatch.any (fun x => x.1 == f && queueVector x.2 == v))

/-- A 32-bit read of BAR4 of function `f`: the MSI-X table, and the PBA at 0x2000 (spec/19 R494). -/
def State.bar4Read (s : State) (f off : Nat) : Word :=
  if off < 0x400 then s.msixWord f (off / 16) (off % 16 / 4)
  else if off = 0x2000 ∨ off = 0x2004 then
    bitsWord ((List.range 32).filter (fun k => s.pbaBit f (k + 8 * (off - 0x2000))))
  else 0

/-- A 32-bit write to BAR4: the MSI-X table; a vector that is unmasked sends what is due on it (spec/19 R494, R495). -/
def State.bar4Write (s : State) (f off : Nat) (w : Word) : State :=
  let v := off / 16
  let k := off % 16 / 4
  if 0x400 ≤ off then s
  else if k = 3 then (s.msixMask f v (bit w 0)).msixSend f v
  else
    let x := if k = 0 then w &&& 0xFFFFFFFC else w
    { s with pci := { s.pci with table := Sparse.set (dflt 0) s.pci.table (f * 256 + v * 4 + k) x } }

/-- MSIX_MESSAGE: the function changes a mask bit, if it does, and sends what is due (spec/19 R495). -/
def State.msixStep (s : State) (f v : Nat) (m : Option Bool) : State :=
  if s.coreUp && s.pci.linkUp then
    match m with
    | some b => (s.msixMask f v b).msixSend f v
    | none => s.msixSend f v
  else s

/-- Function `f` returns to its reset values (spec/19 R497). -/
def State.fnReset (s : State) (f : Nat) : State :=
  let b := 8 + f
  { s with
    win := Sparse.keep (fun k => k / 0x1000000 != b + 1 ||
      (let p := k % 0x1000000 / 0x1000
       p != Pg.cmd && !(List.range 4).any (fun n => p == Pg.tmb n))) s.win,
    pci := { s.pci with
      fnLatch := s.pci.fnLatch.filter (fun x => x.1 != f),
      unmasked := s.pci.unmasked.filter (fun k => k / 64 != f),
      table := Sparse.keep (fun k => k / 256 != f) s.pci.table,
      d3 := s.pci.d3.filter (fun k => k != f),
      msixEn := s.pci.msixEn.filter (fun k => k != f) } }

/-- The link goes down (spec/19 R497, R498, R511). -/
def State.pciDown (s : State) : State :=
  let up := s.pci.linkUp
  let s1 := (List.range 8).foldl (fun (a : State) f => a.fnReset f) s
  let s2 := { s1 with pci := { s1.pci with linkUp := false, width := 0, speed := 0, numVf := 0, d3 := [] } }
  if up then
    let s3 := s2.bump Pg.pci Rg.PCI_LINK_DOWNS
    if s.running Pg.pci then s3.raiseSrc Pg.pci 1 else s3
  else s2

/-- PCI_FUNCTION_RESET. -/
def State.pciReset (s : State) (f : Option Nat) : State :=
  match f with
  | some n => if s.pci.linkUp then s.fnReset n else s
  | none => s.pciDown

/-- The link comes up, and the host configures the functions: the virtual functions that it enables, those with MSI-X on and
those in D3hot (spec/19 R493, R499). A link that is up keeps its width and speed (R500); virtual functions that are no longer
enabled are reset. -/
def State.pciUp (s : State) (width speed numVf : Nat) (msix d3 : List Nat) : State :=
  if s.coreUp && s.running Pg.pci then
    let c := s.reg Pg.pci Rg.PCI_CTRL
    let n := min numVf s.totalVfs
    let s0 := ((List.range 8).filter (fun f => decide (n < f) && decide (f ≤ s.pci.numVf))).foldl State.fnReset s
    let on (l : List Nat) : List Nat := l.filter (fun f => decide (f ≤ n))
    let fresh := (on msix).filter (fun f => !s0.pci.msixEn.contains f)
    let s1 := { s0 with pci := { s0.pci with
      linkUp := true, width := if s.pci.linkUp then s.pci.width else min width (bf c 0 2),
      speed := if s.pci.linkUp then s.pci.speed else min speed (bf c 2 3), numVf := n, msixEn := on msix, d3 := on d3 } }
    fresh.foldl (fun (a : State) f => a.dropEdges f) s1
  else s

/-- PCI_VF_GLOVEv is written (spec/19 R499, R500). -/
def State.vfGlove (s : State) (v : Nat) (w : Word) : State :=
  let x := w &&& 0x13F
  let y := if bf x 0 6 = 0 then setBit x 8 false else x
  let off := Rg.PCI_VF_GLOVE + 4 * (v - 1)
  if y = s.reg Pg.pci off then s
  else
    let s1 := s.setReg Pg.pci off y
    { s1 with pci := { s1.pci with
        fnLatch := s1.pci.fnLatch.filter (fun x => x.1 != v), fnEdge := s1.pci.fnEdge.filter (fun x => x.1 != v) } }

/-- PCI_STAT (spec/19 R499). -/
def State.pciStat (s : State) : Word :=
  wd (s.pci.linkUp.toNat + 2 * s.pci.width + 16 * s.pci.speed + 256 * s.pci.numVf)

/-- An error of the link is counted, and shown by Advanced Error Reporting (spec/19 R493, R498, R511). -/
def State.pciErr (s : State) (u : Bool) : State :=
  if s.coreUp then
    if u then
      ({ s with pci := { s.pci with aerUncorr := true } }.bump Pg.pci Rg.PCI_ERR_UNCORR).raiseSrc Pg.pci 0
    else { s with pci := { s.pci with aerCorr := true } }.bump Pg.pci Rg.PCI_ERR_CORR
  else s

-- USB (spec/19 R501 to R510)

/-- The session closes. -/
def State.usbClose (s : State) : State := { s with usb := { s.usb with session := none } }

/-- The port works: clocks, power and page. -/
def State.usbOn (s : State) : Bool := s.portsOn && s.running Pg.usb && s.clk.usbPll

/-- The device is seen by the host: an enumerated or default device that is not suspended. -/
def State.usbAwake (s : State) : Bool := s.usbOn && decide (2 ≤ s.usb.dstate) && !s.usb.suspended

/-- A vendor request reaches the interface of R501; in RECOVERY there is none (spec/19 R501, R502). -/
def State.onVendor (s : State) (f : State → State) : State :=
  if s.usbAwake then if s.sys.mode = .recovery then s.emit .stall else f s else s

/-- The D+ pull-up is connected or removed (spec/19 R509, spec/23 R604). -/
def State.usbAttach (s : State) : State :=
  if s.usbOn && s.usb.vbus then
    if s.usb.dstate = 0 then { s with usb := { s.usb with dstate := 1 } } else s
  else
    { s with usb := { s.usb with dstate := 0, suspended := false, driving := false, armed := false, high := false,
                                 address := 0, session := none, nonce := none } }

/-- SESSION_NONCE (spec/19 R502). Without random numbers the request is not served (spec/20 R512; log entry 31). -/
def State.usbNonce (s : State) : State :=
  s.onVendor (fun s =>
    if s.key.rngOk then
      let (n, s1) := s.random 32
      { s1 with usb := { s1.usb with nonce := some n } }.emit (.ep0 n)
    else s.emit .stall)

/-- SESSION_OPEN (spec/19 R503, R505). -/
def State.usbOpen (s : State) (g : Nat) (mac : List Byte) : State :=
  s.onVendor (fun s =>
    let good :=
      match s.usb.nonce, s.sessionKey g with
      | some n, some k => Config.hmac k (n ++ leBytes 1 g) == mac
      | _, _ => false
    let s1 := { s with usb := { s.usb with nonce := none } }
    if good then
      let due := (s1.enabledPages.filter (fun p => s1.pageEvent p && s1.owner p == g)).map (fun p => (g, p))
      let l := s1.usb.latch.filter (fun x => !due.contains x) ++ due
      { s1 with usb := { s1.usb with session := some g, latch := l } }.usbFlush
    else ({ s1 with usb := { s1.usb with session := none } }.bump Pg.usb Rg.USB_AUTH_FAILS).raiseSrc Pg.usb 0)

/-- SESSION_CLOSE. -/
def State.usbSessionClose (s : State) : State := s.onVendor State.usbClose

/-- RING_STATE (spec/19 R502). -/
def State.ringBytes (s : State) : List Byte :=
  match s.usb.session with
  | none => leBytes 2 0xFF ++ leBytes 6 0
  | some g =>
    leBytes 2 g ++ leBytes 2 (s.ring g).length ++ leBytes 4 (s.usb.latch.filter (fun x => x.1 == g)).length

/-- The most entries of a packet on EP1 (spec/19 R501). -/
def State.ep1Max (s : State) : Nat := if s.usb.high then 16 else 2

/-- The slot from which an entry of a USB ring came still holds its completion. -/
def State.entryKept (s : State) (e : UsbEntry) : Bool :=
  let h := getLE e 0 4
  getLE e 6 1 == 1 && (s.slotOf (h % 4096)).complete && (s.slotOf (h % 4096)).handle (h % 4096) == h

/-- An uncorrectable error in the oldest entry of the session's ring (spec/19 R511): it is discarded, and the completion that it
held is posted again from its slot. -/
def State.ep1Spoilt (s : State) : State :=
  match s.usb.session with
  | none => s
  | some g =>
    match s.ring g with
    | [] => s
    | e :: t =>
      let again := if s.entryKept e then t ++ [e] else t
      { s with usb := { s.usb with rings := Sparse.set (dflt []) s.usb.rings g again } }.raiseSrc Pg.usb 1

/-- A packet on EP1 is acknowledged (spec/19 R505). -/
def State.ep1Ack (s : State) : State :=
  if s.usbAwake && s.usb.dstate == 4 then
    match s.usb.session with
    | none => s
    | some g =>
      let e := (s.ring g).take s.ep1Max
      if e.isEmpty then s
      else
        let rest := (s.ring g).drop s.ep1Max
        ({ s with usb := { s.usb with rings := Sparse.set (dflt []) s.usb.rings g rest } }.emit (.ep1 e.flatten)).usbFlush
  else s

/-- A bus reset (spec/19 R506). -/
def State.usbReset (s : State) (discards chirp : Bool) : State :=
  if s.usbOn && decide (1 ≤ s.usb.dstate) then
    let s1 := { s with usb := { s.usb with
      dstate := 2, suspended := false, driving := false, armed := false, address := 0, session := none,
      high := chirp && s.flag Pg.usb Rg.USB_CTRL 0 } }
    let s2 := (s1.bump Pg.usb Rg.USB_RESETS).pulse Pg.usb 2
    if discards then s2.bump Pg.usb Rg.USB_SETUP_DISCARDS else s2
  else s

/-- RWAKE_PENDING (spec/19 R507): the request waits for the 5 ms. -/
def State.wakePending (s : State) : Bool :=
  s.usb.suspended && !s.usb.driving && s.flag Pg.usb Rg.USB_CTRL 1 && s.usb.armed &&
    (match s.usb.session with | some g => !(s.ring g).isEmpty | none => false)

/-- The 5 ms have passed with a request: the device drives K (spec/19 R507). -/
def State.usbWake (s : State) : State :=
  if s.usbOn && s.wakePending then { s with usb := { s.usb with driving := true } }.emit .wakeK else s

/-- The host resumes the bus (spec/19 R508). -/
def State.usbResume (s : State) : State :=
  if s.usbOn && s.usb.suspended then
    let done := s.usb.driving
    let pre := s.wakePending
    let w := s.reg Pg.usb Rg.USB_WAKE
    let s1 := s.setReg Pg.usb Rg.USB_WAKE (setBit (setBit w 0 (bit w 0 || done)) 1 (bit w 1 || pre))
    { s1 with usb := { s1.usb with suspended := false, driving := false } }
  else s

/-- The bus goes idle (spec/19 R507). -/
def State.usbSuspended (s : State) : State :=
  if s.usbOn && decide (1 ≤ s.usb.dstate) then { s with usb := { s.usb with suspended := true, driving := false } } else s

/-- The device descriptor (spec/19 R501): in RECOVERY the loader's. -/
def State.usbDevice (s : State) : List Byte :=
  leBytes 1 18 ++ leBytes 1 1 ++ leBytes 2 0x0200 ++ leBytes 3 0 ++ leBytes 1 64 ++ leBytes 2 0x2F5E
    ++ leBytes 2 (if s.sys.mode = .recovery then 0x714F else 0x7140) ++ (List.range 5).map (fun k => Config.usbByte 1 (12 + k))
    ++ leBytes 1 1

/-- The configuration descriptor with its interface (spec/19 R501, spec/21 R549): self-powered, with remote wakeup; one
vendor-class interface with EP1, or the DFU interface of the loader. -/
def State.usbConfig (s : State) : List Byte :=
  let body :=
    if s.sys.mode = .recovery then
      [9, 4, 0, 0, 0, 0xFE, 1, 2, Config.usbByte 4 8, 9, 0x21, 1, Config.usbByte 0x21 3, Config.usbByte 0x21 4]
        ++ leBytes 2 4096 ++ leBytes 2 0x0110
    else
      [9, 4, 0, 0, 1, 0xFF, Config.usbByte 4 6, Config.usbByte 4 7, Config.usbByte 4 8, 7, 5, 0x81, 2]
        ++ leBytes 2 (if s.usb.high then 512 else 64) ++ [Config.usbByte 5 6]
  [9, 2] ++ leBytes 2 (9 + body.length) ++ [1, 1, Config.usbByte 2 6, 0xE0, Config.usbByte 2 8] ++ body

/-- A standard request (spec/19 R501, R510). -/
def State.usbStandard (s : State) (q : UsbStd) : State :=
  if s.usbAwake then
    match q with
    | .setAddress a =>
      if s.usb.dstate ≤ 3 then
        { s with usb := { s.usb with address := a % 128, dstate := if a % 128 = 0 then 2 else 3 } }
      else s
    | .setConfiguration c =>
      if s.usb.dstate < 3 then s
      else if c = 0 then { s with usb := { s.usb with dstate := 3 } }
      else if c = 1 then { s with usb := { s.usb with dstate := 4 } }
      else s.emit .stall
    | .setRemoteWakeup on => { s with usb := { s.usb with armed := on } }
    | .getDescriptor typ _ len =>
      if typ = 1 then s.emit (.ep0 (s.usbDevice.take len))
      else if typ = 2 then s.emit (.ep0 (s.usbConfig.take len))
      else s.emit .stall
    | .getConfiguration => s.emit (.ep0 (leBytes 1 (decide (s.usb.dstate = 4)).toNat))
    | .getStatus => s.emit (.ep0 (leBytes 2 (1 + 2 * s.usb.armed.toNat)))
  else s

/-- USB_STAT (spec/19 R510). -/
def State.usbStat (s : State) : Word :=
  let u := s.usb
  wd (u.dstate + 8 * u.suspended.toNat + 16 * u.high.toNat + 32 * u.armed.toNat + 256 * u.session.getD 0
    + 32768 * u.session.isSome.toNat)

/-- The USB PLL loses or regains lock (spec/23 R597). -/
def State.usbPll (s : State) (on : Bool) : State :=
  if s.powered then
    let s1 := { s with clk := { s.clk with usbPll := on } }
    let s2 := if on || !s.clk.usbPll then s1 else s1.raiseSrc Pg.clk 2
    s2.usbAttach
  else s

/-- USB_VBUS rises or falls (spec/23 R604). -/
def State.usbVbus (s : State) (on : Bool) : State := { s with usb := { s.usb with vbus := on } }.usbAttach

end Sys2Proof.Machine
end

