-- ==== Sys2Proof/Machine/UpdOps.lean ====
section
/-! DEFINITION. Firmware update and recovery (spec/21): image files, slots, sessions, the chain relay, the trial, and the
loader. -/

namespace Sys2Proof.Machine

-- The image file (spec/21 R536, R537)

/-- CHUNKS of a header. -/
def hdrChunks (h : List Byte) : Nat := getLE h 0x14 4
/-- LENGTH of a header. -/
def hdrLength (h : List Byte) : Nat := getLE h 0x18 4
/-- VERSION of a header. -/
def hdrVersion (h : List Byte) : Nat := getLE h 0x0C 4
/-- ROLLBACK of a header. -/
def hdrRollback (h : List Byte) : Nat := getLE h 0x10 1

/-- The `n` bytes at `off` are zero. -/
def zeroB (h : List Byte) (off n : Nat) : Bool := (sliceB h off n).all (fun b => b == 0)

/-- SECTIONS is right: each names a kind and bytes of the payload (log entry 27). -/
def sectionsOk (h : List Byte) : Bool :=
  (List.range 4).all (fun i =>
    let o := 0x50 + 16 * i
    decide (1 ≤ getLE h o 4) && decide (getLE h o 4 ≤ 4) && decide (getLE h (o + 4) 4 + getLE h (o + 8) 4 ≤ hdrLength h))

/-- Reason 1 does not apply. -/
def hdrFormat (h : List Byte) : Bool :=
  getLE h 0 4 == 0x54494D31 && getLE h 4 2 == 1 && decide (1 ≤ hdrChunks h) && decide (hdrChunks h ≤ 8176)
    && decide ((hdrChunks h - 1) * 65536 < hdrLength h) && decide (hdrLength h ≤ hdrChunks h * 65536) && sectionsOk h
    && zeroB h 0x11 3 && zeroB h 0x1C 4 && zeroB h 0x90 0xB0 && getLE h 8 4 / 4 % 2 ^ 14 == 0 && zeroB h 0xB 1

/-- The version of a section by KIND, 0 if the image has none. -/
def sectionVersion (h : List Byte) (kind : Nat) : Nat :=
  match (List.range 4).find? (fun i => getLE h (0x50 + 16 * i) 4 == kind) with
  | some i => getLE h (0x50 + 16 * i + 12) 4
  | none => 0

/-- The first reason of spec/21 R537 from 1 to 6 for which a header is refused, 0 if none is. -/
def State.hdrReason (s : State) (h : List Byte) : Nat :=
  let key := sliceB h 0x140 96
  let ok := if s.metrology then getLE h 8 4 % 2 == 1 else getLE h 8 4 / 2 % 2 == 1
  if h.length != 512 || !hdrFormat h then 1
  else if Config.sha384 key != Config.imageKeyHash then 2
  else if !Config.ecdsaVerify key (Config.sha384 (h.take 0x1A0)) (sliceB h 0x1A0 96) then 3
  else if getLE h 6 2 != 0x7140 then 4
  else if !ok || decide (Config.romVersion < getLE h 0xA 1) then 5
  else if hdrRollback h < s.upd.rollback then 6
  else 0

/-- The hash list fits the header (reason 7). -/
def hashesOk (h l : List Byte) : Bool := l.length == 48 * hdrChunks h && Config.sha384 l == sliceB h 0x20 48

/-- Bytes of chunk `i`. -/
def chunkLen (h : List Byte) (i : Nat) : Nat :=
  if i + 1 = hdrChunks h then hdrLength h - 65536 * i else 65536

/-- A chunk has the digest of its entry. -/
def chunkOk (l : List Byte) (i : Nat) (b : List Byte) : Bool := Config.sha384 b == sliceB l (48 * i) 48

/-- Units of the hash list (spec/21 R542). -/
def hashUnits (h : List Byte) : Nat := (48 * hdrChunks h + 8191) / 8192

-- Slots (spec/21 R538)

/-- Slot 0 (A) or 1 (B). -/
def UpdSt.slot (u : UpdSt) (n : Nat) : SlotImg := if n = 0 then u.slotA else u.slotB
/-- Sets a slot. -/
def UpdSt.setSlot (u : UpdSt) (n : Nat) (x : SlotImg) : UpdSt := if n = 0 then { u with slotA := x } else { u with slotB := x }

/-- The slot is valid. -/
def State.slotValid (s : State) (n : Nat) : Bool :=
  let x := s.upd.slot n
  x.complete && s.hdrReason x.hdr == 0 && hashesOk x.hdr x.hashes

/-- VERSION of a slot, 0 if it is invalid. -/
def State.slotVersion (s : State) (n : Nat) : Nat := if s.slotValid n then hdrVersion (s.upd.slot n).hdr else 0

/-- A change to a slot. -/
def State.onSlot (s : State) (n : Nat) (f : SlotImg → SlotImg) : State :=
  { s with upd := s.upd.setSlot n (f (s.upd.slot n)) }

/-- A slot is opened: its complete mark is erased. -/
def State.openSlot (s : State) (n : Nat) : State :=
  let s1 := s.onSlot n (fun _ => {})
  { s1 with upd := { s1.upd with staged := false } }

-- Frames of the relay (spec/21 R542, R544)

/-- The group address of the loader's frames (spec/21 R550); relay frames carry it too (log entry 28). -/
def relayDest : List Byte := [0x03, 0x0F, 0xC7, 0x14, 0x00, 0x03]

/-- A relay frame's payload. -/
def relayPdu (op reason remain session unit origin loaded : Nat) (data : List Byte) : List Byte :=
  leBytes 1 0x55 ++ leBytes 1 op ++ leBytes 1 reason ++ leBytes 1 remain ++ beBytes 4 session ++ beBytes 4 unit
    ++ beBytes 2 data.length ++ leBytes 1 origin ++ leBytes 1 0 ++ leBytes 16 loaded ++ data

/-- A frame of the module's own protocols, padded to the least length of IEEE 802.3. -/
def ownEth (dest src pdu : List Byte) : List Byte :=
  let f := dest ++ src ++ [0x88, 0xB5] ++ pdu
  f ++ List.replicate (60 - f.length) 0

/-- A relay frame to the neighbour at a port (spec/21 R542). -/
def State.relayNext (s : State) (west : Bool) (pdu : List Byte) : State :=
  s.rsLocal west (s.ownFrame west 1 0xFE 1 (ownEth relayDest (rsMac west) pdu))

/-- The loader's MAC address (spec/21 R550). -/
def State.loaderMac (s : State) : List Byte := [0x02, 0x5E, 0xB0] ++ beBytes 3 (s.key.serial % 2 ^ 24)

/-- A frame of the loader on FP0. -/
def State.loaderSend (s : State) (dest pdu : List Byte) : State := s.emit (.fp 0 (macFrame (ownEth dest s.loaderMac pdu)))

/-- An answer to the neighbour or host that sent a unit. -/
def State.relayBack (s : State) (x : UpdSess) (pdu : List Byte) : State :=
  match x.src with
  | .riser w => s.relayNext w pdu
  | .fp0 mac => s.loaderSend mac pdu
  | _ => s

/-- An answer to the originator of a session: a CONTROL unicast (spec/21 R543, R544). -/
def State.relayOrigin (s : State) (x : UpdSess) (pdu : List Byte) : State :=
  match x.src with
  | .riser _ => s.rsTo x.origin (fun w => ownEth relayDest (rsMac w) pdu)
  | .fp0 mac => s.loaderSend mac pdu
  | _ => s

/-- This module's ring address at a port. -/
def State.ringAddr (s : State) (west : Bool) : Nat := (s.rsPort west).addr

-- Sessions

/-- The session of the update commands, or the relayed one. -/
def State.sess (s : State) (own : Bool) : Option UpdSess := if own then s.upd.own else s.upd.via
/-- Sets a session. -/
def State.setSess (s : State) (own : Bool) (x : Option UpdSess) : State :=
  if own then { s with upd := { s.upd with own := x } } else { s with upd := { s.upd with via := x } }
/-- Changes a session that is open. -/
def State.onSess (s : State) (own : Bool) (f : UpdSess → UpdSess) : State := s.setSess own ((s.sess own).map f)

/-- The bytes of a chunk that has been verified in a session. -/
def UpdSess.chunk (x : UpdSess) (i : Nat) : List Byte := Sparse.get (dflt []) x.have_ i

/-- All chunks are stored in the opened slot. -/
def UpdSess.full (x : UpdSess) : Bool := x.stored.length == hdrChunks x.hdr

/-- All chunks were verified. -/
def UpdSess.whole (x : UpdSess) : Bool := x.have_.length == hdrChunks x.hdr

/-- Chunk `i` still waits for the next module. -/
def UpdSess.owes (x : UpdSess) (i : Nat) : Bool :=
  match x.fwd with
  | none => false
  | some f => !f.endHere && (f.wait.contains i || f.sent.any (fun e => e.1 == i))

/-- The commands of a session end with a status. -/
def State.endCmds (s : State) (x : UpdSess) (status : Nat) (r0 r1 : Word) : State :=
  let slots := x.writes.filterMap (·.slot) ++ x.finish.toList
  slots.foldl (fun a n => a.complete n status r0 r1) s

/-- The sessions end with their commands ABORTED: a STOP of UPD, PFW (spec/21 R540, R556). -/
def State.updStop (s : State) : State :=
  let s1 := match s.upd.own with | some x => s.endCmds x St.aborted 0 0 | none => s
  { s1 with upd := { s1.upd with own := none, via := none } }

-- Forwarding (spec/21 R542)

/-- The unit frames of a chunk. -/
def State.sendChunk (s : State) (x : UpdSess) (f : RelaySt) (i : Nat) : State :=
  let b := x.chunk i
  (List.range ((b.length + 8191) / 8192)).foldl (fun a j =>
    a.relayNext f.west (relayPdu 1 0 f.remain f.session (hashUnits x.hdr + 1 + 8 * i + j) f.origin 0
      ((b.drop (8192 * j)).take 8192))) s

/-- The header and the hash list are forwarded; without a port that is UP this module is the end of the chain. -/
def State.sendHeader (s : State) (own : Bool) : State :=
  match s.sess own with
  | none => s
  | some x =>
    match x.fwd with
    | none => s
    | some f =>
      if s.rsUp f.west then
        let s1 := s.relayNext f.west (relayPdu 1 0 f.remain f.session 0 f.origin 0 x.hdr)
        (List.range (hashUnits x.hdr)).foldl (fun a k =>
          a.relayNext f.west (relayPdu 1 0 f.remain f.session (k + 1) f.origin 0 ((x.hashes.drop (8192 * k)).take 8192))) s1
      else s.onSess own (fun y => { y with fwd := some { f with endHere := true } })

/-- The next chunk that waits is sent, while fewer than 16 are unacknowledged. -/
def State.pumpOne (s : State) (own : Bool) : State :=
  match s.sess own with
  | none => s
  | some x =>
    match x.fwd with
    | none => s
    | some f =>
      match f.wait with
      | [] => s
      | i :: t =>
        if f.endHere || decide (16 ≤ f.sent.length) then s
        else if s.rsUp f.west then
          let s1 := (s.sendChunk x f i).bump Pg.upd Rg.UPD_RELAYED
          s1.onSess own (fun y => { y with fwd := some { f with wait := t, sent := f.sent ++ [(i, 0)] } })
        else s.onSess own (fun y => { y with fwd := some { f with endHere := true, wait := [], sent := [] } })

/-- Chunks are sent while the window lets them. -/
def State.pump (s : State) (own : Bool) : State := Nat.repeat (fun a => State.pumpOne a own) 16 s

/-- A verified chunk is handed to the onward port. -/
def State.forward (s : State) (own : Bool) (i : Nat) : State :=
  (s.onSess own (fun x => { x with fwd := x.fwd.map (fun f => if f.endHere then f else { f with wait := f.wait ++ [i] }) })).pump own

-- Completion of the commands (spec/21 R540, R541, R544)

/-- UPD_CHUNK commands whose chunks are stored and acknowledged complete DONE. -/
def State.settleChunks (s : State) : State :=
  match s.upd.own with
  | none => s
  | some x =>
    let finished (w : UpdWrite) : Bool := w.written && !w.chunks.any x.owes
    let s1 := s.onSess true (fun y => { y with writes := y.writes.filter (fun w => !finished w) })
    (x.writes.filter finished).foldl (fun a w =>
      match w.slot with | some n => a.complete n 0 (wd x.stored.length) | none => a) s1

/-- The ring address of the first module along the chain that did not store the image (spec/21 R540): the hops come from
the ring map (log entry 28). -/
def State.firstMissing (s : State) (west : Bool) (reached loaded : Nat) : Nat :=
  let at_ (h : Nat) : Option Nat := ((s.rsPort west).map.find? (fun e => e.2 == h)).map (·.1)
  (((List.range (reached - 1)).filterMap (fun h => at_ (h + 1))).find? (fun a => !loaded.testBit a)).getD 0xFF

/-- LOADED of the last REPORT is shown. -/
def State.showLoaded (s : State) (loaded : Nat) : State :=
  (List.range 4).foldl (fun a k => a.setReg Pg.upd (Rg.UPD_LOADED + 4 * k) (wd (loaded / 2 ^ (32 * k)))) s

/-- UPD_FINISH completes with a report: LOADED and the modules reached. -/
def State.finishDone (s : State) (x : UpdSess) (west : Bool) (reached loaded : Nat) : State :=
  let s1 := (s.showLoaded loaded).setSess true none
  let n := popCount loaded 128
  match x.finish with
  | none => s1
  | some k => s1.complete k (if n < reached then St.note else 0) (wd n) (wd reached) (wd (s.firstMissing west reached loaded))

/-- UPD_FINISH completes FAILED_RELAY. -/
def State.finishFailed (s : State) (x : UpdSess) (reason : Nat) (addr : Word) : State :=
  let s1 := (s.setSess true none).raiseSrc Pg.upd 2
  match x.finish with
  | none => s1
  | some k => s1.complete k 0x0205 (wd reason) addr

/-- FINISH is passed on, or answered with REPORT at the end of the chain (spec/21 R544), once nothing is unacknowledged and
what this module stores is stored and marked. -/
def State.passFinish (s : State) (own : Bool) : State :=
  match s.sess own with
  | none => s
  | some x =>
    let ready := x.finished && (!x.keep || x.marked) && (match x.fwd with
      | none => true
      | some f => !f.finSent && (f.endHere || (f.wait.isEmpty && f.sent.isEmpty)))
    if ready then
      let report (why : Nat) : State :=
        (s.relayOrigin x (relayPdu 4 why x.remain x.session 0 x.origin x.loaded [])).setSess own none
      match x.fwd with
      | none => if own then s else report x.why
      | some f =>
        if f.endHere || !s.rsUp f.west then
          (match x.src with
           | .host => if f.broken = 0 then s.finishDone x f.west 1 x.loaded else s.finishFailed x f.broken (wd (s.ringAddr f.west))
           | .slot => s.setSess own none
           | _ => report (if f.broken = 0 then x.why else f.broken))
        else
          let s1 := s.relayNext f.west (relayPdu 3 0 f.remain f.session 0 f.origin x.loaded [])
          (match x.src with
           | .host => s1.onSess own (fun y => { y with fwd := some { f with finSent := true } })
           | .slot => s1.onSess own (fun y => { y with fwd := some { f with finSent := true } })
           | _ => s1.setSess own none)
    else s

/-- The complete mark is written when a relayed FINISH has arrived and every chunk is stored; the image is then staged and
this module's bit joins LOADED (spec/21 R538, R544). -/
def State.markSlot (s : State) (own : Bool) (west : Bool) : State :=
  match s.sess own with
  | none => s
  | some x =>
    if x.finished && x.keep && !x.marked && x.full then
      let s1 := s.onSlot x.img (fun g => { g with complete := true })
      let s2 := { s1 with upd := { s1.upd with staged := true } }
      s2.onSess own (fun y => { y with marked := true, loaded := y.loaded ||| 2 ^ s.ringAddr west })
    else s

/-- The side from which a session's frames come, for this module's address. -/
def UpdSess.side (x : UpdSess) : Bool :=
  match x.src with
  | .riser w => w
  | _ => match x.fwd with | some f => f.west | none => false

/-- What a session can do next: commands complete, the mark is written, FINISH goes on. -/
def State.settle (s : State) (own : Bool) : State :=
  match s.sess own with
  | none => s
  | some x =>
    let s1 := if own then s.settleChunks else s
    if s1.sys.mode = .recovery then s1 else (s1.markSlot own x.side).passFinish own

-- The update commands (spec/21 R540, R541)

/-- The modes in which the image commands are valid. -/
def State.updMode (s : State) : Bool :=
  s.sys.mode == .commission || s.sys.mode == .run || s.sys.mode == .degraded || (s.sys.mode == .safe && !s.isFatal)

/-- A trial is armed or running (spec/21 R547). -/
def State.onTrial (s : State) : Bool := s.sys.trial || s.upd.record.armed.isSome

/-- UPD_BEGIN. -/
def updBeginBody (c : Ctx) (s : State) : State :=
  let a := c.addr 1
  let h := s.load a 512
  let n := if hdrFormat h then 48 * hdrChunks h else 0
  let relay := c.b 0 0
  if !s.bufOk c a (512 + n) || (relay && c.f 0 8 7 == 0) then s.fin c St.arg
  else if c.tenant then s.foreign c
  else if !s.running Pg.upd || !s.updMode || s.onTrial then s.fin c St.state
  else if s.upd.own.isSome || s.upd.via.isSome then s.fin c St.busy
  else
    let l := s.load (a + 512) n
    let why := s.hdrReason h
    if why ≠ 0 then s.fin c 0x0201 (wd why)
    else if !hashesOk h l then s.fin c 0x0201 7
    else
      let img := 1 - s.sys.slot
      let d := s.draw
      let west := c.b 0 1
      let f : RelaySt := { west := west, remain := c.f 0 8 7 - 1, session := 1 + d.1 % (2 ^ 32 - 1), origin := s.ringAddr west }
      let x : UpdSess := { img := img, src := .host, keep := true, hdr := h, hashes := l, writes := [⟨some c.slot, [], false⟩],
                           fwd := if relay then some f else none }
      let s1 := (if relay then d.2 else s).openSlot img
      (s1.setSess true (some x)).sendHeader true

/-- UPD_CHUNK: chunks `i` to `i + n` are verified in order, each stored and forwarded; a wrong one fails the command. -/
def updTake (c : Ctx) (a : Nat) : Nat → Nat → List Nat → State → State
  | 0, _, done, s => s.onSess true (fun x => { x with writes := x.writes ++ [⟨some c.slot, done, false⟩] })
  | n + 1, i, done, s =>
    match s.upd.own with
    | none => s
    | some x =>
      let b := s.load a (chunkLen x.hdr i)
      if chunkOk x.hashes i b then
        let s1 := s.onSess true (fun y => { y with have_ := Sparse.set (dflt []) y.have_ i b })
        updTake c (a + 65536) n (i + 1) (done ++ [i]) (s1.forward true i)
      else
        let s1 := (s.bump Pg.upd Rg.UPD_CHUNK_FAILS).raiseSrc Pg.upd 0
        let s2 := if done.isEmpty then s1
          else s1.onSess true (fun y => { y with writes := y.writes ++ [⟨none, done, false⟩] })
        s2.fin c 0x0202 (wd i)

/-- UPD_CHUNK. -/
def updChunkBody (c : Ctx) (s : State) : State :=
  let i := (c.arg 0).toNat
  let n := (c.arg 1).toNat
  let a := c.addr 2
  if n == 0 || decide (256 < n) || decide (8176 < i + n) || !s.bufOk c a 1 then s.fin c St.arg
  else if c.tenant then s.foreign c
  else if !s.running Pg.upd || !s.updMode then s.fin c St.state
  else
    match s.upd.own with
    | none => s.fin c St.state
    | some x =>
      if hdrChunks x.hdr < i + n || !s.bufOk c a ((n - 1) * 65536 + chunkLen x.hdr (i + n - 1)) then s.fin c St.arg
      else if x.finish.isSome then s.fin c St.busy
      else
        match x.fail with
        | some (why, addr) =>
          ((s.onSess true (fun y => { y with fail := none })).raiseSrc Pg.upd 2).fin c 0x0205 (wd why) (wd addr)
        | none => updTake c a n i [] s

/-- UPD_FINISH. -/
def updFinishBody (c : Ctx) (s : State) : State :=
  if c.tenant then s.foreign c
  else if !s.running Pg.upd || !s.updMode then s.fin c St.state
  else
    match s.upd.own with
    | none => s.fin c St.state
    | some x =>
      if !x.full then s.fin c St.state
      else if x.finish.isSome then s.fin c St.busy
      else
        let s1 := (s.onSess true (fun y => { y with finish := some c.slot, finished := true })).markSlot true x.side
        match x.fwd, x.fail, s1.upd.own with
        | none, _, _ => (s1.setSess true none).done c 1 1 0xFF
        | some _, some (why, addr), some y => s1.finishFailed y why (wd addr)
        | some _, _, _ => s1.passFinish true

/-- UPD_ABORT. -/
def updAbortBody (c : Ctx) (s : State) : State :=
  if c.tenant then s.foreign c
  else if s.isFatal || !s.running Pg.upd then s.fin c St.state
  else
    match s.upd.own, s.upd.via with
    | some x, _ => ((s.setSess true none).endCmds x St.aborted 0 0).done c (wd x.stored.length)
    | none, some x => (s.setSess false none).done c (wd x.stored.length)
    | none, none => s.fin c St.state

/-- Steps 2 and 3 of UPD_CONFIRM (spec/21 R546): slot `n` becomes the active one, and no trial is armed. -/
def State.confirmed (s : State) (n : Nat) : State :=
  { s with upd := { s.upd with burnt := false, record := { s.upd.record with active := n, armed := none, count := 0, time := 0 } },
           sys := { s.sys with trial := false, trialCount := 0 } }

/-- UPD_CONFIRM whose fuses have burned goes on with its steps 2 and 3 (spec/21 R546, R556). -/
def State.confirmResume (s : State) : State :=
  if s.upd.burnt then
    let s1 := s.confirmed s.sys.slot
    (s1.inHand 0x0A05 0x0A05).foldl (fun a n => a.complete n 0 (wd a.upd.rollback)) s1
  else s

/-- UPD_CONFIRM (spec/21 R546). `cut`: when this step ends, only the fuses have burned. -/
def updConfirmBody (fuseFails cut : Bool) (c : Ctx) (s : State) : State :=
  let need := hdrRollback (s.upd.slot s.sys.slot).hdr
  if c.tenant then s.foreign c
  else if !s.running Pg.upd || s.isFatal || !(s.sys.mode == .run || s.sys.mode == .degraded) || !s.sys.trial then s.fin c St.state
  else if s.upd.burnt then s.fin c St.busy
  else if s.upd.rollback < need ∧ (fuseFails = true ∨ 64 < need) then (s.raiseSrc Pg.upd 4).fin c 0x0204
  else
    let s1 := { s with upd := { s.upd with rollback := max s.upd.rollback need, burnt := cut } }
    if cut then s1 else (s1.confirmed s.sys.slot).done c (wd s1.upd.rollback)

/-- A NAND write ends (spec/21 R541): that of the commands' session first. -/
def State.nandDone (s : State) (fails : Bool) : State :=
  let pick (own : Bool) : Option (UpdSess × UpdWrite) :=
    match s.sess own with
    | none => none
    | some x => (x.writes.find? (fun w => !w.written)).map (fun w => (x, w))
  let go (own : Bool) (x : UpdSess) (w : UpdWrite) : State :=
    if fails then
      let s1 := s.raiseSrc Pg.upd 1
      if own then
        let s2 := s1.onSess own (fun y => { y with writes := y.writes.erase w,
                                                   have_ := Sparse.keep (fun k => !w.chunks.contains k) y.have_ })
        let s3 := if w.chunks.isEmpty then s2.setSess own none else s2
        match w.slot with | some n => s3.complete n 0x0203 | none => s3
      else (s1.onSess own (fun y => { y with writes := [], keep := false, why := 8 })).settle own
    else if w.chunks.isEmpty then
      let s1 := s.onSlot x.img (fun g => { g with hdr := x.hdr, hashes := x.hashes })
      let s2 := s1.onSess own (fun y => { y with writes := y.writes.erase w })
      match w.slot with
      | some n => s2.complete n 0 (wd (hdrChunks x.hdr)) (wd x.img)
      | none => s2
    else
      let s1 := s.onSlot x.img (fun g =>
        { g with chunks := w.chunks.foldl (fun m i => Sparse.set (dflt []) m i (x.chunk i)) g.chunks })
      let st := w.chunks.foldl addN x.stored
      let ws := x.writes.map (fun v => if v = w then { v with written := true } else v)
      (s1.onSess own (fun y => { y with stored := st, writes := ws })).settle own
  match pick true with
  | some (x, w) => go true x w
  | none => match pick false with | some (x, w) => go false x w | none => s

-- Relayed units (spec/21 R543)

/-- A field of a relay frame that starts at its destination address. -/
def relayField (b : List Byte) (off n : Nat) : Nat := beNat (sliceB b (14 + off) n)
/-- DATA of a relay frame. -/
def relayData (b : List Byte) : List Byte := (b.drop 46).take (relayField b 0xC 2)
/-- LOADED of a relay frame. -/
def relayLoaded (b : List Byte) : Nat := leNat (sliceB b 30 16)

/-- A relayed session ends with ABORT to its originator. -/
def State.relayAbort (s : State) (x : UpdSess) (why : Nat) : State :=
  (s.relayOrigin x (relayPdu 5 why x.remain x.session 0 x.origin 0 [])).setSess false none

/-- The slot a relayed image would be written to: the one that did not boot; in RECOVERY one that is not valid, else the one
that did not boot last (spec/21 R541, R548). -/
def State.viaSlot (s : State) : Nat :=
  if s.sys.mode = .recovery then
    let r := s.upd.record
    let last := match r.armed with | some k => if r.count = 0 then r.active else k | none => r.active
    if !s.slotValid 0 then 0 else if !s.slotValid 1 then 1 else 1 - last
  else 1 - s.sys.slot

/-- Unit 0 opens a relayed session (spec/21 R543, R548): it is refused, forwarded, or stored as well. -/
def State.unitHeader (s : State) (src : UpdFrom) (b : List Byte) : State :=
  let h := relayData b
  let why := s.hdrReason h
  let rec_ := s.sys.mode == .recovery
  let remain := relayField b 3 1
  let free := s.flag Pg.upd Rg.UPD_CTRL 0 && s.upd.own.isNone && !s.onTrial
  let keep := why == 0 && (rec_ || free)
  let img := s.viaSlot
  let onward : Option RelaySt :=
    match src with
    | .riser w => if remain = 0 ∨ rec_ = true then none
        else some { west := !w, remain := remain - 1, session := relayField b 4 4, origin := relayField b 0xE 1 }
    | _ => none
  let x : UpdSess := { img := img, src := src, keep := keep, why := why, session := relayField b 4 4,
                       origin := relayField b 0xE 1, remain := remain, hdr := h, fwd := onward }
  let s1 := s.setSess false (some x)
  if (1 ≤ why ∧ why ≤ 3) ∨ (rec_ = true ∧ why ≠ 0) then s1.relayAbort x why
  else if keep then (s1.openSlot img).setSess false (some x) else s1

/-- A unit of the hash list. -/
def State.unitList (s : State) (x : UpdSess) (u : Nat) (data : List Byte) : State :=
  if x.hashes ≠ [] then s
  else
    let us := Sparse.set (dflt []) x.units u data
    let s1 := s.onSess false (fun y => { y with units := us })
    if us.length < hashUnits x.hdr then s1
    else
      let l := us.flatMap (·.2)
      if hashesOk x.hdr l then
        let w : List UpdWrite := if x.keep && s.sys.mode != .recovery then [⟨none, [], false⟩] else []
        let s2 := s1.onSess false (fun y => { y with units := [], hashes := l, writes := w })
        let s3 := if x.keep && s.sys.mode == .recovery then s2.onSlot x.img (fun g => { g with hdr := x.hdr, hashes := l }) else s2
        (s3.relayBack x (relayPdu 2 0 0 x.session 0xFFFFFFFF x.origin 0 [])).sendHeader false
      else s1.relayAbort x 7

/-- A block of a chunk; the last one makes it complete. -/
def State.unitBlock (s : State) (x : UpdSess) (u : Nat) (data : List Byte) : State :=
  let k := u - (hashUnits x.hdr + 1)
  let i := k / 8
  let ack := relayPdu 2 0 0 x.session i x.origin 0 []
  if x.hashes = [] ∨ hdrChunks x.hdr ≤ i then s
  else if !(x.chunk i).isEmpty then s.relayBack x ack
  else
    let n := (chunkLen x.hdr i + 8191) / 8192
    let us := Sparse.set (dflt []) x.units k data
    let mine := us.filter (fun e => e.1 / 8 == i)
    let rest := us.filter (fun e => e.1 / 8 != i)
    if mine.length < n then s.onSess false (fun y => { y with units := us })
    else
      let b := mine.flatMap (·.2)
      let s1 := s.onSess false (fun y => { y with units := rest })
      if b.length == chunkLen x.hdr i && chunkOk x.hashes i b then
        let s2 := s1.onSess false (fun y => { y with have_ := Sparse.set (dflt []) y.have_ i b })
        let s3 := if !x.keep then s2
          else if s.sys.mode = .recovery then
            (s2.onSlot x.img (fun g => { g with chunks := Sparse.set (dflt []) g.chunks i b })).onSess false
              (fun y => { y with stored := addN y.stored i })
          else s2.onSess false (fun y => { y with writes := y.writes ++ [⟨none, [i], false⟩] })
        (s3.relayBack x ack).forward false i
      else (s1.bump Pg.upd Rg.UPD_CHUNK_FAILS).raiseSrc Pg.upd 0

/-- The relay works: the page runs, or the loader does (spec/21 R540, R548). -/
def State.relayLive (s : State) : Bool :=
  s.coreUp && !s.pfw && !s.isFatal && (s.sys.mode == .recovery || (s.running Pg.upd && s.updMode))

/-- A UNIT frame arrives. -/
def State.unitRx (s : State) (src : UpdFrom) (b : List Byte) : State :=
  let u := relayField b 8 4
  if !s.relayLive then s
  else if u = 0 then
    match s.upd.via with
    | some x => if x.session = relayField b 4 4 then s else s.unitHeader src b
    | none => s.unitHeader src b
  else
    match s.upd.via with
    | none => s
    | some x =>
      if x.session != relayField b 4 4 || decide (x.src = .slot) then s
      else if u ≤ hashUnits x.hdr then s.unitList x u (relayData b)
      else s.unitBlock x u (relayData b)

/-- An ACK frame arrives at a port (spec/21 R542). -/
def State.ackRx (s : State) (west : Bool) (b : List Byte) : State :=
  let one (a : State) (own : Bool) : State :=
    match a.sess own with
    | none => a
    | some x =>
      match x.fwd with
      | none => a
      | some f =>
        if f.west != west || f.session != relayField b 4 4 then a
        else
          let u := relayField b 8 4
          let f1 := if u = 0xFFFFFFFF then { f with hdrAck := true } else
            { f with sent := f.sent.filter (fun e => e.1 != u) }
          ((a.onSess own (fun y => { y with fwd := some f1 })).pump own).settle own
  if s.relayLive then one (one s true) false else s

/-- A chunk is not acknowledged for 20 ms: it is sent again, up to 8 times; then the chain ends here (spec/21 R542). -/
def State.resend (s : State) (i : Nat) : State :=
  let late (own : Bool) : Option (UpdSess × RelaySt × Nat) :=
    match s.sess own with
    | none => none
    | some x => match x.fwd with
      | none => none
      | some f => (f.sent.find? (fun e => e.1 == i)).map (fun e => (x, f, e.2))
  let go (own : Bool) (x : UpdSess) (f : RelaySt) (n : Nat) : State :=
    if n < 8 then
      (s.sendChunk x f i).onSess own (fun y =>
        { y with fwd := some { f with sent := f.sent.map (fun e => if e.1 = i then (i, n + 1) else e) } })
    else
      let s1 := s.onSess own (fun y => { y with fwd := some { f with endHere := true, broken := 9, sent := [], wait := [] } })
      if own then
        let stuck := x.writes.filter (fun w => w.slot.isSome && w.chunks.any x.owes)
        let s2 := s1.onSess own (fun y => { y with writes := y.writes.map (fun w => if stuck.contains w then { w with slot := none } else w) })
        let s3 := stuck.foldl (fun a w =>
          match w.slot with
          | some k => (a.raiseSrc Pg.upd 2).complete k 0x0205 9 (wd (s.ringAddr f.west))
          | none => a) s2
        s3.settle own
      else s1.settle own
  if s.relayLive then
    match late true with
    | some (x, f, n) => go true x f n
    | none => match late false with | some (x, f, n) => go false x f n | none => s
  else s

/-- A FINISH frame arrives (spec/21 R544). In RECOVERY it is answered at once, and the loader then completes. -/
def State.finishRx (s : State) (b : List Byte) : State :=
  if !s.relayLive then s
  else
    match s.upd.via with
    | none => s
    | some x =>
      if x.session != relayField b 4 4 || x.hashes.isEmpty || decide (x.src = .slot) || !x.whole then s
      else
        let s1 := s.onSess false (fun y => { y with finished := true, loaded := relayLoaded b })
        if s.sys.mode = .recovery then
          if x.full then
            s1.relayOrigin x (relayPdu 4 0 0 x.session 0 x.origin (relayLoaded b ||| 2 ^ s.ringAddr x.side) [])
          else s
        else s1.settle false

/-- A REPORT or an ABORT arrives from member `src` (spec/21 R543, R544). -/
def State.reportRx (s : State) (src : Nat) (b : List Byte) : State :=
  let op := relayField b 1 1
  let why := relayField b 2 1
  let ours (o : Option UpdSess) : Option (UpdSess × RelaySt) :=
    match o with
    | none => none
    | some x => match x.fwd with
      | none => none
      | some f => if f.session = relayField b 4 4 then some (x, f) else none
  if !s.relayLive then s
  else
    match ours s.upd.own with
    | some (x, f) =>
      if op = 4 then
        if f.finSent then
          let t := s.showLoaded (relayLoaded b)
          if why = 9 then t.finishFailed x 9 (wd src)
          else t.finishDone x f.west (f.remain + 2 - min (relayField b 3 1) f.remain) (relayLoaded b)
        else s
      else
        let s1 := s.onSess true (fun y => { y with fwd := some { f with endHere := true, broken := why, sent := [], wait := [] } })
        match x.finish, x.writes.find? (fun w => w.slot.isSome) with
        | some _, _ => s1.finishFailed x why (wd src)
        | none, some w =>
          let s2 := s1.onSess true (fun y => { y with writes := y.writes.map (fun v => if v = w then { v with slot := none } else v) })
          let s3 := s2.raiseSrc Pg.upd 2
          (match w.slot with | some k => s3.complete k 0x0205 (wd why) (wd src) | none => s3).settle true
        | none, none => s1.onSess true (fun y => { y with fail := some (why, src) })
    | none =>
      match ours s.upd.via with
      | some (x, _) => if x.src = .slot then s.setSess false none else s
      | none => s

/-- No REPORT within 60 s (spec/21 R544). RES1 is a free value: the spec names no address. -/
def State.reportTimeout (s : State) : State :=
  match s.upd.own with
  | none => s
  | some x =>
    if x.finish.isSome then
      let d := s.draw
      d.2.finishFailed x 9 (wd d.1)
    else s

/-- A loader at a port asks for an image, and this module serves its booted slot (spec/21 R551). -/
def State.serve (s : State) (west : Bool) : State :=
  let ok := s.running Pg.upd && (s.sys.mode == .commission || s.sys.mode == .run || s.sys.mode == .degraded) && !s.isFatal
    && s.flag Pg.upd Rg.UPD_CTRL 1 && s.upd.own.isNone && s.upd.via.isNone && s.coreUp && !s.pfw
  if ok then
    let g := s.upd.slot s.sys.slot
    let d := s.draw
    let f : RelaySt := { west := west, remain := 0, session := 1 + d.1 % (2 ^ 32 - 1), origin := s.ringAddr west,
                         wait := List.range (hdrChunks g.hdr) }
    let x : UpdSess := { img := s.sys.slot, src := .slot, keep := false, hdr := g.hdr, hashes := g.hashes, have_ := g.chunks,
                         finished := true, fwd := some f }
    ((d.2.setSess false (some x)).sendHeader false).pump false
  else s

/-- A relay frame is delivered from a riser port (spec/14 R375, spec/21 R542 to R551). -/
def State.relayFrame (s : State) (west : Bool) (src : Nat) (b : List Byte) : State :=
  match relayField b 1 1 with
  | 1 => s.unitRx (.riser west) b
  | 2 => s.ackRx west b
  | 3 => s.finishRx b
  | 4 => s.reportRx src b
  | 5 => if relayField b 4 4 = 0 ∧ relayField b 2 1 = 0 then s.serve west else s.reportRx src b
  | _ => s

-- The loader (spec/21 R548 to R551)

/-- A frame reaches the loader on FP0 (spec/21 R550). -/
def State.loaderRx (s : State) (e : Eth) : State :=
  let b := e.bytes
  if (e.dest == s.loaderMac || e.dest == relayDest) && e.etype == 0x88B5 && relayField b 0 1 == 0x55
      && relayField b 3 1 == 0 && relayField b 0xE 1 == 0xFF then
    match relayField b 1 1 with
    | 1 => s.unitRx (.fp0 e.src) b
    | 3 => s.finishRx b
    | _ => s
  else s

/-- Every second the loader announces itself and asks its riser neighbours (spec/21 R550, R551). -/
def State.loaderAnnounce (s : State) : State :=
  let data := beBytes 8 s.key.serial ++ beBytes 4 Config.romVersion ++ leBytes 1 s.sys.recovReason
  let s1 := s.loaderSend (List.replicate 6 0xFF) (relayPdu 6 0 0 0 0 (s.ringAddr false) 0 data)
  let ask (a : State) (west : Bool) : State :=
    if a.rsUp west then a.relayNext west (relayPdu 5 0 0 0 0 (a.ringAddr west) 0 []) else a
  ask (ask s1 false) true

/-- The status a DFU download would show: 0, errTARGET 1, errFILE 2, errVERIFY 7 (spec/21 R549; the numbers are those of
DFU 1.1, log entry 29). -/
def dfuStatus (why : Nat) : Nat :=
  match why with | 0 => 0 | 1 => 2 | 4 => 1 | 5 => 1 | _ => 7

/-- The chunks that a download holds in full. -/
def dfuChunks (b : List Byte) : List (Nat × List Byte) :=
  let h := b.take 512
  let o := 512 + 48 * hdrChunks h
  ((List.range (hdrChunks h)).filter (fun i => decide (o + 65536 * i + chunkLen h i ≤ b.length))).map
    (fun i => (i, (b.drop (o + 65536 * i)).take (chunkLen h i)))

/-- The first reason for which the bytes of a download so far are refused, 8 for a chunk digest. -/
def State.dfuReason (s : State) (b : List Byte) : Nat :=
  let h := b.take 512
  let l := (b.drop 512).take (48 * hdrChunks h)
  if b.length < 512 then 0
  else if s.hdrReason h ≠ 0 then s.hdrReason h
  else if b.length < 512 + 48 * hdrChunks h then 0
  else if !hashesOk h l then 7
  else if (dfuChunks b).all (fun e => chunkOk l e.1 e.2) then 0
  else 8

/-- A DFU block (spec/21 R549). -/
def State.dfuBlock (s : State) (b : List Byte) : State :=
  let u := s.upd
  if s.sys.mode != .recovery || s.isFatal || u.dfuErr != 0 || u.manifest || decide (4096 < b.length) then s
  else if b = [] then
    let h := u.dfu.take 512
    if 512 ≤ u.dfu.length ∧ u.dfu.length = 512 + 48 * hdrChunks h + hdrLength h then { s with upd := { u with manifest := true } }
    else { s with upd := { u with dfuErr := 2 } }
  else
    let d := u.dfu ++ b
    let why := s.dfuReason d
    let s1 := { s with upd := { u with dfu := d, dfuErr := dfuStatus why } }
    let s2 := if why = 8 then (s1.bump Pg.upd Rg.UPD_CHUNK_FAILS).raiseSrc Pg.upd 0 else s1
    if why ≠ 0 ∨ d.length < 512 then s2
    else
      let img := s.viaSlot
      let h := d.take 512
      s2.onSlot img (fun _ => { hdr := h, hashes := (d.drop 512).take (48 * hdrChunks h),
                                chunks := (dfuChunks d).foldl (fun m e => Sparse.set (dflt []) m e.1 e.2) [] })

/-- The slot that the loader has filled: by DFU, or by a relayed session after FINISH. -/
def State.loaderDone (s : State) : Option Nat :=
  if s.upd.manifest then some s.viaSlot
  else match s.upd.via with
    | some x => if x.finished && x.full then some x.img else none
    | none => none

/-- The complete mark of the loader, and what becomes of the slot record (spec/21 R548). -/
def State.loaderMark (s : State) (n : Nat) : State :=
  let other := s.slotValid (1 - n)
  let s1 := s.onSlot n (fun g => { g with complete := true })
  let r := s1.upd.record
  let r1 := if other then { r with active := 1 - n, armed := some n, count := 0, time := 0 }
    else { r with active := n, armed := none, count := 0, time := 0 }
  { s1 with upd := { s1.upd with record := r1, own := none, via := none, dfu := [], dfuErr := 0, manifest := false } }

-- The UPD page (spec/21 R554)

/-- UPD_STAT. -/
def State.updStat (s : State) : Word :=
  wd ((if s.upd.own.isSome then 1 else if s.upd.via.isSome then 2 else 0) + 4 * (s.slotValid 0).toNat
    + 8 * (s.slotValid 1).toNat + 16 * s.upd.record.active + 32 * s.sys.trial.toNat + 64 * s.upd.record.armed.isSome.toNat)

/-- UPD_TRIAL_LEFT. -/
def State.trialLeft (s : State) : Word := if s.sys.trial then wd (600 - s.upd.record.time) else 0

/-- UPD_PROGRESS. -/
def State.updProgress (s : State) : Word :=
  match s.upd.own, s.upd.via with
  | some x, _ => wd x.stored.length
  | none, some x => wd x.stored.length
  | none, none => 0

end Sys2Proof.Machine
end

