-- ==== Sys2Proof/Machine/KeyOps.lean ====
section
/-! DEFINITION. The key vault and the life cycle: their commands, tamper and the random source (spec/20). -/

namespace Sys2Proof.Machine

/-- A handle is set or freed. -/
def State.setHandle (s : State) (n : Nat) (h : Option Handle) : State :=
  { s with key := { s.key with handles := Sparse.set (dflt none) s.key.handles n h } }

/-- The free handles 2 to 255 (spec/20 R518). -/
def State.freeHandles (s : State) : List Nat := ((List.range 254).map (· + 2)).filter (fun n => (s.handle n).isNone)

/-- The glove of handle `n`: the identity and the transport key, and handles not in use, are the operator's (spec/20 R516,
R518). -/
def State.handleGlove (s : State) (n : Nat) : Nat := match s.handle n with | some h => h.glove | none => 0

/-- Depth of a handle's leaf (spec/20 R514). -/
def Handle.depth (h : Handle) : Nat := h.chain.length

/-- The handle named by argument 0 belongs to another glove (spec/04 R96, spec/20 R530). A handle not in use belongs to
nobody. -/
def State.handleForeign (s : State) (c : Ctx) (n : Nat) : Bool :=
  if n < 2 then c.g != 0 else (s.handle n).isSome && s.handleGlove n != c.g

/-- Step 4 of spec/04 R96 for the key commands that need a root (spec/20 R524, R530), and no transition is under way. -/
def State.keyReady (s : State) : Bool := s.running Pg.key && s.activeRoot.isSome && s.key.cut.isNone

/-- The status of such a command where it is not so: a transition under way aborts it (spec/20 R527, R535, log entry 160). -/
def State.keyWhy (s : State) : Nat := if s.running Pg.key && s.key.cut.isSome then St.aborted else St.state

/-- A key command completes DONE (spec/20 R532). -/
def State.keyDone (s : State) (c : Ctx) (r0 : Word := 0) (r1 : Word := 0) (r2 : Word := 0) : State :=
  (s.bump Pg.key Rg.KEY_OPS).done c r0 r1 r2

/-- The key that handle `n` yields for one usage (spec/20 R519). -/
def State.keyFor (s : State) (n usage : Nat) : Option (List Byte) :=
  match s.handle n with
  | some h => if h.usage = usage then s.handleKey h else none
  | none => none

/-- A new handle takes one of the free places; which, the spec leaves open (log entry 7). -/
def State.newHandle (s : State) (h : Handle) : Nat × State :=
  let l := s.freeHandles
  let (k, s1) := s.draw
  let n := nth l (k % l.length) 2
  (n, s1.setHandle n (some h))

/-- The handles of a subtree (spec/20 R522). -/
def State.subtreeHandles (s : State) (sub g : Nat) : List Nat :=
  Sparse.keys (s.key.handles.filter (fun (e : Nat × Option Handle) =>
    match e.2 with | some h => h.subtree == sub && (sub != 5 || h.glove == g) | none => false))

/-- KEY_DERIVE (spec/20 R514, R515, R530). -/
def keyDeriveBody (c : Ctx) (s : State) : State :=
  let sub := c.f 0 0 3
  let usage := c.f 0 16 6
  let len := c.f 0 24 7
  let parent := (c.arg 1).toNat
  let g := if sub = 5 then c.f 0 8 6 else 0
  if sub = 1 ∨ 6 ≤ sub ∨ ¬(usage = 4 ∨ usage = 8 ∨ usage = 16 ∨ usage = 32) ∨ len = 0 ∨ 64 < len
      ∨ s.bufOk c (c.addr 2) len = false ∨ (sub = 0 ∧ 255 < parent) then s.fin c St.arg
  else if (if sub = 0 then s.handleForeign c parent else c.g != g) then s.foreign c
  else if !s.keyReady then s.fin c s.keyWhy
  else
    let label := s.load (c.addr 2) len
    let make (h : Handle) : State :=
      if s.freeHandles.isEmpty then s.fin c 0x105
      else
        let (n, s1) := s.newHandle h
        s1.keyDone c (wd n)
    if sub = 0 then
      match s.handle parent with
      | none => s.fin c 0x106
      | some h =>
        if h.usage = 32 then
          if 4 ≤ h.depth then s.fin c St.state
          else make { h with usage := usage, chain := h.chain ++ [(label, usage)] }
        else s.fin c 0x106
    else make ⟨sub, g, if sub = 5 then s.keygen g else 0, usage, [(label, usage)], []⟩

/-- KEY_DESTROY. -/
def keyDestroyBody (c : Ctx) (s : State) : State :=
  let n := c.f 0 0 8
  if n < 2 then s.fin c St.arg
  else if s.handleForeign c n then s.foreign c
  else if !s.keyReady then s.fin c s.keyWhy
  else (s.setHandle n none).keyDone c

/-- KEY_QUERY: what it shows of the identity and transport keys beyond their usage is open (log entry 7). -/
def keyQueryBody (c : Ctx) (s : State) : State :=
  let n := c.f 0 0 8
  if s.handleForeign c n then s.foreign c
  else if !s.running Pg.key then s.fin c St.state
  else if n < 2 then
    if s.key.ident.isSome then
      let (a, s1) := s.draw
      let (b, s2) := s1.draw
      s2.keyDone c (wd ((if n = 0 then 1 else 0) + a % 8 * 256 + 2 ^ 31)) (wd b)
    else s.keyDone c
  else
    match s.handle n with
    | none => s.keyDone c
    | some h =>
      let r0 := wd (h.usage + h.subtree * 256 + h.glove * 65536 + h.depth * 2 ^ 24 + 2 ^ 31)
      match h.chain.getLast? with
      | some l => s.keyDone c r0 (wd (beNat (sliceB (Config.sha384 l.1) 0 4))) (wd h.keygen)
      | none =>
        let (b, s1) := s.draw
        s1.keyDone c r0 (wd b) (wd h.keygen)

/-- KEY_MAC (spec/20 R520). -/
def keyMacBody (c : Ctx) (s : State) : State :=
  let n := c.f 0 0 8
  let len := (c.arg 1).toNat
  if len = 0 ∨ 65536 < len ∨ s.bufOk c (c.addr 2) len = false ∨ s.bufOk c (c.addr 4) 48 = false then s.fin c St.arg
  else if s.handleForeign c n then s.foreign c
  else if !s.keyReady then s.fin c s.keyWhy
  else
    match s.keyFor n 8 with
    | none => s.fin c 0x106
    | some k =>
      let m := sliceB (Config.hmac k (s.load (c.addr 2) len)) 0 48
      if c.b 0 8 then s.keyDone c (wd (s.load (c.addr 4) 48 == m).toNat)
      else (s.store (c.addr 4) m).keyDone c

/-- KEY_ENCRYPT: IV, cipher text, tag (spec/20 R520). -/
def keyEncryptBody (c : Ctx) (s : State) : State :=
  let n := c.f 0 0 8
  let len := (c.arg 1).toNat
  if len = 0 ∨ 65536 < len ∨ s.bufOk c (c.addr 2) len = false ∨ s.bufOk c (c.addr 4) (len + 28) = false then
    s.fin c St.arg
  else if s.handleForeign c n then s.foreign c
  else if !s.keyReady then s.fin c s.keyWhy
  else
    match s.keyFor n 4 with
    | none => s.fin c 0x106
    | some k =>
      if s.key.rngOk then
        let (iv, s1) := s.random 12
        let out := iv ++ sliceB (Config.gcmSeal k iv (s.load (c.addr 2) len)) 0 (len + 16)
        (s1.store (c.addr 4) out).keyDone c (wd (len + 28))
      else s.fin c 0x202

/-- KEY_DECRYPT: ARG1 is the length of the plain text, as for KEY_ENCRYPT (log entry 31). -/
def keyDecryptBody (c : Ctx) (s : State) : State :=
  let n := c.f 0 0 8
  let len := (c.arg 1).toNat
  if len = 0 ∨ 65536 < len ∨ s.bufOk c (c.addr 2) (len + 28) = false ∨ s.bufOk c (c.addr 4) len = false then
    s.fin c St.arg
  else if s.handleForeign c n then s.foreign c
  else if !s.keyReady then s.fin c s.keyWhy
  else
    match s.keyFor n 4 with
    | none => s.fin c 0x106
    | some k =>
      let b := s.load (c.addr 2) (len + 28)
      match Config.gcmOpen k (b.take 12) (b.drop 12) with
      | none => s.fin c 0x201
      | some p => (s.store (c.addr 4) (sliceB p 0 len)).keyDone c (wd len)

/-- KEY_WRAP (spec/20 R520). -/
def keyWrapBody (c : Ctx) (s : State) : State :=
  let n := c.f 0 0 8
  let len := (c.arg 1).toNat
  if len < 16 ∨ 64 < len ∨ len % 8 ≠ 0 ∨ s.bufOk c (c.addr 2) len = false ∨ s.bufOk c (c.addr 4) (len + 8) = false then
    s.fin c St.arg
  else if s.handleForeign c n then s.foreign c
  else if !s.keyReady then s.fin c s.keyWhy
  else
    match s.keyFor n 16 with
    | none => s.fin c 0x106
    | some k =>
      (s.store (c.addr 4) (sliceB (Config.kwWrap k (s.load (c.addr 2) len)) 0 (len + 8))).keyDone c (wd (len + 8))

/-- KEY_UNWRAP. -/
def keyUnwrapBody (c : Ctx) (s : State) : State :=
  let n := c.f 0 0 8
  let len := (c.arg 1).toNat
  if len < 24 ∨ 72 < len ∨ len % 8 ≠ 0 ∨ s.bufOk c (c.addr 2) len = false ∨ s.bufOk c (c.addr 4) (len - 8) = false then
    s.fin c St.arg
  else if s.handleForeign c n then s.foreign c
  else if !s.keyReady then s.fin c s.keyWhy
  else
    match s.keyFor n 16 with
    | none => s.fin c 0x106
    | some k =>
      match Config.kwUnwrap k (s.load (c.addr 2) len) with
      | none => s.fin c 0x201
      | some p => (s.store (c.addr 4) (sliceB p 0 (len - 8))).keyDone c (wd (len - 8))

/-- KEY_PUBLIC. -/
def keyPublicBody (c : Ctx) (s : State) : State :=
  if !s.bufOk c (c.addr 0) 96 then s.fin c St.arg
  else if !s.keyReady then s.fin c s.keyWhy
  else if s.freeHandles.isEmpty then s.fin c 0x105
  else
    let (n, s1) := s.newHandle ⟨7, c.g, 0, 2, [], s.load (c.addr 0) 96⟩
    s1.keyDone c (wd n)

/-- KEY_VERIFY. -/
def keyVerifyBody (c : Ctx) (s : State) : State :=
  let n := c.f 0 0 8
  if s.bufOk c (c.addr 1) 48 = false ∨ s.bufOk c (c.addr 3) 96 = false then s.fin c St.arg
  else if s.handleForeign c n then s.foreign c
  else if !s.keyReady then s.fin c s.keyWhy
  else
    match s.handle n with
    | some h =>
      if h.usage = 2 then
        s.keyDone c (wd (Config.ecdsaVerify h.pub (s.load (c.addr 1) 48) (s.load (c.addr 3) 96)).toNat)
      else s.fin c 0x106
    | none => s.fin c 0x106

/-- The bytes of an origin statement that are signed (spec/20 R523). -/
def State.originHead (s : State) (challenge ident xport : List Byte) : List Byte :=
  beBytes 4 0x544F5331 ++ beBytes 2 1 ++ beBytes 1 s.key.lcs ++ beBytes 1 (3 + (if s.key.lcs = 3 then 4 else 0))
    ++ beBytes 8 s.key.serial ++ beBytes 4 s.key.lcsCount ++ beBytes 4 0
    ++ sliceB (Config.sha384 (s.upd.slot s.sys.slot).hdr) 0 48 ++ challenge
    ++ sliceB (Config.publicKey ident) 0 96 ++ sliceB (Config.publicKey xport) 0 96 ++ sliceB s.key.endorse 0 96

/-- KEY_ATTEST (spec/20 R523). -/
def keyAttestBody (c : Ctx) (s : State) : State :=
  if s.bufOk c (c.addr 0) 32 = false ∨ s.bufOk c (c.addr 2) 488 = false then s.fin c St.arg
  else if !s.keyReady then s.fin c s.keyWhy
  else
    match s.key.ident, s.key.xport with
    | some i, some x =>
      if s.key.rngOk then
        let h := s.originHead (s.load (c.addr 0) 32) i x
        let (k, s1) := s.draw
        (s1.store (c.addr 2) (h ++ sliceB (Config.ecdsaSign i (Config.sha384 h) k) 0 96)).keyDone c (wd s.key.lcsCount)
      else s.fin c 0x202
    | _, _ => s.fin c St.state

/-- A glove may seed a subtree (spec/20 R516). -/
def State.maySeed (s : State) (c sub g : Nat) : Bool :=
  if sub = 4 then c == 0 else c == g || (c == 0 && (s.seedOf 5 g).isNone)

/-- A seed is installed (spec/20 R516, R522). -/
def State.installSeed (s : State) (by_ sub g : Nat) (seed : List Byte) : State :=
  let s1 := (s.subtreeHandles sub g).foldl (fun (a : State) n => a.setHandle n none) s
  let s2 := { s1 with key := { s1.key with
    seeds := Sparse.set (dflt none) s1.key.seeds (if sub = 4 then 64 else g) (some (sliceB seed 0 32)),
    opSeed := if sub = 4 then s1.key.opSeed
              else if by_ = 0 ∧ g ≠ 0 then addN s1.key.opSeed g else delN s1.key.opSeed g } }
  if sub = 4 then s2 else s2.assign g

/-- KEY_SEED (spec/20 R522). -/
def keySeedBody (c : Ctx) (s : State) : State :=
  let sub := c.f 0 0 3
  let g := c.f 0 8 6
  if ¬(sub = 4 ∨ sub = 5) ∨ s.bufOk c (c.addr 1) 144 = false then s.fin c St.arg
  else if !s.maySeed c.g sub g then s.foreign c
  else if !s.keyReady then s.fin c s.keyWhy
  else
    match s.key.xport with
    | none => s.fin c St.state
    | some x =>
      let e := s.load (c.addr 1) 144
      let path := if sub = 5 then pathCode 5 g (s.keygen g) 0 0 else pathCode 4 0 0 0 0
      let seed :=
        match Config.ecdh x (e.take 96) with
        | some z => Config.gcmOpen (kdf z (asciiBytes "TAROS-SEED") path 256) (List.replicate 12 0) (e.drop 96)
        | none => none
      match seed with
      | none => s.fin c 0x201
      | some v => (s.installSeed c.g sub g v).keyDone c (wd (s.subtreeHandles sub g).length)

/-- KEY_RANDOM. -/
def keyRandomBody (c : Ctx) (s : State) : State :=
  let len := (c.arg 0).toNat
  if len = 0 ∨ 256 < len ∨ s.bufOk c (c.addr 1) len = false then s.fin c St.arg
  else if !s.running Pg.key then s.fin c St.state
  else if !s.key.rngOk then s.fin c 0x202
  else
    let (b, s1) := s.random len
    (s1.store (c.addr 1) b).keyDone c

/-- KEY_ENDORSE_CERT. -/
def keyCertBody (c : Ctx) (s : State) : State :=
  if !s.bufOk c (c.addr 0) 2048 then s.fin c St.arg
  else if !s.keyReady then s.fin c s.keyWhy
  else (s.store (c.addr 0) s.key.cert).keyDone c (wd s.key.cert.length)

-- Life cycle (spec/20 R524 to R529)

/-- Every handle, every seed, the identity and the transport keys are destroyed, and the USB sessions close (spec/20 R527,
R529, R531). -/
def State.destroyKeys (s : State) : State :=
  { s with
    key := { s.key with handles := [], seeds := [], opSeed := [], ident := none, xport := none, endorse := [] },
    usb := { s.usb with session := none } }

/-- The endorsement key (spec/20 R512). -/
def State.endorsementKey (s : State) : List Byte :=
  Config.privateFrom (kdf ((s.subtreeRoot 2 0).getD []) (asciiBytes "TAROS-ENDORSE") (pathCode 2 0 0 0 0) 448)

/-- The keys of an entry to IN_SERVICE or DEBUG_OPEN (spec/20 R521). -/
def State.generateKeys (s : State) : State :=
  let (a, s1) := s.random 56
  let (b, s2) := s1.random 56
  let i := Config.privateFrom a
  let x := Config.privateFrom b
  let (k, s3) := s2.draw
  let m := beBytes 8 s3.key.serial ++ beBytes 4 s3.key.lcsCount ++ sliceB (Config.publicKey i) 0 96
    ++ sliceB (Config.publicKey x) 0 96
  let e := sliceB (Config.ecdsaSign s3.endorsementKey (Config.sha384 m) k) 0 96
  { s3 with key := { s3.key with ident := some i, xport := some x, endorse := e } }

/-- A transition fuse is used (spec/20 R525). -/
def State.lcsTo (s : State) (n : Nat) : State :=
  { s with key := { s.key with lcs := n, lcsCount := s.key.lcsCount + 1 } }

/-- A fuse failed (spec/20 R527, R534). -/
def State.fuseFailed (s : State) (c : Ctx) : State := (s.raiseSrc Pg.lcs 0).fin c 0x203

/-- Steps 2 to 4 of a transition that left state `old` (spec/20 R527): the destruction, the root, the keys. A new root makes the
slot record fail its authentication (spec/21 R539). -/
def State.transitionRest (s : State) (old : Nat) : State :=
  let n := s.key.lcs
  let s1 := if n = 4 then { s with key := { s.key with root := List.replicate 32 0xFF, cert := [] } } else s
  let s2 := s1.destroyKeys
  let s3 := if decide (n = 4) || decide (n = 3) || decide (old = 3) then
      { s2 with upd := { s2.upd with record := { s2.upd.record with ok := false } } }
    else s2
  if n = 2 ∨ n = 3 then s3.generateKeys else s3

/-- A transition completes DONE (spec/20 R527, R528, R530). -/
def State.lcsDone (s : State) (c : Ctx) : State :=
  if s.key.lcs = 1 then (s.store (c.addr 0) (sliceB (Config.publicKey s.endorsementKey) 0 96)).done c (wd s.key.lcsCount)
  else s.done c (wd s.key.lcsCount) (wd s.key.lcs)

/-- A transition whose fuse has burned goes on with its steps 2 to 5; at start-up no command is in hand any more (spec/20
R527). -/
def State.lcsResume (s : State) : State :=
  match s.key.cut with
  | none => s
  | some old =>
    let s1 := ({ s with key := { s.key with cut := none } } : State).transitionRest old
    (s1.inHand 0x0911 0x0913).foldl (fun a n => a.lcsDone (a.ctxOf n)) s1

/-- LCS_PROVISION (spec/20 R525 to R528). `cut`: when this step ends, only the fuses have burned. -/
def lcsProvisionBody (fuseFails cut : Bool) (c : Ctx) (s : State) : State :=
  if !s.bufOk c (c.addr 0) 96 then s.fin c St.arg
  else if c.g ≠ 0 then s.foreign c
  else if s.key.lcs ≠ 0 ∨ 63 ≤ s.key.lcsCount then s.fin c St.state
  else if !s.key.rngOk then s.fin c 0x202
  else if fuseFails then s.fuseFailed c
  else
    let (r, s1) := s.random 32
    let s2 := { s1 with key := { s1.key with root := r } }.lcsTo 1
    if cut then { s2 with key := { s2.key with cut := some 0 } } else (s2.transitionRest 0).lcsDone c

/-- LCS_CERT_STORE (spec/20 R528). -/
def lcsCertStoreBody (c : Ctx) (s : State) : State :=
  let len := (c.arg 0).toNat
  if 2048 < len ∨ s.bufOk c (c.addr 1) len = false then s.fin c St.arg
  else if c.g ≠ 0 then s.foreign c
  else if s.key.lcs ≠ 1 then s.fin c St.state
  else { s with key := { s.key with cert := s.load (c.addr 1) len } }.done c

/-- The transitions of LCS_TRANSITION (spec/20 R525). -/
def lcsPermitted (old new count : Nat) : Bool :=
  if new = 4 then old != 0 && old != 4 && decide (count < 64)
  else decide (count < 63) && ((new == 2 && (old == 1 || old == 2 || old == 3)) || (new == 3 && old == 2))

/-- A debug token is good (spec/20 R526). -/
def State.tokenOk (s : State) (t : List Byte) : Bool :=
  Config.sha384 (t.take 96) == Config.debugKeyHash &&
    Config.ecdsaVerify (t.take 96)
      (Config.sha384 (beBytes 8 s.key.serial ++ beBytes 4 s.key.lcsCount ++ asciiBytes "TAROS-DEBUG")) (t.drop 96)

/-- The life-cycle state becomes `n` (spec/20 R527): the fuse, and the steps after it. -/
def State.transition (s : State) (n : Nat) : State := (s.lcsTo n).transitionRest s.key.lcs

/-- LCS_TRANSITION (spec/20 R525 to R527, R535). `cut`: when this step ends, only the fuse has burned. -/
def lcsTransitionBody (fuseFails cut : Bool) (c : Ctx) (s : State) : State :=
  let n := c.f 0 0 3
  if 4 < n ∨ (n = 4 ∧ c.arg 1 ≠ 0x5EB00004) ∨ (n = 3 ∧ s.bufOk c (c.addr 2) 192 = false) then s.fin c St.arg
  else if c.g ≠ 0 then s.foreign c
  else if s.key.cut.isSome then s.fin c St.busy
  else if !lcsPermitted s.key.lcs n s.key.lcsCount then s.fin c St.state
  else if n = 3 ∧ s.tokenOk (s.load (c.addr 2) 192) = false then s.fin c 0x201
  else if n ≠ 4 ∧ s.key.rngOk = false then s.fin c 0x202
  else if fuseFails then s.fuseFailed c
  else if cut then
    let s1 := s.lcsTo n
    { s1 with key := { s1.key with cut := some s.key.lcs } }
  else (s.transition n).lcsDone c

-- Tamper and the random source

/-- A tamper takes effect (spec/20 R531), after a transition under way (R535). -/
def State.tamperNow (s : State) : State :=
  let s1 := (s.lcsResume.bump Pg.key Rg.KEY_TAMPERS).raiseSrc Pg.key 0
  let s2 := s1.destroyKeys
  { s2 with key := { s2.key with tampered := true } }

/-- TAMPER: the VBAT monitor's waits for VIN during BACKUP (spec/20 R531). -/
def State.tamperIn (s : State) (vbat : Bool) : State :=
  if s.powered then s.tamperNow
  else if vbat then { s with vbat := { s.vbat with tamper := true } }
  else s

/-- A health test of the random source fails (spec/20 R512, R534). -/
def State.rngFail (s : State) : State :=
  if s.coreUp then
    ({ s with key := { s.key with rngOk := false } }.bump Pg.key Rg.KEY_RNG_FAILS).raiseSrc Pg.key 1
  else s

/-- The health tests pass again. -/
def State.rngRecover (s : State) : State := { s with key := { s.key with rngOk := true } }

/-- KEY_STAT (spec/20 R532). -/
def State.keyStat (s : State) : Word :=
  let k := s.key
  wd (k.ident.isSome.toNat + 2 * k.rngOk.toNat + 4 * (Sparse.get (dflt none) k.seeds 64).isSome.toNat + 8 * k.tampered.toNat
    + 65536 * (k.handles.length + 2 * k.ident.isSome.toNat))

/-- KEY_SEEDS0 and KEY_SEEDS1. -/
def State.keySeeds (s : State) (half : Nat) : Word :=
  bitsWord (((s.key.seeds.keys).filter (fun g => decide (g < 64) && g / 32 == half)).map (· % 32))

/-- KEY_OPSEED0 and KEY_OPSEED1. -/
def State.keyOpSeed (s : State) (half : Nat) : Word :=
  bitsWord ((s.key.opSeed.filter (fun g => g / 32 == half)).map (· % 32))

/-- LCS_STATE (spec/20 R533). -/
def State.lcsState (s : State) : Word :=
  wd (s.key.lcs + 256 * (s.key.lcs == 3).toNat + 512 * (s.key.lcs == 3).toNat + 65536 * (!s.key.cert.isEmpty).toNat)

end Sys2Proof.Machine
end

