-- ==== Sys2Proof/Machine/RiserBody.lean ====
section
/-! DEFINITION. The riser link (spec/14): the tag, forwarding, the ring messages, bring-up and authentication. -/

namespace Sys2Proof.Machine

-- The tag (spec/14 R374)

/-- One bit of CRC-8 with the polynomial x^8 + x^2 + x + 1. -/
def crc8Bit (c : Nat) : Nat := let d := 2 * c; if 256 ≤ d then Nat.xor (d % 256) 7 else d

/-- CRC-8 of bytes, initial value 0. -/
def crc8 (l : List Byte) : Nat := l.foldl (fun c b => Nat.repeat crc8Bit 8 (Nat.xor c b.toNat)) 0

/-- The seven bytes of a tag. -/
def RFrame.tag (f : RFrame) : List Byte :=
  let b := leBytes 1 f.cls ++ leBytes 1 f.hop ++ leBytes 1 f.src ++ leBytes 1 f.dest ++ leBytes 1 f.limit ++ leBytes 1 0
  b ++ leBytes 1 (crc8 b)

/-- The bytes of a frame on a lane: tag, frame and FCS, inverted if the frame is poisoned (spec/14 R374, R382). -/
def RFrame.wire (f : RFrame) : List Byte :=
  let c := fcsOf f.body
  f.tag ++ f.body ++ (if f.poison then c.map (fun b => ~~~b) else c)

/-- A tag and the bytes after it, none if the tag is discarded (spec/14 R375). -/
def RFrame.ofTag (t body : List Byte) (poison : Bool) : Option RFrame :=
  let f : RFrame := { cls := getLE t 0 1 % 4, hop := getLE t 1 1, src := getLE t 2 1, dest := getLE t 3 1, limit := getLE t 4 1,
                      body := body, poison := poison }
  if t.length == 7 && crc8 (t.take 6) == getLE t 6 1 && decide (f.cls ≤ 2)
      && (decide (f.dest ≤ 127) || decide (0xFE ≤ f.dest)) then some f
  else none

-- Link-local PDUs (spec/14 R387)

/-- The group address of the ring messages. -/
def linkDest : List Byte := [0x03, 0x0F, 0xC7, 0x14, 0x00, 0x02]

/-- TPI_CTRL.RING_ID and TPI_CTRL.CYCLE. -/
def State.ringParams (s : State) : Nat × Nat := (s.fld Pg.tpi Rg.TPI_CTRL 16 16, s.fld Pg.tpi Rg.TPI_CTRL 0 3)

/-- Bytes 0x00 to 0x0F of a PDU of a port. -/
def State.linkHead (s : State) (west : Bool) (op lstate : Nat) : List Byte :=
  leBytes 1 0x52 ++ leBytes 1 op ++ leBytes 1 west.toNat ++ leBytes 1 (s.rsPort west).addr ++ beBytes 2 s.ringParams.1
    ++ leBytes 1 s.ringParams.2 ++ leBytes 1 lstate ++ beBytes 8 s.key.serial

/-- A port's own CHALLENGE, with AUTH_OK as given. -/
def State.challenge (s : State) (west : Bool) (ok : Nat) : List Byte := s.linkHead west 1 ok ++ (s.rsPort west).nonce

/-- AUTH_OK of a port. -/
def State.authOk (s : State) (west : Bool) : Nat := (s.rsPort west).verified.toNat

/-- LSTATE of ANNOUNCE and LINK_EVENT. -/
def State.lstate (s : State) (west : Bool) : Nat := s.authOk west + 2 * (s.rsUp false).toNat + 4 * (s.rsUp true).toNat

/-- The module still forwards: it has power and ROOT (spec/14 R394, spec/22 R572). -/
def State.rsAlive (s : State) : Bool :=
  decide (s.sys.mode ≠ .backup) && !s.clk.resetLow && s.clk.rootLocked && decide (s.sys.stage ≠ .waitVin)
    && decide (s.sys.stage ≠ .regulators)

/-- A port starts a frame (spec/14 R374, R395). -/
def State.rsOut (s : State) (west : Bool) (f : RFrame) : State :=
  ((s.setRsPort west { s.rsPort west with flight := some f }).emit (.riser west.toNat f.wire)).bump (rsPage west) Rg.RS_TX_FRAMES

/-- A link-local frame leaves a port at once: in AUTH nothing else is sent (spec/14 R386). -/
def State.linkSend (s : State) (west : Bool) (pdu : List Byte) : State :=
  let f := s.ownFrame west 1 0xFE 1 (ownEth linkDest (rsMac west) pdu)
  if s.rsUp west then s.rsLocal west f else s.rsOut west f

/-- A ring message to every member (spec/14 R376, R380). -/
def State.ringSend (s : State) (op : Nat) : State :=
  s.rsAll 1 (fun w => ownEth linkDest (rsMac w) (s.linkHead w op (s.lstate w)))

/-- Changes a port. -/
def State.onPort (s : State) (west : Bool) (f : RsPort → RsPort) : State := s.setRsPort west (f (s.rsPort west))

-- Bring-up (spec/14 R385, R386)

/-- The page of a port is RUNNING. -/
def State.rsRunning (s : State) (west : Bool) : Bool := s.running (rsPage west)

/-- The MAC key under RS_AUTH.HANDLE. -/
def State.rsKey (s : State) (west : Bool) : Option (List Byte) := s.ringKey (s.fld (rsPage west) Rg.RS_AUTH 0 8)

/-- A riser page enters STARTING: it reads its ring address (spec/14 R394, spec/03 R76). -/
def State.rsAddress (s : State) (west : Bool) : State :=
  s.onPort west (fun x => { x with addr := s.fld Pg.lse Rg.LSE_CTRL 0 7 })

/-- A riser page begins its function (spec/14 R386). -/
def State.rsStarting (s : State) (west : Bool) : State :=
  let m := s.fld (rsPage west) Rg.RS_CTRL 0 2
  s.onPort west (fun x => { addr := x.addr, present := x.present, lanes := if m = 1 then 1 else if m = 2 then 2 else 3 })

/-- TXDIS of a port's optical module: high while the page is not RUNNING (spec/14 R386, R394). -/
def State.txDisable (s : State) (west : Bool) : Bool := !s.rsRunning west

/-- The transmit entry of a frame that does not leave completes FAILED_LINK (spec/16 R436). -/
def State.rsUnsent (s : State) (f : RFrame) : State :=
  match f.own with
  | none => s
  | some t => s.txDone t.queue t.glove t.pair 0x203 t.left t.len t.tag

/-- Frames that wait at a port that leaves UP are dropped (spec/14 R379). -/
def State.rsFlush (s : State) (west : Bool) : State :=
  let x := s.rsPort west
  let l := x.tpiT ++ x.tpiL ++ x.ctlT ++ x.ctlL ++ x.beT ++ x.beL
  l.foldl State.rsUnsent ((s.bumpBy (rsPage west) Rg.RS_DROP_DOWN l.length).setRsPort west
    { x with tpiT := [], tpiL := [], ctlT := [], ctlL := [], beT := [], beL := [] })

/-- LINK_EVENT leaves by one port only (spec/14 R388). -/
def State.linkEvent (s : State) (west : Bool) : State :=
  s.rsLocal west (s.ownFrame west 1 0xFF 128 (ownEth linkDest (rsMac west) (s.linkHead west 5 (s.lstate west))))

/-- A port returns to DOWN, its map and authentication forgotten; with `tell` the ring hears of it by the other port
(spec/14 R380, R388). -/
def State.rsFall (s : State) (west tell : Bool) : State :=
  let s1 := (s.rsFlush west).onPort west (fun x =>
    { x with st := 0, why := 0, peerValid := false, nonce := [], challenged := false, answered := false, verified := false,
             okSeen := false, map := [], deskew := 0, crossed := false, flight := none })
  if tell then s1.linkEvent (!west) else s1

/-- A riser page enters STOPPING: the frame in progress finishes (spec/14 R394), and a port that was UP leaves it. -/
def State.rsStopping (s : State) (west : Bool) : State :=
  (s.rsFall west (s.rsUp west)).onPort west (fun x => { present := x.present, addr := x.addr })

/-- The port narrows to the working lane (spec/14 R385): `bad` names the lanes that failed. -/
def State.rsNarrow (s : State) (west : Bool) (bad : Nat) : State :=
  let x := s.rsPort west
  let c := s.reg (rsPage west) Rg.RS_CTRL
  if bf c 0 2 == 0 && bit c 2 && x.lanes == 3 && (bad == 1 || bad == 2) then
    (s.setRsPort west { x with lanes := 3 - bad, narrow := true }).raiseSrc (rsPage west) 4
  else s

/-- AUTH_FAIL with a reason (spec/14 R387). -/
def State.authFail (s : State) (west : Bool) (why : Nat) : State :=
  let p := rsPage west
  ((s.onPort west (fun x => { x with st := 5, why := why, verified := false, okSeen := false, peerValid := false })).bump p Rg.RS_AUTH_FAILS).raiseSrc p 1

/-- A fresh NONCE for a port that has none, while the random source is healthy (spec/14 R387, spec/20 R512). -/
def State.nonceFor (s : State) (west : Bool) : State :=
  if (s.rsPort west).nonce = [] ∧ s.key.rngOk = true then
    let r := s.random 32
    r.2.onPort west (fun x => { x with nonce := r.1 })
  else s

/-- What a port in AUTH sends every 1 ms: CHALLENGE, once it has a NONCE, and HELLO (spec/14 R387). -/
def State.authSend (s : State) (west : Bool) : State :=
  let s1 := s.nonceFor west
  let s2 := if (s1.rsPort west).nonce = [] then s1 else s1.linkSend west (s1.challenge west (s1.authOk west))
  s2.linkSend west (s2.linkHead west 3 (s2.authOk west))

/-- A port enters AUTH: a fresh CHALLENGE and a HELLO are sent; without a usable handle it fails at once. -/
def State.authEnter (s : State) (west : Bool) : State :=
  let s1 := s.onPort west (fun x => { x with st := 3, why := 0, nonce := [], challenged := false, answered := false,
                                             verified := false, okSeen := false })
  match s1.rsKey west with
  | none => s1.authFail west 6
  | some _ => s1.authSend west

/-- Mutual verification is complete: UP (spec/14 R387). -/
def State.tryUp (s : State) (west : Bool) : State :=
  let x := s.rsPort west
  if x.st = 3 ∧ x.verified = true ∧ x.okSeen = true then (s.setRsPort west { x with st := 4 }).ringSend 5 else s

/-- A DOWN port with a module present begins TRAINING. -/
def State.rsTrain (s : State) (west present : Bool) : State :=
  let s1 := s.onPort west (fun x => { x with present := present })
  if s1.rsAlive && s1.rsRunning west && present && (s1.rsPort west).st == 0 then
    s1.onPort west (fun x => { x with st := 1, first := false })
  else s1

/-- Every lane in use has locked and adapted. -/
def State.rsTrained (s : State) (west : Bool) : State :=
  if (s.rsPort west).st = 1 then s.onPort west (fun x => { x with st := 2 }) else s

/-- Marker lock, lane identity and deskew are reached. -/
def State.rsAligned (s : State) (west : Bool) (deskew : Nat) : State :=
  let x := s.rsPort west
  if x.st = 2 then (s.setRsPort west { x with deskew := if x.lanes = 3 then deskew % 1024 else 0 }).authEnter west else s

/-- A bring-up state does not finish in time. -/
def State.rsTimeout (s : State) (west : Bool) (bad : Nat) : State :=
  let st := (s.rsPort west).st
  if st = 1 ∨ st = 2 then ((s.onPort west (fun x => { x with st := 0 })).rsNarrow west bad)
  else if st = 3 then s.authFail west 1
  else s

/-- 10 s after AUTH_FAIL. -/
def State.rsRetry (s : State) (west : Bool) : State := if (s.rsPort west).st = 5 then s.authEnter west else s

/-- A condition of spec/14 R388. -/
def State.rsDown (s : State) (west : Bool) (cause : LinkDown) (bad : Nat) : State :=
  let p := rsPage west
  let st := (s.rsPort west).st
  let s1 := if cause = .absent then s.onPort west (fun x => { x with present := false }) else s
  if st = 3 ∨ st = 4 then
    let s2 := if cause = .codewords then (s1.bumpBy p Rg.RS_FEC_UNCORR 8).raiseSrc p 5 else s1
    (((s2.bump p Rg.RS_LINK_DOWNS).raiseSrc p 0).rsFall west true).rsNarrow west bad
  else s1

-- Authentication (spec/14 R387)

/-- The MAC of a RESPONSE: 384 bits of HMAC-SHA-384 (spec/14 R387). -/
def linkMac (k b : List Byte) : List Byte := sliceB (Config.hmac k b) 0 48

/-- A peer's CHALLENGE: the first one is answered, once the random source gives a NONCE (spec/20 R512). -/
def State.challengeRx (s : State) (west : Bool) (pdu : List Byte) : State :=
  let x := s.rsPort west
  match s.rsKey west with
  | none => s
  | some k =>
    if (x.st = 3 ∨ x.st = 4) ∧ x.answered = false ∧ s.key.rngOk = true then
      let r := s.random 32
      let head := r.2.linkHead west 2 (s.authOk west) ++ r.1
      let s1 := r.2.onPort west (fun y => { y with challenged := true, answered := true })
      s1.linkSend west (head ++ linkMac k (pdu.take 0x30 ++ head))
    else s

/-- A peer's RESPONSE is verified. -/
def State.responseRx (s : State) (west : Bool) (pdu : List Byte) : State :=
  let x := s.rsPort west
  match s.rsKey west with
  | none => s
  | some k =>
    if x.st = 3 then
      let mac := sliceB pdu 0x30 48
      let good (ok : Nat) : Bool := linkMac k (s.challenge west ok ++ pdu.take 0x30) == mac
      if !(good 0 || good 1) then s.authFail west 2
      else if beNat (sliceB pdu 4 2) ≠ s.ringParams.1 then s.authFail west 3
      else if getLE pdu 6 1 ≠ s.ringParams.2 then s.authFail west 4
      else if getLE pdu 3 1 = x.addr then s.authFail west 5
      else
        (s.setRsPort west { x with verified := true, okSeen := x.okSeen || (getLE pdu 7 1 % 2 == 1),
                                   peer := getLE pdu 3 1 % 128 }).tryUp west
    else s

-- Ring messages (spec/14 R380, R381)

/-- Two members announce one address (spec/14 R381): ADDR_CLASH is set, which both pages show (R390, R393). -/
def State.clash (s : State) : State :=
  if s.rs.clash then s
  else (({ s with rs := { s.rs with clash := true } }).raiseSrc (rsPage false) 2).raiseSrc (rsPage true) 2

/-- The sender of a PDU has this module's address and another serial number. -/
def State.clashes (s : State) (west : Bool) (pdu : List Byte) : Bool :=
  getLE pdu 3 1 == (s.rsPort west).addr && beNat (sliceB pdu 8 8) != s.key.serial

/-- HELLO arrives. -/
def State.helloRx (s : State) (west : Bool) (pdu : List Byte) : State :=
  let x := s.rsPort west
  if x.st = 3 ∨ x.st = 4 then
    let crossed := getLE pdu 2 1 == west.toNat
    let s1 := s.setRsPort west { x with peer := getLE pdu 3 1 % 128, peerValid := true, crossed := crossed,
                                        okSeen := x.okSeen || (getLE pdu 7 1 % 2 == 1) }
    let s2 := if crossed && !x.crossed then s1.raiseSrc (rsPage west) 3 else s1
    let s3 := if s2.clashes west pdu then s2.clash else s2
    s3.tryUp west
  else s

/-- ANNOUNCE or LINK_EVENT of another member arrives: the port's map follows (spec/14 R380). The frame left its sender by the port
that PORT names; beyond the sender lies its other port. -/
def State.mapRx (s : State) (west : Bool) (src hop : Nat) (pdu : List Byte) : State :=
  let h := hop + 1
  let beyond := getLE pdu 7 1 / (if getLE pdu 2 1 = 0 then 4 else 2) % 2 == 1
  let s1 := s.onPort west (fun x =>
    let m := Sparse.put x.map src h
    { x with map := if getLE pdu 1 1 = 5 ∧ beyond = false then m.filter (fun e => decide (e.2 ≤ h)) else m })
  if s1.clashes west pdu then s1.clash else s1

/-- A ring message is delivered at a port. -/
def State.linkRx (s : State) (west : Bool) (f : RFrame) : State :=
  let pdu := f.body.drop 14
  match getLE pdu 1 1 with
  | 1 => s.challengeRx west pdu
  | 2 => s.responseRx west pdu
  | 3 => s.helloRx west pdu
  | 4 => if s.rsUp west then s.mapRx west f.src f.hop pdu else s
  | 5 => if s.rsUp west then s.mapRx west f.src f.hop pdu else s
  | _ => s

/-- An address was not heard for 30 ms (spec/14 R380). -/
def State.mapExpire (s : State) (west : Bool) (a : Nat) : State :=
  s.onPort west (fun x => { x with map := x.map.filter (fun e => e.1 != a), ownBack := x.ownBack && a != x.addr })

/-- Every 1 ms: HELLO of each UP port; in AUTH, CHALLENGE and HELLO (spec/14 R380, R387). -/
def State.helloSend (s : State) : State :=
  [false, true].foldl (fun a w =>
    let st := (a.rsPort w).st
    if st = 4 then a.linkSend w (a.linkHead w 3 (a.authOk w))
    else if st = 3 then a.authSend w
    else a) s

/-- Every 10 ms: ANNOUNCE. -/
def State.announce (s : State) : State := s.ringSend 4

-- Receiving (spec/14 R375, R382, R392)

/-- The correction of a stamp for the lanes in use, in tenths of ns (spec/15 R410). -/
def State.rsTenths (s : State) (west tx : Bool) : Nat :=
  if (s.rsPort west).lanes = 3 then (if tx then 480 else 960) else (if tx then 640 else 1600)

/-- A riser stamp on TMB0, `ago` ns after the crossing (spec/15 R409, R410). -/
def State.rsStamp (s : State) (west tx : Bool) (ago : Nat) : Nat :=
  let c : Int := (s.rsTenths west tx * 2 ^ 32 / 10 : Nat)
  let a : Int := (ago * 2 ^ 32 : Nat)
  s.stampAt 0 ((if tx then c else -c) - a)

/-- A best-effort frame is delivered to the receive queue of its VLAN's glove (spec/14 R392, spec/16 R432). -/
def State.beDeliver (s : State) (west : Bool) (f : RFrame) (ago : Nat) : State :=
  let p := rsPage west
  let e := Eth.read f.body
  match (if e.tagged then s.vmapGlove p e.vid else some 0) with
  | none => s.bump p Rg.RS_VLAN_MISS
  | some g =>
    match s.rxQueue p g with
    | none => s
    | some q =>
      let n := e.bytes.length
      if s.rxRoom q n then
        let bc := isBroadcast e.dest
        let mc := !bc && (e.dest.headD 0).getLsbD 0
        s.rxPut q e.bytes (rxEntry n e.vid e.pcp (bc.toNat + 2 * mc.toNat + 8 * e.tagged.toNat) f.src (s.rsStamp west false ago))
      else s.dropEntry q

/-- A gPTP frame of domain 0 (spec/15 R412): EtherType 0x88F7, domainNumber 0. -/
def isGptp (b : List Byte) : Bool :=
  let e := Eth.read b
  e.etype == 0x88F7 && getLE e.payload 4 1 == 0

/-- A frame is delivered to the block that its class serves (spec/14 R375); gPTP frames, which travel as CONTROL frames, to the
receive queue that the time service reads their stamps from (spec/15 R409, R412; log entry 152). A dark or reset core die takes
none. -/
def State.rsDeliver (s : State) (west : Bool) (f : RFrame) (ago : Nat) : State :=
  if f.poison || !s.coreUp then s
  else if f.cls = 0 then s.tpiReceive west f.body
  else if f.cls = 1 then
    if beNat (sliceB f.body 12 2) = 0x88B5 then
      match getLE f.body 14 1 with
      | 0x52 => s.linkRx west f
      | 0x55 => s.relayFrame west f.src f.body
      | 0x57 => if s.pfw then s else s.relayIn f.body
      | _ => s
    else if isGptp f.body && !s.pfw then s.beDeliver west f ago
    else s
  else if s.pfw then s else s.beDeliver west f ago

/-- The frame as it is forwarded: HOP moves on, in a TPI header too (spec/14 R374, R375). -/
def RFrame.onward (f : RFrame) : RFrame :=
  let h := f.hop + 1
  { f with hop := h, body := if f.cls = 0 then patchB f.body 17 (leBytes 1 h) else f.body }

/-- The frame came back to its sender (spec/14 R375 line 1): it is removed. -/
def State.rsReturned (s : State) (west : Bool) (f : RFrame) : State :=
  if f.poison then s
  else if f.cls = 0 then
    { s with ptb := { s.ptb with backE := s.ptb.backE || west, backW := s.ptb.backW || !west } }
  else if f.cls = 1 ∧ getLE f.body 14 1 = 0x52 ∧ (getLE f.body 15 1 = 3 ∨ getLE f.body 15 1 = 4) then
    if s.clashes west (f.body.drop 14) then s.clash
    else if getLE f.body 15 1 = 4 then s.onPort (!west) (fun x => { x with ownBack := true })
    else s
  else s

/-- A frame with its tag, in a port that is UP (spec/14 R375). -/
def State.rsRoute (s : State) (west : Bool) (f : RFrame) (ago : Nat) : State :=
  let p := rsPage west
  if f.src = (s.rsPort west).addr then s.rsReturned west f
  else if f.dest = 0xFE ∨ f.dest = (s.rsPort west).addr then s.rsDeliver west f ago
  else
    let s1 := if f.dest = 0xFF ∧ f.hop < f.limit then s.rsDeliver west f ago else s
    if f.hop + 1 < f.limit then s1.rsTransit (!west) f.onward
    else if 127 ≤ f.hop then s1.bump p Rg.RS_HOP_DROP
    else s1

/-- What a port's decoder found is counted (spec/14 R389, R393). -/
def State.rsFec (s : State) (west : Bool) (x : Fec) : State :=
  let p := rsPage west
  let s1 := s.bumpBy p Rg.RS_FEC_CORR x.corr
  if x.lost = 0 then s1 else (s1.bumpBy p Rg.RS_FEC_UNCORR x.lost).raiseSrc p 5

/-- A frame is taken by its tag (spec/14 R375): in AUTH only link-local ring messages, those of a neighbour with this module's own
address too (R381, R387). -/
def State.rsTake (s : State) (west : Bool) (f : RFrame) (ago : Nat) : State :=
  if (s.rsPort west).st = 4 then s.rsRoute west f ago
  else if f.cls = 1 ∧ f.dest = 0xFE ∧ f.poison = false ∧ s.coreUp = true ∧ beNat (sliceB f.body 12 2) = 0x88B5
      ∧ getLE f.body 14 1 = 0x52 then s.linkRx west f
  else s

/-- The port receives: its page is RUNNING or finishing, and its link is in AUTH or UP. -/
def State.rsHears (s : State) (west : Bool) : Bool :=
  let st := (s.rsPort west).st
  s.rsAlive && (s.rsRunning west || s.cur (rsPage west) == 3) && (st == 3 || st == 4)

/-- A frame arrives at a riser port, `frame` with its FCS (spec/14 R375, R382, R389). -/
def State.riserReceive (s : State) (west : Bool) (tag frame : List Byte) (fec : Fec) (ago : Nat) : State :=
  let p := rsPage west
  if s.rsHears west then
    let s0 := s.rsFec west fec
    let good := fcsGood frame && !fec.hit
    match RFrame.ofTag tag (fcsBody frame) (!good) with
    | none => (s0.bump p Rg.RS_TAG_ERR).raiseSrc p 6
    | some f =>
      let s1 := s0.bump p Rg.RS_RX_FRAMES
      let s2 := if good then s1
        else if fcsPoison frame && !fec.hit then s1.bump p Rg.RS_POISON_RX
        else s1.bump p Rg.RS_FCS_ERR
      s2.rsTake west f ago
  else s

/-- A port goes down over a frame (spec/14 R395). `part`: tag and bytes of one that it was receiving, which is taken with a wrong FCS
and goes on poisoned if it is forwarded; `cut`: it was sending one, which ends early and is counted. -/
def State.rsLost (s : State) (west : Bool) (cause : LinkDown) (bad : Nat) (fec : Fec) (cut : Bool)
    (part : Option (List Byte × List Byte)) : State :=
  let p := rsPage west
  if s.rsHears west then
    let s0 := s.rsFec west fec
    let s1 := match part.bind (fun x => RFrame.ofTag x.1 x.2 true) with
      | none => s0
      | some f => ((s0.bump p Rg.RS_RX_FRAMES).bump p Rg.RS_FCS_ERR).rsTake west f 0
    let s2 := if cut && (s1.rsPort west).flight.isSome then (s1.emit (.riserCut west.toNat)).bump p Rg.RS_DROP_DOWN else s1
    s2.rsDown west cause bad
  else s.rsDown west cause bad

-- Sending (spec/14 R376, R378)

/-- The ports and LIMITs of a best-effort frame by its DEST (spec/14 R376). -/
def State.bePorts (s : State) (west : Bool) (dest : Nat) : List (Bool × Nat) :=
  if dest = 0xFE then [(west, 1)]
  else if dest = 0xFF then
    let n := s.ringN
    if s.ringClosed then
      (if n / 2 = 0 then [] else [(false, n / 2)]) ++ (if (n - 1) / 2 = 0 then [] else [(true, (n - 1) / 2)])
    else [false, true].filterMap (fun w => if s.reach w = 0 then none else some (w, s.reach w))
  else match s.route dest with
    | none => []
    | some w => [(w, 128)]

/-- The frame of a best-effort entry may leave: R117 under this page's map, untagged for glove 0 only (spec/14 R392). -/
def State.beLawful (s : State) (west : Bool) (g : Nat) (e : TxEntry) : Bool :=
  (if e.tagged then decide (s.vmapGlove (rsPage west) e.vid = some g) else g == 0) && s.memOk g e.buf e.len

/-- The entry names a destination that a tag can carry. -/
def destOk (d : Nat) : Bool := decide (d ≤ 127) || decide (0xFE ≤ d)

/-- The frames of a best-effort entry for each port; the transmit entry completes with the copy of its own port, or else with the
first that is sent (DESIGN CHOICE, log entry 153). A gPTP frame to the neighbour is a CONTROL frame (spec/15 R412). -/
def State.beCopies (s : State) (west : Bool) (e : TxEntry) (body : List Byte) (t : TxFlight) : List (Bool × RFrame) :=
  let ports := s.bePorts west e.dest
  let ups := ports.filter (fun w => s.rsUp w.1)
  let carrier := if ups.any (fun w => w.1 == west) then some west else ups.head?.map (·.1)
  let cls := if e.dest = 0xFE ∧ isGptp body then 1 else 2
  ports.map (fun w => (w.1, { s.ownFrame w.1 cls e.dest w.2 body with own := if carrier == some w.1 then some t else none }))

/-- The head entry of a transmit queue of a riser page leaves it (spec/14 R392, spec/16 R436): the frames for each port, to be
sent here or handed to the other port. -/
def State.beTake (s : State) (west : Bool) (q : Nat) : State :=
  let e := TxEntry.read (s.headEntry q)
  let g := s.queueOwner q
  let pair := (s.queue q).pair
  let edge := s.stampAt 0 0
  let body := e.frame (s.load e.buf e.len)
  let t : TxFlight := { queue := q, glove := g, pair := pair, tag := e.tag, len := e.len, stamp := edge, left := edge,
                        late := false, real := true }
  let s1 := s.consume q
  if e.bad || !destOk e.dest then s1.txDone q g pair St.arg edge e.len e.tag
  else if !s.beLawful west g e then (s1.violation g).txDone q g pair 0 (s.rsStamp west true 0) e.len e.tag
  else
    let l := s.beCopies west e body t
    let s2 := l.foldl (fun (a : State) (w : Bool × RFrame) =>
      if a.rsUp w.1 then
        a.onPort w.1 (fun x => if w.2.cls = 1 then { x with ctlL := x.ctlL ++ [w.2] } else { x with beL := x.beL ++ [w.2] })
      else a.bump (rsPage w.1) Rg.RS_DROP_DOWN) s1
    if l = [] then
      if e.dest = 0xFF then s2.txDone q g pair 0 edge e.len e.tag
      else (s2.bump (rsPage false) Rg.RS_DROP_DOWN).txDone q g pair 0x203 edge e.len e.tag
    else if l.any (fun w => w.2.own.isSome) then s2
    else s2.txDone q g pair 0x203 edge e.len e.tag

/-- A local best-effort frame is made ready: one already handed over, or the head of the next queue. -/
def State.beReady (s : State) (west : Bool) : State :=
  if (s.rsPort west).beL = [] then
    match (s.txQueues (rsPage west) 0).find? (fun q => s.canTake q) with
    | some q => if s.coreUp && !s.pfw then s.beTake west q else s
    | none => if s.coreUp && !s.pfw then (s.txQueues (rsPage west) 0).foldl State.ringTried s else s
  else s

/-- A frame leaves a port: a transmit entry completes with the stamp of this port (spec/15 R409, R410, spec/16 R436). -/
def State.rsEmit (s : State) (west own : Bool) (f : RFrame) : State :=
  let s1 := s.rsOut west f
  let s2 := match f.own with
    | none => s1
    | some t => s1.txDone t.queue t.glove t.pair 0 (s.rsStamp west true 0) t.len t.tag
  if own && f.cls == 0 then
    let s3 := s2.bump Pg.tpi Rg.TPI_TX_FRAMES
    { s3 with ptb := { s3.ptb with sentAny := true } }
  else s2

/-- The next TPI or CONTROL frame of a port: transit before local. -/
def State.rsNext (s : State) (west : Bool) (cls : Nat) : Option State :=
  let x := s.rsPort west
  let t := if cls = 0 then x.tpiT else x.ctlT
  let l := if cls = 0 then x.tpiL else x.ctlL
  match t, l with
  | f :: r, _ => some ((s.setRsPort west (if cls = 0 then { x with tpiT := r } else { x with ctlT := r })).rsEmit west false f)
  | [], f :: r => some ((s.setRsPort west (if cls = 0 then { x with tpiL := r } else { x with ctlL := r })).rsEmit west true f)
  | [], [] => none

/-- The next best-effort frame: transit and local alternate. -/
def State.beNext (s : State) (west : Bool) : State :=
  let takeT (a : State) : Option State :=
    let x := a.rsPort west
    match x.beT with
    | f :: r => some ((a.setRsPort west { x with beT := r, turn := true }).rsEmit west false f)
    | [] => none
  let takeL (a : State) : Option State :=
    let x := a.rsPort west
    match x.beL with
    | f :: r => some ((a.setRsPort west { x with beL := r, turn := false }).rsEmit west true f)
    | [] => none
  if (s.rsPort west).turn then
    let a := s.beReady west
    (takeL a).getD ((takeT a).getD a)
  else
    match takeT s with
    | some a => a
    | none => let a := s.beReady west; (takeL a).getD a

/-- The first frame of a transit buffer is poisoned, for an uncorrectable error in it (spec/14 R382, R394). -/
def State.spoilTransit (s : State) (west : Bool) (cls : Nat) : State :=
  let x := s.rsPort west
  let p (l : List RFrame) : List RFrame := match l with | f :: r => { f with poison := true } :: r | [] => []
  (s.setRsPort west (if cls = 0 then { x with tpiT := p x.tpiT } else if cls = 1 then { x with ctlT := p x.ctlT }
    else { x with beT := p x.beT })).raiseSrc (rsPage west) 7

/-- The class of the transit frame that is next to leave by a port, if it is one. -/
def State.transitNext (s : State) (west : Bool) : Option Nat :=
  let x := s.rsPort west
  if s.inWindow && !x.tpiT.isEmpty then some 0
  else if s.inWindow && !x.tpiL.isEmpty then none
  else if !x.ctlT.isEmpty then some 1
  else if !x.ctlL.isEmpty then none
  else if !x.tpiT.isEmpty then some 0
  else if !x.tpiL.isEmpty || s.inWindow then none
  else if !x.beT.isEmpty && !x.turn then some 2
  else none

/-- A riser port starts a frame out of a transit buffer in which an error is found. -/
def State.riserSpoil (s : State) (west : Bool) : State :=
  match s.transitNext west with
  | some c => s.spoilTransit west c
  | none => s

/-- A riser port may start a frame (spec/14 R378). -/
def State.riserTransmit (s : State) (west : Bool) : State :=
  if s.rsAlive && s.rsUp west then
    let win := s.inWindow
    match (if win then s.rsNext west 0 else none) with
    | some a => a
    | none =>
      match s.rsNext west 1 with
      | some a => a
      | none =>
        match s.rsNext west 0 with
        | some a => a
        | none => if win then s else s.beNext west
  else s

-- The RSE and RSW pages (spec/14 R390, R391)

/-- RS_STAT. -/
def State.rsStat (s : State) (west : Bool) : Word :=
  let x := s.rsPort west
  wd (x.st + 16 * x.lanes + 64 * x.present.toNat + 128 * x.crossed.toNat + 256 * x.why + 4096 * x.narrow.toNat
    + 65536 * x.peer + 8388608 * x.peerValid.toNat)

/-- RS_RING. -/
def State.rsRing (s : State) (west : Bool) : Word :=
  wd (s.reach west + 256 * s.ringN + 65536 * s.ringClosed.toNat + 131072 * s.rs.clash.toNat)

/-- RS_MAPk. -/
def State.rsMapReg (s : State) (west : Bool) (k : Nat) : Word :=
  bitsWord (((s.rsPort west).map.filter (fun e => e.1 / 32 == k)).map (fun e => e.1 % 32))

end Sys2Proof.Machine
end

