-- ==== Sys2Proof/Machine/PowerOps.lean ====
section
/-! DEFINITION. Restart from retained data (spec/02 R43, R51), the Hatstand's and the supplies' events (spec/22), loss of
power, resets and the clocks (spec/22 R571 to R573, spec/23 R593, R605, R608), and start-up (spec/02 R47, spec/21 R539). -/

namespace Sys2Proof.Machine

-- Retained data and restarts (spec/02 R43, R51)

/-- The newest loop integrator buffer that is valid. -/
def State.lNewest (s : State) : Option LBuf :=
  let a := s.nv.lbuf0
  let b := s.nv.lbuf1
  match a.valid, b.valid with
  | true, true => some (if a.seq < b.seq then b else a)
  | true, false => some a
  | false, true => some b
  | false, false => none

/-- The layout of a task's call list in CONFIG. -/
def State.cfgLayout (s : State) (t : Nat) : Nat := (Sparse.get (dflt {}) s.nv.cfg.tasks t).d.layout

/-- SYS_RETAIN as it is evaluated now (spec/02 R43, spec/08 R208): KTL_VALID asks for a valid slot of every started task,
LAYOUT_MATCH and CFG_MATCH what the newest complete commits recorded. The spec gives an image no field that holds an instance
layout: what stands for it are the LAYOUT_IDs of the call lists in CONFIG (DESIGN CHOICE, log entry 143). -/
def State.retainNow (s : State) : Word :=
  let ts := (s.nv.cfg.taskRoles.filter (fun e => decide (e.1 < 16) && (e.2.owner.isSome || e.2.shadow.isSome))).map (·.1)
  let ks := ts.map s.kNewest
  let lay := ts.all (fun t => match s.kNewest t with
    | some k => k.layout == s.cfgLayout t
    | none => false)
  let gens := ks.all (fun k => match k with | some x => x.gen == s.nv.cfg.ltGen | none => false)
  let lgen := match s.lNewest with | some b => b.gen == s.nv.cfg.ltGen | none => false
  let b0 := ts.all (fun t => (s.klast t (s.cfgLayout t) s.nv.cfg.ltGen).isSome)
  let b1 := s.lNewest.isSome
  let b3 := gens && lgen
  wd (b0.toNat + 2 * b1.toNat + 4 * lay.toNat + 8 * b3.toNat + 16 * (b0 && b1 && lay && b3).toNat)

/-- SYS_RETAIN is evaluated. -/
def State.evalRetain (s : State) : State := { s with sys := { s.sys with retain := s.retainNow } }

/-- The hat table of CONFIG (spec/18 R480): the hat of every analogue output, and the HAT field of every DIO_CFGn, whose other
fields a restart leaves as they are (spec/02 R51). -/
def State.reloadHats (s : State) : State :=
  let c := s.nv.cfg.regs
  let s1 := (List.range 8).foldl (fun (a : State) n =>
    a.setReg Pg.aout (Rg.AOUT_HAT + 4 * n) (Sparse.get regReset c (rkey Pg.aout (Rg.AOUT_HAT + 4 * n)))) s
  let hat (n : Nat) : Nat := bf (Sparse.get regReset c (rkey Pg.dio (Rg.DIO_CFG + 8 * n))) 2 2
  let s2 := (List.range 32).foldl (fun (a : State) n =>
    a.setReg Pg.dio (Rg.DIO_CFG + 8 * n) (setBf (a.reg Pg.dio (Rg.DIO_CFG + 8 * n)) 2 2 (hat n))) s1
  let dio := (List.range 32).foldl (fun (m : Sparse Word) n =>
    Sparse.set (dflt 8) m n (setBf (Sparse.get (dflt 8) m n) 2 2 (hat n))) s2.fio.dioCfg
  { s2 with fio := { s2.fio with aoutHat := if s2.fio.aoutUp || s2.fio.hatsIn then s2.aoutHats else s2.fio.aoutHat,
                                 dioCfg := if s2.fio.dioUp || s2.fio.hatsIn then dio else s2.fio.dioCfg } }

/-- Loop table, hat table, ownership map and glove table come from CONFIG again, if it holds a generation (spec/02 R51); a
glove whose reclaim is in hand keeps its region. The map goes to its place in memory: the one in force stays until the next
STARTING of PTB (spec/13 R349). -/
def State.reload (s : State) : State :=
  if s.nv.cfg.gen = 0 then s
  else
    let c := s.nv.cfg
    let put (m : List Host.Cell) (base n : Nat) (t : List Host.Cell) : List Host.Cell :=
      if base = 0 then m else putTable m base n t
    let m1 := put s.mem (s.reg64 Pg.ces Rg.CES_LT_BASE_LO) 0x800000 c.loopTab
    let m2 := put m1 (s.reg64 Pg.ptb Rg.PTB_MAP_BASE_LO) 262144 c.map
    let s1 := { s with mem := m2 }
    let s2 := s1.reloadHats
    let table := s2.glv.reclaims.foldl (fun (m : Sparse Glove) r => Sparse.set gloveDflt m r.glove (s2.glove r.glove)) c.gloves
    { s2 with glv := { s2.glv with table := table, qmap := c.qmap } }

/-- Channel `c` can hold another role line (spec/06 R136). -/
def State.lineFree (s : State) (c : Nat) : Bool := decide ((s.rolesIn c).length < 34816)

/-- The loops that CONFIG records as started are restored (spec/02 R51): warm, with the integrators of the last commit; within
the limits that a start obeys (spec/01 R26, spec/06 R148). -/
def State.restartLoops (s : State) (warm : Bool) : State :=
  let integ := if warm then (match s.lNewest with | some b => b.integ | none => []) else []
  let s1 := if warm then s else { s with nv := { s.nv with lbuf0 := { s.nv.lbuf0 with valid := false },
                                                           lbuf1 := { s.nv.lbuf1 with valid := false } } }
  s1.nv.cfg.loopRoles.foldl (fun (a : State) (e : Nat × RoleRec) =>
    let b := a.ltEntry e.1
    let d := Desc.read b
    let w := (integ.find? (fun (x : Nat × Int) => x.1 == e.1)).map (·.2)
    if d.defined && Desc.passes b && !a.loopFull false e.1 d then
      match placePair a.unfenced (e.2.owner.getD d.owner) (e.2.shadow.getD d.shadow) with
      | none => a
      | some (o, h) =>
        let a1 := if e.2.owner.isSome && a.lineFree o then a.makeRole e.1 false o b false false w else a
        if e.2.shadow.isSome && a1.lineFree h then a1.makeRole e.1 true h b false false w else a1
    else a) s1

/-- Everything that runs stops, and everything that CONFIG records as started is restored, warm or cold (spec/02 R51,
R52); its generation is the one that commits record from now on (R43). -/
def State.restart (s : State) (warm : Bool) : State :=
  let s1 := s.stopAll.unforce
  let s2 := (List.range 4).foldl (fun (a : State) c => a.setReg (Pg.cea c) Rg.CEA_LATE 0) s1.reload
  let s3 := { s2 with sys := { s2.sys with runGen := s2.nv.cfg.ltGen } }
  let s4 := (s3.restartTasks warm).restartLoops warm
  { s4 with sys := { s4.sys with lastRestart := if warm then 1 else 2 } }

-- The Hatstand and the channels' heartbeats (spec/09 R225, R226, spec/22 R566 to R570)

/-- The heartbeats of a 100 µs (spec/09 R225, spec/22 R566, R579): those of the unfenced channels arrive; halted channels
and channels without clocks send none (spec/22 R565, spec/23 R593). -/
def State.heartbeat (s : State) : State :=
  if s.coreUp then
    let l := if s.isFatal || s.clk.gated then [] else s.unfenced
    if l.isEmpty then { s with hst := { s.hst with beating := [], supSeen := false } }
    else
      let khz := (s.reg Pg.hst Rg.HST_RC_KHZ).toNat
      let gap := match s.hst.last with
        | some t => ((s.now1 - t) * (if khz = 0 then 8000 else khz) / 8000000)
        | none => 0
      let old := bf (s.reg Pg.hst Rg.HST_GAP_MAX) 0 16
      let s1 := if s.hst.armed && decide (old < gap) then s.setReg Pg.hst Rg.HST_GAP_MAX (wd (min gap 0xFFFF)) else s
      { s1 with hst := { s1.hst with beating := l, supSeen := true, last := if s.hst.armed then some s.now1 else none } }
  else s

/-- No supervisor heartbeat for 250 µs (spec/09 R226): channel `c`, the next unfenced channel that is not itself silent,
takes over; the supervisor's channel and the silent ones before `c` are fenced. -/
def State.takeover (s : State) (c : Nat) : State :=
  let before := s.unfenced.takeWhile (fun k => k != c)
  if s.coreUp && !s.isFatal && s.unfenced.contains c && !before.isEmpty then
    let s1 := before.foldl (fun (a : State) k => a.fence k) s
    let s2 := (s1.raiseSrc Pg.lse 3).bump Pg.lse Rg.LSE_SUP_CHANGES
    if before.length = 1 then s2 else s2.raiseSrc Pg.lse 8
  else s

/-- The supervisor misses a channel's heartbeats (spec/09 R226). -/
def State.beatLost (s : State) (c : Nat) : State :=
  if s.coreUp && !s.isFatal && s.unfenced.contains c && s.supervisor != some c then (s.fence c).raiseSrc Pg.lse 8 else s

/-- The Hatstand acts (spec/22 R567, R568). -/
def State.hatstandAct (s : State) : State :=
  if s.hst.armed then
    ({ s with hst := { s.hst with armed := false, acted := true, path := true, beating := [], supSeen := false, last := none },
              sys := { s.sys with safeN := true } }).raiseSrc Pg.hst 0
  else s

/-- The Hatstand's own beat reaches the channels. -/
def State.hatstandBeat (s : State) : State := { s with hst := { s.hst with beatOk := true } }

/-- The supervisor receives no beat for 1 ms (spec/22 R569). -/
def State.hatstandGone (s : State) : State :=
  if s.coreUp && s.supervisor.isSome && s.hst.beatOk then
    { s with hst := { s.hst with beatOk := false } }.raiseSrc Pg.hst 1
  else s

/-- The Hatstand's oscillator is counted (spec/22 R570). -/
def State.rcMeasure (s : State) (khz : Nat) : State :=
  if s.coreUp then
    let s1 := s.setReg Pg.hst Rg.HST_RC_KHZ (wd (min khz 0xFFFF))
    if khz < 7200 ∨ 8800 < khz then s1.raiseSrc Pg.hst 2 else s1
  else s

-- Supplies (spec/22 R578 to R580)

/-- The die temperature is measured (spec/22 R579, R580): its sources are set where it rises above 115 °C and 125 °C. -/
def State.tempMeasure (s : State) (v : Nat) : State :=
  let old := signed 16 (s.reg Pg.pwr Rg.PWR_TEMP).toNat
  let new := signed 16 (v % 65536)
  let s1 := s.setReg Pg.pwr Rg.PWR_TEMP (wd (v % 65536))
  let s2 := if old ≤ 1150 ∧ 1150 < new then s1.raiseSrc Pg.pwr 2 else s1
  if old ≤ 1250 ∧ 1250 < new then s2.raiseSrc Pg.pwr 3 else s2

/-- A supply or temperature event. -/
def State.supply (s : State) (k : Supply) (v : Nat) : State :=
  if s.powered then
    let temp := s.setReg Pg.pwr Rg.PWR_TEMP (wd (v % 65536))
    match k with
    | .tempHigh => temp.raiseSrc Pg.pwr 2
    | .tempNormal => temp
    | .tempTrip => temp.raiseSrc Pg.pwr 3
    | .tempMeasure => s.tempMeasure v
    | .regulator => s.raiseSrc Pg.pwr 4
    | .vbatLow =>
      let s1 := { s with pwr := { s.pwr with vbatOk := false } }
      if s.pwr.vbatOk then s1.raiseSrc Pg.pwr 1 else s1
    | .vbatOk => { s with pwr := { s.pwr with vbatOk := true } }
    | .vinMeasure => s.setReg Pg.pwr Rg.PWR_VIN (wd (min v 0xFFFF))
    | .vbatMeasure => s.setReg Pg.pwr Rg.PWR_VBAT (wd (min v 0xFFFF))
    | .vmetMeasure => if s.metrology then s.setReg Pg.pwr Rg.PWR_VMET (wd (min v 0xFFFF)) else s
  else s

/-- PWR_STAT (spec/22 R579). -/
def State.pwrStat (s : State) : Word :=
  let run := match s.pwr.seq with | .running _ => true | .done _ => true | _ => false
  let done := match s.pwr.seq with | .done _ => true | _ => false
  wd (run.toNat + 2 * done.toNat + 4 * s.pwr.vbatOk.toNat + 8 * s.pwr.vmetOk.toNat
    + 16 * ((List.range 4).filter (fun b => s.fio.vio.contains b)).foldl (fun n b => n + 2 ^ b) 0)

/-- HST_STAT (spec/22 R579). -/
def State.hstStat (s : State) : Word :=
  wd (s.hst.armed.toNat + 2 * s.hst.acted.toNat + 4 * ((List.range 4).filter (fun c => s.hst.beating.contains c)).foldl
    (fun n c => n + 2 ^ c) 0 + 64 * s.hst.supSeen.toNat + 128 * s.sys.safeN.toNat)

-- The VBAT domain (spec/23 R608)

/-- The contact of the carrier's cover changes. -/
def State.csealMove (s : State) (o : Bool) : State :=
  if s.vbat.csealOpen = o then s
  else { s with vbat := { s.vbat with csealOpen := o, openings := if o then min (s.vbat.openings + 1) 0xFFFF else s.vbat.openings,
                                      chDate := s.rtc.date, chTime := s.rtc.time } }

/-- VBM_READ. -/
def vbmReadBody (c : Ctx) (s : State) : State :=
  if c.tenant then s.foreign c
  else
    let v := s.vbat
    let s1 := if c.b 0 0 then { s with vbat := { v with openings := 0 } } else s
    s1.done c (wd (v.csealOpen.toNat + 2 * v.tamperOpen.toNat + 65536 * v.openings)) v.chDate v.chTime

/-- The VBAT domain powers on (spec/15 R425): the clock is lost, and the records begin anew. -/
def State.vbatOn (s : State) : State :=
  { s with rtc := {}, vbat := { csealOpen := s.vbat.csealOpen, tamperOpen := s.vbat.tamperOpen } }

/-- A tamper; TAMPER_N is the VBAT monitor's (spec/20 R531, spec/23 R608). `closes`: its loop is closed again, which is no
tamper. -/
def State.tamperEvent (s : State) (vbat closes : Bool) : State :=
  if vbat && closes then { s with vbat := { s.vbat with tamperOpen := false } }
  else
    let s1 := if vbat then { s with vbat := { s.vbat with tamperOpen := true } } else s
    s1.tamperIn vbat

-- Loss of power and resets (spec/22 R571 to R573, spec/23 R605)

/-- The module after a power cycle (spec/22 R573, R574, spec/23 R605): everything at reset but what MRAM, NAND, OTP, the VBAT
domain and the Caddy keep, and the pins. The groups' epochs and states are kept in MRAM (spec/09 R252). -/
def State.powerCycle (s : State) (stage : Stage) (mode : Mode) (cause : Nat) : State :=
  let keep (g : GroupSt) : GroupSt :=
    { st := if g.st = .held ∨ g.st = .claiming then .idle else g.st, epoch := g.epoch, known := g.known, nodeEpoch := g.nodeEpoch }
  let groups := s.lse.groups.foldl (fun (m : Sparse GroupSt) (e : Nat × GroupSt) => Sparse.set (dflt {}) m e.1 (keep e.2)) []
  let lost := groups.any (fun e => decide (e.1 < 1024) && e.2.st == .lost)
  let z := State.reset
  { z with
    pending := s.pending, part := s.part, emitted := s.emitted, freeCtr := s.freeCtr,
    nv := { s.nv with journal := s.nv.journal.map (fun (j : Journal) => { j with slot := none }) },
    key := { s.key with rngOk := false, tampered := false }, vbat := s.vbat, rtc := s.rtc,
    cdy := { s.cdy.disown (fun _ => true) with post := [] },
    upd := { s.upd with own := none, via := none, dfu := [], dfuErr := 0, manifest := false, fp0Sgmii := true },
    lse := { z.lse with groups := groups, pubStopped := lost },
    usb := { z.usb with vbus := s.usb.vbus },
    fio := { z.fio with vio := s.fio.vio, pinRaw := s.fio.pinRaw },
    pwr := { z.pwr with vmetOk := s.pwr.vmetOk },
    clk := { z.clk with resetLow := s.clk.resetLow },
    sys := { z.sys with stage := stage, mode := mode, bootCause := cause } }

/-- A command that PFW ends ABORTED: mode commands (spec/04 R112), and those whose chapters list it: CFG_SAVE (spec/03 R74), the
loop and task commands (spec/06 R154, spec/08 R214), those of the channels and leases (spec/09 R249, R250), the key vault's
(spec/20 R525), the update's (spec/21 R541), and FLT_SAVE (spec/22 R577); no completion is posted of a transition or an
UPD_CONFIRM that goes on at start-up (spec/20 R527, spec/21 R556). -/
def pfwAborts (op : Nat) : Bool :=
  modeOp op || op == 0x105 || op == 0x0B01 || op / 256 == 3 || op / 256 == 4 || op / 256 == 5
    || (op / 256 == 9 && op != 0x0911 && op != 0x0913) || (op / 256 == 0x0A && op != 0x0A05)

/-- The 0 µs row of spec/22 R572, for PFW (no cause) or for a reset as spec/02 R44 makes it: in RECOVERY the loader stops, and
in start-up nothing is in hand. A change that waits for CONFIG stays in its journal. -/
def State.seqBegin (s : State) (cause : Option Nat) : State :=
  let on (a : State) : State := { a with pwr := { a.pwr with seq := .running cause }, hst := { a.hst with armed := false, last := none } }
  let s1 := s.updStop
  if s.sys.mode = .recovery ∨ s.sys.mode = .startup then on s1
  else
    let n := s1.nv
    let rr : RestartRec := { n.restart with pfwCount := satInc n.restart.pfwCount, lastStop := 2 }
    let s2 := { s1 with nv := { n with journal := n.journal.map (fun (j : Journal) => { j with slot := none }), restart := rr } }
    let s3 := s2.abortWhere (fun x => pfwAborts x.op)
    let s4 := on { s3 with sys := { s3.sys with safeN := true, restartTest := false } }
    if s4.metrology && decide (s4.cdy.mode ≠ CdyMode.unpowered) then { s4 with cdy := { s4.cdy with commitReq := true } } else s4

/-- PFW asserts (spec/22 R571, R573, spec/02 R49), also while internal reset lasts. -/
def State.pfwAssert (s : State) : State :=
  if !s.powered then
    if s.sys.stage = .regulators ∧ s.sys.mode = .startup ∧ s.clk.resetLow = false ∧ s.pwr.seq = .off then
      { s with pwr := { s.pwr with seq := .startupHalt } }
    else s
  else
    match s.pwr.seq with
    | .off => if s.sys.mode = .startup then { s with pwr := { s.pwr with seq := .startupHalt } } else s.seqBegin none
    | .running (some _) => { s with pwr := { s.pwr with seq := .running none } }
    | _ => s

/-- A reset by SYS_RESET, by UPD_ACTIVATE or at the end of a trial (spec/02 R44): ignored while a sequence runs (spec/22
R581). -/
def State.moduleReset (s : State) (cause : Nat) : State :=
  if s.coreUp && decide (s.pwr.seq = .off) then s.seqBegin (some cause) else s

/-- COMMIT_DONE (spec/22 R572): Kettle commits in progress, the loop integrators (`ok`: read back), and the restart record. The sequence does
not come here once ROOT was lost (spec/23 R610). -/
def State.seqEnd (s : State) (ok : Bool) : State :=
  match s.pwr.seq with
  | .running cause =>
    if s.clk.gated || !s.clk.rootLocked then s
    else
      let s1 :=
        if s.sys.mode = .recovery ∨ s.sys.mode = .startup then s
        else
          let a := { s with ktl := { s.ktl with pendingC := [] } }
          ((Sparse.keys a.ktl.commits).foldl (fun (b : State) t => b.commitDone t true) a).commitIntegrators ok
      let stop := if cause = none then 1 else 3
      { s1 with nv := { s1.nv with restart := { s1.nv.restart with lastStop := stop } },
                pwr := { s1.pwr with seq := .done cause } }
  | _ => s

/-- The power-up sequence starts again after COMMIT_DONE (spec/22 R573). -/
def State.seqRestart (s : State) : State :=
  match s.pwr.seq with
  | .done cause => s.powerCycle .regulators .startup (cause.getD 1)
  | _ => s

/-- VIN is lost: the module is dark (spec/02 R29, spec/22 R572). -/
def State.dark (s : State) : State := if s.sys.mode = .backup then s else s.powerCycle .waitVin .backup 0

/-- VIN is good (spec/02 R47); a lost clock is found (spec/15 R425), and a tamper that the VBAT monitor saw meanwhile takes
effect (spec/20 R531). -/
def State.vinUp (s : State) : State :=
  if s.sys.mode = .backup then
    let s0 := s.powerCycle .regulators .startup 1
    let s1 := if s.rtc.lost then s0.raiseSrc Pg.rtc 0 else s0
    if s.vbat.tamper then { s1 with vbat := { s1.vbat with tamper := false } }.tamperNow else s1
  else s

/-- RESET_N goes low (spec/23 R605). -/
def State.resetAssert (s : State) : State :=
  let s1 := { s with clk := { s.clk with resetLow := true } }
  if s.sys.mode = .backup then s1 else s1.powerCycle .waitVin .startup 2

/-- RESET_N is released. -/
def State.resetRelease (s : State) : State :=
  if s.clk.resetLow then
    let s1 := { s with clk := { s.clk with resetLow := false } }
    if s.sys.mode = .backup then s1 else { s1 with sys := { s1.sys with stage := .regulators, bootCause := 2 } }
  else s

-- Clocks (spec/23 R593 to R597)

/-- A riser port has no symbol clock (spec/23 R593): a link that is up or authenticating goes down, training ends. -/
def State.rsDark (s : State) (west : Bool) : State :=
  let st := (s.rsPort west).st
  if st = 1 ∨ st = 2 then s.rsFall west false else s.rsDown west .marker 0

/-- The ROOT PLL loses lock: CCLK and ACLK stay gated, the riser goes dark. -/
def State.rootLost (s : State) : State :=
  if s.coreUp then
    let s1 := { s with clk := { s.clk with rootLocked := false, gated := true },
                       hst := { s.hst with beating := [], supSeen := false } }
    let s2 := (s1.bump Pg.clk Rg.CLK_UNLOCKS).raiseSrc Pg.clk 0
    (s2.rsDark false).rsDark true
  else s

/-- ROOT locks again. -/
def State.rootBack (s : State) : State := { s with clk := { s.clk with rootLocked := true } }

/-- XIN is measured against the RTC crystal, in 0.1 ppm (spec/23 R595, R597). -/
def State.xinMeasure (s : State) (v : Int) : State :=
  if s.coreUp then
    let old := signed 16 (s.reg Pg.clk Rg.CLK_XIN_PPM).toNat
    let n := clampI (-32768) 32767 v
    let s1 := ({ s with clk := { s.clk with rtcRef := true } }).setReg Pg.clk Rg.CLK_XIN_PPM (wd (unsigned 16 n))
    if old.natAbs ≤ 1000 ∧ 1000 < n.natAbs then s1.raiseSrc Pg.clk 1 else s1
  else s

/-- CLK_STAT (spec/23 R596): a module that can be read has edges on XIN; REFCLK edges are there while the link is up (log
entry 32). -/
def State.clkStat (s : State) : Word :=
  wd (s.clk.rootLocked.toNat + 2 + 4 * s.clk.rtcRef.toNat + 8 * s.clk.gated.toNat + 16 * s.clk.usbPll.toNat
    + 32 * s.pci.linkUp.toNat)

-- Start-up (spec/02 R47, spec/21 R539)

/-- Internal reset ends: RECOV_N is sampled. -/
def State.resetEnd (s : State) (low : Bool) : State :=
  if s.sys.stage = .regulators ∧ s.clk.resetLow = false ∧ s.pwr.seq = .off then
    { s with sys := { s.sys with stage := .resetEnded, recovStrap := low } }
  else s

/-- SYS_RESTART_POLICY is written, and stored in the restart record (spec/02 R42). -/
def State.policyWrite (s : State) (w : Word) : State :=
  let kind := if bf w 4 2 = 2 then 2 else 0
  let s1 := s.setReg Pg.sys Rg.SYS_RESTART_POLICY (wd (bf w 0 1 + 16 * kind))
  { s1 with nv := { s1.nv with restart := { s1.nv.restart with target := bit w 0, cold := kind == 2 } } }

/-- The restart record is read (spec/02 R42, R46, spec/22 R578, R580); until this run ends in order, it shows that it has
not. `spoilt`: it has become unreadable, and is written anew. -/
def State.readRecord (s : State) (spoilt : Bool) : State :=
  let r : RestartRec := { s.nv.restart with ok := s.nv.restart.ok && !spoilt }
  let s1 :=
    if r.ok then s.setReg Pg.sys Rg.SYS_RESTART_POLICY (wd (r.target.toNat + 32 * r.cold.toNat))
    else { s with nv := { s.nv with restart := { r with ok := true, target := false, cold := false } } }.raiseSrc Pg.sys 3
  let s2 := s1.setReg Pg.pwr Rg.PWR_LAST_STOP (wd (r.lastStop % 4))
  let s3 := { s2 with nv := { s2.nv with restart := { s2.nv.restart with lastStop := 2 } } }
  if r.lastStop = 2 then s3.raiseSrc Pg.pwr 0 else s3

/-- The channels' self-test of start-up (spec/02 R47, R46); `spoilt` as in `readRecord`. -/
def State.selftested (s : State) (failing : List Nat) (spoilt : Bool) : State :=
  if s.sys.stage = .resetEnded ∧ s.coreUp = true ∧ s.pwr.seq = .off then
    let s1 := s.readRecord spoilt
    let f := (List.range 4).filter (fun c => failing.contains c)
    let s2 := { s1 with lse := { s1.lse with fenced := f }, sys := { s1.sys with stage := .tested } }
    if f.isEmpty then s2 else s2.raiseSrc Pg.sys 2
  else s

/-- RECOVERY is entered (spec/02 R34, R41): the riser pages run for forwarding (spec/14 R387), and the loader begins. -/
def State.enterRecovery (s : State) (reason : Nat) : State :=
  let s0 := s.lcsResume
  let s1 := { s0 with sys := { s0.sys with stage := .loader, recovReason := reason } }
  let s2 := ((s1.setCur (rsPage false) 2).setCur (rsPage true) 2).setMode .recovery
  ((({ s2 with sys := { s2.sys with boot := false } }.rsAddress false).rsAddress true).rsStarting false).rsStarting true

/-- The slot record is rebuilt if it does not authenticate (spec/21 R539, R555). -/
def State.rebuildRecord (s : State) : State :=
  if s.upd.record.ok then s
  else
    let a := if s.slotVersion 0 < s.slotVersion 1 then 1 else 0
    { s with upd := { s.upd with record := { ok := true, active := a } } }.raiseSrc Pg.upd 3

/-- An UPD_CONFIRM that PFW interrupted after its step 1: the ROM makes the slot armed for trial the active one (spec/21
R556). -/
def State.confirmAtStart (s : State) : State :=
  match s.upd.burnt, s.upd.record.armed with
  | true, some n => s.confirmed n
  | _, _ => s

/-- The slot `n` is chosen. -/
def State.chooseSlot (s : State) (n : Nat) (trial : Bool) (count : Nat) : State :=
  { s with sys := { s.sys with stage := .slotChosen, slot := n, trial := trial, trialCount := count } }

/-- Slot selection (spec/21 R539, R545). -/
def State.selectSlot (s : State) : State :=
  if s.sys.stage = .tested ∧ s.coreUp = true ∧ s.isFatal = false ∧ s.pwr.seq = .off then
    if s.sys.recovStrap then s.enterRecovery 1
    else
      let s0 := s.confirmAtStart.rebuildRecord
      if !s0.slotValid 0 && !s0.slotValid 1 then s0.enterRecovery 2
      else
        let r := s0.upd.record
        let back (a : State) : State :=
          { a with upd := { a.upd with record := { r with armed := none, count := 0, time := 0 } } }.raiseSrc Pg.sys 1
        match r.armed with
        | some n =>
          if s.sys.bootCause = 4 then (back s0).chooseSlot r.active false 0
          else if r.count < 3 then
            ({ s0 with upd := { s0.upd with record := { r with count := r.count + 1 } } }).chooseSlot n true (r.count + 1)
          else (back s0).chooseSlot r.active false 0
        | none => s0.chooseSlot r.active false 0
  else s

/-- The image in the chosen slot is verified and loaded (spec/21 R539, spec/02 R47): CONFIG is replayed and the hats are
loaded. A slot that fails gives way to the other; a trial stays armed, for R545 names the only ends of one (log entry 161). -/
def State.imageIn (s : State) (bad : Bool) : State :=
  if s.sys.stage = .slotChosen ∧ s.coreUp = true ∧ s.isFatal = false ∧ s.pwr.seq = .off then
    let n := s.sys.slot
    let fails := bad || !s.slotValid n
    if fails && !s.slotValid (1 - n) then s.enterRecovery 2
    else
      let s1 := if fails then
          { s with sys := { s.sys with slot := 1 - n, trial := false, trialCount := 0, bootCause := 4 } }.raiseSrc Pg.sys 1
        else s
      let h := (s1.upd.slot s1.sys.slot).hdr
      let s2 := s1.journalReplay.replay
      let s3 := { s2 with ces := { s2.ces with romId := wd (sectionVersion h 3) },
                          ktl := { s2.ktl with romId := wd (sectionVersion h 2) },
                          sys := { s2.sys with stage := .imageLoaded, runGen := s2.nv.cfg.ltGen } }
      s3.hatsLoaded
  else s

-- The tick image (spec/01 R19, spec/07 R179)

/-- The inputs' results as the tick image holds them (spec/07 R179): STALE while their page is not RUNNING, NONE for an input that
is off. -/
def State.tickInputs (s : State) : Sparse InRes :=
  (List.range 24).foldl (fun (m : Sparse InRes) n =>
    let x := Sparse.get (dflt {}) s.inputResults n
    let on := if n < 16 then s.ainRange n != 0 else s.pinMode (n - 16) != 0
    let live := if n < 16 then s.running Pg.ain else s.running Pg.pin
    Sparse.set (dflt {}) m n { x with qual := if !on then 0 else if live then x.qual else 2 }) []

/-- UPD_ACTIVATE up to its completion (spec/21 R541). -/
def updActivateBody (c : Ctx) (s : State) : State :=
  let n := 1 - s.sys.slot
  if c.tenant then s.foreign c
  else if !s.running Pg.upd || !s.updMode || s.onTrial then s.fin c St.state
  else if s.upd.own.isSome || s.upd.via.isSome then s.fin c St.busy
  else if !s.upd.staged || !s.slotValid n then s.fin c St.state
  else
    let s1 := { s with upd := { s.upd with staged := false, record := { s.upd.record with armed := some n, count := 0, time := 0 } } }
    let s2 := s1.done c (wd (s1.slotVersion n))
    if c.b 0 0 then s2.moduleReset 3 else s2

/-- The 10 minutes of a trial are over (spec/21 R545); after FATAL only a power cycle leaves SAFE (spec/02 R33). -/
def State.trialOver (s : State) : State :=
  if s.sys.trial && decide (s.sys.mode ≠ .startup) && !s.isFatal then s.moduleReset 4 else s

/-- The loader has a complete image: the complete mark, then its reset (spec/21 R548). -/
def State.loaderReset (s : State) : State :=
  if s.sys.mode = .recovery ∧ s.isFatal = false ∧ s.coreUp = true then
    match s.loaderDone with
    | some n => (s.loaderMark n).powerCycle .regulators .startup 5
    | none => s
  else s

end Sys2Proof.Machine
end

