-- ==== Sys2Proof/Machine/Faults.lean ====
section
/-! DEFINITION. The fault sources with their severities and classes (spec/22 R557 to R563, R576) and the raw interrupt
conditions of every page (spec/03 R82). -/

namespace Sys2Proof.Machine

-- Sources (spec/22 R557, R561, R563, and the source tables of the chapters)

/-- Default severity and floor of the sources of page `p`, by bit. -/
def srcRows (p : Nat) : List (Nat × Nat) :=
  match pageKind p with
  | some .sys => [(0, 0), (1, 0), (1, 0), (1, 0)]
  | some .cmd => [(1, 0), (1, 0)]
  | some .glv => [(3, 3)]
  | some .ces => [(1, 0)]
  | some .cea => [(2, 2), (2, 2), (0, 0), (2, 0), (0, 0), (2, 0), (2, 2), (2, 0)]
  | some .ktl => [(3, 3), (2, 2), (0, 0), (2, 2), (2, 0), (1, 0), (0, 0)]
  | some .lse => [(1, 0), (0, 0), (1, 0), (1, 0), (1, 0), (0, 0), (1, 0), (0, 0), (1, 0)]
  | some .cdy => [(1, 0), (1, 0), (0, 0), (1, 0), (0, 0), (1, 0), (1, 0), (1, 0), (1, 0), (1, 0)]
  | some .ptb => [(4, 3), (0, 0), (1, 0), (1, 0)]
  | some .tpi => [(1, 0), (1, 0), (0, 0), (0, 0)]
  | some .rs => [(1, 0), (1, 0), (1, 0), (0, 0), (1, 0), (0, 0), (0, 0), (1, 0)]
  | some .tmb => if pageInst p = 1 then [] else [(1, 0), (0, 0), (0, 0), (0, 0)]
  | some .rtc => [(1, 0), (1, 0)]
  | some .fp => [(1, 0), (0, 0), (0, 0), (1, 0)]
  | some .can => [(1, 0), (0, 0), (0, 0), (1, 0), (1, 0), (0, 0)]
  | some .ain => [(0, 0), (1, 0)]
  | some .pin => [(1, 0), (0, 0), (0, 0)]
  | some .aout => [(1, 0), (1, 0)]
  | some .dio => [(1, 0), (1, 0)]
  | some .pci => [(1, 0), (0, 0)]
  | some .usb => [(0, 0), (1, 0)]
  | some .key => [(4, 3), (1, 0), (1, 0)]
  | some .lcs => [(1, 0)]
  | some .upd => [(0, 0), (1, 0), (1, 0), (1, 0), (1, 0)]
  | some .flt => [(1, 0)]
  | some .hst => [(4, 4), (3, 3), (1, 0)]
  | some .pwr => [(1, 0), (1, 0), (1, 0), (3, 1), (4, 3), (1, 0)]
  | some .clk => [(4, 4), (1, 0), (1, 0)]
  | some .gvw => []
  | none => []

/-- The source `src` exists: its default severity and floor. -/
def srcRow (src : Nat) : Option (Nat × Nat) := (srcRows (src / 32))[src % 32]?

/-- The default severity of a source. -/
def srcDefault (src : Nat) : Nat := match srcRow src with | some r => r.1 | none => 0

/-- The floor of a source. -/
def srcFloor (src : Nat) : Nat := match srcRow src with | some r => r.2 | none => 0

/-- The fixed class: 0 CORRECTED, 1 CONTAINED, 2 FATAL (spec/22 R563). -/
def srcClass (src : Nat) : Nat := if srcDefault src < 2 then 0 else if srcDefault src = 2 then 1 else 2

/-- The severity in service. -/
def State.sev (s : State) (src : Nat) : Nat := Sparse.get srcDefault s.flt.sev src

/-- A severity is written: not below the floor, 5 to 7 as 4 (spec/22 R561, R576). -/
def State.sevWrite (s : State) (src v : Nat) : State :=
  if (srcRow src).isSome then
    let w := if 5 ≤ v then 4 else max v (srcFloor src)
    { s with flt := { s.flt with sev := Sparse.set srcDefault s.flt.sev src w } }
  else s

/-- An uncorrectable error in the severity table: the word of the source returns to its default (spec/22 R580). -/
def State.sevSpoilt (s : State) (src : Nat) : State :=
  { s with flt := { s.flt with sev := Sparse.set srcDefault s.flt.sev src (srcDefault src) } }.raiseSrc Pg.flt 0

/-- What FLT_SEV reads for a source (spec/22 R576). -/
def State.sevWord (s : State) (src : Nat) : Word :=
  if (srcRow src).isSome then
    wd (s.sev src + 16 * srcFloor src + 256 * srcDefault src + 4096 * srcClass src + 65536)
  else 0

-- Raw conditions (spec/03 R82 and the page tables)

/-- A stored register whose reset value is zero. -/
def State.zreg (s : State) (p off : Nat) : Word := Sparse.get (dflt 0) s.win (rkey p off)

/-- Such a register is not zero. -/
def State.nz (s : State) (p off : Nat) : Bool := s.zreg p off != 0

/-- Bits as a register value, bit 0 first. -/
def rawWord (l : List Bool) : Word := wd (l.foldr (fun b n => b.toNat + 2 * n) 0)

/-- Some register of page `p` between two offsets is not zero (all of them with reset value zero). -/
def State.anyReg (s : State) (p lo hi : Nat) : Bool :=
  s.win.any (fun e => decide (rkey p lo ≤ e.1) && decide (e.1 < rkey p hi))

/-- GLV_VIOLn of some glove is not zero. -/
def State.anyViol (s : State) : Bool :=
  s.win.any (fun e => decide (rkey Pg.glv 0x100 ≤ e.1) && decide (e.1 < rkey Pg.glv 0x500) && e.1 % 16 == 8)

/-- PG_STICKY of some page is not zero. -/
def State.anySticky (s : State) : Bool :=
  s.win.any (fun e => decide (e.1 < 0x1000000) && e.1 % 0x1000 == Hd.sticky)

/-- The die is hotter than 115 °C. -/
def State.hot (s : State) : Bool := decide (1150 < signed 16 (s.zreg Pg.pwr Rg.PWR_TEMP).toNat)

/-- PG_IRQ_RAW of page `p`. Conditions of one FCLK cycle set PG_IRQ_PEND where they occur and read 0 here. -/
def State.irqRaw (s : State) (p : Nat) : Word :=
  let k := pageInst p
  match pageKind p with
  | some .glv => rawWord [s.anyViol]
  | some .cea =>
    rawWord [s.nz p Rg.CEA_LATE, s.lse.fenced.contains k,
      s.nz p Rg.CEA_OCC_WARN && decide ((s.zreg p Rg.CEA_OCC_WARN).toNat ≤ (s.zreg p Rg.CEA_OCC).toNat)]
  | some .ktl => rawWord [s.nz p Rg.KTL_LATE, s.lse.fenced.contains k, s.nz p Rg.KTL_COMMIT_SKIP]
  | some .lse => rawWord [s.countGroups true .lost != 0, s.lse.adopting, s.nz p Rg.LSE_MISMATCH]
  | some .cdy =>
    if s.metrology then
      let w := s.cdyStat
      rawWord [false, bit w 4, bit w 5, bit w 9, bit w 10, bf w 0 3 == 3, bf w 0 3 == 0]
    else 0
  | some .ptb => rawWord [s.nz p Rg.PTB_WDENY]
  | some .tpi => rawWord [s.staleNow != 0, !s.ptb.closedE || !s.ptb.closedW, s.nz p Rg.TPI_CLASH]
  | some .rs => let x := s.rsPort (k == 1); rawWord [x.st == 4, x.st == 5, s.rs.clash]
  | some .tmb => let w := s.tmbStat k; rawWord [bit w 0, bit w 1, false, s.nz p Rg.TMB_LATE_DROP]
  | some .fp => let x := s.fpOf k; rawWord [x.link, x.half, s.nz p Rg.FP_RX_OVF]
  | some .can =>
    let x := s.canOf k
    rawWord [s.nz p Rg.CAN_NEWDAT || s.nz p (Rg.CAN_NEWDAT + 4), !(s.canBound k false).isSome && x.fifo0.fill != 0,
      !(s.canBound k true).isSome && x.fifo1.fill != 0, x.busOff, !x.busOff && x.passive,
      s.nz p Rg.CAN_TXDONE || s.nz p (Rg.CAN_TXDONE + 4)]
  | some .ain => rawWord [s.nz p Rg.AIN_OVR, s.nz p Rg.AIN_SHUNT]
  | some .pin =>
    rawWord ((List.range 4).map (fun i => bit (s.zreg p (Rg.PIN_IDXSTAT + 32 * i)) 0) ++ List.replicate 4 false
      ++ (List.range 8).map (fun n => s.pinQual n == 2))
  | some .aout => rawWord [s.nz p Rg.AOUT_OVL]
  | some .dio => rawWord (s.nz p Rg.DIO_OVL :: List.replicate 3 false ++ (List.range 4).map (fun b => !s.bankGood b))
  | some .pci => rawWord [s.pci.linkUp]
  | some .usb => rawWord [bit (s.zreg p Rg.USB_WAKE) 0, bit (s.zreg p Rg.USB_WAKE) 1]
  | some .key => rawWord [s.key.tampered, !s.key.rngOk]
  | some .upd => rawWord [s.sys.trial]
  | some .clk =>
    rawWord [decide (1000 < (signed 16 (s.zreg p Rg.CLK_XIN_PPM).toNat).natAbs), !s.clk.usbPll && s.running Pg.usb]
  | some .flt => rawWord [s.anyReg p Rg.FLT_NOTE (Rg.FLT_NOTE + 24), s.anySticky]
  | some .hst =>
    let f := (s.zreg p Rg.HST_RC_KHZ).toNat
    rawWord [s.hst.acted, decide (f < 7200) || decide (8800 < f)]
  | some .pwr => rawWord [!s.pwr.vbatOk, s.hot]
  | some .sys | some .lcs | some .cmd | some .rtc | some .ces | some .gvw | none => 0

/-- The pages that have a raw condition. -/
def rawPages : List Nat :=
  [Pg.clk, Pg.pwr, Pg.key, Pg.upd, Pg.flt, Pg.hst, Pg.glv, 0x00B, 0x00C, 0x00D, 0x00E, 0x010, 0x011, Pg.tpi, Pg.ptb, Pg.lse,
   0x018, 0x019, 0x01A, 0x01B, 0x01C, 0x01D, 0x01E, 0x01F, 0x020, 0x021, 0x022, 0x023, 0x024, 0x025, 0x026, 0x027, Pg.usb,
   Pg.pci, 0x040, 0x041, 0x042, 0x043, 0x048, 0x049, 0x04A, 0x04B, Pg.ain, Pg.pin, Pg.aout, Pg.dio, Pg.cdy]

end Sys2Proof.Machine
end

