-- ==== Sys2Proof/Machine/Modes.lean ====
section
/-! DEFINITION. The run states of the pages (spec/03 R69 to R73), the changes of mode and their commands (spec/02), the
reactions to faults (spec/22 R559 to R565), the tick and TPI boundaries, and what ends every command: interrupts follow. -/

namespace Sys2Proof.Machine

-- Pages (spec/03 R69 to R72)

/-- The channel of a CEA or KTL page. -/
def chanOfPage (p : Nat) : Option Nat :=
  if 0x40 ≤ p ∧ p ≤ 0x43 then some (p - 0x40) else if 0x48 ≤ p ∧ p ≤ 0x4B then some (p - 0x48) else none

/-- What a block does when it enters STOPPING (spec/03 R70 and the chapters). -/
def State.stoppingHook (s : State) (p : Nat) : State :=
  let k := pageInst p
  match pageKind p with
  | some .tmb => s.tmbStopping k
  | some .fp => s.fpStopping k
  | some .can => s.canFlush k
  | some .rs => s.rsStopping (k == 1)
  | some .lse =>
    let held := s.defined.any (fun i => (s.group i).st == .held)
    let s1 := s.releaseAll true
    { s1 with lse := { s1.lse with stopWait := held && !s.isFatal } }
  | some .pci => s.pciDown
  | some .usb => s.usbAttach
  | some .upd => s.updStop
  | some .key => s.abortWhere (fun x => x.op / 256 == 9)
  | some .ces => (List.range 4).foldl State.abortLoops s
  | some .cea => s.abortLoops k
  | some .ktl => s.abortTasks k
  | _ => s

/-- What a block has done when it reaches RUNNING (spec/03 R69, R75): its RWS fields are taken in; `spoilt`: the words of its
table that meet an uncorrectable error. -/
def State.startedHook (s : State) (p : Nat) (spoilt : List Nat) : State :=
  let k := pageInst p
  match pageKind p with
  | some .ptb => s.ptbStarting spoilt
  | some .tpi => s.tpiStarting
  | some .lse => s.lseStarting spoilt
  | some .ain => s.ainStarting
  | some .pin => s.pinStarting
  | some .aout => s.aoutStarting
  | some .dio => s.dioStarting
  | some .tmb => s.tmbStarting k
  | some .rs => s.rsStarting (k == 1)
  | some .ktl => s.kettleRestart k
  | some .usb => s.usbAttach
  | _ => s

/-- What a block reads as soon as it enters STARTING (spec/14 R394). -/
def State.startingHook (s : State) (p : Nat) : State :=
  match pageKind p with
  | some .rs => s.rsAddress (pageInst p == 1)
  | _ => s

/-- CUR leaves STOPPED or RUNNING as REQ asks (spec/03 R69). -/
def State.kick (s : State) (p : Nat) : State :=
  if s.cur p = 0 ∧ s.req p = 1 then (s.setCur p 1).startingHook p
  else if s.cur p = 2 ∧ s.req p = 0 then (s.setCur p 3).stoppingHook p
  else s

/-- A STOP that spec/03 R72 turns away. -/
def State.stopBarred (s : State) (p : Nat) : Bool :=
  (s.sys.mode == .run || s.sys.mode == .degraded) &&
    (p == Pg.ces || (match chanOfPage p with | some c => !s.lse.fenced.contains c | none => false))

/-- REQ is written (spec/03 R61, R69, R72). A request for RUN ends a rate detection of a CAN channel (spec/17 R460). -/
def State.runReq (s : State) (p rq : Nat) : State :=
  if !runCtrl p || decide (2 ≤ rq) then s
  else if rq == 0 && s.stopBarred p then s.bump p Hd.drop
  else
    let s1 := s.setReq p rq
    let s2 := if rq = 1 ∧ pageKind p = some .can then s1.canAbortDetect (pageInst p) else s1
    s2.kick p

/-- A transition has ended: CUR goes on as REQ asks, but after FATAL it keeps the value it has reached (spec/03 R73). -/
def State.goOn (s : State) (p : Nat) : State := if s.isFatal then s else s.kick p

/-- TPI waits while the replay of start-up has PTB still to set RUNNING: PTB comes first (spec/13 R373). -/
def State.afterPtb (s : State) (p : Nat) : Bool := p == Pg.tpi && s.sys.boot && s.cur Pg.ptb == 1

/-- A STARTING page has begun its function; `spoilt` as in `startedHook`. -/
def State.pageStart (s : State) (p : Nat) (spoilt : List Nat) : State :=
  if s.coreUp && runCtrl p && s.cur p == 1 && !s.afterPtb p then ((s.setCur p 2).startedHook p spoilt).goOn p else s

/-- No invocation of the channel is in flight. -/
def State.chanQuiet (s : State) (c : Nat) : Bool :=
  (List.range 16).all (fun k => (s.cupRuns c k).isNone && (s.deque c k).isEmpty)

/-- The work in hand of a STOPPING page has ended (spec/03 R70); a halted channel has none (R73). -/
def State.workEnded (s : State) (p : Nat) : Bool :=
  let k := pageInst p
  match pageKind p with
  | some .lse => !s.lse.stopWait
  | some .fp => (s.fpOf k).flight.isNone
  | some .can => (s.canOf k).offered.isNone
  | some .cea => s.isFatal || s.chanQuiet k
  | some .ces => s.isFatal || (List.range 4).all s.chanQuiet
  | _ => true

/-- A STOPPING page has ended its work. -/
def State.pageStop (s : State) (p : Nat) : State :=
  if s.coreUp && runCtrl p && s.cur p == 3 && s.workEnded p then
    let s1 := s.setCur p 0
    (if p = Pg.ain then s1.ainStopped else if p = Pg.pin then s1.pinPoints (some 2)
      else if p = Pg.dio then s1.dioPoints 2 else s1).goOn p
  else s

-- Changes of mode (spec/02 R29 to R38)

/-- Every channel, cup and Kettle stops at once (spec/22 R565). -/
def State.haltUnits (s : State) : State :=
  let halt (r : TaskRole) : TaskRole := { r with released := none, done := false, asks := [], deg := [] }
  { s with ces := { s.ces with deques := [], running := [], testing := [] },
           ktl := { s.ktl with testing := [], tasks := s.ktl.tasks.foldl (fun (m : Sparse TaskSt) (e : Nat × TaskSt) =>
             Sparse.set (dflt {}) m e.1 { e.2 with owner := halt e.2.owner, shadow := halt e.2.shadow }) [] } }

/-- Entry to RUN or DEGRADED (spec/02 R30, R34). -/
def State.enterRun (s : State) : State :=
  let s1 := s.setMode (if s.lse.fenced.isEmpty then .run else .degraded)
  ({ s1 with lse := { s1.lse with silentSafe := false } }).claimAtEntry

/-- Entry to SAFE with leases released to hat (spec/02 R32, R34, R36): `cause` is SYS_SAFE_CAUSE; a reaction also ends the
mode command in hand. -/
def State.enterSafe (s : State) (cause : Nat) : State :=
  if s.sys.mode = .commission ∨ s.sys.mode = .run ∨ s.sys.mode = .degraded then
    let s2 := (s.stopAll.releaseAll true).abortWhere (fun x => !outlivesMode x.op || (cause != 4 && modeOp x.op))
    let s3 := s2.setMode .safe
    { s3 with sys := { s3.sys with safeN := true, safeWait := .none, restartTest := false, safeCause := cause } }
  else s

/-- SAFE or COMMISSION is entered: commands in hand end ABORTED, but for those that go on (spec/04 R112). -/
def State.enterQuiet (s : State) (m : Mode) : State :=
  if s.sys.mode = m then s else (s.abortWhere (fun x => !outlivesMode x.op)).setMode m

/-- Entry to COMMISSION from RUN or DEGRADED (spec/02 R34). -/
def State.enterCommission (s : State) : State :=
  let s1 := (s.releaseAll true).enterQuiet .commission
  { s1 with sys := { s1.sys with safeN := true, safeWait := .none } }

/-- The FATAL reaction (spec/22 R565, R572, R581). -/
def State.fatal (s : State) : State :=
  if s.sys.fatal then s
  else
    let s1 := ({ s with hst := { s.hst with path := true, armed := false, last := none },
                        sys := { s.sys with safeN := true, safeWait := .none } }).haltUnits
    if s.pfw then s1
    else
      let s3 := s1.stopAll.haltLease.abortWhere (fun _ => true)
      let s4 := if s3.sys.mode = .recovery then s3.updStop else s3.setMode .safe
      { s4 with
        sys := { s4.sys with fatal := true, boot := false, restartTest := false, safeCause := if s4.hst.acted then 3 else 2 },
        lse := { s4.lse with stopWait := false } }

-- Reactions (spec/22 R559 to R564)

/-- Programmed severities do not apply to the source now (spec/22 R563). -/
def State.fixedNow (s : State) (src : Nat) : Bool :=
  s.sys.boot || s.sys.mode == .recovery ||
    (match chanOfPage (src / 32) with
     | some c => s.sys.restartTest || s.lse.selftests.any (fun e => e.1 == c)
     | none => false)

/-- What the collector does about an occurrence. -/
inductive React
  | none | note | degrade | contain | safe | fatal
  deriving DecidableEq, Repr

/-- The reaction to an occurrence of a source (spec/22 R559, R563, R572). -/
def State.reactOf (s : State) (src : Nat) : React :=
  if s.fixedNow src then
    if src = 2 ∧ s.sys.boot = true then (if s.unfenced.isEmpty then .fatal else .none)
    else match srcClass src with | 0 => .none | 1 => .contain | _ => .fatal
  else match s.sev src with
    | 0 => .none
    | 1 => .note
    | 2 => if s.pfw then .none else .degrade
    | 3 => if s.pfw then .none else .safe
    | _ => .fatal

/-- FLT_NOTE of the source's page is set. -/
def State.noteSrc (s : State) (src : Nat) : State :=
  let p := src / 32
  let off := Rg.FLT_NOTE + 4 * (p / 32)
  s.setReg Pg.flt off (s.reg Pg.flt off ||| oneBit (p % 32))

/-- The unit concerned goes out of service (spec/22 R560): a channel is fenced, a page stopped. After FATAL no page takes a
STOP (spec/02 R33). -/
def State.takeOut (s : State) (src : Nat) : State :=
  let p := src / 32
  match chanOfPage p with
  | some c => s.fence c
  | none => if p = Pg.ces ∨ runCtrl p = false ∨ s.isFatal = true then s else s.runReq p 0

/-- The reaction of one occurrence, the changes of mode apart. -/
def State.reactUnit (s : State) (src : Nat) (r : React) : State :=
  match r with
  | .none => s
  | .note | .safe => s.noteSrc src
  | .degrade => (s.noteSrc src).takeOut src
  | .contain => if s.pfw then s else s.takeOut src
  | .fatal => if s.fixedNow src then s else s.noteSrc src

/-- An occurrence during a self-test of its channel (spec/09 R222, spec/02 R52). -/
def State.testHit (s : State) (src : Nat) : State :=
  match chanOfPage (src / 32) with
  | some c =>
    if s.lse.selftests.any (fun e => e.1 == c) || (s.sys.restartTest && srcClass src != 0) then
      { s with lse := { s.lse with selftestHit := addN s.lse.selftestHit src } }
    else s
  | none => s

/-- The occurrences of one cycle: every reaction is carried out, and the modes follow the most severe (spec/22 R564). -/
def State.reactOnce (s : State) : State :=
  let rs := s.flt.occ.map (fun src => (src, s.reactOf src))
  let s1 := { s with flt := { s.flt with occ := [] } }
  let s2 := rs.foldl (fun (a : State) (e : Nat × React) => (a.testHit e.1).reactUnit e.1 e.2) s1
  let s3 := if rs.any (fun e => e.2 == .safe) then s2.enterSafe 1 else s2
  if rs.any (fun e => e.2 == .fatal) then s3.fatal else s3

/-- The collector reacts until nothing is left to react to. -/
def State.reactAll : Nat → State → State
  | 0, s => s
  | n + 1, s => if s.flt.occ.isEmpty then s else State.reactAll n s.reactOnce

/-- The collector, while FCLK runs (spec/22 R559). -/
def State.react (s : State) : State := if s.coreUp then State.reactAll 8 s else s

-- Mode commands (spec/02 R37, R38, R52)

/-- The code of a mode as SYS_MODE shows it. -/
def Mode.code : Mode → Nat
  | .startup => 0 | .recovery => 1 | .commission => 2 | .run => 3 | .degraded => 4 | .safe => 5 | .backup => 0

/-- Another mode command is in hand. -/
def State.modeBusy (s : State) (c : Ctx) : Bool := s.otherCmd c (fun x => modeOp x.op)

/-- SYS_RESTART up to its self-test (spec/02 R52 step 1). -/
def sysRestartBody (c : Ctx) (s : State) : State :=
  let kind := c.f 0 0 2
  if kind = 3 then s.fin c St.arg
  else if c.tenant then s.foreign c
  else if s.isFatal || !(s.sys.mode == .safe || s.sys.mode == .commission) then s.fin c St.state
  else if s.modeBusy c then s.fin c St.busy
  else
    let s1 := s.evalRetain
    let v := bit s1.sys.retain 4
    if kind = 1 ∧ v = false then s1.fin c 0x0201
    else
      let s2 := if kind = 0 ∧ v = false then s1.raiseSrc Pg.sys 0 else s1
      { s2 with sys := { s2.sys with restartTest := true } }

/-- SYS_ENTER_RUN. -/
def sysEnterRunBody (c : Ctx) (s : State) : State :=
  if c.tenant then s.foreign c
  else if s.isFatal || s.sys.mode != .commission then s.fin c St.state
  else if s.modeBusy c then s.fin c St.busy
  else
    let s1 := s.enterRun
    s1.fin c (if s1.sys.mode = .degraded then St.note else 0) 0 0 (wd s1.sys.mode.code)

/-- SYS_ENTER_COMMISSION. -/
def sysEnterCommissionBody (c : Ctx) (s : State) : State :=
  if c.tenant then s.foreign c
  else if s.isFatal || !(s.sys.mode == .run || s.sys.mode == .degraded) then s.fin c St.state
  else if s.modeBusy c then s.fin c St.busy
  else s.enterCommission.done c 0 0 (wd Mode.commission.code)

/-- SYS_ENTER_SAFE. -/
def sysEnterSafeBody (c : Ctx) (s : State) : State :=
  if c.tenant then s.foreign c
  else if !s.live then s.fin c St.state
  else if s.modeBusy c then s.fin c St.busy
  else (s.enterSafe 4).done c

/-- The target mode is entered (spec/02 R50). -/
def State.enterTarget (s : State) (toRun : Bool) : State :=
  if s.unfenced.isEmpty then s.enterQuiet .safe
  else if toRun then s.enterRun
  else
    let s1 := s.enterQuiet .commission
    { s1 with lse := { s1.lse with silentSafe := false } }

/-- The slot of the SYS_RESTART in hand. -/
def State.restartSlot (s : State) : Option Nat :=
  (s.cmd.slots.find? (fun e => decide (e.1 < 4096) && decide (e.2.phase = .inHand) && e.2.op == 0x101)).map (·.1)

/-- SYS_RESTART from its self-test on (spec/02 R52 steps 2 to 5). -/
def State.restartDone (s : State) (failing : List Nat) : State :=
  match s.restartSlot with
  | none => s
  | some n =>
    if s.coreUp && s.sys.restartTest then
      let tested (src : Nat) : Option Nat := (chanOfPage (src / 32)).filter (fun c => !s.lse.selftests.any (fun e => e.1 == c))
      let hit := s.lse.selftestHit.filterMap tested
      let bad := (List.range 4).filter (fun c => failing.contains c || hit.contains c)
      let s1 := bad.foldl (fun (a : State) c => a.fence c) { s with
        sys := { s.sys with restartTest := false },
        lse := { s.lse with selftestHit := s.lse.selftestHit.filter (fun x => (tested x).isNone) } }
      let s2 := { s1 with lse := { s1.lse with fenced := bad, testPass := [] } }
      let s3 := if bad.isEmpty then s2 else s2.raiseSrc Pg.sys 2
      if bad.length = 4 then s3.complete n 0x0202
      else
        let a0 := ((s3.slotOf n).args).headD 0
        let v := bit s3.sys.retain 4
        let warm := bf a0 0 2 != 2 && v
        let s4 := (s3.restart warm).enterTarget (bit a0 8)
        let status := if (bf a0 0 2 == 0 && !warm) || s4.sys.mode == .degraded then St.note else 0
        s4.complete n status (if warm then 1 else 2) (wd (15 - s4.fencedBits)) (wd s4.sys.mode.code)
    else s

/-- The reclaims that a loss of power interrupted are completed: DRAM is zero (spec/05 R128). -/
def State.resumeReclaim (s : State) : State :=
  let s1 := s.nv.reclaims.foldl (fun (a : State) n => (a.setGlove n {}).assign n) s
  { s1 with nv := { s1.nv with reclaims := [] } }

/-- The sealed state of the vault fails its tag or its ECC at start: it is empty (spec/20 R534). -/
def State.sealedLost (s : State) : State := s.destroyKeys.raiseSrc Pg.key 2

/-- The end of start-up (spec/02 R47, R50, R51, spec/22 R566): the mode is entered, and the Hatstand is armed. `spoilt`: the
vault's sealed state cannot be read. -/
def State.startupEnd (s : State) (spoilt : Bool) : State :=
  if s.sys.stage = .imageLoaded ∧ s.coreUp = true ∧ s.isFatal = false ∧ s.pwr.seq = .off then
    let s0 := (if spoilt then s.sealedLost else s).lcsResume
    let s1 := s0.resumeReclaim.evalRetain
    let w := s1.reg Pg.sys Rg.SYS_RESTART_POLICY
    let warm := bf w 4 2 != 2 && bit s1.sys.retain 4
    let s2 := if bf w 4 2 = 0 ∧ warm = false then s1.raiseSrc Pg.sys 0 else s1
    let s3 := (s2.restart warm).enterTarget (bit w 0)
    { s3 with sys := { s3.sys with boot := false, stage := .entered }, hst := { s3.hst with armed := true } }
  else s

/-- CONFIG has asked for RUN of its pages: they enter STARTING (spec/03 R73), PTB first (spec/13 R373). -/
def State.kickAll (s : State) : State :=
  if s.sys.stage = .imageLoaded then s.nv.cfg.run.foldl (fun (a : State) p => a.kick p) (s.kick Pg.ptb) else s

/-- VIN has held for 100 ms after PFW in start-up (spec/02 R49). -/
def State.startupAgain (s : State) : State :=
  if s.pwr.seq = .startupHalt then s.powerCycle .regulators .startup 1 else s

-- Boundaries (spec/06 R138, spec/13 R354)

/-- The tick image of boundary `k` (spec/01 R19, spec/08 R205): points, inputs, and what LOOPCTL calls are answered. -/
def State.takeImage (s : State) (k : Nat) : State :=
  { s with ptb := { s.ptb with image := ⟨s.ptb.points, s.tickInputs⟩ } }.lcImage k

/-- What boundary `k` ends and begins (spec/06 R138 to R145, spec/08 R194, spec/09 R223): image, inputs, checks and
publications, then readmission and the releases; from PFW on nothing is released (spec/22 R572). -/
def State.boundary (s : State) (k : Nat) : State :=
  let s1 := s.takeImage k
  let lcs := s1.lcResults
  let (s2, loops) := s1.fieldTick.loopsCheck k
  let (s3, tasks) := s2.tasksCheck k
  if s.pfw then s3
  else
    let (s4, goLoops, goTasks) := s3.readmit k (loops, tasks)
    if s.live then
      let s5 := ((s4.loopsRelease k goLoops).tasksRelease k lcs goTasks).lcAdvance
      if s5.sys.safeWait = .tick then s5.safeOff else s5
    else s4.lcAdvance

/-- An error strikes a memory of the core die; nothing shows before it is read (spec/04 R111, spec/17 R463). -/
def State.struck (s : State) (k : Strike) : State :=
  match k with
  | .slot n => s.setSlot n { s.slotOf n with spoilt := true }
  | .queue q => s.setQueue q { s.queue q with spoilt := true }
  | .canRam c w => s.setCan c { s.canOf c with spoilt := addN (s.canOf c).spoilt w }

/-- What a command left unfinished goes on, while the module does not power down (spec/20 R527, spec/21 R546, log entry
160). -/
def State.unfinished (s : State) : State := if s.pwr.seq = .off then s.lcsResume.confirmResume else s

/-- A tick boundary (spec/06 R138, R149, spec/22 R572): the windows of occupancy end before what begins at the boundary.
`strikes`: the errors that struck since the last one. -/
def State.tickBoundary (s : State) (strikes : List Strike) : State :=
  if s.coreUp then
    let k := s.ces.tick + 1
    let s0 := strikes.foldl State.struck s.unfinished
    let s1 := { s0 with ces := { s0.ces with tick := k } }
    if s.pwr.kPassed then s1.fieldTick
    else
      let s2 := ((s1.occupancy k).kettleOccupancy k).boundary k
      { s2 with pwr := { s2.pwr with kPassed := s.pfw && s.sys.mode != .recovery } }
  else s

/-- What the point table's ECC finds (spec/13 R372). -/
def State.pointCheck (s : State) (e : Ecc) : State :=
  match e with
  | .none => s
  | .corrected => (s.bump Pg.ptb Rg.PTB_CE).raiseSrc Pg.ptb 1
  | .lost => s.raiseSrc Pg.ptb 0

/-- A TPI cycle boundary (spec/13 R354 to R356, R363, R366, spec/09 R229). From PFW on nothing is published. `spoilt`: the
loops whose bits in the adoption bitmap cannot be read, if the partner is adopted here (spec/09 R251). -/
def State.tpiBoundary (s : State) (spoilt : List Nat) : State :=
  if s.coreUp then
    let s1 := { s with ptb := { s.ptb with cycle := s.cycleNo, boundAt := some s.now1 } }
    let s2 := s1.closeRing.agePoints.leaseBoundary spoilt
    (if s.pfw then s2 else s2.publish).postCov
  else s

-- Interrupts (spec/03 R82 to R85)

/-- PG_IRQ_PEND takes the 0-to-1 changes of PG_IRQ_RAW since `s`. -/
def State.latchRaw (s s' : State) : State :=
  rawPages.foldl (fun a p =>
    let e := s'.irqRaw p &&& ~~~ (s.irqRaw p)
    if e = 0 then a else a.setReg p Hd.irqPend (a.zreg p Hd.irqPend ||| e)) s'

/-- A page event that was not asserted in `s` goes to the PCI Express function and to the USB session of its owner; the messages
due for one that is no longer asserted, or whose page passed to another owner, which clears its enables (spec/03 R63), are
dropped. -/
def State.assertPages (s s' : State) : State :=
  let kept := { s' with pci := { s'.pci with fnEdge := s'.pci.fnEdge.filter (fun x => s'.pageEvent x.2) } }
  kept.enabledPages.foldl (fun a p =>
    if a.pageEvent p && !s.pageEvent p then
      let g := a.owner p
      let x := ((a.fnFor g).getD 8, p)
      let pci := { a.pci with fnEdge := if a.pci.fnEdge.contains x then a.pci.fnEdge else a.pci.fnEdge ++ [x] }
      let usb := if a.usb.session = some g ∧ a.usb.latch.contains (g, p) = false then { a.usb with latch := a.usb.latch ++ [(g, p)] }
        else a.usb
      ({ a with pci := pci, usb := usb }).usbFlush
    else a) kept

/-- What follows every command: completions that waited are posted, receive queues filled, faults reacted to, interrupts
latched and asserted. -/
def State.settled (s s' : State) : State :=
  if s'.powered then
    let a := s'.flushOwed.canDrain.react
    if s.powered then s.assertPages (s.latchRaw a) else a
  else s'

-- Commands of the outside that need the module's clocks

/-- What happens only while the clocks of the core die run (spec/23 R593). -/
def State.whenUp (s : State) (f : State → State) : State := if s.coreUp then f s else s

/-- What happens only while the riser lives. -/
def State.whenRs (s : State) (f : State → State) : State := if s.rsAlive then f s else s

/-- What happens only while the PIN block works: RUNNING, or ending its work in STOPPING (spec/03 R70). -/
def State.whenPin (s : State) (f : State → State) : State :=
  if s.coreUp && (s.running Pg.pin || s.cur Pg.pin == 3) then f s else s

/-- What the loader does in RECOVERY (spec/21 R548 to R551). -/
def State.whenLoader (s : State) (f : State → State) : State :=
  if s.coreUp && decide (s.sys.mode = .recovery) && !s.isFatal && !s.pfw then f s else s

/-- A write of SYS_RESET that passed the page's rules (spec/02 R44). -/
def State.resetWrite (s : State) (g : Nat) (w : Word) : State :=
  if g = 0 ∧ bf w 16 16 = 0x5EB0 ∧ bf w 0 4 = 1 then s.moduleReset 3 else s

/-- A write of FLT_CTRL: with its key, every severity returns to its default (spec/22 R576). -/
def State.sevDefaults (s : State) (w : Word) : State :=
  if bf w 16 16 = 0x5EB0 ∧ bit w 0 then { s with flt := { s.flt with sev := [] } } else s

/-- A doorbell access of a requester (spec/04 R103, R105); after FATAL the window takes none (spec/02 R33). -/
def State.onBell (s : State) (r : Requester) (f : Nat → State → State) : State :=
  if s.coreUp then
    match s.gloveOf r with
    | none => s
    | some g => if s.isFatal then (if s.active g then s else s.violation g) else f g s
  else s

/-- A read of CES_TICK_LO latches the high word (spec/06). -/
def State.tickLatch (s : State) : State := s.setReg Pg.ces Rg.CES_TICK_HI (wd (s.ces.tick / 2 ^ 32))

/-- A read of TPI_CYCLE_LO latches the high word (spec/13). -/
def State.cycleLatch (s : State) : State := s.setReg Pg.tpi Rg.TPI_CYCLE_HI (wd (s.ptb.cycle / 2 ^ 32))

/-- The integrator commit of each second: in a module that has started, on power, with its control clocks (spec/01 R13). -/
def State.integratorTick (s : State) (ok : Bool) : State :=
  if s.coreUp && !s.pfw && !s.clk.gated && decide (s.sys.mode ≠ .startup) && decide (s.sys.mode ≠ .recovery) then
    s.commitIntegrators ok
  else s

/-- No crystal edge for 1 ms, while VIN is present (spec/15 R425). -/
def State.xtalGone (s : State) : State :=
  if s.coreUp && !s.rtc.xtalStop then ({ s with rtc := { s.rtc with xtalStop := true } }).raiseSrc Pg.rtc 1 else s

/-- A frame arrives at a floor port: FP0 in RECOVERY is the loader's (spec/16 R430, spec/21 R550). -/
def State.fpFrame (s : State) (p : Nat) (frame : List Byte) (room : Bool) (ago : Nat) (ecc : Bool) (inputs : List NodeInput) :
    State :=
  if s.sys.mode = .recovery then
    if p = 0 ∧ fcsGood frame = true ∧ room ∧ ecc = false then s.whenLoader (fun a => a.loaderRx (Eth.read (fcsBody frame))) else s
  else s.fpReceive p frame room ago ecc inputs

/-- The relayed session's units come in by this riser port, and so does its FINISH (spec/21 R543, R544). -/
def State.finishFrom (s : State) (west : Bool) : Bool := (s.upd.via.map (·.src)) == some (.riser west)

/-- A command's outcome. -/
def finish (s s' : State) : Host.Outcome State Fault Refusal := .next (s.settled s')

end Sys2Proof.Machine
end

