-- ==== Sys2Proof/Machine/CaddyCmds.lean ====
section
/-! DEFINITION. The meanings of the commands of the Caddy (spec/10 to spec/12). -/

namespace Sys2Proof.Machine

/-- CADDY_START (R277): VMET rising through 1.60 V starts the Caddy, which verifies its image and enters METERING. -/
def execCaddyStart (fault : Nat) (isOpen : Bool) (s : State) : Host.Outcome State Fault Refusal :=
  finish s (s.caddyUp fault isOpen)

/-- VMET_TRIP (R309): VMET falling through 1.58 V closes a short window, commits an orderly stop and stops the Caddy. -/
def execVmetTrip (holdUp torn : Bool) (s : State) : Host.Outcome State Fault Refusal := finish s (s.caddyDown holdUp torn)

/-- SEAL_CHANGE (R257): A new SEAL_N state held for 20 samples is counted and logged. -/
def execSealChange (isOpen : Bool) (s : State) : Host.Outcome State Fault Refusal :=
  finish s (s.onCaddy (fun c => c.sealChange isOpen))

/-- CLK_FALLBACK (R259): The Caddy leaves ROOT/700 for its fallback oscillator. -/
def execClkFallback (s : State) : Host.Outcome State Fault Refusal := finish s (s.onCaddy (fun c => c.clkFallback))

/-- CLK_ROOT (R259): After 1,000 good windows the Caddy returns to ROOT/700. -/
def execClkRoot (s : State) : Host.Outcome State Fault Refusal :=
  finish s (s.whenUp (fun a => a.onCaddy (fun c => c.clkRoot)))

/-- FALLBACK_MEASURE (R260): Every 10 s the Caddy measures its fallback oscillator against ROOT/700. -/
def execFallbackMeasure (ppb : Int) (s : State) : Host.Outcome State Fault Refusal :=
  finish s (s.onCaddy (fun c => c.measured ppb))

/-- TMB3_COPY (R261): Every 1 ms the core die sends a TMB3 copy that the Caddy takes or logs as a step. -/
def execTmb3Copy (s : State) : Host.Outcome State Fault Refusal :=
  finish s (s.whenUp (fun a => a.onCaddy (fun c => c.timeCopy ⟨a.tmb3.sec, a.tmb3.ns, a.tmb3.frac⟩)))

/-- TIME_HOLDOVER (R261): No TMB3 copy for 10 ms puts the Caddy's legal time into holdover. -/
def execTimeHoldover (s : State) : Host.Outcome State Fault Refusal := finish s (s.onCaddy (fun c => c.timeHoldover))

/-- DATA_LOSS (R268): 640 constant bits put an input into data loss, voiding its samples. -/
def execDataLoss (input bitNo : Nat) (s : State) : Host.Outcome State Fault Refusal :=
  finish s (s.onCaddy (fun c => c.setLoss input bitNo))

/-- OVR (R267): A run of 16 identical bits or a sample at full scale sets an input's OVR bit. -/
def execOvr (input bitNo : Nat) (s : State) : Host.Outcome State Fault Refusal :=
  finish s (s.onCaddy (fun c => c.setOvr input bitNo))

/-- SUMMARY_WRITE (R270): An open overrange, data-loss or other summary is written to the log 60 s after its first
episode. -/
def execSummaryWrite (typ subject : Nat) (s : State) : Host.Outcome State Fault Refusal :=
  finish s (s.onCaddy (fun c => c.sumDue typ subject))

/-- WINDOW_BOUNDARY (R289): At each 200 ms window boundary the Caddy books energies, updates accumulators and pulses,
and serves snapshots and commits. -/
def execWindowBoundary (commitFails : Bool) (s : State) : Host.Outcome State Fault Refusal :=
  finish s (s.onCaddy (fun c => c.windowBoundary s.market commitFails))

/-- PULSE_START (R302): An idle pulse output with a pending count goes high for PULSE_MS. -/
def execPulseStart (output : Nat) (s : State) : Host.Outcome State Fault Refusal :=
  finish s (s.onCaddy (fun c => c.pulseStart output))

/-- PULSE_END (R302): A pulse's high or low time expires. -/
def execPulseEnd (output : Nat) (s : State) : Host.Outcome State Fault Refusal :=
  finish s (s.onCaddy (fun c => c.pulseEnd output))

/-- STEEP_INTERVAL_END (R324): A steep interval ends and the pilot estimate is formed and accepted or rejected. -/
def execSteepIntervalEnd (input : Nat) (s : State) : Host.Outcome State Fault Refusal :=
  finish s (s.onCaddy (fun c => c.endInterval input))

/-- VREF_MEASURE (R330): Once per second the reference ratio is measured and a split or agreement logged. -/
def execVrefMeasure (rho : Nat) (s : State) : Host.Outcome State Fault Refusal :=
  finish s (s.onCaddy (fun c => c.vrefMeasure rho))

/-- PILOT_DRIVER (R331): A driver readback differs for 8 samples, or recovers after 64 clean groups. -/
def execPilotDriver (driver : Nat) (fault : Bool) (s : State) : Host.Outcome State Fault Refusal :=
  finish s (s.onCaddy (fun c => c.driverEvent driver fault))

/-- PILOT_STALE (R332): 30 days without an accepted estimate logs PILOT_STALE. -/
def execPilotStale (input : Nat) (s : State) : Host.Outcome State Fault Refusal :=
  finish s (s.onCaddy (fun c => c.pilotStale input))

/-- CADDY_POINT_PUBLISH (R307): Every 10 ms of TMB1 instantaneous circuit values are written to points. -/
def execCaddyPointPublish (s : State) : Host.Outcome State Fault Refusal :=
  finish s (s.whenUp (fun a => a.cdyPublishPoints))

/-- CDY_EVENT_POST (R281): A Caddy event is posted to each metrology event queue that may see it. -/
def execCdyEventPost (s : State) : Host.Outcome State Fault Refusal := finish s (s.whenUp (fun a => a.cdyPost))

/-- CDY_IDENT (R285): Command 0x0601 returns the Caddy identity and optionally starts the identity display. -/
def execCdyIdent (r : Requester) (s : State) : Host.Outcome State Fault Refusal :=
  finish s (s.issue r 0x0601 cdyIdentBody)

/-- CDY_LOG_READ (R285): Command 0x0602 copies event log entries visible to the glove into a buffer. -/
def execCdyLogRead (r : Requester) (s : State) : Host.Outcome State Fault Refusal :=
  finish s (s.issue r 0x0602 cdyLogReadBody)

/-- CDY_SNAPSHOT (R303): Command 0x0610 requests an atomic snapshot delivered under the circuit views. -/
def execCdySnapshot (r : Requester) (s : State) : Host.Outcome State Fault Refusal :=
  finish s (s.issue r 0x0610 cdySnapshotBody)

/-- CDY_VIEW_SET (R312): Command 0x0611 sets a circuit's view glove and journals it. -/
def execCdyViewSet (r : Requester) (s : State) : Host.Outcome State Fault Refusal :=
  finish s (s.issue r 0x0611 cdyViewSetBody)

/-- CDY_PUBLISH (R312): Command 0x0612 sets the point base and enable of instantaneous publication. -/
def execCdyPublish (r : Requester) (s : State) : Host.Outcome State Fault Refusal :=
  finish s (s.issue r 0x0612 cdyPublishBody)

/-- CDY_COMMIT (R312): Command 0x0613 requests a Caddy commit at the next window boundary. -/
def execCdyCommit (r : Requester) (s : State) : Host.Outcome State Fault Refusal :=
  finish s (s.issue r 0x0613 cdyCommitBody)

/-- CDY_HARMONICS (R312): Command 0x0614 writes a circuit's harmonic group RMS values. -/
def execCdyHarmonics (r : Requester) (s : State) : Host.Outcome State Fault Refusal :=
  finish s (s.issue r 0x0614 cdyHarmonicsBody)

/-- CDY_PARAM_LOAD (R338): Command 0x0620 hands a parameter block to the Caddy for checking and acceptance. -/
def execCdyParamLoad (r : Requester) (readBackFails : Bool) (s : State) : Host.Outcome State Fault Refusal :=
  finish s (s.issue r 0x0620 (cdyParamLoadBody readBackFails))

/-- CDY_PARAM_READ (R343): Command 0x0621 reads the parameter block in force. -/
def execCdyParamRead (r : Requester) (s : State) : Host.Outcome State Fault Refusal :=
  finish s (s.issue r 0x0621 cdyParamReadBody)

/-- CDY_PILOT_STATUS (R343): Command 0x0622 returns a path's pilot state, trim and subtraction amplitude. -/
def execCdyPilotStatus (r : Requester) (s : State) : Host.Outcome State Fault Refusal :=
  finish s (s.issue r 0x0622 cdyPilotStatusBody)

/-- CDY_CAL_MEASURE (R340): Command 0x0623 measures every input over a number of windows for calibration. -/
def execCdyCalMeasure (r : Requester) (s : State) : Host.Outcome State Fault Refusal :=
  finish s (s.issue r 0x0623 cdyCalBody)

/-- CDY_IMAGE_LOAD (R552): Command 0x0630 hands a Caddy image to the Caddy for checking and installation. -/
def execCdyImageLoad (r : Requester) (readBackFails : Bool) (s : State) : Host.Outcome State Fault Refusal :=
  finish s (s.issue r 0x0630 (cdyImageLoadBody readBackFails))

/-- CADDY_ANSWER (R285): The Caddy answers a mailbox command and the core die completes it with its results. -/
def execCaddyAnswer (slot : Nat) (linkFails : Bool) (s : State) : Host.Outcome State Fault Refusal :=
  finish s (s.whenUp (fun a => a.cdyDeliver slot linkFails))

/-- CADDY_ANSWER_TIMEOUT (R286): No Caddy answer for 100 ms completes the command FAILED_NOCADDY and shows STATE
UNPOWERED. -/
def execCaddyAnswerTimeout (slot : Nat) (s : State) : Host.Outcome State Fault Refusal :=
  finish s (s.whenUp (fun a => a.cdyTimeout slot))

/-- CADDY_SAMPLE (R264): At each 8 kHz sample boundary the Caddy ends a filtered sample of every input and sets every
pilot driver's level and reads it back. -/
def execCaddySample (streams : List (Nat × BitVec 1250)) (differs : List Nat) (s : State) : Host.Outcome State Fault Refusal :=
  finish s (s.onCaddy (fun c => c.sample streams differs))

end Sys2Proof.Machine
end

