-- ==== Sys2Proof/Machine/ControlCmds.lean ====
section
/-! DEFINITION. The meanings of the commands of loops, tasks and the boundaries (spec/06, spec/08, spec/09 R218). -/

namespace Sys2Proof.Machine

/-- LOOP_WRITE (R151): Command 0x0301 copies a checked descriptor into the loop table, optionally journalled into
CONFIG. -/
def execLoopWrite (r : Requester) (s : State) : Host.Outcome State Fault Refusal :=
  finish s (s.issue r 0x0301 loopWriteBody)

/-- LOOP_READ (R150): Command 0x0302 copies a loop table entry or a role copy into a buffer. -/
def execLoopRead (r : Requester) (s : State) : Host.Outcome State Fault Refusal :=
  finish s (s.issue r 0x0302 loopReadBody)

/-- LOOP_START (R152): Command 0x0303 arms one or both roles of a loop for its next release boundary. -/
def execLoopStart (r : Requester) (ecc : Bool) (s : State) : Host.Outcome State Fault Refusal :=
  finish s (s.issue r 0x0303 (loopStartBody ecc))

/-- LOOP_STOP (R152): Command 0x0304 stops one or both roles of a loop at the next boundary. -/
def execLoopStop (r : Requester) (s : State) : Host.Outcome State Fault Refusal :=
  finish s (s.issue r 0x0304 loopStopBody)

/-- LOOP_HANDOVER (R152): Command 0x0305 swaps owner and shadow at the boundary ending the owner's period. -/
def execLoopHandover (r : Requester) (s : State) : Host.Outcome State Fault Refusal :=
  finish s (s.issue r 0x0305 loopHandoverBody)

/-- LOOP_QUERY (R150): Command 0x0306 returns a loop's roles, channels, flags and late count. -/
def execLoopQuery (r : Requester) (s : State) : Host.Outcome State Fault Refusal :=
  finish s (s.issue r 0x0306 loopQueryBody)

/-- LOOP_CLEAR_FLAGS (R153): Command 0x0307 clears saturation and late flags in started roles' lines at the next release
boundary. -/
def execLoopClearFlags (r : Requester) (s : State) : Host.Outcome State Fault Refusal :=
  finish s (s.issue r 0x0307 loopClearBody)

/-- TICK_BOUNDARY (R138): At each 31.25 µs of TMB1 the tick image is fixed and loops and tasks are checked, published
and released. -/
def execTickBoundary (strikes : List Strike) (s : State) : Host.Outcome State Fault Refusal := finish s (s.tickBoundary strikes)

/-- UNIT_TEST_DONE (R218): A cup test or Kettle test after a mismatch ends and the supervisor fences or records an
unresolved mismatch. -/
def execUnitTestDone (task : Bool) (item : Nat) (shadow : Bool) (pass : Bool) (s : State) : Host.Outcome State Fault Refusal :=
  finish s (s.whenUp (fun a => a.unitTested task item shadow pass))

/-- CUP_STEP_DONE (R142): A cup finishes a step, stores its line and compare record, and takes its next entry by pop or
steal. -/
def execCupStepDone (ch cup : Nat) (upset : Upset) (stall : Nat) (s : State) : Host.Outcome State Fault Refusal :=
  finish s (s.whenUp (fun a => a.cupDone ch cup upset stall))

/-- STEP_TIMEOUT (R146): A step still running after 4,096 CCLK cycles is aborted and its entry returned to its deque. -/
def execStepTimeout (ch cup : Nat) (stall : Nat) (s : State) : Host.Outcome State Fault Refusal :=
  finish s (s.whenUp (fun a => a.cupTimeout ch cup stall))

/-- CES_TICK_LO_READ (R158): A read of CES_TICK_LO returns the low tick count and latches the high word. -/
def execCesTickLoRead (r : Requester) (s : State) : Host.Outcome State Fault Refusal :=
  finish s (s.onRead r Pg.ces Rg.CES_TICK_LO (fun _ a => a.tickLatch))

/-- TASK_WRITE (R214): Command 0x0401 checks and writes a task descriptor, call list and initial image. -/
def execTaskWrite (r : Requester) (s : State) : Host.Outcome State Fault Refusal :=
  finish s (s.issue r 0x0401 taskWriteBody)

/-- TASK_READ (R213): Command 0x0402 copies a task table entry or a role copy into a buffer. -/
def execTaskRead (r : Requester) (s : State) : Host.Outcome State Fault Refusal :=
  finish s (s.issue r 0x0402 taskReadBody)

/-- TASK_START (R213): Command 0x0403 starts one or both roles of a task at its next release boundary. -/
def execTaskStart (r : Requester) (s : State) : Host.Outcome State Fault Refusal :=
  finish s (s.issue r 0x0403 taskStartBody)

/-- TASK_STOP (R213): Command 0x0404 stops one or both roles of a task. -/
def execTaskStop (r : Requester) (s : State) : Host.Outcome State Fault Refusal :=
  finish s (s.issue r 0x0404 taskStopBody)

/-- TASK_HANDOVER (R213): Command 0x0405 swaps a task's owner and shadow roles at a cycle boundary. -/
def execTaskHandover (r : Requester) (s : State) : Host.Outcome State Fault Refusal :=
  finish s (s.issue r 0x0405 taskHandoverBody)

/-- TASK_QUERY (R213): Command 0x0406 returns a task's roles, channels, late cycles and last commit SEQ. -/
def execTaskQuery (r : Requester) (s : State) : Host.Outcome State Fault Refusal :=
  finish s (s.issue r 0x0406 taskQueryBody)

/-- KETTLE_CALL_ENTRY (R195): A Kettle executes one call entry of the highest-ranked released role. -/
def execKettleCallEntry (ch : Nat) (upset : Upset) (s : State) : Host.Outcome State Fault Refusal :=
  finish s (s.whenUp (fun a => a.kettleCall ch upset))

/-- KETTLE_COMMIT_DONE (R207): A Kettle instance commit completes and SYS_KTL_COMMIT_SEQ advances. -/
def execKettleCommitDone (task : Nat) (ok : Bool) (s : State) : Host.Outcome State Fault Refusal :=
  finish s (s.whenUp (fun a => a.commitDone task ok))

/-- KETTLE_OVERRUN (R210): A task role has not reached END at its deadline and the module enters SAFE. -/
def execKettleOverrun (task : Nat) (shadow : Bool) (s : State) : Host.Outcome State Fault Refusal :=
  finish s (s.whenUp (fun a => if a.overrun task shadow then a.raiseSrc (Pg.ktl ((a.task task).role shadow).chan) 0 else a))

/-- LOOP_INTEGRATOR_COMMIT (R13): Once per second the loop integrators are committed to the alternate MRAM buffer. -/
def execLoopIntegratorCommit (ok : Bool) (s : State) : Host.Outcome State Fault Refusal :=
  finish s (s.integratorTick ok)

end Sys2Proof.Machine
end

