-- ==== Sys2Proof/Machine/FieldCmds.lean ====
section
/-! DEFINITION. The meanings of the commands of direct field inputs and outputs (spec/18). -/

namespace Sys2Proof.Machine

/-- AIN_CONVERSION (R467): A conversion ends and its result is used, clamped or discarded and its point written. -/
def execAinConversion (input : Nat) (level : Int) (s : State) : Host.Outcome State Fault Refusal :=
  finish s (if s.ainOn then s.ainSlot input level else s)

/-- AIN_SHUNT_OPEN (R469): Over 25 mA for 100 µs opens the input shunt. -/
def execAinShuntOpen (input : Nat) (s : State) : Host.Outcome State Fault Refusal := finish s (s.shuntOpen input)

/-- AIN_SHUNT_RETRY (R469): Every 1 s an opened shunt is closed for one conversion. -/
def execAinShuntRetry (input : Nat) (s : State) : Host.Outcome State Fault Refusal := finish s (s.shuntRetry input)

/-- PIN_RESULT_UPDATE (R472): Every 1 ms of TMB1 FREQ and DUTY results are formed. -/
def execPinResultUpdate (input : Nat) (wave : List (Bool × Nat)) (s : State) : Host.Outcome State Fault Refusal :=
  finish s (s.whenPin (fun a => a.pinUpdate input wave))

/-- PIN_TIMEOUT (R474): No rising edge for PIN_TMO turns a FREQ or DUTY result STALE. -/
def execPinTimeout (input : Nat) (s : State) : Host.Outcome State Fault Refusal :=
  finish s (s.whenPin (fun a => a.pinLate input))

/-- PIN_INDEX (R475): A rising index edge corrects the quadrature count or records a mismatch. -/
def execPinIndex (index : Nat) (s : State) : Host.Outcome State Fault Refusal :=
  finish s (s.whenPin (fun a => a.pinIdx index))

/-- PIN_VAL_WRITE (R473): A write of PIN_VALn loads the count in COUNT and QUAD modes. -/
def execPinValWrite (r : Requester) (input : Nat) (value : Word) (s : State) : Host.Outcome State Fault Refusal :=
  finish s (s.onWrite r Pg.pin (pinOff Rg.PIN_VAL input) (fun _ a => a.pinLoad input value))

/-- PIN_EDGE (R473): A filtered edge on a PIN input counts up or down, or moves the quadrature count, or counts an
illegal transition. -/
def execPinEdge (input : Nat) (level both : Bool) (held : Nat) (s : State) : Host.Outcome State Fault Refusal :=
  finish s (s.whenUp (fun a => (a.pinSees input level both).whenPin (fun b => b.pinFilter input level both held)))

/-- DIO_INPUT_DEBOUNCED (R479): A DIO input level held for DEB ms counts as the new level. -/
def execDioInputDebounced (pin : Nat) (level : Bool) (s : State) : Host.Outcome State Fault Refusal :=
  finish s (s.whenUp (fun a => a.dioLevel pin level))

/-- OUTPUT_OVERLOAD (R486): An AOUT or DIO output reaches its current limit and sets its sticky overload bit. -/
def execOutputOverload (output : Nat) (s : State) : Host.Outcome State Fault Refusal :=
  finish s (s.whenUp (fun a => a.overload output))

/-- AOUT_READBACK_FAULT (R486): An output's readback differs from its code by more than 0.5 % of span for 1 ms and sets
AOUT.READBACK. -/
def execAoutReadbackFault (output : Nat) (s : State) : Host.Outcome State Fault Refusal :=
  finish s (s.whenUp (fun a => a.readback output))

/-- DIO_PWM_PERIOD (R479): A PWM period of a DIO bank ends, the new duty takes effect and the pin goes high for the next
period. -/
def execDioPwmPeriod (bank : Nat) (s : State) : Host.Outcome State Fault Refusal :=
  finish s (s.whenUp (fun a => a.pwmPeriod bank))

end Sys2Proof.Machine
end

