-- ==== Sys2Proof/Machine/HostCmds.lean ====
section
/-! DEFINITION. The meanings of the commands of cores, PCI Express and USB (spec/19). -/

namespace Sys2Proof.Machine

/-- CORE_GLOVE_WRITE (R490): A privileged write sets a core's glove for later accesses and events. -/
def execCoreGloveWrite (core : Nat) (value : Nat) (privileged : Bool) (s : State) : Host.Outcome State Fault Refusal :=
  finish s (s.whenUp (fun a => if privileged then a.setCoreGlove core value else a))

/-- CLE_CLAIM_READ (R492): A read returns the lowest event routed to the core and clears a queue event's core latch. -/
def execCleClaimRead (core : Nat) (s : State) : Host.Outcome State Fault Refusal :=
  finish s (s.whenUp (fun a => a.claimRead core))

/-- MSIX_MESSAGE (R495): A function sends an MSI-X message for an event or on unmask. -/
def execMsixMessage (fn vector : Nat) (setMask : Option Bool) (s : State) : Host.Outcome State Fault Refusal :=
  finish s (s.whenUp (fun a => a.msixStep fn vector setMask))

/-- PCI_FUNCTION_RESET (R497): Function-level reset, link down or hot reset returns function state to reset. -/
def execPciFunctionReset (fn : Option Nat) (s : State) : Host.Outcome State Fault Refusal :=
  finish s (s.whenUp (fun a => a.pciReset fn))

/-- PCI_VF_GLOVE_WRITE (R500): Glove 0 maps a virtual function to a glove, discarding its latched events. -/
def execPciVfGloveWrite (r : Requester) (v : Nat) (value : Word) (s : State) : Host.Outcome State Fault Refusal :=
  finish s (s.onWrite r Pg.pci (Rg.PCI_VF_GLOVE + 4 * (v - 1)) (fun _ a => a.vfGlove v value))

/-- PCI_LINK_UP (R499): The PCI Express data link layer comes up and PCI_STAT shows its width and speed. -/
def execPciLinkUp (width speed numVf : Nat) (msix : List Nat) (d3 : List Nat) (s : State) : Host.Outcome State Fault Refusal :=
  finish s (s.pciUp width speed numVf msix d3)

/-- PCI_ERROR (R511): A correctable or uncorrectable PCI Express error is detected and counted, setting PCI.UNCORR for
an uncorrectable one. -/
def execPciError (uncorrectable : Bool) (s : State) : Host.Outcome State Fault Refusal :=
  finish s (s.pciErr uncorrectable)

/-- SESSION_NONCE (R502): USB request 0x01 returns a fresh nonce. -/
def execSessionNonce (s : State) : Host.Outcome State Fault Refusal := finish s s.usbNonce

/-- SESSION_OPEN (R503): USB request 0x02 verifies the MAC under the glove's session leaf and opens a session. -/
def execSessionOpen (glove : Nat) (mac : List Byte) (s : State) : Host.Outcome State Fault Refusal :=
  finish s (s.usbOpen glove mac)

/-- SESSION_CLOSE (R502): USB request 0x03 closes the session. -/
def execSessionClose (s : State) : Host.Outcome State Fault Refusal := finish s s.usbSessionClose

/-- RING_STATE (R502): USB request 0x21 returns the session glove and ring occupancy. -/
def execRingState (s : State) : Host.Outcome State Fault Refusal :=
  finish s (s.onVendor (fun a => a.emit (.ep0 a.ringBytes)))

/-- EP1_PACKET_ACK (R505): An acknowledged EP1 packet removes its entries from the glove's USB ring. -/
def execEp1PacketAck (ecc : Bool) (s : State) : Host.Outcome State Fault Refusal :=
  finish s (if ecc then s.whenUp State.ep1Spoilt else s.ep1Ack)

/-- USB_BUS_RESET (R506): A bus reset discards incomplete transfers, returns to Default and closes the session. -/
def execUsbBusReset (discards chirp : Bool) (s : State) : Host.Outcome State Fault Refusal :=
  finish s (s.usbReset discards chirp)

/-- USB_REMOTE_WAKEUP (R507): A suspended device with a waiting entry drives K for 2 ms. -/
def execUsbRemoteWakeup (s : State) : Host.Outcome State Fault Refusal := finish s s.usbWake

/-- USB_HOST_RESUME (R508): A host resume merges with or pre-empts a remote wake. -/
def execUsbHostResume (s : State) : Host.Outcome State Fault Refusal := finish s s.usbResume

/-- USB_SUSPEND (R507): The bus goes idle and the device enters the suspended state, starting the 5 ms before a remote
wake. -/
def execUsbSuspend (s : State) : Host.Outcome State Fault Refusal := finish s s.usbSuspended

/-- USB_STANDARD_REQUEST (R501): A standard request on EP0 addresses or configures the device or sets
DEVICE_REMOTE_WAKEUP. -/
def execUsbStandardRequest (q : UsbStd) (s : State) : Host.Outcome State Fault Refusal := finish s (s.usbStandard q)

/-- USB_VBUS_CHANGE (R604): USB_VBUS rises or falls, connecting or removing the D+ pull-up. -/
def execUsbVbusChange (on : Bool) (s : State) : Host.Outcome State Fault Refusal := finish s (s.usbVbus on)

/-- USB_PLL_LOCK_CHANGE (R597): The USB PHY PLL loses or regains lock, and the port detaches until it relocks. -/
def execUsbPllLockChange (locked : Bool) (s : State) : Host.Outcome State Fault Refusal := finish s (s.usbPll locked)

end Sys2Proof.Machine
end

