-- ==== Sys2Proof/Machine/KeyCmds.lean ====
section
/-! DEFINITION. The meanings of the commands of keys, the life cycle and firmware update (spec/20, spec/21). -/

namespace Sys2Proof.Machine

/-- KEY_DERIVE (R530): Command 0x0901 derives a leaf under a subtree root or derive parent. -/
def execKeyDerive (r : Requester) (s : State) : Host.Outcome State Fault Refusal :=
  finish s (s.issue r 0x0901 keyDeriveBody)

/-- KEY_DESTROY (R530): Command 0x0902 destroys a handle. -/
def execKeyDestroy (r : Requester) (s : State) : Host.Outcome State Fault Refusal :=
  finish s (s.issue r 0x0902 keyDestroyBody)

/-- KEY_QUERY (R530): Command 0x0903 describes a handle. -/
def execKeyQuery (r : Requester) (s : State) : Host.Outcome State Fault Refusal :=
  finish s (s.issue r 0x0903 keyQueryBody)

/-- KEY_MAC (R530): Command 0x0904 computes or compares an HMAC tag. -/
def execKeyMac (r : Requester) (s : State) : Host.Outcome State Fault Refusal := finish s (s.issue r 0x0904 keyMacBody)

/-- KEY_ENCRYPT (R530): Command 0x0905 encrypts with AES-256-GCM. -/
def execKeyEncrypt (r : Requester) (s : State) : Host.Outcome State Fault Refusal :=
  finish s (s.issue r 0x0905 keyEncryptBody)

/-- KEY_DECRYPT (R530): Command 0x0906 decrypts and authenticates with AES-256-GCM. -/
def execKeyDecrypt (r : Requester) (s : State) : Host.Outcome State Fault Refusal :=
  finish s (s.issue r 0x0906 keyDecryptBody)

/-- KEY_WRAP (R530): Command 0x0907 wraps a key with AES KW. -/
def execKeyWrap (r : Requester) (s : State) : Host.Outcome State Fault Refusal :=
  finish s (s.issue r 0x0907 keyWrapBody)

/-- KEY_UNWRAP (R530): Command 0x0908 unwraps a key with AES KW. -/
def execKeyUnwrap (r : Requester) (s : State) : Host.Outcome State Fault Refusal :=
  finish s (s.issue r 0x0908 keyUnwrapBody)

/-- KEY_PUBLIC (R530): Command 0x0909 imports a public key as a verify handle. -/
def execKeyPublic (r : Requester) (s : State) : Host.Outcome State Fault Refusal :=
  finish s (s.issue r 0x0909 keyPublicBody)

/-- KEY_VERIFY (R530): Command 0x090A verifies an ECDSA signature. -/
def execKeyVerify (r : Requester) (s : State) : Host.Outcome State Fault Refusal :=
  finish s (s.issue r 0x090A keyVerifyBody)

/-- KEY_ATTEST (R523): Command 0x090B writes a signed origin statement for a challenge. -/
def execKeyAttest (r : Requester) (s : State) : Host.Outcome State Fault Refusal :=
  finish s (s.issue r 0x090B keyAttestBody)

/-- KEY_SEED (R522): Command 0x090C installs a seed for RING or GLOVE/g from an envelope. -/
def execKeySeed (r : Requester) (s : State) : Host.Outcome State Fault Refusal :=
  finish s (s.issue r 0x090C keySeedBody)

/-- KEY_RANDOM (R530): Command 0x090D returns random bytes. -/
def execKeyRandom (r : Requester) (s : State) : Host.Outcome State Fault Refusal :=
  finish s (s.issue r 0x090D keyRandomBody)

/-- KEY_ENDORSE_CERT (R528): Command 0x090E reads the stored endorsement certificate. -/
def execKeyEndorseCert (r : Requester) (s : State) : Host.Outcome State Fault Refusal :=
  finish s (s.issue r 0x090E keyCertBody)

/-- LCS_PROVISION (R528): Command 0x0911 generates and fuses the device root. -/
def execLcsProvision (r : Requester) (fuseFails cut : Bool) (s : State) : Host.Outcome State Fault Refusal :=
  finish s (s.issue r 0x0911 (lcsProvisionBody fuseFails cut))

/-- LCS_CERT_STORE (R528): Command 0x0912 stores Sheben's certificate in PROVISIONED. -/
def execLcsCertStore (r : Requester) (s : State) : Host.Outcome State Fault Refusal :=
  finish s (s.issue r 0x0912 lcsCertStoreBody)

/-- LCS_TRANSITION (R527): Command 0x0913 burns a state fuse, destroys keys, switches root and regenerates identity. -/
def execLcsTransition (r : Requester) (fuseFails cut : Bool) (s : State) : Host.Outcome State Fault Refusal :=
  finish s (s.issue r 0x0913 (lcsTransitionBody fuseFails cut))

/-- RNG_HEALTH_FAIL (R512): A random source health test fails and randomness-dependent operations stop. -/
def execRngHealthFail (s : State) : Host.Outcome State Fault Refusal := finish s s.rngFail

/-- RNG_HEALTH_RECOVER (R512): The random source passes its health tests again and operations needing randomness resume.
-/
def execRngHealthRecover (s : State) : Host.Outcome State Fault Refusal := finish s (s.whenUp (fun a => a.rngRecover))

/-- UPD_BEGIN (R541): Command 0x0A01 checks a header and hash list and opens the other slot, optionally relaying. -/
def execUpdBegin (r : Requester) (s : State) : Host.Outcome State Fault Refusal :=
  finish s (s.issue r 0x0A01 updBeginBody)

/-- UPD_CHUNK (R541): Command 0x0A02 verifies and stores chunks, optionally relaying them. -/
def execUpdChunk (r : Requester) (s : State) : Host.Outcome State Fault Refusal :=
  finish s (s.issue r 0x0A02 updChunkBody)

/-- UPD_FINISH (R541): Command 0x0A03 writes the complete mark and awaits the relay report. -/
def execUpdFinish (r : Requester) (s : State) : Host.Outcome State Fault Refusal :=
  finish s (s.issue r 0x0A03 updFinishBody)

/-- UPD_ACTIVATE (R541): Command 0x0A04 arms the staged slot for trial, optionally resetting. -/
def execUpdActivate (r : Requester) (s : State) : Host.Outcome State Fault Refusal :=
  finish s (s.issue r 0x0A04 updActivateBody)

/-- UPD_CONFIRM (R546): Command 0x0A05 burns rollback fuses and makes the trial slot active. -/
def execUpdConfirm (r : Requester) (fuseFails cut : Bool) (s : State) : Host.Outcome State Fault Refusal :=
  finish s (s.issue r 0x0A05 (updConfirmBody fuseFails cut))

/-- UPD_ABORT (R541): Command 0x0A06 ends the session and leaves the slot invalid. -/
def execUpdAbort (r : Requester) (s : State) : Host.Outcome State Fault Refusal :=
  finish s (s.issue r 0x0A06 updAbortBody)

/-- UPD_WRITE_DONE (R541): A NAND write of header, hash list or chunks into the opened slot completes and the update
command completes or fails FAILED_NAND. -/
def execUpdWriteDone (fails : Bool) (s : State) : Host.Outcome State Fault Refusal :=
  finish s (s.whenUp (fun a => a.nandDone fails))

/-- RELAY_UNIT_RX (R543): A relayed unit is verified, stored if accepted, acknowledged and forwarded. -/
def execRelayUnitRx (west : Bool) (frame : List Byte) (s : State) : Host.Outcome State Fault Refusal :=
  finish s (if relayField frame 1 1 = 1 then s.unitRx (.riser west) frame else s)

/-- RELAY_ACK_RX (R542): A chunk acknowledgement frees the sender's window. -/
def execRelayAckRx (west : Bool) (frame : List Byte) (s : State) : Host.Outcome State Fault Refusal :=
  finish s (if relayField frame 1 1 = 2 then s.ackRx west frame else s)

/-- RELAY_RESEND (R542): An unacknowledged chunk is resent after 20 ms, up to 8 times. -/
def execRelayResend (chunk : Nat) (s : State) : Host.Outcome State Fault Refusal := finish s (s.resend chunk)

/-- RELAY_FINISH_RX (R544): A FINISH frame adds the module to LOADED and is passed on or answered with REPORT. -/
def execRelayFinishRx (west : Bool) (frame : List Byte) (s : State) : Host.Outcome State Fault Refusal :=
  finish s (if relayField frame 1 1 = 3 ∧ s.finishFrom west then s.finishRx frame else s)

/-- RELAY_REPORT_RX (R544): A REPORT or ABORT reaches the originator and completes UPD_FINISH. -/
def execRelayReportRx (src : Nat) (frame : List Byte) (s : State) : Host.Outcome State Fault Refusal :=
  finish s (if relayField frame 1 1 = 4 ∨ relayField frame 1 1 = 5 then s.reportRx src frame else s)

/-- RELAY_REPORT_TIMEOUT (R544): No REPORT within 60 s completes UPD_FINISH FAILED_RELAY. -/
def execRelayReportTimeout (s : State) : Host.Outcome State Fault Refusal :=
  finish s (s.whenUp (fun a => a.reportTimeout))

/-- TRIAL_LIMIT (R545): Ten minutes of trial without confirmation reset the module to the active slot. -/
def execTrialLimit (s : State) : Host.Outcome State Fault Refusal := finish s s.trialOver

/-- RECOVERY_ANNOUNCE (R550): Every 1 s the recovery loader announces itself on FP0 and requests on riser ports. -/
def execRecoveryAnnounce (s : State) : Host.Outcome State Fault Refusal :=
  finish s (s.whenLoader (fun a => a.loaderAnnounce))

/-- RECOVERY_FP0_ALTERNATE (R550): Without link for 2 s the loader switches FP0 interface mode. -/
def execRecoveryFp0Alternate (s : State) : Host.Outcome State Fault Refusal :=
  finish s (s.whenLoader (fun a => { a with upd := { a.upd with fp0Sgmii := !a.upd.fp0Sgmii } }))

/-- DFU_DNLOAD (R549): A DFU download block of the image is verified and written by the loader. -/
def execDfuDnload (block : List Byte) (s : State) : Host.Outcome State Fault Refusal :=
  finish s (s.whenLoader (fun a => a.dfuBlock block))

/-- RECOVERY_COMPLETE (R548): The loader writes the complete mark and resets with CAUSE 0x5. -/
def execRecoveryComplete (s : State) : Host.Outcome State Fault Refusal := finish s s.loaderReset

end Sys2Proof.Machine
end

