-- ==== Sys2Proof/Machine/LeaseCmds.lean ====
section
/-! DEFINITION. The meanings of the commands of redundancy, leases and the tower point image (spec/09, spec/13). -/

namespace Sys2Proof.Machine

/-- CH_SELFTEST (R222): Command 0x0501 tests a fenced channel with its pages stopped. -/
def execChSelftest (r : Requester) (s : State) : Host.Outcome State Fault Refusal :=
  finish s (s.issue r 0x0501 chSelftestBody)

/-- CH_FENCE (R248): Command 0x0502 fences a channel. -/
def execChFence (r : Requester) (s : State) : Host.Outcome State Fault Refusal :=
  finish s (s.issue r 0x0502 chFenceBody)

/-- CH_SELFTEST_DONE (R222): The channel self-test ends within 20 ms, sets TEST_PASS or reports failed parts, and
completes CH_SELFTEST. -/
def execChSelftestDone (ch : Nat) (failed : Nat) (s : State) : Host.Outcome State Fault Refusal :=
  finish s (s.whenUp (fun a => a.selftestEnd ch failed))

/-- LSE_CLAIM (R249): Command 0x0503 claims named or all LOST groups with NEXT, retrying on NOT_EXPIRED. -/
def execLseClaim (r : Requester) (s : State) : Host.Outcome State Fault Refusal :=
  finish s (s.issue r 0x0503 lseClaimBody)

/-- LSE_RELEASE (R248): Command 0x0504 releases a HELD group with a chosen disposition. -/
def execLseRelease (r : Requester) (s : State) : Host.Outcome State Fault Refusal :=
  finish s (s.issue r 0x0504 lseReleaseBody)

/-- LSE_UNADOPT (R232): Command 0x0505 ends an adoption and releases adopted groups with DISP HOLD. -/
def execLseUnadopt (r : Requester) (s : State) : Host.Outcome State Fault Refusal :=
  finish s (s.issue r 0x0505 lseUnadoptBody)

/-- LSE_QUERY (R248): Command 0x0506 returns a group's state, epoch and last NAK reason. -/
def execLseQuery (r : Requester) (s : State) : Host.Outcome State Fault Refusal :=
  finish s (s.issue r 0x0506 lseQueryBody)

/-- LSE_WARM_TASK (R248): Command 0x0507 writes a partner task into the warm copy. -/
def execLseWarmTask (r : Requester) (s : State) : Host.Outcome State Fault Refusal :=
  finish s (s.issue r 0x0507 lseWarmTaskBody)

/-- RELAY_WRITE_RX (R228): A relayed persisted write from the partner is applied to the warm copy. -/
def execRelayWriteRx (frame : List Byte) (s : State) : Host.Outcome State Fault Refusal :=
  finish s (s.whenUp (fun a => if a.pfw then a else a.relayIn frame))

/-- TPI_CYCLE_BOUNDARY (R354): At each TMB0 TPI cycle boundary the module publishes, ages remote entries, posts events
and checks the partner. -/
def execTpiCycleBoundary (table : Ecc) (spoilt : List Nat) (s : State) : Host.Outcome State Fault Refusal :=
  finish s (s.whenUp (fun a => (a.pointCheck table).tpiBoundary spoilt))

/-- LEASE_SEND_INSTANT (R238): LSE_TX_OFS after each TPI boundary the module sends renewals, claims and releases. -/
def execLeaseSendInstant (s : State) : Host.Outcome State Fault Refusal := finish s (s.whenUp (fun a => a.leaseSend))

/-- LEASE_ANSWER_RX (R239): A GRANT or NAK from a field node updates the group's state. -/
def execLeaseAnswerRx (can : Bool) (port : Nat) (node : Nat) (vlan : Nat) (pdu : List Byte) (s : State) : Host.Outcome State Fault Refusal :=
  finish s (s.whenUp (fun a => a.leaseAnswer can port node vlan pdu))

/-- TPI_FRAME_RX (R362): A received TPI frame is checked and its valid records take effect in the point table. -/
def execTpiFrameRx (west : Bool) (frame : List Byte) (s : State) : Host.Outcome State Fault Refusal :=
  finish s (s.whenUp (fun a => a.tpiReceive west frame))

/-- TPI_CYCLE_LO_READ (R370): A read of TPI_CYCLE_LO returns the low cycle number and latches the high word. -/
def execTpiCycleLoRead (r : Requester) (s : State) : Host.Outcome State Fault Refusal :=
  finish s (s.onRead r Pg.tpi Rg.TPI_CYCLE_LO (fun _ a => a.cycleLatch))

/-- PT_READ (R367): Command 0x0701 copies point entries into a buffer. -/
def execPtRead (r : Requester) (s : State) : Host.Outcome State Fault Refusal := finish s (s.issue r 0x0701 ptReadBody)

/-- PT_WRITE (R367): Command 0x0702 writes, forces or releases a point. -/
def execPtWrite (r : Requester) (s : State) : Host.Outcome State Fault Refusal :=
  finish s (s.issue r 0x0702 ptWriteBody)

end Sys2Proof.Machine
end

