-- ==== Sys2Proof/Machine/PageCmds.lean ====
section
/-! DEFINITION. The meanings of the commands of pages, owners, modes, start-up and faults (spec/02, spec/03, spec/22).
-/

namespace Sys2Proof.Machine

/-- PG_RUN_WRITE (R69): A write of PG_RUN.REQ requests RUN or STOP, moving CUR to STARTING or STOPPING, subject to the
mode rule of R72. -/
def execPgRunWrite (r : Requester) (page : Nat) (req : Nat) (s : State) : Host.Outcome State Fault Refusal :=
  finish s (s.onWrite r page Hd.run (fun _ a => a.runReq page req))

/-- PAGE_STARTED (R69): A STARTING page has taken in its RWS fields and begun its function, and CUR becomes RUNNING. -/
def execPageStarted (page : Nat) (spoilt : List Nat) (s : State) : Host.Outcome State Fault Refusal :=
  finish s (s.pageStart page spoilt)

/-- PAGE_STOPPED (R70): A STOPPING page has ended its work in hand and CUR becomes STOPPED. -/
def execPageStopped (page : Nat) (s : State) : Host.Outcome State Fault Refusal := finish s (s.pageStop page)

/-- PG_OWNER_WRITE (R63): Glove 0 changes a page's owning glove or shared read, clearing PG_IRQ_EN and signalling ASSIGN
on the GVW pages. -/
def execPgOwnerWrite (r : Requester) (page : Nat) (value : Word) (s : State) : Host.Outcome State Fault Refusal :=
  finish s (s.onWrite r page Hd.owner (fun g a => a.ownerWrite g page value))

/-- PAGE_EVENT_DELIVERY (R85): A pending page or queue event is delivered once a requester of the owning glove becomes
available. -/
def execPageEventDelivery (event : Nat) (s : State) : Host.Outcome State Fault Refusal :=
  finish s (s.whenUp (fun a => a.deliverEvent event))

/-- SYS_RESET_WRITE (R44): A keyed write by glove 0 to SYS_RESET runs the PFW commit and restarts power-up with CAUSE
0x3. -/
def execSysResetWrite (r : Requester) (value : Word) (s : State) : Host.Outcome State Fault Refusal :=
  finish s (s.onWrite r Pg.sys Rg.SYS_RESET (fun g a => a.resetWrite g value))

/-- SYS_RESTART_POLICY_WRITE (R42): A write by glove 0 stores the start-up target and restart kind in the MRAM restart
record before completing. -/
def execSysRestartPolicyWrite (r : Requester) (value : Word) (s : State) : Host.Outcome State Fault Refusal :=
  finish s (s.onWrite r Pg.sys Rg.SYS_RESTART_POLICY (fun g a => if g = 0 then a.policyWrite value else a))

/-- SYS_RESTART (R52): Command 0x0101 evaluates retained data, self-tests the channels, reloads from CONFIG and enters
the target mode. -/
def execSysRestart (r : Requester) (s : State) : Host.Outcome State Fault Refusal :=
  finish s (s.issue r 0x0101 sysRestartBody)

/-- SYS_ENTER_RUN (R37): Command 0x0102 moves the module from COMMISSION to RUN or DEGRADED and claims leases. -/
def execSysEnterRun (r : Requester) (s : State) : Host.Outcome State Fault Refusal :=
  finish s (s.issue r 0x0102 sysEnterRunBody)

/-- SYS_ENTER_COMMISSION (R37): Command 0x0103 moves the module from RUN or DEGRADED to COMMISSION, with outputs to hats
and leases released. -/
def execSysEnterCommission (r : Requester) (s : State) : Host.Outcome State Fault Refusal :=
  finish s (s.issue r 0x0103 sysEnterCommissionBody)

/-- SYS_ENTER_SAFE (R37): Command 0x0104 enters SAFE, with outputs to hats and leases released to hat. -/
def execSysEnterSafe (r : Requester) (s : State) : Host.Outcome State Fault Refusal :=
  finish s (s.issue r 0x0104 sysEnterSafeBody)

/-- SYS_RESTART_DONE (R52): A restart finishes its self-test and CONFIG reload, enters the target mode and posts its
completion. -/
def execSysRestartDone (failing : List Nat) (s : State) : Host.Outcome State Fault Refusal :=
  finish s (s.restartDone failing)

/-- CFG_SAVE (R74): Command 0x0105 journals the module configuration into CONFIG as one new generation. -/
def execCfgSave (r : Requester) (s : State) : Host.Outcome State Fault Refusal :=
  finish s (s.issue r 0x0105 cfgSaveBody)

/-- CONFIG_JOURNAL_DONE (R74): A journal write into CONFIG for CFG_SAVE, FLT_SAVE, a persisted write or a view change
completes or fails. -/
def execConfigJournalDone (ok : Bool) (s : State) : Host.Outcome State Fault Refusal :=
  finish s (s.whenUp (fun a => a.journalDone ok))

/-- FLT_SEV_WRITE (R561): A write of a source's severity stores it, not below its floor. -/
def execFltSevWrite (r : Requester) (value : Word) (ecc : Bool) (s : State) : Host.Outcome State Fault Refusal :=
  finish s (s.onWrite r Pg.flt Rg.FLT_SEV (fun _ a =>
    let src := bf (a.breg (bankOf r) Pg.flt Rg.FLT_SEL) 0 13
    (if ecc then a.sevSpoilt src else a).sevWrite src (bf value 0 3)))

/-- FLT_CTRL_DEFAULTS (R575): A keyed write returns every severity to its default. -/
def execFltCtrlDefaults (r : Requester) (value : Word) (s : State) : Host.Outcome State Fault Refusal :=
  finish s (s.onWrite r Pg.flt Rg.FLT_CTRL (fun _ a => a.sevDefaults value))

/-- FLT_SAVE (R577): Command 0x0B01 journals the severity table into CONFIG. -/
def execFltSave (r : Requester) (s : State) : Host.Outcome State Fault Refusal :=
  finish s (s.issue r 0x0B01 fltSaveBody)

end Sys2Proof.Machine
end

