-- ==== Sys2Proof/Machine/PortCmds.lean ====
section
/-! DEFINITION. The meanings of the commands of floor ports and CAN (spec/16, spec/17). -/

namespace Sys2Proof.Machine

/-- FP_FRAME_RX (R430): A received floor-port frame is filtered and delivered, passed to the lease engine or dropped. -/
def execFpFrameRx (port : Nat) (frame : List Byte) (room : Bool) (ago : Nat) (ecc : Bool) (inputs : List NodeInput) (s : State) :
    Host.Outcome State Fault Refusal :=
  finish s (s.fpFrame port frame room ago ecc inputs)

/-- FP_FRAME_TX (R435): A floor port takes the next lease frame or transmit entry and sends it. -/
def execFpFrameTx (port : Nat) (s : State) : Host.Outcome State Fault Refusal := finish s (s.fpTransmit port)

/-- FP_TX_DONE (R436): A transmit entry completes on its paired completion queue. -/
def execFpTxDone (port : Nat) (sent : Bool) (s : State) : Host.Outcome State Fault Refusal :=
  finish s (s.whenUp (fun a => a.fpTxDone port sent))

/-- FP_LINK_CHANGE (R427): The PHY's in-band word changes link, duplex or rate state. -/
def execFpLinkChange (port : Nat) (link : Bool) (rate : Nat) (half : Bool) (cut : Bool) (s : State) :
    Host.Outcome State Fault Refusal :=
  finish s (s.whenUp (fun a => a.fpLink port link rate half cut))

/-- LPI_ENTRY (R437): After IDLE_US without a frame the MAC signals low-power idle. -/
def execLpiEntry (port : Nat) (s : State) : Host.Outcome State Fault Refusal := finish s (s.fpLpi port)

/-- LPI_WAKE (R437): The MAC leaves low-power idle to send a frame, or at L minus TW_US ahead of a held launch. -/
def execLpiWake (port : Nat) (s : State) : Host.Outcome State Fault Refusal :=
  finish s (s.whenUp (fun a => a.fpWake port))

/-- LPI_RX_CHANGE (R437): The link partner enters or leaves low-power idle and FP_STAT.LPI_RX follows. -/
def execLpiRxChange (port : Nat) (on : Bool) (s : State) : Host.Outcome State Fault Refusal :=
  finish s (s.whenUp (fun a => a.setFp port { a.fpOf port with lpiRx := on }))

/-- MDIO_START (R428): A write of GO starts one Clause 22 or 45 MDIO frame. -/
def execMdioStart (r : Requester) (port : Nat) (value : Word) (s : State) : Host.Outcome State Fault Refusal :=
  finish s (s.onWrite r (Pg.fp port) Rg.FP_MDIO_CTL (fun _ a => a.mdioWrite port value))

/-- MDIO_DONE (R428): An MDIO frame ends after 64 MDC periods and BUSY clears. -/
def execMdioDone (port : Nat) (data : Nat) (s : State) : Host.Outcome State Fault Refusal :=
  finish s (s.whenUp (fun a => a.mdioEnd port data))

/-- CAN_FRAME_RX (R448): A received CAN frame is filtered into a buffer, FIFO, queue or the lease engine. -/
def execCanFrameRx (ch : Nat) (f : CanFrame) (ago : Nat) (ecc : Bool) (bad : List Nat) (inputs : List NodeInput) (s : State) :
    Host.Outcome State Fault Refusal :=
  finish s (s.canReceive ch f ago ecc bad inputs)

/-- CAN_TXREQ_WRITE (R453): A write sets transmission requests of dedicated buffers. -/
def execCanTxreqWrite (r : Requester) (ch : Nat) (reg : Nat) (value : Word) (s : State) : Host.Outcome State Fault Refusal :=
  finish s (s.onWrite r (Pg.can ch) (Rg.CAN_TXREQ + 4 * reg) (fun _ a => a.canTxReq ch reg value))

/-- CAN_TXCANCEL_WRITE (R453): A write withdraws buffer requests not yet started. -/
def execCanTxcancelWrite (r : Requester) (ch : Nat) (reg : Nat) (value : Word) (s : State) : Host.Outcome State Fault Refusal :=
  finish s (s.onWrite r (Pg.can ch) (Rg.CAN_TXCANCEL + 4 * reg) (fun _ a => a.canTxCancel ch reg value))

/-- CAN_ARBITRATION (R453): At a possible start of frame the lowest pending arbitration field is offered. -/
def execCanArbitration (ch : Nat) (ecc : Bool) (s : State) : Host.Outcome State Fault Refusal :=
  finish s ((if ecc then s.canSpoil ch else s).canArbitrate ch)

/-- CAN_TX_DONE (R453): A CAN frame is sent and TXDONE or its queue completion follows. -/
def execCanTxDone (ch : Nat) (s : State) : Host.Outcome State Fault Refusal :=
  finish s (s.whenUp (fun a => a.canSent ch))

/-- CAN_ERROR_FRAME (R459): An error is detected, counters move and the frame is retransmitted or fails. -/
def execCanErrorFrame (ch : Nat) (lec : Nat) (dataPhase : Bool) (more : Nat) (excepted lostArb : Bool) (s : State) :
    Host.Outcome State Fault Refusal :=
  finish s (s.whenUp (fun a => a.canError ch lec dataPhase more excepted lostArb))

/-- CAN_RXF_ACK_WRITE (R451): A write frees unbound FIFO elements up to the index read. -/
def execCanRxfAckWrite (r : Requester) (ch : Nat) (reg : Nat) (value : Word) (s : State) : Host.Outcome State Fault Refusal :=
  finish s (s.onWrite r (Pg.can ch) (Rg.CAN_RXF_ACK + 4 * reg) (fun _ a => a.canAck ch (reg == 1) value))

/-- CAN_RECOVER (R458): A write of RECOVER in bus-off starts recovery. -/
def execCanRecover (r : Requester) (ch : Nat) (value : Word) (s : State) : Host.Outcome State Fault Refusal :=
  finish s (s.onWrite r (Pg.can ch) Rg.CAN_CTRL (fun _ a => a.canRecoverWrite ch value))

/-- CAN_RECOVERY_DONE (R458): After 128 occurrences of 11 recessive bits the channel becomes error-active. -/
def execCanRecoveryDone (ch : Nat) (s : State) : Host.Outcome State Fault Refusal := finish s (s.canRecovered ch)

/-- CAN_TT_CYCLE_BOUNDARY (R455): A time master requests its reference message at each cycle boundary. -/
def execCanTtCycleBoundary (ch : Nat) (s : State) : Host.Outcome State Fault Refusal := finish s (s.canBoundary ch)

/-- CAN_TT_REFERENCE_RX (R456): A time slave starts a cycle on a received reference message. -/
def execCanTtReferenceRx (ch : Nat) (f : CanFrame) (ago : Nat) (s : State) : Host.Outcome State Fault Refusal :=
  finish s (s.canReference ch f ago)

/-- CAN_TT_SYNC_LOST (R456): No reference for two cycles clears TT_SYNC. -/
def execCanTtSyncLost (ch : Nat) (s : State) : Host.Outcome State Fault Refusal := finish s (s.canSyncLost ch)

/-- CAN_TT_TRIGGER (R457): TT_OFS after the reference a time-triggered buffer is offered once. -/
def execCanTtTrigger (ch buf : Nat) (s : State) : Host.Outcome State Fault Refusal := finish s (s.canTrigger ch buf)

/-- CAN_RATE_DETECT (R460): Command 0x0801 listens under each candidate nominal rate until one is confirmed. -/
def execCanRateDetect (r : Requester) (s : State) : Host.Outcome State Fault Refusal :=
  finish s (s.issue r 0x0801 canRateDetectBody)

/-- CAN_RATE_DWELL_END (R460): A candidate's dwell ends and detection moves to the next candidate or times out. -/
def execCanRateDwellEnd (ch : Nat) (timeout : Bool) (s : State) : Host.Outcome State Fault Refusal :=
  finish s (s.whenUp (fun a => a.canDwell ch timeout))

end Sys2Proof.Machine
end

