-- ==== Sys2Proof/Machine/PowerCmds.lean ====
section
/-! DEFINITION. The meanings of the commands of the Hatstand, supplies, power and clocks, start-up (spec/22, spec/23,
spec/02 R47). -/

namespace Sys2Proof.Machine

/-- HEARTBEAT (R225): Every 100 µs of TMB1 each unfenced channel emits a heartbeat. -/
def execHeartbeat (s : State) : Host.Outcome State Fault Refusal := finish s s.heartbeat

/-- SUPERVISOR_TAKEOVER (R226): After 250 µs without a supervisor heartbeat the next unfenced channel fences it and
takes the role. -/
def execSupervisorTakeover (ch : Nat) (s : State) : Host.Outcome State Fault Refusal := finish s (s.takeover ch)

/-- CHANNEL_HB_LOST (R226): The supervisor fences an unfenced channel whose heartbeat has been absent for 250 µs. -/
def execChannelHbLost (ch : Nat) (s : State) : Host.Outcome State Fault Refusal := finish s (s.beatLost ch)

/-- HATSTAND_ACTS (R568): After 7,200 RC periods without an unfenced heartbeat the Hatstand drives outputs to hats and
asserts SAFE_N. -/
def execHatstandActs (s : State) : Host.Outcome State Fault Refusal := finish s s.hatstandAct

/-- HATSTAND_BEAT (R569): Every 100 µs of its oscillator the Hatstand sends its beat to the channels. -/
def execHatstandBeat (s : State) : Host.Outcome State Fault Refusal := finish s s.hatstandBeat

/-- HATSTAND_LOST (R569): The supervisor sets HST.LOST after 1 ms without a Hatstand beat. -/
def execHatstandLost (s : State) : Host.Outcome State Fault Refusal := finish s s.hatstandGone

/-- HST_RC_MEASURE (R570): Every 1 ms the Hatstand oscillator is counted against TCLK and checked for range. -/
def execHstRcMeasure (khz : Nat) (s : State) : Host.Outcome State Fault Refusal := finish s (s.rcMeasure khz)

/-- VIN_GOOD (R47): VIN rising through 10.5 V starts the power-up sequence. -/
def execVinGood (s : State) : Host.Outcome State Fault Refusal := finish s s.vinUp

/-- INTERNAL_RESET_END (R47): The ROOT PLL locks, internal reset ends and RECOV_N is sampled. -/
def execInternalResetEnd (recovLow : Bool) (s : State) : Host.Outcome State Fault Refusal :=
  finish s (s.resetEnd recovLow)

/-- STARTUP_SELFTEST (R47): The start-up self-test of channels A to D completes and failing channels are fenced. -/
def execStartupSelftest (failing : List Nat) (spoilt : Bool) (s : State) : Host.Outcome State Fault Refusal :=
  finish s (s.selftested failing spoilt)

/-- SLOT_SELECTION (R539): The ROM chooses the slot to boot from the slot record or enters RECOVERY. -/
def execSlotSelection (s : State) : Host.Outcome State Fault Refusal := finish s s.selectSlot

/-- IMAGE_LOADED (R73): The image is verified and loaded, the CONFIG journal replayed and the hats loaded. -/
def execImageLoaded (badChunk : Bool) (s : State) : Host.Outcome State Fault Refusal :=
  finish s ((s.imageIn badChunk).kickAll)

/-- STARTUP_COMPLETE (R50): Retained data are evaluated, the restart is performed and the start-up mode is entered. -/
def execStartupComplete (spoilt : Bool) (s : State) : Host.Outcome State Fault Refusal := finish s (s.startupEnd spoilt)

/-- STARTUP_RETRY (R49): After PFW during start-up, VIN held 100 ms restarts the sequence from its first row. -/
def execStartupRetry (s : State) : Host.Outcome State Fault Refusal := finish s s.startupAgain

/-- PFW (R572): VIN below 10.0 V for 2 µs starts the PFW-to-dark sequence. -/
def execPfw (s : State) : Host.Outcome State Fault Refusal := finish s s.pfwAssert

/-- PFW_COMMIT_DONE (R572): The restart record is written and the core die is held in reset except its hold-up parts. -/
def execPfwCommitDone (ok : Bool) (s : State) : Host.Outcome State Fault Refusal := finish s (s.seqEnd ok)

/-- VIN_DARK (R572): VIN falls below 8.5 V and the module goes dark into BACKUP. -/
def execVinDark (s : State) : Host.Outcome State Fault Refusal := finish s s.dark

/-- POWER_RESTART (R573): VIN held 100 ms after COMMIT_DONE restarts the power-up sequence. -/
def execPowerRestart (s : State) : Host.Outcome State Fault Refusal := finish s s.seqRestart

/-- RESET_N_ASSERT (R605): RESET_N low for 10 µs puts the core die into reset at once. -/
def execResetNAssert (s : State) : Host.Outcome State Fault Refusal := finish s s.resetAssert

/-- RESET_N_RELEASE (R605): Release of RESET_N runs power-up with CAUSE 0x2. -/
def execResetNRelease (s : State) : Host.Outcome State Fault Refusal := finish s s.resetRelease

/-- ROOT_UNLOCK (R593): The ROOT PLL loses lock and every ROOT clock is gated off. -/
def execRootUnlock (s : State) : Host.Outcome State Fault Refusal := finish s s.rootLost

/-- ROOT_RELOCK (R593): The ROOT PLL relocks, FCLK resumes and held fault occurrences are reacted to. -/
def execRootRelock (s : State) : Host.Outcome State Fault Refusal := finish s s.rootBack

/-- SUPPLY_EVENT (R580): A temperature, regulator or VBAT supervisor threshold is crossed and its source set. -/
def execSupplyEvent (kind : Supply) (value : Nat) (s : State) : Host.Outcome State Fault Refusal :=
  finish s (s.supply kind value)

/-- VIO_BANK_CHANGE (R479): A DIO bank supply falls below 1.55 V or becomes good again. -/
def execVioBankChange (bank : Nat) (good : Bool) (s : State) : Host.Outcome State Fault Refusal :=
  finish s (s.vioChange bank good)

/-- VBAT_DOMAIN_POWER_ON (R425): The VBAT domain powers on and sets RTC LOST. -/
def execVbatDomainPowerOn (s : State) : Host.Outcome State Fault Refusal := finish s s.vbatOn

/-- TAMPER (R531): A glitch detector or the VBAT tamper monitor destroys every handle, seed and identity key. -/
def execTamper (vbat closes : Bool) (s : State) : Host.Outcome State Fault Refusal := finish s (s.tamperEvent vbat closes)

/-- CSEAL_CHANGE (R608): The carrier cover contact changes state and the VBAT domain records it. -/
def execCsealChange (isOpen : Bool) (s : State) : Host.Outcome State Fault Refusal := finish s (s.csealMove isOpen)

/-- VBM_READ (R608): Command 0x0C01 reads and optionally clears the cover seal record. -/
def execVbmRead (r : Requester) (s : State) : Host.Outcome State Fault Refusal :=
  finish s (s.issue r 0x0C01 vbmReadBody)

/-- CLK_XIN_MEASURE (R595): Every 16 s XIN is measured against the RTC crystal into CLK_XIN_PPM, setting CLK.XIN_DRIFT
beyond 100 ppm. -/
def execClkXinMeasure (tenths : Int) (s : State) : Host.Outcome State Fault Refusal := finish s (s.xinMeasure tenths)

end Sys2Proof.Machine
end

