-- ==== Sys2Proof/Machine/QueueCmds.lean ====
section
/-! DEFINITION. The meanings of the commands of commands, queues and gloves (spec/04, spec/05). -/

namespace Sys2Proof.Machine

/-- NOP (R108): Command 0x0001 completes with no effect. -/
def execNop (r : Requester) (s : State) : Host.Outcome State Fault Refusal := finish s (s.issue r 0x0001 nopBody)

/-- QUEUE_CREATE (R109): Command 0x0002 creates a queue of a given kind, size and ring base for its owner glove. -/
def execQueueCreate (r : Requester) (s : State) : Host.Outcome State Fault Refusal :=
  finish s (s.issue r 0x0002 queueCreateBody)

/-- QUEUE_DESTROY (R110): Command 0x0003 ends a queue at once, leaving unread entries unread. -/
def execQueueDestroy (r : Requester) (s : State) : Host.Outcome State Fault Refusal :=
  finish s (s.issue r 0x0003 queueDestroyBody)

/-- QUEUE_QUERY (R108): Command 0x0004 returns a queue's indices and drop count. -/
def execQueueQuery (r : Requester) (s : State) : Host.Outcome State Fault Refusal :=
  finish s (s.issue r 0x0004 queueQueryBody)

/-- CMD_POLL_STAT_READ (R92): A read of CMD_POLL_STAT reports the polled handle's state and frees its slot when it
returns COMPLETE for a bank without a completion queue. -/
def execCmdPollStatRead (r : Requester) (parity : Bool) (s : State) : Host.Outcome State Fault Refusal :=
  finish s (s.onRead r Pg.cmd Rg.CMD_POLL_STAT (fun g a => a.pollRead (bankOf r) g parity))

/-- SLOT_TIMEOUT_FREE (R91): A completed slot of a bank without a completion queue is freed 10 s of TMB1 after
completion. -/
def execSlotTimeoutFree (slot : Nat) (s : State) : Host.Outcome State Fault Refusal :=
  finish s (s.whenUp (fun a => a.slotTimeout slot))

/-- COMPLETION_POSTED (R107): A completion held in its slot for want of queue space is posted once space appears, and
its slot is freed. -/
def execCompletionPosted (slot : Nat) (s : State) : Host.Outcome State Fault Refusal :=
  finish s (s.whenUp (fun a => a.postHeld slot))

/-- DB_INDEX_WRITE (R104): A write of a queue's software index advances it, or sets BADIDX if it is out of order or
overruns. -/
def execDbIndexWrite (r : Requester) (queue : Nat) (value : Word) (ecc : Bool) (s : State) : Host.Outcome State Fault Refusal :=
  finish s (s.onBell r (fun g a => a.bellIndex g queue value ecc))

/-- DB_CTRL_WRITE (R106): A write to DB_CTRL arms the queue or clears OVF and BADIDX, raising the queue event if its
condition holds. -/
def execDbCtrlWrite (r : Requester) (queue : Nat) (value : Word) (ecc : Bool) (s : State) : Host.Outcome State Fault Refusal :=
  finish s (s.onBell r (fun g a => a.bellCtrl g queue value ecc))

/-- GLOVE_SET (R127): Command 0x0201 sets a glove's active flag, DRAM region and command quota. -/
def execGloveSet (r : Requester) (s : State) : Host.Outcome State Fault Refusal :=
  finish s (s.issue r 0x0201 gloveSetBody)

/-- GLOVE_QBLOCK (R127): Command 0x0202 gives a QID block to a new owner glove. -/
def execGloveQblock (r : Requester) (s : State) : Host.Outcome State Fault Refusal :=
  finish s (s.issue r 0x0202 gloveQblockBody)

/-- GLOVE_RECLAIM (R128): Command 0x0203 deactivates a glove, destroys its queues and keys, gives its objects to glove 0
and zeroes its memory. -/
def execGloveReclaim (r : Requester) (s : State) : Host.Outcome State Fault Refusal :=
  finish s (s.issue r 0x0203 gloveReclaimBody)

/-- RECLAIM_ZERO_FILL_DONE (R128): The zero fill of a reclaimed glove's DRAM region ends and GLOVE_RECLAIM sets the
region to zero and completes. -/
def execReclaimZeroFillDone (glove : Nat) (s : State) : Host.Outcome State Fault Refusal :=
  finish s (s.whenUp (fun a => a.reclaimFilled glove))

end Sys2Proof.Machine
end

