-- ==== Sys2Proof/Machine/RegReads.lean ====
section
/-! DEFINITION. What a register reads: the common header (spec/03 R59 to R63), the registers that show state kept elsewhere,
and the stored ones. Reads are total; the glove rules stand in `State.readFor`. -/

namespace Sys2Proof.Machine

/-- 32 bits of a number, the word `k`. -/
def wordOf (n k : Nat) : Word := wd (n / 2 ^ (32 * k))

/-- The members of a list of bit numbers that fall into word `k`, as that word. -/
def maskWord (l : List Nat) (k : Nat) : Word := bitsWord ((l.filter (fun i => i / 32 == k)).map (· % 32))

-- The common header

/-- PG_CAP[23:0] (spec/03 R60, and R5, R158, R160, R215, R245, R282, R369, R390, R417, R439, R461, R481 to R485, R575). -/
def State.capOf (s : State) (p : Nat) : Nat :=
  match pageKind p with
  | some .sys => s.metrology.toNat
  | some .ces => 0x1001FF
  | some .cea => 16
  | some .ktl => 0x400030
  | some .lse => 0x200400
  | some .ptb => 0x10000
  | some .rs => 0x8002
  | some .tmb => (p != Pg.tmb 1).toNat
  | some .fp => 0x4008
  | some .can => 0x340
  | some .ain => 16
  | some .pin => 0x408
  | some .aout => 8
  | some .dio => 32
  | some .cdy => 0x284098
  | some .flt => 0xC0
  | _ => 0

/-- PG_CAP: the RWS fields of TMB1 do not exist (spec/15 R408). -/
def State.pgCap (s : State) (p : Nat) : Word :=
  let rws := match pageKind p with | some k => hasRws k && p != Pg.tmb 1 | none => false
  wd (s.capOf p + 2 ^ 30 * rws.toNat + 2 ^ 31 * (runCtrl p).toNat)

/-- PG_ID (spec/03 R56, R57). -/
def pgId (p : Nat) : Word :=
  match pageRow p with
  | some r => wd (r.block * 65536 + pageInst p * 256 + 1)
  | none => 0

/-- PG_STAT (spec/03 R62, spec/10 R282, spec/14 R390, spec/16 R439, spec/17 R461). -/
def State.pgStat (s : State) (p : Nat) : Word :=
  let k := pageInst p
  let low : Nat := match pageKind p with
    | some .cdy => s.cdyStat.toNat
    | some .rs => (s.rsPort (k == 1)).st
    | some .fp => (s.fpPasses k).toNat
    | some .can => bf (s.canStat k) 0 2
    | _ => 0
  setBit (wd low) 31 (s.nz p Hd.sticky)

/-- A register of the common header. -/
def State.headRead (s : State) (p off : Nat) : Word :=
  if off = Hd.id then pgId p
  else if off = Hd.cap then s.pgCap p
  else if off = Hd.stat then s.pgStat p
  else if off = Hd.irqRaw then s.irqRaw p
  else if off = Hd.owner then wd (s.owner p + 256 * (s.sharedRead p).toNat)
  else if off = Hd.run ∨ off = Hd.irqEn ∨ off = Hd.irqPend ∨ off = Hd.drop ∨ off = Hd.sticky then s.reg p off
  else 0

-- Modes, power, keys, update and faults

/-- SYS_MODE (spec/02 R40). -/
def State.sysMode (s : State) : Word :=
  wd (s.sys.mode.code + 8 * s.sys.boot.toNat + 16 * s.sys.fatal.toNat + 256 * s.fencedBits + 4096 * s.sys.prevMode.code
    + 65536 * s.sys.lastRestart)

/-- SYS_BOOT (spec/02 R41). -/
def State.sysBoot (s : State) : Word :=
  wd (s.sys.bootCause + 16 * s.sys.slot + 32 * s.sys.trial.toNat + 64 * s.sys.trialCount + 256 * s.sys.recovStrap.toNat
    + 512 * s.sys.recovReason)

/-- The registers of SYS. -/
def State.readSys (s : State) (off : Nat) : Word :=
  if off = Rg.SYS_MODE then s.sysMode
  else if off = Rg.SYS_BOOT then s.sysBoot
  else if off = Rg.SYS_RETAIN then s.sys.retain
  else if off = Rg.SYS_LOOP_COMMIT_SEQ then s.sys.loopSeq
  else if off = Rg.SYS_KTL_COMMIT_SEQ then s.sys.ktlSeq
  else if off = Rg.SYS_MODE_CHANGES then s.sys.changes
  else if off = Rg.SYS_SAFE_CAUSE then wd s.sys.safeCause
  else if off = Rg.SYS_RESET then 0
  else s.reg Pg.sys off

/-- The registers of PWR. -/
def State.readPwr (s : State) (off : Nat) : Word :=
  if off = Rg.PWR_STAT then s.pwrStat
  else if off = Rg.PWR_PFW_COUNT then s.nv.restart.pfwCount
  else s.reg Pg.pwr off

/-- The registers of LCS (spec/20 R533). -/
def State.readLcs (s : State) (off : Nat) : Word :=
  if off = Rg.LCS_STATE then s.lcsState
  else if off = Rg.LCS_COUNT then wd s.key.lcsCount
  else if off = Rg.LCS_SERIAL_LO then wordOf s.key.serial 0
  else wordOf s.key.serial 1

/-- The registers of KEY (spec/20 R532). -/
def State.readKey (s : State) (off : Nat) : Word :=
  if off = Rg.KEY_STAT then s.keyStat
  else if off = Rg.KEY_SEEDS0 then s.keySeeds 0
  else if off = Rg.KEY_SEEDS1 then s.keySeeds 1
  else if off = Rg.KEY_OPSEED0 then s.keyOpSeed 0
  else if off = Rg.KEY_OPSEED1 then s.keyOpSeed 1
  else s.reg Pg.key off

/-- The registers of UPD (spec/21 R554). -/
def State.readUpd (s : State) (off : Nat) : Word :=
  if off = Rg.UPD_STAT then s.updStat
  else if off = Rg.UPD_VER_A then wd (s.slotVersion 0)
  else if off = Rg.UPD_VER_B then wd (s.slotVersion 1)
  else if off = Rg.UPD_ROLLBACK then wd s.upd.rollback
  else if off = Rg.UPD_TRIAL_LEFT then s.trialLeft
  else if off = Rg.UPD_PROGRESS then s.updProgress
  else s.reg Pg.upd off

/-- The registers of FLT in bank `b` (spec/22 R575). -/
def State.readFlt (s : State) (b off : Nat) : Word :=
  if off = Rg.FLT_SEL then s.breg b Pg.flt off
  else if off = Rg.FLT_SEV then s.sevWord (bf (s.breg b Pg.flt Rg.FLT_SEL) 0 13)
  else if Rg.FLT_ACTIVE ≤ off ∧ off < Rg.FLT_NOTE then
    maskWord (allPages.filter (fun p => s.nz p Hd.sticky)) ((off - Rg.FLT_ACTIVE) / 4)
  else if off = Rg.FLT_CTRL then 0
  else s.reg Pg.flt off

-- Gloves and commands

/-- The owners of four QID blocks (spec/05 R124). -/
def State.qmapWord (s : State) (k : Nat) : Word :=
  wd ((List.range 4).foldr (fun i n => Sparse.get (dflt 0) s.glv.qmap (4 * k + i) + 256 * n) 0)

/-- The registers of GLV (spec/05 R123). -/
def State.readGlv (s : State) (off : Nat) : Word :=
  let n := (off - 0x100) / 16
  let gloves (f : Nat → Bool) (k : Nat) : Word := maskWord ((List.range 64).filter f) k
  if off = Rg.GLV_ACTIVE0 then gloves s.active 0
  else if off = Rg.GLV_ACTIVE1 then gloves s.active 1
  else if off = Rg.GLV_VIOL_NZ0 then gloves (fun g => s.nz Pg.glv (Rg.GLV_VIOL + 16 * g)) 0
  else if off = Rg.GLV_VIOL_NZ1 then gloves (fun g => s.nz Pg.glv (Rg.GLV_VIOL + 16 * g)) 1
  else if Rg.GLV_QMAP ≤ off then s.qmapWord ((off - Rg.GLV_QMAP) / 4)
  else match off % 16 with
    | 0 => s.glvCtrl n
    | 4 => s.glvMem n
    | 12 => s.glvSlots n
    | _ => s.reg Pg.glv off

/-- The registers of GVWn: all zero while glove `n` is inactive (spec/05 R126). -/
def State.readGvw (s : State) (n off : Nat) : Word :=
  if !s.active n then 0
  else if off = 0x40 then s.glvCtrl n
  else if off = 0x44 then s.glvMem n
  else if off = 0x48 then s.glvSlots n
  else if off = 0x4C then wd (s.pointCount n)
  else if off = 0x50 then wd (s.loopBytes n).length
  else if off = 0x54 then wd (s.tasksOfGlove n).length
  else if off = 0x58 ∨ off = 0x5C then maskWord (s.viewsOf n) ((off - 0x58) / 4)
  else if 0x60 ≤ off ∧ off < 0x80 then maskWord (s.blocksOf n) ((off - 0x60) / 4)
  else if off = 0x80 then wd (s.keysOf n).length
  else wd ((Sparse.get (dflt none) s.key.seeds n).isSome.toNat + 2 * (s.key.opSeed.contains n).toNat)

/-- The registers of CMD in bank `b`, for glove `g` (spec/04 R87, R92). -/
def State.readCmd (s : State) (b g off : Nat) : Word :=
  let polled (f : Slot → Word) : Word := match s.polled b g with
    | some n => if (s.slotOf n).complete then f (s.slotOf n) else 0
    | none => 0
  if off = Rg.CMD_OP then 0
  else if off = Rg.CMD_POLL_STAT then s.pollStat b g
  else if off = Rg.CMD_POLL_RES then polled (·.res0)
  else if off = Rg.CMD_POLL_RES + 4 then polled (·.res1)
  else if off = Rg.CMD_POLL_RES + 8 then polled (·.res2)
  else if off = Rg.CMD_POLL_TS_SEC then polled (·.tsSec)
  else if off = Rg.CMD_POLL_TS_NS then polled (·.tsNs)
  else if off = Rg.CMD_INFLIGHT then wd (s.inflight b)
  else s.breg b Pg.cmd off

-- Time

/-- The registers of RTC (spec/15 R420). -/
def State.readRtc (s : State) (off : Nat) : Word :=
  if off = Rg.RTC_TIME then s.rtc.time
  else if off = Rg.RTC_DATE then s.rtc.date
  else if off = Rg.RTC_STAT then s.rtc.stat
  else if off = Rg.RTC_CTRL then 0
  else s.reg Pg.rtc off

/-- The registers that TMB1 does not have (spec/15 R408). -/
def tmbAbsent (n off : Nat) : Bool :=
  n == 1 && (decide (off ≤ Rg.TMB_RATE) || (decide (Rg.TMB_STAT ≤ off) && decide (off ≤ Rg.TMB_SET_NS)))

/-- The registers of TMBn in bank `b` (spec/15 R398, R417). -/
def State.readTmb (s : State) (b n off : Nat) : Word :=
  let p := Pg.tmb n
  let t := s.tmb n
  if tmbAbsent n off then 0
  else if off = Rg.TMB_OFS_HI ∨ off = Rg.TMB_OFS_LO ∨ off = Rg.TMB_CAPTURE then 0
  else if off = Rg.TMB_RATE then BitVec.ofInt 32 t.rate
  else if off = Rg.TMB_NOW_NS then wd t.ns
  else if Rg.TMB_NOW_SEC_LO ≤ off ∧ off ≤ Rg.TMB_NOW_FRAC then s.breg b p off
  else if off = Rg.TMB_STAT then s.tmbStat n
  else if off = Rg.TMB_LAST_OFS_LO then wordOf (unsigned 64 t.last) 0
  else if off = Rg.TMB_LAST_OFS_HI then wordOf (unsigned 64 t.last) 1
  else s.reg p off

-- Control, points and leases

/-- CES_OWN and CES_ADOPT (spec/06 R159). -/
def State.loopCounts (s : State) (adopted : Bool) : Word :=
  wd (s.loopCount adopted true + 65536 * s.loopCount adopted false)

/-- The registers of CES (spec/06 R158). -/
def State.readCes (s : State) (off : Nat) : Word :=
  if off = Rg.CES_TICK_LO then wordOf s.ces.tick 0
  else if off = Rg.CES_OWN then s.loopCounts false
  else if off = Rg.CES_ADOPT then s.loopCounts true
  else if off = Rg.CES_ROM_ID then s.ces.romId
  else s.reg Pg.ces off

/-- CEA_STAT (spec/06 R161). -/
def State.ceaStat (s : State) (c : Nat) : Word :=
  let twin := s.ces.loops.any (fun e => e.2.owner.started && e.2.shadow.started && e.2.owner.chan == c && e.2.shadow.chan == c)
  wd ((s.lse.fenced.contains c).toNat + 2 * (s.supervisor == some c).toNat + 4 * twin.toNat)

/-- The registers of CEAn (spec/06 R160). -/
def State.readCea (s : State) (c off : Nat) : Word :=
  let lines (sram : Bool) : Nat := ((s.rolesIn c).filter (fun r => r.sram == sram)).length
  if off = Rg.CEA_STAT then s.ceaStat c
  else if off = Rg.CEA_ROLES then wd (s.rolesIn c).length
  else if off = Rg.CEA_LINES then wd (lines true + 65536 * lines false)
  else s.reg (Pg.cea c) off

/-- Task roles held by Kettle `c`. -/
def State.taskRolesIn (s : State) (c : Nat) : Nat :=
  ((s.ktl.tasks.flatMap (fun e => [e.2.owner, e.2.shadow])).filter (fun r => r.started && r.chan == c)).length

/-- The registers of KTLn (spec/08 R215). -/
def State.readKtl (s : State) (c off : Nat) : Word :=
  if off = Rg.KTL_ROLES then wd (s.taskRolesIn c)
  else if off = Rg.KTL_ROM_ID then s.ktl.romId
  else s.reg (Pg.ktl c) off

/-- LSE_CHAN (spec/09 R246). -/
def State.lseChan (s : State) : Word :=
  wd (s.fencedBits + 256 * (bitsWord s.lse.testPass).toNat + 65536 * s.supervisor.getD 0 + 2 ^ 18 * s.supervisor.isSome.toNat)

/-- LSE_STAT (spec/09 R246). -/
def State.lseStat (s : State) : Word :=
  let seen := s.lse.partnerSeen && decide (s.lse.partnerMiss < s.adoptMiss)
  wd (seen.toNat + 2 * s.partnerLost.toNat + 4 * s.lse.adopting.toNat + 8 * s.lse.pubStopped.toNat)

/-- The registers of LSE (spec/09 R245). -/
def State.readLse (s : State) (off : Nat) : Word :=
  if off = Rg.LSE_STAT then s.lseStat
  else if off = Rg.LSE_CHAN then s.lseChan
  else if off = Rg.LSE_HELD then wd (s.countGroups true .held + 65536 * s.countGroups false .held)
  else if off = Rg.LSE_LOST then wd (s.countGroups true .lost)
  else if off = Rg.LSE_WARM_GEN then s.lse.warmGen
  else s.reg Pg.lse off

/-- The registers of PTB (spec/13 R369). -/
def State.readPtb (s : State) (off : Nat) : Word :=
  if off = Rg.PTB_COUNT then wd ((s.pointsOf 1).length + 65536 * (s.pointsOf 2).length)
  else if off = Rg.PTB_LOCAL then wd (s.pointsOf 3).length
  else if off = Rg.PTB_FORCED then wd s.forcedPoints.length
  else s.reg Pg.ptb off

/-- The registers of TPI (spec/13 R370, R371). -/
def State.readTpi (s : State) (off : Nat) : Word :=
  if off = Rg.TPI_CYCLE_LO then wordOf s.ptb.cycle 0
  else if off = Rg.TPI_STAT then
    wd (s.ptb.closedE.toNat + 2 * s.ptb.closedW.toNat + 4 * s.publishing.toNat + 8 * s.adoptPublishing.toNat)
  else if off = Rg.TPI_STALE_NOW then wd s.staleNow
  else if off = Rg.TPI_EVQ then wd (s.queuesWith (fun _ x => x.kind == 2)).length
  else s.reg Pg.tpi off

-- Ports

/-- The registers of RSE and RSW (spec/14 R390). -/
def State.readRs (s : State) (west : Bool) (off : Nat) : Word :=
  if off = Rg.RS_STAT then s.rsStat west
  else if off = Rg.RS_RING then s.rsRing west
  else if Rg.RS_MAP ≤ off ∧ off < Rg.RS_TX_FRAMES then s.rsMapReg west ((off - Rg.RS_MAP) / 4)
  else if off = Rg.RS_DESKEW then wd (s.rsPort west).deskew
  else s.reg (rsPage west) off

/-- The registers of FPn (spec/16 R439). -/
def State.readFp (s : State) (k off : Nat) : Word :=
  if off = Rg.FP_STAT then s.fpStat k
  else if off = Rg.FP_MDIO_STAT then s.mdioStat k
  else s.reg (Pg.fp k) off

/-- The registers of CANn in bank `b` (spec/17 R461), the RAM window apart. -/
def State.readCan (s : State) (b c off : Nat) : Word :=
  let x := s.canOf c
  if off = Rg.CAN_STAT then s.canStat c
  else if off = Rg.CAN_ERRCNT then wd (x.tec + 65536 * x.rxc)
  else if off = Rg.CAN_RAM_BANK then s.breg b (Pg.can c) off
  else if off = Rg.CAN_TXPEND ∨ off = Rg.CAN_TXPEND + 4 then maskWord x.txPend ((off - Rg.CAN_TXPEND) / 4)
  else if off = Rg.CAN_RXF then s.canRxf c false
  else if off = Rg.CAN_RXF + 4 then s.canRxf c true
  else if off = Rg.CAN_TT_COUNT then wd (x.ttCount % 64)
  else if off = Rg.CAN_TT_STAMP_LO then wordOf x.ttStamp 0
  else if off = Rg.CAN_TT_STAMP_HI then wordOf x.ttStamp 1
  else if Rg.CAN_TXREQ ≤ off ∧ off < Rg.CAN_TXPEND then 0
  else if Rg.CAN_TXCANCEL ≤ off ∧ off < Rg.CAN_TXDONE then 0
  else s.reg (Pg.can c) off

-- Field inputs and outputs, and the Caddy

/-- The registers of AOUT (spec/18 R484). -/
def State.readAout (s : State) (off : Nat) : Word :=
  if off = Rg.AOUT_SRC then wd ((List.range 8).foldr (fun n x => (s.aoutDrive n).1 + 4 * x) 0)
  else if Rg.AOUT_CODE ≤ off then wd (unsigned 16 (s.aoutDrive ((off - Rg.AOUT_CODE) / 4)).2)
  else s.reg Pg.aout off

/-- The registers of DIO (spec/18 R485). -/
def State.readDio (s : State) (off : Nat) : Word :=
  if off = Rg.DIO_IN then bitsWord ((List.range 32).filter s.dioInBit)
  else if off = Rg.DIO_OUT then bitsWord ((List.range 32).filter s.dioOutBit)
  else if off = Rg.DIO_VIO then bitsWord ((List.range 4).filter (fun b => s.fio.vio.contains b))
  else s.reg Pg.dio off

/-- The registers of CDY as they stand: the Caddy's state, all but CDY_STAT zero while it is unpowered (spec/10 R282). -/
def State.liveCdy (s : State) (off : Nat) : Word :=
  let c := s.cdy
  let input (f : InSt → Bool) (k : Nat) : Word := maskWord ((List.range 152).filter (fun i => f (c.inp i))) k
  if off = Rg.CDY_STAT then s.cdyStat
  else if s.cdyGone then 0
  else if off = Rg.CDY_FW_VER then wd c.fwVer
  else if off = Rg.CDY_FW_CHECK then wd c.check
  else if off = Rg.CDY_MARKET then wd s.market
  else if off = Rg.CDY_PARAM_ID then wd c.paramId
  else if off = Rg.CDY_SERIAL_LO then wordOf c.serial 0
  else if off = Rg.CDY_SERIAL_HI then wordOf c.serial 1
  else if off = Rg.CDY_EVT_COUNT then wd c.evt
  else if off = Rg.CDY_EVT_LEGAL then wd c.legalCount
  else if off = Rg.CDY_CLK_ERR then BitVec.ofInt 32 c.clkErr
  else if off = Rg.CDY_CIRC_DEF0 ∨ off = Rg.CDY_CIRC_DEF1 then
    maskWord ((List.range 64).filter (fun k => (c.circ k).typ != 0)) ((off - Rg.CDY_CIRC_DEF0) / 4)
  else if off < Rg.CDY_LOSS then input (·.ovr) ((off - Rg.CDY_OVR) / 4)
  else input (·.loss) ((off - Rg.CDY_LOSS) / 4)

-- Every register

/-- The first word of the multi-word value that an offset of CDY belongs to, and its length (spec/10 R282). -/
def cdyGroup (off : Nat) : Nat × Nat :=
  if Rg.CDY_LOSS ≤ off then (Rg.CDY_LOSS, 5)
  else if Rg.CDY_OVR ≤ off then (Rg.CDY_OVR, 5)
  else if Rg.CDY_CIRC_DEF0 ≤ off then (Rg.CDY_CIRC_DEF0, 2)
  else if off = Rg.CDY_SERIAL_LO ∨ off = Rg.CDY_SERIAL_HI then (Rg.CDY_SERIAL_LO, 2)
  else (off, 1)

/-- The registers of CDY as bank `b` reads them: a later word of a multi-word value comes from the instant at which the bank read
its first word, if that was at most 1 ms ago (spec/10 R282). -/
def State.readCdy (s : State) (b off : Nat) : Word :=
  let base := (cdyGroup off).1
  match s.link.latches.find? (fun l => l.bank == b && l.base == base) with
  | some l => if off ≠ base ∧ s.cdy.ticks ≤ l.tick + 8 ∧ s.cdyGone = false then nth l.words ((off - base) / 4) 0 else s.liveCdy off
  | none => s.liveCdy off

/-- A read of the first word of a multi-word value of CDY latches it for the bank. -/
def State.cdyLatch (s : State) (b off : Nat) : State :=
  let g := cdyGroup off
  if g.1 = off ∧ 1 < g.2 then
    let w := (List.range g.2).map (fun k => s.liveCdy (off + 4 * k))
    { s with link := { s.link with
        latches := ⟨b, off, s.cdy.ticks, w⟩ :: s.link.latches.filter (fun l => !(l.bank == b && l.base == off)) } }
  else s

/-- A block register at an offset that has one. -/
def State.blockRead (s : State) (b g p off : Nat) : Word :=
  let k := pageInst p
  match pageKind p with
  | some .sys => s.readSys off
  | some .clk => if off = Rg.CLK_STAT then s.clkStat else s.reg p off
  | some .pwr => s.readPwr off
  | some .lcs => s.readLcs off
  | some .key => s.readKey off
  | some .upd => s.readUpd off
  | some .flt => s.readFlt b off
  | some .hst => if off = Rg.HST_STAT then s.hstStat else s.reg p off
  | some .glv => s.readGlv off
  | some .cmd => s.readCmd b g off
  | some .rtc => s.readRtc off
  | some .tmb => s.readTmb b k off
  | some .rs => s.readRs (k == 1) off
  | some .tpi => s.readTpi off
  | some .ptb => s.readPtb off
  | some .lse => s.readLse off
  | some .fp => s.readFp k off
  | some .can => s.readCan b k off
  | some .usb => if off = Rg.USB_STAT then s.usbStat else s.reg p off
  | some .pci => if off = Rg.PCI_STAT then s.pciStat else s.reg p off
  | some .ces => s.readCes off
  | some .cea => s.readCea k off
  | some .ktl => s.readKtl k off
  | some .ain => if off = Rg.AIN_CLAMP then bitsWord s.fio.clamp else s.reg p off
  | some .pin => s.reg p off
  | some .aout => s.readAout off
  | some .dio => s.readDio off
  | some .cdy => s.readCdy b off
  | some .gvw => s.readGvw k off
  | none => 0

/-- The RAM window of a CAN page (spec/17 R446). -/
def inCanRam (p off : Nat) : Bool := pageKind p == some .can && decide (0x800 ≤ off)

/-- What a register of page `p` reads in bank `b` for glove `g` that may read it; a reserved offset reads zero. -/
def State.readReg (s : State) (b g p off : Nat) : Word :=
  if off < 0x40 then s.headRead p off
  else if inCanRam p off then s.canRamRead b (pageInst p) off
  else if (regRow p off).isSome then s.blockRead b g p off
  else 0

-- Accesses of requesters (spec/00 R7, spec/03 R55, spec/19 R488, R494)

/-- Where the window begins for a requester (spec/00 R7): the cluster's map, or offset 0 of BAR0 and of the USB requests. -/
def windowBase : Requester → Nat
  | .core _ => 0x40000000
  | _ => 0

/-- The offset in the window of an address, if it lies there. -/
def windowOff (r : Requester) (a : Nat) : Option Nat :=
  if windowBase r ≤ a ∧ a < windowBase r + 0x1000000 then some (a - windowBase r) else none

/-- What a 32-bit read of a requester at a window offset returns (spec/03 R54, R55, R66, R68, spec/04 R105, spec/05 R115). -/
def State.readFor (s : State) (r : Requester) (off : Nat) : Word :=
  let p := off / 0x1000
  let o := off % 0x1000
  if !s.coreUp || off % 4 != 0 then 0
  else match s.gloveOf r with
    | none => 0
    | some g =>
      if !s.active g then 0
      else if isQdb p then
        let q := (p - 0x100) * 256 + o / 16
        if s.queueOwner q = g then s.bellRead q (o % 16 / 4) else 0
      else if s.hasPage p && s.mayRead g p o then s.readReg (bankOf r) g p o
      else 0

/-- What the read does to the module: a violation where it is denied, and the reads that latch or free something
(spec/04 R91, R105, spec/06 R158, spec/13 R370, spec/15 R398). -/
def State.readEffect (s : State) (r : Requester) (off : Nat) : State :=
  let p := off / 0x1000
  let o := off % 0x1000
  if off % 4 ≠ 0 then s
  else if isQdb p then
    s.whenUp (fun a => match a.gloveOf r with
      | none => a
      | some g => a.bellSeen g ((p - 0x100) * 256 + o / 16))
  else
    s.onRead r p o (fun g a =>
      if p = Pg.cmd ∧ o = Rg.CMD_POLL_STAT then a.pollRead (bankOf r) g false
      else if p = Pg.ces ∧ o = Rg.CES_TICK_LO then a.tickLatch
      else if p = Pg.tpi ∧ o = Rg.TPI_CYCLE_LO then a.cycleLatch
      else if p = Pg.cdy then a.cdyLatch (bankOf r) o
      else if inCanRam p o then a.canRamSeen (bankOf r) (pageInst p) o
      else if pageKind p = some .tmb ∧ o = Rg.TMB_NOW_NS then a.nowLatch (bankOf r) (pageInst p)
      else a)

/-- A 32-bit read: what it returns, and the state after it. -/
def State.readWord (s : State) (r : Requester) (off : Nat) : Word × State := (s.readFor r off, s.readEffect r off)

/-- A read of `size` bytes in the window (spec/03 R55): a byte or half word comes from its register, 64 bits are two reads, the
lower offset first; a misaligned read returns zero. -/
def State.windowRead (s : State) (r : Requester) (off size : Nat) : List Byte × State :=
  if off % size ≠ 0 then (leBytes size 0, s)
  else if size = 8 then
    let (a, s1) := s.readWord r off
    let (b, s2) := s1.readWord r (off + 4)
    (leBytes 4 a.toNat ++ leBytes 4 b.toNat, s2)
  else
    let (a, s1) := s.readWord r (off / 4 * 4)
    (((leBytes 4 a.toNat).drop (off % 4)).take size, s1)

/-- A 32-bit read of the CLE block by core `c` (spec/19 R491, R492, spec/05 R115). -/
def State.cleRead (s : State) (c off : Nat) : Word × State :=
  if !s.active (s.coreGloveOf c) then (0, s.violation (s.coreGloveOf c))
  else if off < 0x100 then (wd (s.routeOf (off / 4)), s)
  else if off = 0x100 then (match s.claimed c with | some e => wd e | none => full, s.claimRead c)
  else if off = 0x104 then (wd (s.pci.enable.contains c).toNat, s)
  else (0, s)

/-- Bytes read at a physical address outside the window: DRAM for the glove that may address it, with a violation otherwise
(spec/05 R118, R121), SRAM for cores of glove 0, the boot ROM for cores, and zeros anywhere else (spec/19 R488). -/
def State.memRead (s : State) (r : Requester) (a n : Nat) : List Byte × State :=
  let zero := leBytes n 0
  match s.gloveOf r with
  | none => (zero, s)
  | some g =>
    if r = .usb then (zero, s)
    else if !s.active g then (zero, s.violation g)
    else if inDram a n then (if s.memOk g a n then (s.load a n, s) else (zero, s.violation g))
    else match r with
      | .core _ =>
        if decide (0x1000000 ≤ a) && decide (a + n ≤ 0x1200000) && g == 0 then (s.load a n, s)
        else if a + n ≤ 0x20000 then ((List.range n).map (fun i => Config.bootRom (a + i)), s)
        else (zero, s)
      | _ => (zero, s)

/-- The function of a requester. -/
def fnOf : Requester → Option Nat
  | .pf => some 0
  | .vf v => some (v.val + 1)
  | _ => none

/-- The offset in BAR4 of an address of a function, which lies above BAR0 (log entry 47), with the function. -/
def bar4Off (r : Requester) (a : Nat) : Option (Nat × Nat) :=
  match fnOf r with
  | some f => if 0x2000000 ≤ a ∧ a < 0x2004000 then some (f, a - 0x2000000) else none
  | none => none

/-- A read of a function in its BAR4; one that has no access reads zero (spec/19 R494, R500). -/
def State.bar4At (s : State) (r : Requester) (f off size : Nat) : List Byte :=
  if (s.gloveOf r).isSome && off % size == 0 && (size == 4 || size == 8) then
    (List.range (size / 4)).flatMap (fun k => leBytes 4 (s.bar4Read f (off + 4 * k)).toNat)
  else leBytes size 0

/-- A read of a requester in its address map (spec/00 R7, spec/19 R488, R494): what it returns, and the state after it. -/
def State.readAt (s : State) (r : Requester) (a size : Nat) : List Byte × State :=
  if !s.coreUp then (leBytes size 0, s)
  else match windowOff r a with
    | some off => s.windowRead r off size
    | none =>
      match r with
      | .core c =>
        if 0x41000000 ≤ a ∧ a < 0x41001000 then
          if size = 4 ∧ a % 4 = 0 then
            let (w, s1) := s.cleRead c.val (a - 0x41000000)
            (leBytes 4 w.toNat, s1)
          else (leBytes size 0, s)
        else s.memRead r a size
      | _ => match bar4Off r a with
        | some (f, off) => (s.bar4At r f off size, s)
        | none => s.memRead r a size

end Sys2Proof.Machine
end

