-- ==== Sys2Proof/Machine/RegWrites.lean ====
section
/-! DEFINITION. What a register write does once its glove may make it (spec/03 R59 to R68 and the pages' own rules), and
the opcodes of the commands (spec/04 R96). -/

namespace Sys2Proof.Machine

-- Values that are stored as another value

/-- A field below its minimum is stored as the minimum. -/
def atLeast (w : Word) (lo len m : Nat) : Word := if bf w lo len < m then setBf w lo len m else w

/-- A field above its maximum is stored as the maximum. -/
def atMost (w : Word) (lo len m : Nat) : Word := if m < bf w lo len then setBf w lo len m else w

/-- A code that names nothing is stored as another. -/
def recode (w : Word) (lo len bad good : Nat) : Word := if bf w lo len = bad then setBf w lo len good else w

/-- FP_CFG: a rate outside the table of spec/16 R426 is stored as 1 Gbit/s. -/
def fpCfgNorm (w : Word) : Word :=
  let r := bf w 1 3
  if (bit w 0 && decide (r ≤ 2)) || (!bit w 0 && decide (2 ≤ r) && decide (r ≤ 5)) then w else setBf w 1 3 2

/-- PIN_CFG of input `n` (spec/18 R483). -/
def pinCfgNorm (n : Nat) (w : Word) : Word :=
  let m := bf w 0 3
  let w1 := if 4 < m ∨ (m = 4 ∧ n % 2 = 1) then setBf w 0 3 0 else w
  recode w1 4 2 3 0

/-- The value that is stored for a value written to the register (the fields' own rules in each chapter). -/
def stored (p off : Nat) (w : Word) : Word :=
  match pageKind p with
  | some .ces => if off = Rg.CES_STEAL then atLeast w 4 4 1 else w
  | some .lse =>
    if off = Rg.LSE_CTRL then atLeast w 24 4 1
    else if off = Rg.LSE_TIMING then atLeast (atLeast w 0 16 1) 16 4 2
    else if off = Rg.LSE_MIS_CFG then atLeast w 0 4 1
    else w
  | some .tpi =>
    if off = Rg.TPI_CTRL then atLeast (recode w 0 3 7 2) 4 4 2
    else if off = Rg.TPI_WIN then atLeast w 0 14 20
    else w
  | some .rs => if off = Rg.RS_CTRL then recode w 0 2 3 0 else w
  | some .tmb =>
    if off = Rg.TMB_LOCK then atLeast w 16 8 1
    else if off = Rg.TMB_HOLD_MS then atLeast w 0 16 10
    else w
  | some .fp =>
    if off = Rg.FP_CFG then fpCfgNorm w
    else if off = Rg.FP_EEE_CTL then atLeast w 16 16 1
    else w
  | some .can =>
    if off = Rg.CAN_CFG then recode (recode w 0 2 3 0) 16 2 3 0
    else if off = Rg.CAN_NBT then canTiming w
    else if off = Rg.CAN_TT_CYCLE then atMost (atLeast w 0 20 250) 0 20 1000000
    else w
  | some .pin =>
    if 0x100 ≤ off ∧ off < 0x200 then
      match off % 32 with
      | 0 => pinCfgNorm ((off - 0x100) / 32) w
      | 4 => atMost w 0 16 60000
      | _ => w
    else w
  | some .aout =>
    if off = Rg.AOUT_RANGE then (List.range 8).foldl (fun x n => recode x (2 * n) 2 3 0) w else w
  | some .dio =>
    if Rg.DIO_PWMPER ≤ off ∧ off < Rg.DIO_PWMPER + 16 then atMost (atLeast w 0 20 10) 0 20 1000000
    else if Rg.DIO_CFG ≤ off ∧ off % 8 = 0 then recode w 2 2 3 2
    else w
  | some .pci =>
    if off = Rg.PCI_CTRL then
      let w1 := recode (recode w 0 2 0 2) 0 2 3 2
      if 1 ≤ bf w1 2 3 ∧ bf w1 2 3 ≤ 4 then w1 else setBf w1 2 3 4
    else w
  | _ => w

/-- A write by access kind (spec/00 R8): W1C clears, RW stores, RWS stores while the page is STOPPED and counts a drop
otherwise (spec/03 R64). -/
def State.putReg (s : State) (p off : Nat) (w : Word) : State :=
  match regRow p off with
  | none => s
  | some r =>
    let old := s.reg p off
    let put (m : Word) : State := s.setReg p off (stored p off ((old &&& ~~~m) ||| (w &&& m)))
    if r.w1c ≠ 0 then s.setReg p off (old &&& ~~~(w &&& r.w1c))
    else if r.rws ≠ 0 then (if s.stopped p then put r.rws else s.bump p Hd.drop)
    else if r.rw ≠ 0 then put r.rw
    else s

/-- A write to a register kept per bank. -/
def State.putBank (s : State) (b p off : Nat) (w : Word) : State :=
  match regRow p off with
  | some r => if r.rw = 0 then s else s.setBreg b p off (w &&& r.rw)
  | none => s

/-- A write to the common header by glove `g` (spec/03 R61, R63 to R65, R83). -/
def State.headWrite (s : State) (g p off : Nat) (w : Word) : State :=
  if off = Hd.run then s.runReq p (bf w 0 2)
  else if off = Hd.irqEn then s.setReg p off w
  else if off = Hd.irqPend ∨ off = Hd.sticky then s.setReg p off (s.reg p off &&& ~~~w)
  else if off = Hd.owner then s.ownerWrite g p w
  else if off = Hd.drop then s.setReg p off w
  else s

/-- FP_CFG is written; a mismatch of rates that it makes is a fault (spec/16 R440, R441). -/
def State.fpCfgWrite (s : State) (k : Nat) (w : Word) : State :=
  let s1 := (s.putReg (Pg.fp k) Rg.FP_CFG w).fpIdleEnd k
  if s1.rateMismatch k && !s.rateMismatch k then s1.raiseSrc (Pg.fp k) 1 else s1

/-- A write of FP_EEE_CTL: without LPI_EN the MAC leaves low-power idle (spec/16 R437). -/
def State.eeeWrite (s : State) (k : Nat) (w : Word) : State :=
  let s1 := s.putReg (Pg.fp k) Rg.FP_EEE_CTL w
  if s1.flag (Pg.fp k) Rg.FP_EEE_CTL 0 then s1 else s1.fpWake k

/-- A time base's registers (spec/15 R400, R404, R408, R417). -/
def State.tmbWrite (s : State) (n off : Nat) (w : Word) : State :=
  let p := Pg.tmb n
  if tmbAbsent n off then s
  else if off = Rg.TMB_OFS_HI then s.setReg p off w
  else if off = Rg.TMB_OFS_LO then s.offsetSample n w
  else if off = Rg.TMB_RATE then s.rateWrite n w
  else if off = Rg.TMB_CAPTURE then s.capture n w
  else s.putReg p off w

/-- LSE_CTRL is written: another PARTNER has not been seen yet (spec/09 R229, R246). -/
def State.lseCtrlWrite (s : State) (w : Word) : State :=
  let s1 := s.putReg Pg.lse Rg.LSE_CTRL w
  if s1.fld Pg.lse Rg.LSE_CTRL 8 7 = s.fld Pg.lse Rg.LSE_CTRL 8 7 then s1 else s1.partnerNew

/-- A CAN channel's registers in bank `b` (spec/17 R446, R451, R453, R458, R461). -/
def State.canWrite (s : State) (b c off : Nat) (w : Word) : State :=
  if off = Rg.CAN_CTRL then s.canRecoverWrite c w
  else if off = Rg.CAN_RAM_BANK then s.putBank b (Pg.can c) off w
  else if off = Rg.CAN_TXREQ ∨ off = Rg.CAN_TXREQ + 4 then s.canTxReq c ((off - Rg.CAN_TXREQ) / 4) w
  else if off = Rg.CAN_TXCANCEL ∨ off = Rg.CAN_TXCANCEL + 4 then s.canTxCancel c ((off - Rg.CAN_TXCANCEL) / 4) w
  else if off = Rg.CAN_RXF_ACK ∨ off = Rg.CAN_RXF_ACK + 4 then s.canAck c (off != Rg.CAN_RXF_ACK) w
  else s.putReg (Pg.can c) off w

/-- A block register is written by glove `g` in bank `b`, CMD_OP apart. -/
def State.blockWrite (s : State) (b g p off : Nat) (w : Word) : State :=
  let k := pageInst p
  match pageKind p with
  | some .sys =>
    if off = Rg.SYS_RESTART_POLICY then (if g = 0 then s.policyWrite w else s)
    else if off = Rg.SYS_RESET then s.resetWrite g w
    else s.putReg p off w
  | some .pwr =>
    if off = Rg.PWR_PFW_COUNT then { s with nv := { s.nv with restart := { s.nv.restart with pfwCount := w } } }
    else s.putReg p off w
  | some .flt =>
    if off = Rg.FLT_SEL then s.putBank b p off w
    else if off = Rg.FLT_SEV then s.sevWrite (bf (s.breg b p Rg.FLT_SEL) 0 13) (bf w 0 3)
    else if off = Rg.FLT_CTRL then s.sevDefaults w
    else s.putReg p off w
  | some .cmd => s.putBank b p off w
  | some .rtc =>
    if off = Rg.RTC_CTRL then s.rtcCtrl w
    else if off = Rg.RTC_NUDGE then s.nudgeWrite w
    else s.putReg p off w
  | some .tmb => s.tmbWrite k off w
  | some .fp =>
    if off = Rg.FP_CFG then s.fpCfgWrite k w
    else if off = Rg.FP_MDIO_CTL then s.mdioWrite k w
    else if off = Rg.FP_EEE_CTL then s.eeeWrite k w
    else s.putReg p off w
  | some .can => if 0x800 ≤ off then s.canRamWrite b k off w else s.canWrite b k off w
  | some .pin =>
    if 0x100 ≤ off ∧ off < 0x200 ∧ off % 32 = 12 then s.pinLoad ((off - 0x100) / 32) w else s.putReg p off w
  | some .lse => if off = Rg.LSE_CTRL then s.lseCtrlWrite w else s.putReg p off w
  | some .pci =>
    if Rg.PCI_VF_GLOVE ≤ off ∧ off < Rg.PCI_VF_GLOVE + 28 then s.vfGlove ((off - Rg.PCI_VF_GLOVE) / 4 + 1) w
    else s.putReg p off w
  | some .key | some .upd | some .lcs | some .clk | some .hst | some .glv | some .rs | some .tpi | some .ptb
  | some .usb | some .ces | some .cea | some .ktl | some .ain | some .aout | some .dio | some .cdy | some .gvw =>
    s.putReg p off w
  | none => s

/-- A register write that the glove rules have let through. -/
def State.regStore (s : State) (b g p off : Nat) (w : Word) : State :=
  if off < 0x40 then s.headWrite g p off w else s.blockWrite b g p off w

-- Opcodes (spec/04 R96, R108 and the command tables of the chapters)

/-- Opcodes 0x0000 to 0x00FF. -/
def ops00 : List (Nat × (Ctx → State → State)) :=
  [ (0x0001, nopBody), (0x0002, queueCreateBody), (0x0003, queueDestroyBody), (0x0004, queueQueryBody) ]

/-- Opcodes 0x0100 to 0x01FF. -/
def ops01 : List (Nat × (Ctx → State → State)) :=
  [ (0x0101, sysRestartBody), (0x0102, sysEnterRunBody), (0x0103, sysEnterCommissionBody),
    (0x0104, sysEnterSafeBody), (0x0105, cfgSaveBody) ]

/-- Opcodes 0x0200 to 0x02FF. -/
def ops02 : List (Nat × (Ctx → State → State)) :=
  [ (0x0201, gloveSetBody), (0x0202, gloveQblockBody), (0x0203, gloveReclaimBody) ]

/-- Opcodes 0x0300 to 0x03FF; `fails`: the loop table entry cannot be read. -/
def ops03 (fails : Bool) : List (Nat × (Ctx → State → State)) :=
  [ (0x0301, loopWriteBody), (0x0302, loopReadBody), (0x0303, loopStartBody fails), (0x0304, loopStopBody),
    (0x0305, loopHandoverBody), (0x0306, loopQueryBody), (0x0307, loopClearBody) ]

/-- Opcodes 0x0400 to 0x04FF. -/
def ops04 : List (Nat × (Ctx → State → State)) :=
  [ (0x0401, taskWriteBody), (0x0402, taskReadBody), (0x0403, taskStartBody), (0x0404, taskStopBody),
    (0x0405, taskHandoverBody), (0x0406, taskQueryBody) ]

/-- Opcodes 0x0500 to 0x05FF. -/
def ops05 : List (Nat × (Ctx → State → State)) :=
  [ (0x0501, chSelftestBody), (0x0502, chFenceBody), (0x0503, lseClaimBody), (0x0504, lseReleaseBody),
    (0x0505, lseUnadoptBody), (0x0506, lseQueryBody), (0x0507, lseWarmTaskBody) ]

/-- Opcodes 0x0600 to 0x06FF. -/
def ops06 (fails : Bool) : List (Nat × (Ctx → State → State)) :=
  [ (0x0601, cdyIdentBody), (0x0602, cdyLogReadBody), (0x0610, cdySnapshotBody), (0x0611, cdyViewSetBody),
    (0x0612, cdyPublishBody), (0x0613, cdyCommitBody), (0x0614, cdyHarmonicsBody),
    (0x0620, cdyParamLoadBody fails), (0x0621, cdyParamReadBody), (0x0622, cdyPilotStatusBody),
    (0x0623, cdyCalBody), (0x0630, cdyImageLoadBody fails) ]

/-- Opcodes 0x0700 to 0x07FF. -/
def ops07 : List (Nat × (Ctx → State → State)) :=
  [ (0x0701, ptReadBody), (0x0702, ptWriteBody) ]

/-- Opcodes 0x0800 to 0x08FF. -/
def ops08 : List (Nat × (Ctx → State → State)) :=
  [ (0x0801, canRateDetectBody) ]

/-- Opcodes 0x0900 to 0x09FF. -/
def ops09 (fails : Bool) : List (Nat × (Ctx → State → State)) :=
  [ (0x0901, keyDeriveBody), (0x0902, keyDestroyBody), (0x0903, keyQueryBody), (0x0904, keyMacBody),
    (0x0905, keyEncryptBody), (0x0906, keyDecryptBody), (0x0907, keyWrapBody), (0x0908, keyUnwrapBody),
    (0x0909, keyPublicBody), (0x090A, keyVerifyBody), (0x090B, keyAttestBody), (0x090C, keySeedBody),
    (0x090D, keyRandomBody), (0x090E, keyCertBody), (0x0911, lcsProvisionBody fails false), (0x0912, lcsCertStoreBody),
    (0x0913, lcsTransitionBody fails false) ]

/-- Opcodes 0x0A00 to 0x0AFF. -/
def ops0A (fails : Bool) : List (Nat × (Ctx → State → State)) :=
  [ (0x0A01, updBeginBody), (0x0A02, updChunkBody), (0x0A03, updFinishBody), (0x0A04, updActivateBody),
    (0x0A05, updConfirmBody fails false), (0x0A06, updAbortBody) ]

/-- Opcodes 0x0B00 to 0x0BFF. -/
def ops0B : List (Nat × (Ctx → State → State)) :=
  [ (0x0B01, fltSaveBody) ]

/-- Opcodes 0x0C00 to 0x0CFF. -/
def ops0C : List (Nat × (Ctx → State → State)) :=
  [ (0x0C01, vbmReadBody) ]

/-- Every command body by its opcode; `fails` is the outcome of a fuse, of a read-back or of reading a table entry inside the command. -/
def cmdTable (fails : Bool) : List (Nat × (Ctx → State → State)) :=
  ops00 ++ ops01 ++ ops02 ++ ops03 fails ++ ops04 ++ ops05 ++ ops06 fails ++ ops07 ++ ops08
    ++ ops09 fails ++ ops0A fails ++ ops0B ++ ops0C

/-- The body of an opcode; one that is not assigned completes REFUSED_OP. -/
def cmdByOp (fails : Bool) (op : Nat) : Ctx → State → State :=
  match (cmdTable fails).find? (fun e => e.1 == op) with
  | some e => e.2
  | none => noOpBody

-- Accesses of requesters (spec/03 R55, spec/05 R118, spec/19 R488, R491)

/-- A 32-bit write at a window offset (spec/03 R54, R55). -/
def State.windowWrite (s : State) (r : Requester) (off : Nat) (w : Word) : State :=
  let p := off / 0x1000
  let o := off % 0x1000
  if p = Pg.cmd ∧ o = Rg.CMD_OP then s.issue r (bf w 0 16) (cmdByOp false (bf w 0 16))
  else if isQdb p then
    let q := (p - 0x100) * 256 + o / 16
    s.onBell r (fun g a => match o % 16 with
      | 0 => a.bellIndex g q w false
      | 8 => a.bellCtrl g q w false
      | _ => a.bellSeen g q)
  else s.onWrite r p o (fun g a => a.regStore (bankOf r) g p o w)

/-- A 32-bit write to the CLE block by core `c` (spec/19 R491). -/
def State.cleWrite (s : State) (c off : Nat) (w : Word) : State :=
  if s.coreUp && !s.active (s.coreGloveOf c) then s.violation (s.coreGloveOf c)
  else if s.coreUp && s.coreGloveOf c == 0 then
    if off < 0x100 then s.setRoute (off / 4) w.toNat
    else if off = 0x104 then
      { s with pci := { s.pci with enable := if bit w 0 then addN s.pci.enable c else delN s.pci.enable c } }
    else s
  else s

/-- Bytes are stored at a physical address: DRAM for the glove that may address it, SRAM for cores of glove 0; anywhere
else the write is ignored (spec/05 R118, R121, spec/19 R488). -/
def State.memWrite (s : State) (r : Requester) (a : Nat) (b : List Byte) : State :=
  if !s.coreUp then s
  else match s.gloveOf r with
    | none => s
    | some g =>
      if r = .usb then s
      else if !s.active g then s.violation g
      else if inDram a b.length then (if s.memOk g a b.length then s.store a b else s.violation g)
      else match r with
        | .core _ =>
          if decide (0x1000000 ≤ a) && decide (a + b.length ≤ 0x1200000) && g == 0 then s.store a b else s
        | _ => s

/-- Two 32-bit writes for a 64-bit access, the lower offset first; narrower or misaligned accesses are ignored. -/
def access32 (size off : Nat) (v : DWord) (f : State → Nat → Word → State) (s : State) : State :=
  let lo : Word := v.setWidth 32
  let hi : Word := (v >>> 32).setWidth 32
  if size = 4 ∧ off % 4 = 0 then f s off lo
  else if size = 8 ∧ off % 8 = 0 then f (f s off lo) (off + 4) hi
  else s

/-- A write of a requester in its address map (spec/00 R7, spec/19 R488, R494). -/
def State.writeAt (s : State) (r : Requester) (a size : Nat) (v : DWord) : State :=
  match windowOff r a with
  | some off => access32 size off v (fun x o w => x.windowWrite r o w) s
  | none =>
    match r with
    | .core c =>
      if 0x41000000 ≤ a ∧ a < 0x41001000 then
        access32 size (a - 0x41000000) v (fun x o w => x.cleWrite c.val o w) s
      else s.memWrite r a (leBytes size v.toNat)
    | _ => match bar4Off r a with
      | some (f, off) =>
        if s.coreUp && (s.gloveOf r).isSome then access32 size off v (fun x o w => x.bar4Write f o w) s else s
      | none => s.memWrite r a (leBytes size v.toNat)

/-- An access of a requester: a store, or a read, whose answer leaves the module. -/
def State.access (s : State) (r : Requester) (a size : Nat) (v : Option DWord) : State :=
  match v with
  | some w => s.writeAt r a size w
  | none =>
    let (b, s1) := s.readAt r a size
    s1.emit (.read r b)

/-- An uncorrectable error in the glove table, the QID map or a region check, met by an access (spec/05 R125). -/
def State.gloveEcc (s : State) : State := s.whenUp (fun a => a.raiseSrc Pg.glv 0)

-- Commands by other ways (spec/04 R100, spec/19 R502 to R504)

/-- A submission entry is read, and its command carried out; `ecc`: it cannot be read (spec/04 R111). One whose
place is not the owner's memory is not read, and counts (spec/05 R118). -/
def State.submit (s : State) (q : Nat) (fails ecc : Bool) : State :=
  if ecc then s.takeSpoilt q
  else match s.takeEntry q with
    | some (c, s1) => cmdByOp fails c.op c s1
    | none =>
      if s.coreUp && !s.pfw && (s.queue q).kind == 0 && s.active (s.queueOwner q) && s.canIssue (s.queueOwner q) then s.ringTried q
      else s

/-- REG_READ over USB: the words of consecutive registers, each read in its turn. -/
def State.usbReadWords (s : State) (off : Nat) : Nat → List Byte → State
  | 0, acc => s.emit (.ep0 acc)
  | n + 1, acc =>
    let b := if off < 0x1000000 then leBytes 4 (s.readFor .usb off).toNat else leBytes 4 0
    let s1 := if off < 0x1000000 then s.readEffect .usb off else s
    State.usbReadWords s1 (off + 4) n (acc ++ b)

/-- REG_WRITE over USB; without a session it is ignored. -/
def State.usbWriteWords (s : State) (off : Nat) (ws : List Word) : State :=
  match ws with
  | [] => s
  | w :: t =>
    let s1 := if off % 4 = 0 ∧ off < 0x1000000 then s.windowWrite .usb off w else s
    State.usbWriteWords s1 (off + 4) t

/-- A CMD request of the USB session (spec/19 R504): a submission of its glove, completed in the glove's ring. It waits for
a slot as an entry of a queue does. That of an inactive glove completes DONE with zero results (spec/05 R115), whatever its
quota. -/
def State.usbSubmit (s : State) (b : List Byte) (fails : Bool) : State :=
  match s.usb.session with
  | none => s
  | some g =>
    let n := s.nextSlot.getD 0
    let op := getLE b 0 2
    let args := leWords 8 (b.drop 8)
    let s1 := s.alloc n g op args .usb .usbRing (wd (getLE b 4 4))
    if s.pfw then s
    else if !s.active g then (if s.nextSlot.isSome then (s1.complete n 0).violation g else s)
    else if s.canIssue g then cmdByOp fails op ⟨n, g, op, args⟩ s1
    else s

-- The meanings

/-- REGISTER_WRITE (R55): A store of a requester in its address map takes its effect; with no value, a read. -/
def execRegisterWrite (r : Requester) (addr : Nat) (size : Nat) (value : Option DWord) (ecc : Bool) (s : State) :
    Host.Outcome State Fault Refusal :=
  finish s ((if ecc then s.gloveEcc else s).access r addr size value)

/-- SUBMISSION_ENTRY_READ (R100): The module reads the head entry of a submission queue and carries out its command. -/
def execSubmissionEntryRead (queue : Nat) (fails ecc : Bool) (s : State) : Host.Outcome State Fault Refusal :=
  finish s (s.submit queue fails ecc)

/-- REG_READ (R502): USB request 0x10 returns consecutive registers to the session. -/
def execRegRead (off len : Nat) (s : State) : Host.Outcome State Fault Refusal :=
  finish s (s.onVendor (fun a => a.usbReadWords off (len / 4) []))

/-- REG_WRITE (R502): USB request 0x11 writes consecutive registers for the session. -/
def execRegWrite (off : Nat) (words : List Word) (s : State) : Host.Outcome State Fault Refusal :=
  finish s (s.onVendor (fun a => a.usbWriteWords off words))

/-- CMD (R504): USB request 0x20 creates a command as a submission of the session glove. -/
def execCmd (entry : List Byte) (fails : Bool) (s : State) : Host.Outcome State Fault Refusal :=
  finish s (s.onVendor (fun a => a.usbSubmit entry fails))

/-- UNASSIGNED_OPCODE (R96): A CMD_OP write with this opcode: one that is not assigned completes REFUSED_OP. -/
def execUnassignedOpcode (r : Requester) (op : Nat) (s : State) : Host.Outcome State Fault Refusal :=
  finish s (s.issue r op (cmdByOp false op))

end Sys2Proof.Machine
end

