-- ==== Sys2Proof/Machine/RiserCmds.lean ====
section
/-! DEFINITION. The meanings of the commands of the riser (spec/14). -/

namespace Sys2Proof.Machine

/-- RISER_FRAME_RX (R375): A riser frame is received and removed, delivered or forwarded by its tag. -/
def execRiserFrameRx (west : Bool) (tag : List Byte) (frame : List Byte) (fec : Fec) (ago : Nat) (s : State) : Host.Outcome State Fault Refusal :=
  finish s (s.whenRs (fun a => a.riserReceive west tag frame fec ago))

/-- RISER_FRAME_TX (R378): A riser port starts the next frame by class precedence. -/
def execRiserFrameTx (west : Bool) (ecc : Bool) (s : State) : Host.Outcome State Fault Refusal :=
  finish s (s.whenRs (fun a => (if ecc && a.rsUp west then a.riserSpoil west else a).riserTransmit west))

/-- RISER_HELLO_SEND (R380): Every 1 ms each UP port sends HELLO. -/
def execRiserHelloSend (s : State) : Host.Outcome State Fault Refusal := finish s (s.whenRs (fun a => a.helloSend))

/-- RISER_ANNOUNCE_SEND (R380): Every 10 ms the module broadcasts ANNOUNCE. -/
def execRiserAnnounceSend (s : State) : Host.Outcome State Fault Refusal := finish s (s.whenRs (fun a => a.announce))

/-- RING_MAP_EXPIRY (R380): An address not heard for 30 ms leaves the ring map. -/
def execRingMapExpiry (west : Bool) (addr : Nat) (s : State) : Host.Outcome State Fault Refusal :=
  finish s (s.whenRs (fun a => a.mapExpire west addr))

/-- RISER_TRAINING_START (R386): A DOWN port with a module present begins TRAINING. -/
def execRiserTrainingStart (west : Bool) (present : Bool) (s : State) : Host.Outcome State Fault Refusal :=
  finish s (s.whenRs (fun a => a.rsTrain west present))

/-- RISER_TRAINING_DONE (R386): Every lane in use has locked and adapted and the port enters ALIGNING. -/
def execRiserTrainingDone (west : Bool) (s : State) : Host.Outcome State Fault Refusal :=
  finish s (s.whenRs (fun a => a.rsTrained west))

/-- RISER_ALIGNED (R386): Marker lock, lane identity and deskew are reached and the port enters AUTH. -/
def execRiserAligned (west : Bool) (deskew : Nat) (s : State) : Host.Outcome State Fault Refusal :=
  finish s (s.whenRs (fun a => a.rsAligned west deskew))

/-- RISER_CHALLENGE_RX (R387): A peer CHALLENGE is answered with a RESPONSE. -/
def execRiserChallengeRx (west : Bool) (pdu : List Byte) (s : State) : Host.Outcome State Fault Refusal :=
  finish s (s.whenRs (fun a => a.challengeRx west pdu))

/-- RISER_RESPONSE_RX (R387): A peer RESPONSE is verified and the port enters UP or AUTH_FAIL. -/
def execRiserResponseRx (west : Bool) (pdu : List Byte) (s : State) : Host.Outcome State Fault Refusal :=
  finish s (s.whenRs (fun a => a.responseRx west pdu))

/-- RISER_BRINGUP_TIMEOUT (R386): TRAINING, ALIGNING or AUTH does not finish in time and the port goes DOWN or
AUTH_FAIL. -/
def execRiserBringupTimeout (west : Bool) (badLanes : Nat) (s : State) : Host.Outcome State Fault Refusal :=
  finish s (s.whenRs (fun a => a.rsTimeout west badLanes))

/-- RISER_AUTH_RETRY (R386): 10 s after AUTH_FAIL the port returns to AUTH. -/
def execRiserAuthRetry (west : Bool) (s : State) : Host.Outcome State Fault Refusal :=
  finish s (s.whenRs (fun a => a.rsRetry west))

/-- RISER_LINK_DOWN (R388): Marker loss, uncorrectable codewords, missing HELLO or module removal takes the port DOWN.
-/
def execRiserLinkDown (west : Bool) (cause : LinkDown) (badLanes : Nat) (fec : Fec) (cut : Bool)
    (part : Option (List Byte × List Byte)) (s : State) : Host.Outcome State Fault Refusal :=
  finish s (s.whenRs (fun a => a.rsLost west cause badLanes fec cut part))

/-- ADDR_CLASH_CLEAR (R381): ADDR_CLASH clears 30 ms after the last clashing frame. -/
def execAddrClashClear (s : State) : Host.Outcome State Fault Refusal :=
  finish s (s.whenRs (fun a => { a with rs := { a.rs with clash := false } }))

end Sys2Proof.Machine
end

