-- ==== Sys2Proof/Machine/TimeCmds.lean ====
section
/-! DEFINITION. The meanings of the commands of time bases and the real-time clock (spec/15). -/

namespace Sys2Proof.Machine

/-- XTAL_STOP (R425): No RTC crystal edge for 1 ms sets XTAL_STOP. -/
def execXtalStop (s : State) : Host.Outcome State Fault Refusal := finish s s.xtalGone

/-- XTAL_RESUME (R425): An RTC crystal edge arrives after a stop and XTAL_STOP clears. -/
def execXtalResume (s : State) : Host.Outcome State Fault Refusal :=
  finish s ({ s with rtc := { s.rtc with xtalStop := false } })

/-- TMB_OFFSET_SAMPLE (R401): A write of TMB_OFS_LO hands an offset to the servo, which slews or steps the time base. -/
def execTmbOffsetSample (r : Requester) (base : Nat) (value : Word) (s : State) : Host.Outcome State Fault Refusal :=
  finish s (s.onWrite r (Pg.tmb base) Rg.TMB_OFS_LO (fun _ a => a.offsetSample base value))

/-- TMB_HOLDOVER (R403): No sample for TMB_HOLD_MS puts a time base into holdover at its integral rate. -/
def execTmbHoldover (base : Nat) (s : State) : Host.Outcome State Fault Refusal := finish s (s.holdover base)

/-- TMB_NOW_NS_READ (R398): A read of TMB_NOW_NS returns NS and latches SEC and FRAC for the requester. -/
def execTmbNowNsRead (r : Requester) (base : Nat) (s : State) : Host.Outcome State Fault Refusal :=
  finish s (s.onRead r (Pg.tmb base) Rg.TMB_NOW_NS (fun _ a => a.nowLatch (bankOf r) base))

/-- TMB_CAPTURE (R417): A write captures all four time bases at one TCLK edge. -/
def execTmbCapture (r : Requester) (base : Nat) (value : Word) (s : State) : Host.Outcome State Fault Refusal :=
  finish s (s.onWrite r (Pg.tmb base) Rg.TMB_CAPTURE (fun _ a => a.capture base value))

/-- RTC_LOAD (R422): A write of LOAD sets LOAD_BUSY for the RTC to take the set time and date. -/
def execRtcLoad (r : Requester) (value : Word) (s : State) : Host.Outcome State Fault Refusal :=
  finish s (s.onWrite r Pg.rtc Rg.RTC_CTRL (fun _ a => a.rtcCtrl value))

/-- RTC_LOAD_APPLIED (R422): At the third crystal edge the RTC takes the set values and clears LOST. -/
def execRtcLoadApplied (s : State) : Host.Outcome State Fault Refusal :=
  finish s ({ s with rtc := s.rtc.loaded (s.reg Pg.rtc Rg.RTC_SET_TIME) (s.reg Pg.rtc Rg.RTC_SET_DATE) })

/-- RTC_NUDGE_WRITE (R423): A write stores a clamped nudge and sets NUDGE_BUSY. -/
def execRtcNudgeWrite (r : Requester) (value : Word) (s : State) : Host.Outcome State Fault Refusal :=
  finish s (s.onWrite r Pg.rtc Rg.RTC_NUDGE (fun _ a => a.nudgeWrite value))

/-- RTC_NUDGE_APPLIED (R423): At the next SUBSEC wrap the nudge shortens or lengthens the second. -/
def execRtcNudgeApplied (s : State) : Host.Outcome State Fault Refusal := finish s ({ s with rtc := s.rtc.nudged })

/-- RTC_SECOND_CARRY (R424): A SUBSEC wrap carries through the time and date fields. -/
def execRtcSecondCarry (s : State) : Host.Outcome State Fault Refusal := finish s ({ s with rtc := s.rtc.wrap })

/-- LAUNCH_DUE (R413): A held frame's launch time falls due and the frame is started or judged late. -/
def execLaunchDue (queue : Nat) (s : State) : Host.Outcome State Fault Refusal := finish s (s.launchDue queue)

end Sys2Proof.Machine
end

