-- ==== Sys2Proof/Machine/Dispatch.lean ====
section
/-! DEFINITION. What each command does to everything but the queue: one arm per row of spec/opcode_table.json. -/

namespace Sys2Proof.Machine

/-- The effect of a command (spec/95: one row per step). -/
def exec (i : Instr) (s : State) : Host.Outcome State Fault Refusal :=
  match i with
  | .registerWrite r addr size value ecc => Sys2Proof.Machine.execRegisterWrite r addr size value ecc s
  | .pgRunWrite r page req => Sys2Proof.Machine.execPgRunWrite r page req s
  | .pageStarted page spoilt => Sys2Proof.Machine.execPageStarted page spoilt s
  | .pageStopped page => Sys2Proof.Machine.execPageStopped page s
  | .pgOwnerWrite r page value => Sys2Proof.Machine.execPgOwnerWrite r page value s
  | .pageEventDelivery event => Sys2Proof.Machine.execPageEventDelivery event s
  | .sysResetWrite r value => Sys2Proof.Machine.execSysResetWrite r value s
  | .sysRestartPolicyWrite r value => Sys2Proof.Machine.execSysRestartPolicyWrite r value s
  | .sysRestart r => Sys2Proof.Machine.execSysRestart r s
  | .sysEnterRun r => Sys2Proof.Machine.execSysEnterRun r s
  | .sysEnterCommission r => Sys2Proof.Machine.execSysEnterCommission r s
  | .sysEnterSafe r => Sys2Proof.Machine.execSysEnterSafe r s
  | .cfgSave r => Sys2Proof.Machine.execCfgSave r s
  | .nop r => Sys2Proof.Machine.execNop r s
  | .queueCreate r => Sys2Proof.Machine.execQueueCreate r s
  | .queueDestroy r => Sys2Proof.Machine.execQueueDestroy r s
  | .queueQuery r => Sys2Proof.Machine.execQueueQuery r s
  | .cmdPollStatRead r parity => Sys2Proof.Machine.execCmdPollStatRead r parity s
  | .slotTimeoutFree slot => Sys2Proof.Machine.execSlotTimeoutFree slot s
  | .completionPosted slot => Sys2Proof.Machine.execCompletionPosted slot s
  | .submissionEntryRead queue fails ecc => Sys2Proof.Machine.execSubmissionEntryRead queue fails ecc s
  | .dbIndexWrite r queue value ecc => Sys2Proof.Machine.execDbIndexWrite r queue value ecc s
  | .dbCtrlWrite r queue value ecc => Sys2Proof.Machine.execDbCtrlWrite r queue value ecc s
  | .gloveSet r => Sys2Proof.Machine.execGloveSet r s
  | .gloveQblock r => Sys2Proof.Machine.execGloveQblock r s
  | .gloveReclaim r => Sys2Proof.Machine.execGloveReclaim r s
  | .loopWrite r => Sys2Proof.Machine.execLoopWrite r s
  | .loopRead r => Sys2Proof.Machine.execLoopRead r s
  | .loopStart r ecc => Sys2Proof.Machine.execLoopStart r ecc s
  | .loopStop r => Sys2Proof.Machine.execLoopStop r s
  | .loopHandover r => Sys2Proof.Machine.execLoopHandover r s
  | .loopQuery r => Sys2Proof.Machine.execLoopQuery r s
  | .loopClearFlags r => Sys2Proof.Machine.execLoopClearFlags r s
  | .tickBoundary strikes => Sys2Proof.Machine.execTickBoundary strikes s
  | .unitTestDone task item shadow pass => Sys2Proof.Machine.execUnitTestDone task item shadow pass s
  | .cupStepDone ch cup upset stall => Sys2Proof.Machine.execCupStepDone ch cup upset stall s
  | .stepTimeout ch cup stall => Sys2Proof.Machine.execStepTimeout ch cup stall s
  | .cesTickLoRead r => Sys2Proof.Machine.execCesTickLoRead r s
  | .taskWrite r => Sys2Proof.Machine.execTaskWrite r s
  | .taskRead r => Sys2Proof.Machine.execTaskRead r s
  | .taskStart r => Sys2Proof.Machine.execTaskStart r s
  | .taskStop r => Sys2Proof.Machine.execTaskStop r s
  | .taskHandover r => Sys2Proof.Machine.execTaskHandover r s
  | .taskQuery r => Sys2Proof.Machine.execTaskQuery r s
  | .kettleCallEntry ch upset => Sys2Proof.Machine.execKettleCallEntry ch upset s
  | .kettleCommitDone task ok => Sys2Proof.Machine.execKettleCommitDone task ok s
  | .kettleOverrun task shadow => Sys2Proof.Machine.execKettleOverrun task shadow s
  | .loopIntegratorCommit ok => Sys2Proof.Machine.execLoopIntegratorCommit ok s
  | .chSelftest r => Sys2Proof.Machine.execChSelftest r s
  | .chFence r => Sys2Proof.Machine.execChFence r s
  | .heartbeat => Sys2Proof.Machine.execHeartbeat s
  | .supervisorTakeover ch => Sys2Proof.Machine.execSupervisorTakeover ch s
  | .channelHbLost ch => Sys2Proof.Machine.execChannelHbLost ch s
  | .lseClaim r => Sys2Proof.Machine.execLseClaim r s
  | .lseRelease r => Sys2Proof.Machine.execLseRelease r s
  | .lseUnadopt r => Sys2Proof.Machine.execLseUnadopt r s
  | .lseQuery r => Sys2Proof.Machine.execLseQuery r s
  | .lseWarmTask r => Sys2Proof.Machine.execLseWarmTask r s
  | .relayWriteRx frame => Sys2Proof.Machine.execRelayWriteRx frame s
  | .tpiCycleBoundary table spoilt => Sys2Proof.Machine.execTpiCycleBoundary table spoilt s
  | .leaseSendInstant => Sys2Proof.Machine.execLeaseSendInstant s
  | .leaseAnswerRx can port node vlan pdu => Sys2Proof.Machine.execLeaseAnswerRx can port node vlan pdu s
  | .tpiFrameRx west frame => Sys2Proof.Machine.execTpiFrameRx west frame s
  | .tpiCycleLoRead r => Sys2Proof.Machine.execTpiCycleLoRead r s
  | .ptRead r => Sys2Proof.Machine.execPtRead r s
  | .ptWrite r => Sys2Proof.Machine.execPtWrite r s
  | .fltSevWrite r value ecc => Sys2Proof.Machine.execFltSevWrite r value ecc s
  | .fltCtrlDefaults r value => Sys2Proof.Machine.execFltCtrlDefaults r value s
  | .fltSave r => Sys2Proof.Machine.execFltSave r s
  | .hatstandActs => Sys2Proof.Machine.execHatstandActs s
  | .hatstandBeat => Sys2Proof.Machine.execHatstandBeat s
  | .hatstandLost => Sys2Proof.Machine.execHatstandLost s
  | .hstRcMeasure khz => Sys2Proof.Machine.execHstRcMeasure khz s
  | .vinGood => Sys2Proof.Machine.execVinGood s
  | .internalResetEnd recovLow => Sys2Proof.Machine.execInternalResetEnd recovLow s
  | .startupSelftest failing spoilt => Sys2Proof.Machine.execStartupSelftest failing spoilt s
  | .slotSelection => Sys2Proof.Machine.execSlotSelection s
  | .imageLoaded badChunk => Sys2Proof.Machine.execImageLoaded badChunk s
  | .startupComplete spoilt => Sys2Proof.Machine.execStartupComplete spoilt s
  | .startupRetry => Sys2Proof.Machine.execStartupRetry s
  | .pfw => Sys2Proof.Machine.execPfw s
  | .pfwCommitDone ok => Sys2Proof.Machine.execPfwCommitDone ok s
  | .vinDark => Sys2Proof.Machine.execVinDark s
  | .powerRestart => Sys2Proof.Machine.execPowerRestart s
  | .resetNAssert => Sys2Proof.Machine.execResetNAssert s
  | .resetNRelease => Sys2Proof.Machine.execResetNRelease s
  | .rootUnlock => Sys2Proof.Machine.execRootUnlock s
  | .rootRelock => Sys2Proof.Machine.execRootRelock s
  | .supplyEvent kind value => Sys2Proof.Machine.execSupplyEvent kind value s
  | .vioBankChange bank good => Sys2Proof.Machine.execVioBankChange bank good s
  | .vbatDomainPowerOn => Sys2Proof.Machine.execVbatDomainPowerOn s
  | .tamper vbat closes => Sys2Proof.Machine.execTamper vbat closes s
  | .csealChange isOpen => Sys2Proof.Machine.execCsealChange isOpen s
  | .vbmRead r => Sys2Proof.Machine.execVbmRead r s
  | .xtalStop => Sys2Proof.Machine.execXtalStop s
  | .tmbOffsetSample r base value => Sys2Proof.Machine.execTmbOffsetSample r base value s
  | .tmbHoldover base => Sys2Proof.Machine.execTmbHoldover base s
  | .tmbNowNsRead r base => Sys2Proof.Machine.execTmbNowNsRead r base s
  | .tmbCapture r base value => Sys2Proof.Machine.execTmbCapture r base value s
  | .rtcLoad r value => Sys2Proof.Machine.execRtcLoad r value s
  | .rtcLoadApplied => Sys2Proof.Machine.execRtcLoadApplied s
  | .rtcNudgeWrite r value => Sys2Proof.Machine.execRtcNudgeWrite r value s
  | .rtcNudgeApplied => Sys2Proof.Machine.execRtcNudgeApplied s
  | .rtcSecondCarry => Sys2Proof.Machine.execRtcSecondCarry s
  | .launchDue queue => Sys2Proof.Machine.execLaunchDue queue s
  | .caddyStart fault isOpen => Sys2Proof.Machine.execCaddyStart fault isOpen s
  | .vmetTrip holdUp torn => Sys2Proof.Machine.execVmetTrip holdUp torn s
  | .sealChange isOpen => Sys2Proof.Machine.execSealChange isOpen s
  | .clkFallback => Sys2Proof.Machine.execClkFallback s
  | .clkRoot => Sys2Proof.Machine.execClkRoot s
  | .fallbackMeasure ppb => Sys2Proof.Machine.execFallbackMeasure ppb s
  | .tmb3Copy => Sys2Proof.Machine.execTmb3Copy s
  | .timeHoldover => Sys2Proof.Machine.execTimeHoldover s
  | .dataLoss input bitNo => Sys2Proof.Machine.execDataLoss input bitNo s
  | .ovr input bitNo => Sys2Proof.Machine.execOvr input bitNo s
  | .summaryWrite typ subject => Sys2Proof.Machine.execSummaryWrite typ subject s
  | .windowBoundary commitFails => Sys2Proof.Machine.execWindowBoundary commitFails s
  | .pulseStart output => Sys2Proof.Machine.execPulseStart output s
  | .pulseEnd output => Sys2Proof.Machine.execPulseEnd output s
  | .steepIntervalEnd input => Sys2Proof.Machine.execSteepIntervalEnd input s
  | .vrefMeasure rho => Sys2Proof.Machine.execVrefMeasure rho s
  | .pilotDriver driver fault => Sys2Proof.Machine.execPilotDriver driver fault s
  | .pilotStale input => Sys2Proof.Machine.execPilotStale input s
  | .caddyPointPublish => Sys2Proof.Machine.execCaddyPointPublish s
  | .cdyEventPost => Sys2Proof.Machine.execCdyEventPost s
  | .cdyIdent r => Sys2Proof.Machine.execCdyIdent r s
  | .cdyLogRead r => Sys2Proof.Machine.execCdyLogRead r s
  | .cdySnapshot r => Sys2Proof.Machine.execCdySnapshot r s
  | .cdyViewSet r => Sys2Proof.Machine.execCdyViewSet r s
  | .cdyPublish r => Sys2Proof.Machine.execCdyPublish r s
  | .cdyCommit r => Sys2Proof.Machine.execCdyCommit r s
  | .cdyHarmonics r => Sys2Proof.Machine.execCdyHarmonics r s
  | .cdyParamLoad r readBackFails => Sys2Proof.Machine.execCdyParamLoad r readBackFails s
  | .cdyParamRead r => Sys2Proof.Machine.execCdyParamRead r s
  | .cdyPilotStatus r => Sys2Proof.Machine.execCdyPilotStatus r s
  | .cdyCalMeasure r => Sys2Proof.Machine.execCdyCalMeasure r s
  | .cdyImageLoad r readBackFails => Sys2Proof.Machine.execCdyImageLoad r readBackFails s
  | .riserFrameRx west tag frame fec ago => Sys2Proof.Machine.execRiserFrameRx west tag frame fec ago s
  | .riserFrameTx west ecc => Sys2Proof.Machine.execRiserFrameTx west ecc s
  | .riserHelloSend => Sys2Proof.Machine.execRiserHelloSend s
  | .riserAnnounceSend => Sys2Proof.Machine.execRiserAnnounceSend s
  | .ringMapExpiry west addr => Sys2Proof.Machine.execRingMapExpiry west addr s
  | .riserTrainingStart west present => Sys2Proof.Machine.execRiserTrainingStart west present s
  | .riserTrainingDone west => Sys2Proof.Machine.execRiserTrainingDone west s
  | .riserAligned west deskew => Sys2Proof.Machine.execRiserAligned west deskew s
  | .riserChallengeRx west pdu => Sys2Proof.Machine.execRiserChallengeRx west pdu s
  | .riserResponseRx west pdu => Sys2Proof.Machine.execRiserResponseRx west pdu s
  | .riserBringupTimeout west badLanes => Sys2Proof.Machine.execRiserBringupTimeout west badLanes s
  | .riserAuthRetry west => Sys2Proof.Machine.execRiserAuthRetry west s
  | .riserLinkDown west cause badLanes fec cut part => Sys2Proof.Machine.execRiserLinkDown west cause badLanes fec cut part s
  | .addrClashClear => Sys2Proof.Machine.execAddrClashClear s
  | .fpFrameRx port frame room ago ecc inputs => Sys2Proof.Machine.execFpFrameRx port frame room ago ecc inputs s
  | .fpFrameTx port => Sys2Proof.Machine.execFpFrameTx port s
  | .fpTxDone port sent => Sys2Proof.Machine.execFpTxDone port sent s
  | .fpLinkChange port link rate half cut => Sys2Proof.Machine.execFpLinkChange port link rate half cut s
  | .lpiEntry port => Sys2Proof.Machine.execLpiEntry port s
  | .mdioStart r port value => Sys2Proof.Machine.execMdioStart r port value s
  | .mdioDone port data => Sys2Proof.Machine.execMdioDone port data s
  | .canFrameRx ch f ago ecc bad inputs => Sys2Proof.Machine.execCanFrameRx ch f ago ecc bad inputs s
  | .canTxreqWrite r ch reg value => Sys2Proof.Machine.execCanTxreqWrite r ch reg value s
  | .canTxcancelWrite r ch reg value => Sys2Proof.Machine.execCanTxcancelWrite r ch reg value s
  | .canArbitration ch ecc => Sys2Proof.Machine.execCanArbitration ch ecc s
  | .canTxDone ch => Sys2Proof.Machine.execCanTxDone ch s
  | .canErrorFrame ch lec dataPhase more excepted lostArb => Sys2Proof.Machine.execCanErrorFrame ch lec dataPhase more excepted lostArb s
  | .canRxfAckWrite r ch reg value => Sys2Proof.Machine.execCanRxfAckWrite r ch reg value s
  | .canRecover r ch value => Sys2Proof.Machine.execCanRecover r ch value s
  | .canRecoveryDone ch => Sys2Proof.Machine.execCanRecoveryDone ch s
  | .canTtCycleBoundary ch => Sys2Proof.Machine.execCanTtCycleBoundary ch s
  | .canTtReferenceRx ch f ago => Sys2Proof.Machine.execCanTtReferenceRx ch f ago s
  | .canTtSyncLost ch => Sys2Proof.Machine.execCanTtSyncLost ch s
  | .canTtTrigger ch buf => Sys2Proof.Machine.execCanTtTrigger ch buf s
  | .canRateDetect r => Sys2Proof.Machine.execCanRateDetect r s
  | .canRateDwellEnd ch timeout => Sys2Proof.Machine.execCanRateDwellEnd ch timeout s
  | .ainConversion input level => Sys2Proof.Machine.execAinConversion input level s
  | .ainShuntOpen input => Sys2Proof.Machine.execAinShuntOpen input s
  | .ainShuntRetry input => Sys2Proof.Machine.execAinShuntRetry input s
  | .pinResultUpdate input wave => Sys2Proof.Machine.execPinResultUpdate input wave s
  | .pinTimeout input => Sys2Proof.Machine.execPinTimeout input s
  | .pinIndex index => Sys2Proof.Machine.execPinIndex index s
  | .pinValWrite r input value => Sys2Proof.Machine.execPinValWrite r input value s
  | .dioInputDebounced pin level => Sys2Proof.Machine.execDioInputDebounced pin level s
  | .coreGloveWrite core value privileged => Sys2Proof.Machine.execCoreGloveWrite core value privileged s
  | .cleClaimRead core => Sys2Proof.Machine.execCleClaimRead core s
  | .msixMessage fn vector setMask => Sys2Proof.Machine.execMsixMessage fn vector setMask s
  | .pciFunctionReset fn => Sys2Proof.Machine.execPciFunctionReset fn s
  | .pciVfGloveWrite r v value => Sys2Proof.Machine.execPciVfGloveWrite r v value s
  | .sessionNonce => Sys2Proof.Machine.execSessionNonce s
  | .sessionOpen glove mac => Sys2Proof.Machine.execSessionOpen glove mac s
  | .sessionClose => Sys2Proof.Machine.execSessionClose s
  | .regRead off len => Sys2Proof.Machine.execRegRead off len s
  | .regWrite off words => Sys2Proof.Machine.execRegWrite off words s
  | .cmd entry fails => Sys2Proof.Machine.execCmd entry fails s
  | .ringState => Sys2Proof.Machine.execRingState s
  | .ep1PacketAck ecc => Sys2Proof.Machine.execEp1PacketAck ecc s
  | .usbBusReset discards chirp => Sys2Proof.Machine.execUsbBusReset discards chirp s
  | .usbRemoteWakeup => Sys2Proof.Machine.execUsbRemoteWakeup s
  | .usbHostResume => Sys2Proof.Machine.execUsbHostResume s
  | .keyDerive r => Sys2Proof.Machine.execKeyDerive r s
  | .keyDestroy r => Sys2Proof.Machine.execKeyDestroy r s
  | .keyQuery r => Sys2Proof.Machine.execKeyQuery r s
  | .keyMac r => Sys2Proof.Machine.execKeyMac r s
  | .keyEncrypt r => Sys2Proof.Machine.execKeyEncrypt r s
  | .keyDecrypt r => Sys2Proof.Machine.execKeyDecrypt r s
  | .keyWrap r => Sys2Proof.Machine.execKeyWrap r s
  | .keyUnwrap r => Sys2Proof.Machine.execKeyUnwrap r s
  | .keyPublic r => Sys2Proof.Machine.execKeyPublic r s
  | .keyVerify r => Sys2Proof.Machine.execKeyVerify r s
  | .keyAttest r => Sys2Proof.Machine.execKeyAttest r s
  | .keySeed r => Sys2Proof.Machine.execKeySeed r s
  | .keyRandom r => Sys2Proof.Machine.execKeyRandom r s
  | .keyEndorseCert r => Sys2Proof.Machine.execKeyEndorseCert r s
  | .lcsProvision r fuseFails cut => Sys2Proof.Machine.execLcsProvision r fuseFails cut s
  | .lcsCertStore r => Sys2Proof.Machine.execLcsCertStore r s
  | .lcsTransition r fuseFails cut => Sys2Proof.Machine.execLcsTransition r fuseFails cut s
  | .rngHealthFail => Sys2Proof.Machine.execRngHealthFail s
  | .updBegin r => Sys2Proof.Machine.execUpdBegin r s
  | .updChunk r => Sys2Proof.Machine.execUpdChunk r s
  | .updFinish r => Sys2Proof.Machine.execUpdFinish r s
  | .updActivate r => Sys2Proof.Machine.execUpdActivate r s
  | .updConfirm r fuseFails cut => Sys2Proof.Machine.execUpdConfirm r fuseFails cut s
  | .updAbort r => Sys2Proof.Machine.execUpdAbort r s
  | .relayUnitRx west frame => Sys2Proof.Machine.execRelayUnitRx west frame s
  | .relayAckRx west frame => Sys2Proof.Machine.execRelayAckRx west frame s
  | .relayResend chunk => Sys2Proof.Machine.execRelayResend chunk s
  | .relayFinishRx west frame => Sys2Proof.Machine.execRelayFinishRx west frame s
  | .relayReportRx src frame => Sys2Proof.Machine.execRelayReportRx src frame s
  | .relayReportTimeout => Sys2Proof.Machine.execRelayReportTimeout s
  | .trialLimit => Sys2Proof.Machine.execTrialLimit s
  | .recoveryAnnounce => Sys2Proof.Machine.execRecoveryAnnounce s
  | .recoveryFp0Alternate => Sys2Proof.Machine.execRecoveryFp0Alternate s
  | .dfuDnload block => Sys2Proof.Machine.execDfuDnload block s
  | .recoveryComplete => Sys2Proof.Machine.execRecoveryComplete s
  | .chSelftestDone ch failed => Sys2Proof.Machine.execChSelftestDone ch failed s
  | .sysRestartDone failing => Sys2Proof.Machine.execSysRestartDone failing s
  | .configJournalDone ok => Sys2Proof.Machine.execConfigJournalDone ok s
  | .reclaimZeroFillDone glove => Sys2Proof.Machine.execReclaimZeroFillDone glove s
  | .caddyAnswer slot linkFails => Sys2Proof.Machine.execCaddyAnswer slot linkFails s
  | .caddyAnswerTimeout slot => Sys2Proof.Machine.execCaddyAnswerTimeout slot s
  | .caddySample streams differs => Sys2Proof.Machine.execCaddySample streams differs s
  | .pinEdge input level both held => Sys2Proof.Machine.execPinEdge input level both held s
  | .outputOverload output => Sys2Proof.Machine.execOutputOverload output s
  | .aoutReadbackFault output => Sys2Proof.Machine.execAoutReadbackFault output s
  | .dioPwmPeriod bank => Sys2Proof.Machine.execDioPwmPeriod bank s
  | .lpiWake port => Sys2Proof.Machine.execLpiWake port s
  | .lpiRxChange port on => Sys2Proof.Machine.execLpiRxChange port on s
  | .clkXinMeasure tenths => Sys2Proof.Machine.execClkXinMeasure tenths s
  | .usbPllLockChange locked => Sys2Proof.Machine.execUsbPllLockChange locked s
  | .pciLinkUp width speed numVf msix d3 => Sys2Proof.Machine.execPciLinkUp width speed numVf msix d3 s
  | .pciError uncorrectable => Sys2Proof.Machine.execPciError uncorrectable s
  | .usbSuspend => Sys2Proof.Machine.execUsbSuspend s
  | .usbStandardRequest q => Sys2Proof.Machine.execUsbStandardRequest q s
  | .usbVbusChange on => Sys2Proof.Machine.execUsbVbusChange on s
  | .rngHealthRecover => Sys2Proof.Machine.execRngHealthRecover s
  | .xtalResume => Sys2Proof.Machine.execXtalResume s
  | .unassignedOpcode r op => Sys2Proof.Machine.execUnassignedOpcode r op s
  | .updWriteDone fails => Sys2Proof.Machine.execUpdWriteDone fails s

end Sys2Proof.Machine
end

