-- ==== Sys2Proof/Machine/Tick.lean ====
section
/-! DEFINITION. What happens while no command waits: one TCLK period of 4 ns passes (log entry 1). -/

namespace Sys2Proof.Machine

/-- One TCLK period of the core die, while its clocks run (spec/15 R397, spec/18 R479, spec/21 R545): the time bases, the
PWM pins, and the seconds of a trial. -/
def State.tclk (s : State) : State :=
  let t := s.tmb1.edge
  let r := s.upd.record
  let trial := s.sys.trial && !s.sys.boot && t.sec != s.tmb1.sec
  { s with
    tmb0 := s.tmb0.edge, tmb1 := t, tmb2 := s.tmb2.edge, tmb3 := s.tmb3.edge,
    fio := s.fio.pwmTick,
    upd := if trial then { s.upd with record := { r with time := r.time + 1 } } else s.upd }

/-- An idle step; the real-time clock counts in every state of the module (spec/15 R420). -/
def idleStep (s : State) : State :=
  let s1 := if s.coreUp then s.tclk else s
  { s1 with rtc := s1.rtc.edge }

end Sys2Proof.Machine
end

