-- ==== Sys2Proof/Safety.lean ====
section
/-! DEFINITION. What counts as a safe state, and the words in which the claims are stated. -/

namespace Sys2Proof.Machine

/-- The window and memory are in canonical form: equal contents are equal data. -/
def State.canon (s : State) : Bool := Memory.wf s.mem && Sparse.wf regReset s.win

/-- The state without what the end of a command can still change when no fault waits: posted entries and their queues,
drained CAN FIFOs, latched interrupts. -/
def State.rest (s : State) : State :=
  { s with
    win := [], mem := [], can := [],
    cmd := { s.cmd with queues := [], owed := [] },
    pci := { s.pci with coreLatch := [], fnLatch := [], fnEdge := [] },
    usb := { s.usb with rings := [], latch := [] } }

/-- The state outside the commands, without what the end of a command can change. -/
def State.outer (s : State) : State := { s.rest with cmd := {} }

/-- The register `k` is one that the end of a command can change: PG_IRQ_PEND, or a violation counter where a ring lies outside
its owner's memory (spec/05 R118, R121). -/
def endReg (k : Nat) : Prop := (∃ p, k = rkey p Hd.irqPend) ∨ ∃ g, k = rkey Pg.glv (Rg.GLV_VIOL + 16 * g)

/-- `t` differs from `s` at most in what the end of a command can change. -/
def SameCore (s t : State) : Prop :=
  t.rest = s.rest ∧ ∀ k, ¬ endReg k → Sparse.get regReset t.win k = Sparse.get regReset s.win k

/-- No record of a command, no queue and no word of a CAN message RAM holds an error that has not been found yet (spec/04 R111,
spec/17 R463). -/
def State.sound (s : State) : Bool :=
  s.cmd.slots.all (fun e => !e.2.spoilt) && s.cmd.queues.all (fun e => !e.2.spoilt) && s.can.all (fun e => e.2.spoilt.isEmpty)

/-- Nothing waits for the end of a command: no fault occurrence, no transmit completion, no element in a CAN FIFO. -/
def State.idle (s : State) : Bool :=
  s.flt.occ.isEmpty && s.cmd.owed.isEmpty && s.can.all (fun e => e.2.fifo0.fill == 0 && e.2.fifo1.fill == 0)

-- Commands through a bank (spec/04 R86 to R93)

/-- The arguments in the bank of requester `r`. -/
def State.cmdArgs (s : State) (r : Requester) : List Word :=
  (List.range 8).map (fun k => s.breg (bankOf r) Pg.cmd (Rg.CMD_ARG + 4 * k))

/-- Where the completions of the bank go. -/
def State.cmdTo (s : State) (r : Requester) : CqTo :=
  let cq := s.breg (bankOf r) Pg.cmd Rg.CMD_CQ
  if bit cq 31 then .queue (bf cq 0 15) else .poll

/-- A command issued by `r` now is accepted for glove `g` into slot `n`: the clocks run, no power-fail sequence, the glove is
active, a slot is free and the quota not used up (spec/04 R86 to R88, R91). -/
def State.accepts (s : State) (r : Requester) (g n : Nat) : Bool :=
  s.coreUp && !s.pfw && decide (s.gloveOf r = some g) && s.active g && decide (s.heldBy g < (s.glove g).quota)
    && decide (s.nextSlot = some n)

/-- The command in hand: its slot, glove, opcode and arguments. -/
def State.ctx (s : State) (r : Requester) (op g n : Nat) : Ctx := ⟨n, g, op, s.cmdArgs r⟩

/-- The state with the command accepted: slot `n` holds it, and CMD_TICKET its handle. -/
def State.taken (s : State) (r : Requester) (op g n : Nat) : State :=
  let s1 := s.alloc n g op (s.cmdArgs r) (.bank (bankOf r)) (s.cmdTo r) 0
  s1.setBreg (bankOf r) Pg.cmd Rg.CMD_TICKET (wd ((s1.slotOf n).handle n))

/-- A command issued through a bank with opcode `op`, once accepted and if `pre` holds of it, has the effect `post`. -/
def Takes (i : Requester → Instr) (op : Nat) (pre : Ctx → State → Prop) (post : Ctx → State → State) : Prop :=
  ∀ (s : State) (r : Requester) (g n : Nat), s.accepts r g n = true → pre (s.ctx r op g n) (s.taken r op g n) →
    exec (i r) s = .next (s.settled (post (s.ctx r op g n) (s.taken r op g n)))

/-- A write of `r`, of glove `g`, gets to the register (spec/03 R66, R67, spec/05 R115, spec/02 R33). -/
def State.writes (s : State) (r : Requester) (g p off : Nat) : Bool :=
  s.coreUp && s.hasPage p && decide (s.gloveOf r = some g) && s.active g && s.mayWrite g p off
    && !(s.isFatal && off != Hd.irqPend && !isBanked p off)

/-- A read of `r`, of glove `g`, gets to the register. -/
def State.reads (s : State) (r : Requester) (g p off : Nat) : Bool :=
  s.coreUp && s.hasPage p && decide (s.gloveOf r = some g) && s.active g && s.mayRead g p off

/-- A doorbell access of `r` for glove `g` gets to queue `q` (spec/04 R103, R105, spec/02 R33). -/
def State.rings (s : State) (r : Requester) (g q : Nat) : Bool :=
  s.coreUp && decide (s.gloveOf r = some g) && !s.isFatal && s.bellMine g q && (s.queue q).live

/-- The record of slot `n` is a completion with this status and these results (spec/04 R92, R93). -/
def State.ended (s : State) (n status : Nat) (r0 r1 r2 : Word) : Prop :=
  let x := s.slotOf n
  x.complete = true ∧ x.status = status ∧ x.res0 = r0 ∧ x.res1 = r1 ∧ x.res2 = r2

/-- The point that PT_WRITE names is one that its issuer may write now (spec/13 R367). -/
def State.ptMine (t : State) (c : Ctx) : Prop :=
  let p := c.f 0 0 16
  mGlove (t.mapW p) = c.g ∧ t.isFatal = false ∧ t.sys.mode ∈ [Mode.commission, .run, .degraded, .safe]
    ∧ t.running Pg.ptb = true ∧ t.unused p = false ∧ mRole (t.mapW p) ∈ [1, 3]

/-- A Caddy command is handed to the Caddy (spec/10 R285): it waits in the mailbox, and a powered Caddy does `run` at once. -/
def State.handed (s : State) (c : Ctx) (run : CdySt → CdySt) : State :=
  s.onCaddy (fun k =>
    let k1 := { k with mail := k.mail ++ [k.mailFor c] }
    if k.mode = .unpowered then k1 else run k1)

end Sys2Proof.Machine
end

