-- ==== Sys2Proof/Certificates/Slice0/Obligations.lean ====
section
/-! DEFINITION. The statements about the model. -/

open Sys2Proof Sys2Proof.Machine

/-- The command at the front of the queue is carried out on the state with the queue's rest; on an empty queue time passes (log
entry 1). -/
def Obligations.StepRunsTheFrontCommand : Prop :=
  (∀ (s : State) (c : Instr) (rest : List Instr), s.pending = c :: rest → step s = exec c { s with pending := rest })
    ∧ ∀ s : State, s.pending = [] → step s = .next (idleStep s)

/-- Memory and the window keep their canonical form in every step, from every state that has it. -/
def Obligations.CanonicalFormIsKept : Prop :=
  ∀ s t : State, s.canon = true → step s = .next t → t.canon = true

/-- The state after reset has the canonical form, lists no memory, and has an empty queue. -/
def Obligations.ResetIsCanonical : Prop :=
  State.reset.canon = true ∧ State.reset.mem = [] ∧ State.reset.pending = []

/-- The rollback count runs from 0 to 64 and never decreases, in every step; and while a trial is armed or running, UPD_BEGIN that
spec/04 R96 lets get to its fourth check completes REFUSED_STATE (spec/21 R547). -/
def Obligations.RollbackNeverFalls : Prop :=
  (∀ s t : State, s.upd.rollback ≤ 64 → step s = .next t → s.upd.rollback ≤ t.upd.rollback ∧ t.upd.rollback ≤ 64)
  ∧ State.reset.upd.rollback ≤ 64
  ∧ Takes .updBegin 0x0A01
      (fun c t => let h := t.load (c.addr 1) 512
        t.bufOk c (c.addr 1) (512 + (if hdrFormat h = true then 48 * hdrChunks h else 0)) = true
          ∧ (c.b 0 0 = true → c.f 0 8 7 ≠ 0) ∧ c.tenant = false ∧ (t.sys.trial = true ∨ t.upd.record.armed ≠ none))
      (fun c t => t.complete c.slot 0x0101 0 0 0)

/-- No command changes the queue or the ordering code of the part (spec/00 R1): the queue is first in, first out. -/
def Obligations.NoCommandTouchesTheQueue : Prop :=
  ∀ (c : Instr) (s t : State), exec c s = .next t → t.pending = s.pending ∧ t.part = s.part

/-- What the end of a command can change when no fault occurrence waits (spec/22 R559): nothing but posted entries and their queues,
drained CAN FIFOs, latched interrupts and, of the registers, PG_IRQ_PEND (spec/03 R82) and the violation counter of a glove
whose ring lies outside its memory (spec/05 R118, R121). Of an error that waits in a slot, a queue or a CAN message RAM and is
found there (spec/04 R111, spec/17 R463) it says nothing. When, besides, no transmit completion and no CAN element waits, the
end of a command changes no byte of memory, no queue and no CAN channel. -/
def Obligations.EndOfCommandFrame : Prop :=
  (∀ s u : State, u.flt.occ = [] → u.sound = true → ∃ t, finish s u = .next t ∧ SameCore u t)
  ∧ (∀ s u : State, u.idle = true →
    ∃ t, finish s u = .next t ∧ (∀ a, rd8 t.mem a = rd8 u.mem a) ∧ t.cmd = u.cmd ∧ t.can = u.can)

/-- Acceptance of a command (spec/04 R91): slot `n` holds it with the next GEN, which is never 0, CMD_TICKET reads its handle, and
nothing outside the commands and that register changes. -/
def Obligations.AcceptanceTakesASlot : Prop :=
  ∀ (s : State) (r : Requester) (op g n : Nat), s.canon = true → s.accepts r g n = true →
    let t := s.taken r op g n
    let x := t.slotOf n
    x.phase = .inHand ∧ x.op = op ∧ x.glove = g ∧ x.args = s.cmdArgs r ∧ x.cq = s.cmdTo r ∧ x.gen ≠ 0
      ∧ x.gen = (if (s.slotOf n).gen = 0x3FFF then 1 else (s.slotOf n).gen + 1)
      ∧ t.breg (bankOf r) Pg.cmd Rg.CMD_TICKET = wd (g * 2 ^ 26 + x.gen * 2 ^ 12 + n)
      ∧ t.outer = s.outer ∧ t.mem = s.mem
      ∧ ∀ k, k ≠ bkey (bankOf r) Pg.cmd Rg.CMD_TICKET → Sparse.get regReset t.win k = Sparse.get regReset s.win k

/-- Completion of a command in hand (spec/04 R91 to R93): its record shows COMPLETE with status and results, or FAILED_INTERNAL with
zero results where the record fails its parity check (spec/04 R111). Where no error waits to be found, nothing outside the
commands changes but a posted entry with its queue, the interrupts of that queue and the violation counter of an owner whose
ring lies outside its memory (spec/05 R121). From PFW on no command completes (spec/04 R112). A completion without a completion
queue leaves every byte of memory as it is, and the slot keeps the record until it is read or timed out (spec/04 R91); no
register changes unless the record fails its parity check. -/
def Obligations.CompletionRecordsTheResult : Prop :=
  (∀ (s : State) (n status : Nat) (r0 r1 r2 : Word), 
    (s.pfw = true → s.complete n status r0 r1 r2 = s) ∧
    ((s.slotOf n).phase = .inHand → s.pfw = false →
      let t := s.complete n status r0 r1 r2
      let bad := (s.slotOf n).spoilt
      t.ended n (if bad then 0x02FF else status) (if bad then 0 else r0) (if bad then 0 else r1) (if bad then 0 else r2)
        ∧ (t.slotOf n).phase ≠ .inHand
        ∧ (s.sound = true → t.outer = s.outer ∧ ∀ p off, ¬ endReg (rkey p off) → t.reg p off = s.reg p off)))
  ∧ (∀ (s : State) (n status : Nat) (r0 r1 r2 : Word), (s.slotOf n).phase = .inHand → s.pfw = false → (s.slotOf n).cq = .poll →
    let t := s.complete n status r0 r1 r2
    (t.slotOf n).phase = .done ∧ t.mem = s.mem ∧ ((s.slotOf n).spoilt = false → t.win = s.win)
      ∧ ∀ k, k ≠ n → (s.slotOf k).complete = (t.slotOf k).complete)

/-- A command of an inactive glove has no effect of its own: whatever its opcode, it takes a slot, counts a violation and completes
DONE with zero results (spec/05 R115, R121). Without a free slot or quota a command is not taken: CMD_TICKET reads 0 and
CMD_NOSLOT counts, saturating; from PFW on CMD_TICKET reads 0 (spec/04 R88, spec/22 R572). No command slot and no memory
changes. A glove other than 0 has no glove command: it completes DONE with zero results and counts a violation (spec/04 R96,
spec/05 R121). A mode command of another glove completes DONE with zero results and counts a violation (spec/04 R96, spec/05
R121). -/
def Obligations.CommandsAreTurnedAway : Prop :=
  (∀ (s : State) (r : Requester) (g n op : Nat) (body : Ctx → State → State),
    s.coreUp = true → s.pfw = false → s.gloveOf r = some g → s.active g = false → s.heldBy g < (s.glove g).quota →
    s.nextSlot = some n →
    let t := s.issue r op body
    t = ((s.taken r op g n).violation g).complete n 0 ∧ t.ended n 0 0 0 0)
  ∧ (∀ (s : State) (r : Requester) (g op : Nat) (body : Ctx → State → State),
    s.canon = true → s.coreUp = true → s.gloveOf r = some g → s.active g = true → (s.pfw = true ∨ s.canIssue g = false) →
    let t := s.issue r op body
    t.breg (bankOf r) Pg.cmd Rg.CMD_TICKET = 0
      ∧ t.breg (bankOf r) Pg.cmd Rg.CMD_NOSLOT =
          (if s.pfw then s.breg (bankOf r) Pg.cmd Rg.CMD_NOSLOT else satInc (s.breg (bankOf r) Pg.cmd Rg.CMD_NOSLOT))
      ∧ t.cmd = s.cmd ∧ t.mem = s.mem ∧ t.outer = s.outer)
  ∧ (Takes .gloveSet 0x0201
      (fun c _ => c.tenant = true ∧ c.f 1 0 13 ≤ 4096 ∧ (c.f 0 0 6 ≠ 0 → c.f 2 0 13 + c.f 2 16 13 ≤ 4096))
      (fun c t => (t.violation c.g).complete c.slot 0 0 0 0)
  ∧ Takes .gloveQblock 0x0202 (fun c _ => c.tenant = true) (fun c t => (t.violation c.g).complete c.slot 0 0 0 0)
  ∧ Takes .gloveReclaim 0x0203 (fun c _ => c.tenant = true ∧ c.f 0 0 6 ≠ 0)
      (fun c t => (t.violation c.g).complete c.slot 0 0 0 0))
  ∧ (Takes .sysEnterRun 0x0102 (fun c _ => c.tenant = true) (fun c t => (t.violation c.g).complete c.slot 0 0 0 0)
  ∧ Takes .sysEnterCommission 0x0103 (fun c _ => c.tenant = true) (fun c t => (t.violation c.g).complete c.slot 0 0 0 0)
  ∧ Takes .sysEnterSafe 0x0104 (fun c _ => c.tenant = true) (fun c t => (t.violation c.g).complete c.slot 0 0 0 0)
  ∧ Takes .cfgSave 0x0105 (fun c _ => c.tenant = true) (fun c t => (t.violation c.g).complete c.slot 0 0 0 0)
  ∧ Takes .fltSave 0x0B01 (fun c _ => c.tenant = true) (fun c t => (t.violation c.g).complete c.slot 0 0 0 0))

/-- A handle is GLOVE, GEN and SLOT in bits 31:26, 25:12 and 11:0 (spec/04 R90): the ticket of an accepted command shows the glove
of the requester that issued it, the generation of its slot and the slot's number, and is not zero. -/
def Obligations.HandlesHaveTheirFields : Prop :=
  ∀ (s : State) (r : Requester) (op g n : Nat), s.canon = true → s.accepts r g n = true → g < 64 → n < 4096 →
    (s.slotOf n).gen ≤ 0x3FFF →
    let t := s.taken r op g n
    let h := t.breg (bankOf r) Pg.cmd Rg.CMD_TICKET
    bf h 26 6 = g ∧ bf h 12 14 = (t.slotOf n).gen ∧ 1 ≤ (t.slotOf n).gen ∧ (t.slotOf n).gen ≤ 0x3FFF ∧ bf h 0 12 = n ∧ h ≠ 0

/-- The command families 0x0001 to 0x0004 complete DONE with the results of spec/04 R108: NOP with none; QUEUE_CREATE of a shape,
ring and selector that fit, for a QID block of the issuer's glove and a free QID, paired with a completion queue of the issuer
if with any, creates the queue; QUEUE_DESTROY ends it and gives its hardware index; QUEUE_QUERY gives its indices and drops; an
ECC error that waits in the queue's context is found by either (R111). An opcode that is not assigned completes REFUSED_OP
(spec/04 R96). Completes here (a clause ends in exec of it = next): nop, queueCreate, queueDestroy, queueQuery,
unassignedOpcode. -/
def Obligations.QueueCommandsComplete : Prop :=
  Takes .nop 0x0001 (fun _ _ => True) (fun c t => t.complete c.slot 0 0 0 0)
  ∧ Takes .queueCreate 0x0002
      (fun c t => queueShape (c.f 1 0 3) (c.b 1 8) (c.f 1 16 5) = true ∧ c.addr 2 % 4096 = 0
        ∧ queueSelector c (c.f 1 0 3) = true ∧ t.queueOwner (c.f 0 0 15) = c.g
        ∧ ((c.f 1 0 3 = 3 ∨ c.f 1 0 3 = 4) → canSource (c.f 5 0 8) = true → t.owner (c.f 5 0 8) = c.g)
        ∧ ((c.f 1 0 3 = 0 ∨ c.f 1 0 3 = 4) → c.b 4 31 = true → t.queueOwner (c.f 4 0 15) = c.g)
        ∧ (t.queue (c.f 0 0 15)).live = false ∧ t.queueClash c (c.f 1 0 3) = false)
      (fun c t =>
        let x : Queue := { live := true, kind := c.f 1 0 3, wide := c.b 1 8, log2n := c.f 1 16 5, base := c.addr 2,
                           pair := if (c.f 1 0 3 = 0 ∨ c.f 1 0 3 = 4) ∧ c.b 4 31 = true then some (c.f 4 0 15) else none,
                           arg5 := c.arg 5, arg6 := c.arg 6, arg7 := c.arg 7 }
        (({ t with ptb := { t.ptb with posted := Sparse.keep (fun k => k / 65536 != c.f 0 0 15) t.ptb.posted } }).setQueue
          (c.f 0 0 15) x).complete c.slot 0 (wd (c.f 0 0 15)) 0 0)
  ∧ Takes .queueDestroy 0x0003
      (fun c t => t.queueOwner (c.f 0 0 15) = c.g ∧ (t.queue (c.f 0 0 15)).live = true)
      (fun c t =>
        let s1 := (t.queueChecked (c.f 0 0 15)).setQueue (c.f 0 0 15) {}
        let s2 := { s1 with
          cdy := s1.cdy.queueGone (c.f 0 0 15),
          ptb := { s1.ptb with posted := Sparse.keep (fun k => k / 65536 != c.f 0 0 15) s1.ptb.posted },
          fp := s1.fp.foldl (fun (m : Sparse FpPort) (e : Nat × FpPort) => Sparse.set (dflt {}) m e.1 { e.2 with held := delN e.2.held (c.f 0 0 15) }) s1.fp }
        s2.complete c.slot 0 (wd (t.queue (c.f 0 0 15)).hw) 0 0)
  ∧ Takes .queueQuery 0x0004
      (fun c t => t.queueOwner (c.f 0 0 15) = c.g ∧ (t.queue (c.f 0 0 15)).live = true)
      (fun c t => let x := t.queue (c.f 0 0 15)
        (t.queueChecked (c.f 0 0 15)).complete c.slot 0 (wd x.hw) (wd x.sw) x.drops)
  ∧ ∀ op, (∀ e ∈ cmdTable false, e.1 ≠ op) →
      Takes (fun r => .unassignedOpcode r op) op (fun _ _ => True) (fun c t => t.complete c.slot 0x0104 0 0 0)

/-- Slots and polls (spec/04 R91, R92, R107): a read of CMD_POLL_STAT that finds the polled command complete frees its slot, and one
that finds it in hand changes nothing; where the record fails its parity check (spec/04 R111) SLOT_PARITY is raised, a command
in hand ends FAILED_INTERNAL and a record that has ended is known no more; 10 s after completion the slot is freed; a held
completion is posted when its queue has space, in the order of completion; a record that fails its check is posted as
FAILED_INTERNAL (`slotChecked`). Completes here (a clause ends in exec of it = next): cmdPollStatRead, slotTimeoutFree,
completionPosted. -/
def Obligations.SlotsAreFreed : Prop :=
  (∀ (s : State) (r : Requester) (g n : Nat), s.reads r g Pg.cmd Rg.CMD_POLL_STAT = true → s.polled (bankOf r) g = some n →
    ∀ parity : Bool, exec (.cmdPollStatRead r parity) s = .next (s.settled (
      if parity = true ∨ (s.slotOf n).spoilt = true then
        let s1 := (s.setSlot n { s.slotOf n with spoilt := false }).raiseSrc Pg.cmd 0
        if (s1.slotOf n).phase = .inHand then (s1.unhook n).complete n 0x02FF 0 0 0
        else s1.setSlot n { s1.slotOf n with bad := true }
      else if (s.slotOf n).phase = .done then s.freeSlot n else s)))
  ∧ (∀ (s : State) (n : Nat), s.coreUp = true → (s.slotOf n).phase = .done →
    exec (.slotTimeoutFree n) s = .next (s.settled (s.freeSlot n)))
  ∧ ∀ (s : State) (n q : Nat), s.coreUp = true → (s.slotOf n).phase = .held → (s.slotOf n).cq = .queue q →
      s.cmd.held.find? (fun k => decide ((s.slotOf k).cq = .queue q)) = some n → s.canComplete n = true →
    exec (.completionPosted n) s = .next (s.settled (let s1 := s.slotChecked n
      (s1.post q (fun ph => s1.slotEntry n ph)).freeSlot n))

/-- A submission entry (spec/04 R100) and a CMD request over USB (spec/19 R504) put their command into the next free slot of the
queue's owner, or of the session's glove, and carry it out with the entry's opcode and arguments. Of an entry that an
uncorrectable ECC error makes unreadable (spec/04 R111) the command ends FAILED_INTERNAL and the queue behaves as full from then
on; its TAG is a free value. Completes here (a clause ends in exec of it = next): submissionEntryRead, cmd. -/
def Obligations.EntriesBecomeCommands : Prop :=
  (∀ (s : State) (q n : Nat) (fails : Bool), s.coreUp = true → s.pfw = false → s.canTake q = true →
      (s.queue q).kind = 0 → s.active (s.queueOwner q) = true → s.canIssue (s.queueOwner q) = true → s.nextSlot = some n →
    let b := s.headEntry q
    let op := getLE b 0 2
    let to_ : CqTo := match (s.queue q).pair with | some k => .queue k | none => .poll
    exec (.submissionEntryRead q fails false) s =
        .next (s.settled (cmdByOp fails op ⟨n, s.queueOwner q, op, leWords 8 (b.drop 8)⟩
          ((s.consume q).alloc n (s.queueOwner q) op (leWords 8 (b.drop 8)) (.queue q) to_ (wd (getLE b 4 4)))))
      ∧ exec (.submissionEntryRead q fails true) s =
        .next (s.settled ((((s.draw.2.consume q).alloc n (s.queueOwner q) 0 [] (.queue q) to_ (wd s.draw.1)).queueEcc q).complete
          n 0x02FF 0 0 0)))
  ∧ ∀ (s : State) (g n : Nat) (b : List Byte) (fails : Bool), s.usbAwake = true → s.sys.mode ≠ .recovery →
      s.usb.session = some g → s.active g = true → s.pfw = false → s.canIssue g = true → s.nextSlot = some n →
    let op := getLE b 0 2
    exec (.cmd b fails) s =
      .next (s.settled (cmdByOp fails op ⟨n, g, op, leWords 8 (b.drop 8)⟩
        (s.alloc n g op (leWords 8 (b.drop 8)) .usb .usbRing (wd (getLE b 4 4)))))

/-- Doorbells (spec/04 R104, R106): an index in order and within the ring is stored and raises a due event; one that is not sets
BADIDX and is not stored; DB_CTRL stores ARM, clears OVF and BADIDX where it writes ones, and raises a due event. An access that
finds an ECC error in the queue's context, its own or one that waited there, makes the queue behave as full from then on and
raises RING_ECC (spec/04 R111); what it writes is stored. A doorbell access to a queue of another glove counts a violation and
does nothing else (spec/04 R105). Completes here (a clause ends in exec of it = next): dbIndexWrite, dbCtrlWrite. -/
def Obligations.DoorbellsWork : Prop :=
  ((∀ (s : State) (r : Requester) (g q : Nat) (v : Word), s.rings r g q = true →
    ∀ ecc : Bool, let s1 := if ecc = true ∨ (s.queue q).spoilt = true then s.queueEcc q else s
    exec (.dbIndexWrite r q v ecc) s =
      .next (s.settled (if (s1.queue q).indexOk v.toNat = true then (s1.setQueue q { s1.queue q with sw := v.toNat }).checkQueue q
        else s1.setQueue q { s1.queue q with badidx := true })))
  ∧ ∀ (s : State) (r : Requester) (g q : Nat) (v : Word), s.rings r g q = true →
    ∀ ecc : Bool, let s1 := if ecc = true ∨ (s.queue q).spoilt = true then s.queueEcc q else s
    exec (.dbCtrlWrite r q v ecc) s =
      .next (s.settled ((s1.setQueue q { s1.queue q with
        arm := bit v 0, ovf := (s1.queue q).ovf && !bit v 8, badidx := (s1.queue q).badidx && !bit v 9 }).checkQueue q)))
  ∧ (∀ (s : State) (r : Requester) (g q : Nat) (v : Word), s.coreUp = true → s.gloveOf r = some g → s.isFatal = false →
    s.bellMine g q = false →
    (∀ ecc : Bool, exec (.dbIndexWrite r q v ecc) s = .next (s.settled (s.violation g)))
      ∧ ∀ ecc : Bool, exec (.dbCtrlWrite r q v ecc) s = .next (s.settled (s.violation g)))

/-- Glove commands of glove 0 (spec/05 R127, R128). GLOVE_SET with values that fit and take nothing from another glove stores the
entry, tells the glove if it changed, keeps it in CONFIG, and completes with the glove's registers; of glove 0 itself, which
stays active without a region, it stores the quota. GLOVE_QBLOCK of a block without queues gives it to its new owner. CONFIG is
kept without the entry of a glove whose reclaim is in hand (`gloveCfg`). GLOVE_RECLAIM of a glove whose work has stopped
deactivates it, aborts its commands, destroys its queues, gives up what it owns and waits for the zero fill, whose end clears
the region's entry and completes. After the zero fill of a reclaim every byte of the glove's region reads zero, and every other
byte as before (spec/05 R128). Completes here (a clause ends in exec of it = next): gloveSet, gloveQblock, gloveReclaim,
reclaimZeroFillDone. -/
def Obligations.GloveCommandsComplete : Prop :=
  (Takes .gloveSet 0x0201
      (fun c t => c.tenant = false ∧ c.f 0 0 6 ≠ 0 ∧ c.f 1 0 13 ≤ 4096 ∧ c.f 2 0 13 + c.f 2 16 13 ≤ 4096
        ∧ (c.b 0 8 = true → ∀ k < 63, k + 1 ≠ c.f 0 0 6 → (t.glove (k + 1)).active = true →
            overlaps (dramBase + c.f 2 0 13 * 0x200000, c.f 2 16 13 * 0x200000) (t.region (k + 1)) = false)
        ∧ ((t.glove (c.f 0 0 6)).active = true → c.b 0 8 = false → t.ownsAny (c.f 0 0 6) = false)
        ∧ t.ringOutside (c.f 0 0 6) (dramBase + c.f 2 0 13 * 0x200000, c.f 2 16 13 * 0x200000) = false
        ∧ t.reclaiming (c.f 0 0 6) = false)
      (fun c t =>
        let n := c.f 0 0 6
        let e : Glove := ⟨c.b 0 8, c.f 2 0 13, c.f 2 16 13, c.f 1 0 13⟩
        let s2 := if e = t.glove n then t.setGlove n e else (t.setGlove n e).assign n
        let s3 := s2.cfgNow (.gloves s2.gloveCfg s2.glv.qmap)
        s3.complete c.slot (if c.f 1 0 13 < s3.heldBy n then 0x0001 else 0) (s3.glvCtrl n) (s3.glvMem n) (s3.glvSlots n))
  ∧ Takes .gloveSet 0x0201
      (fun c t => c.tenant = false ∧ c.f 0 0 6 = 0 ∧ c.f 1 0 13 ≤ 4096 ∧ t.reclaiming 0 = false)
      (fun c t =>
        let e : Glove := { t.glove 0 with active := true, quota := c.f 1 0 13 }
        let s2 := if e = t.glove 0 then t.setGlove 0 e else (t.setGlove 0 e).assign 0
        let s3 := s2.cfgNow (.gloves s2.gloveCfg s2.glv.qmap)
        s3.complete c.slot (if c.f 1 0 13 < s3.heldBy 0 then 0x0001 else 0) (s3.glvCtrl 0) (s3.glvMem 0) (s3.glvSlots 0))
  ∧ Takes .gloveQblock 0x0202
      (fun c t => c.tenant = false ∧ t.queuesWith (fun q _ => q / 128 == c.f 0 0 8) = [])
      (fun c t =>
        let old := Sparse.get (dflt 0) t.glv.qmap (c.f 0 0 8)
        let s1 := { t with glv := { t.glv with qmap := Sparse.set (dflt 0) t.glv.qmap (c.f 0 0 8) (c.f 1 0 6) } }
        let s2 := if old = c.f 1 0 6 then s1 else (s1.assign old).assign (c.f 1 0 6)
        (s2.cfgNow (.gloves s2.gloveCfg s2.glv.qmap)).complete c.slot 0 (wd old) 0 0)
  ∧ Takes .gloveReclaim 0x0203
      (fun c t => c.f 0 0 6 ≠ 0 ∧ c.tenant = false ∧ t.worksFor (c.f 0 0 6) = false
        ∧ (∀ p ∈ t.pagesOf (c.f 0 0 6), runCtrl p = true → t.stopped p = true) ∧ t.reclaiming (c.f 0 0 6) = false)
      (fun c t =>
        let n := c.f 0 0 6
        let s1 := (t.setGlove n { t.glove n with active := false }).assign n
        let s2 := s1.abortWhere (fun x => x.glove == n)
        let qs := s2.queuesWith (fun q _ => s2.queueOwner q == n)
        let s3 := qs.foldl State.queueGone s2
        let moved := (s3.pagesOf n).length + (s3.blocksOf n).length + (s3.pointsOfGlove n).length + (s3.loopBytes n).length
          + (s3.tasksOfGlove n).length + (s3.viewsOf n).length
        let s4 := if moved = 0 then s3.giveUp n else (s3.giveUp n).assign 0
        let s5 := s4.cfgNow (.reclaim n (Sparse.set gloveDflt s4.gloveCfg n {}) s4.glv.qmap (s3.hadBy n))
        { s5 with glv := { s5.glv with reclaims := s5.glv.reclaims ++ [⟨n, some c.slot, qs.length, moved⟩] },
                  nv := { s5.nv with reclaims := addN s5.nv.reclaims n } })
  ∧ ∀ (s : State) (k : Reclaim) (m n : Nat), s.coreUp = true → s.glv.reclaims.find? (fun r => r.glove == m) = some k →
      k.slot = some n →
      let s1 := { s with mem := zeroRange s.mem (s.region m).1 (s.region m).2 }.setGlove m {}
      let s2 := if s.glove m = {} then s1 else s1.assign m
      let s3 := { s2 with glv := { s2.glv with reclaims := s2.glv.reclaims.filter (fun x => x.glove != m) },
                          nv := { s2.nv with reclaims := delN s2.nv.reclaims m } }
      exec (.reclaimZeroFillDone m) s =
        .next (s.settled (s3.complete n 0 (wd k.queues) (wd (s3.keygen m)) (wd k.moved))))
  ∧ (∀ (s : State) (k : Reclaim) (m : Nat), s.canon = true → s.idle = true → s.coreUp = true →
    s.glv.reclaims.find? (fun r => r.glove == m) = some k → k.slot = none →
    ∃ t, exec (.reclaimZeroFillDone m) s = .next t ∧
      ∀ a, rd8 t.mem a = if (s.region m).1 ≤ a ∧ a < (s.region m).1 + (s.region m).2 then 0 else rd8 s.mem a)

/-- Run requests (spec/03 R69, R72): a write of REQ that no rule bars stores it and moves CUR from STOPPED to STARTING or from
RUNNING to STOPPING, where a riser port reads its address (`startingHook`, spec/14 R394); a STARTING page reaches RUNNING with
its RWS fields taken in, TPI in the replay of start-up after PTB (spec/13 R373); a STOPPING page whose work has ended reaches
STOPPED, and goes on as `goOn` says where REQ asks the other way by then (not after FATAL, spec/03 R73). A STOP that R72 bars is
counted in PG_DROP and not stored. Completes here (a clause ends in exec of it = next): pgRunWrite, pageStarted, pageStopped. -/
def Obligations.PageRunStates : Prop :=
  (∀ (s : State) (r : Requester) (g p : Nat), s.canon = true → s.writes r g p Hd.run = true → runCtrl p = true → s.cur p = 0 →
      pageKind p ≠ some .can →
    exec (.pgRunWrite r p 1) s = .next (s.settled (((s.setReq p 1).setCur p 1).startingHook p)))
  ∧ (∀ (s : State) (r : Requester) (g p : Nat), s.writes r g p Hd.run = true → runCtrl p = true → pageKind p = some .can →
    exec (.pgRunWrite r p 1) s = .next (s.settled (((s.setReq p 1).canAbortDetect (pageInst p)).kick p)))
  ∧ (∀ (s : State) (r : Requester) (g p : Nat), s.canon = true → s.writes r g p Hd.run = true → runCtrl p = true →
      s.stopBarred p = false → s.cur p = 2 →
    exec (.pgRunWrite r p 0) s = .next (s.settled (((s.setReq p 0).setCur p 3).stoppingHook p)))
  ∧ (∀ (s : State) (r : Requester) (g p : Nat), s.writes r g p Hd.run = true → runCtrl p = true → s.stopBarred p = true →
    exec (.pgRunWrite r p 0) s = .next (s.settled (s.bump p Hd.drop)))
  ∧ (∀ (s : State) (p : Nat) (spoilt : List Nat), s.coreUp = true → runCtrl p = true → s.cur p = 1 →
      (p = Pg.tpi → s.sys.boot = true → s.cur Pg.ptb ≠ 1) →
    exec (.pageStarted p spoilt) s = .next (s.settled (((s.setCur p 2).startedHook p spoilt).goOn p)))
  ∧ (∀ (s : State) (p : Nat), s.coreUp = true → runCtrl p = true → s.cur p = 3 → s.workEnded p = true →
      p ≠ Pg.ain → p ≠ Pg.pin → p ≠ Pg.dio →
    exec (.pageStopped p) s = .next (s.settled ((s.setCur p 0).goOn p)))
  ∧ ∀ (s : State) (p : Nat), s.canon = true →
      (s.setCur p 1).cur p = 1 ∧ (s.setReq p 1).req p = 1 ∧ (s.setCur p 1).req p = s.req p ∧ (s.setReq p 1).cur p = s.cur p

/-- PG_OWNER (spec/03 R63, spec/05 R126): a write of glove 0 to a page whose owner can change stores GLOVE and SHARED_READ, clears
PG_IRQ_EN and, if the owner changed, ends a rate detection in hand and what waits to be sent for a lease on a CAN page (spec/04
R96, spec/17 R454) and tells both gloves; a waiting event goes to the first function of its owner (spec/03 R85). Completes here
(a clause ends in exec of it = next): pgOwnerWrite, pageEventDelivery. -/
def Obligations.PageOwnersAndEvents : Prop :=
  (∀ (s : State) (r : Requester) (p : Nat) (v : Word), s.writes r 0 p Hd.owner = true → ownerFixed p = false →
      isGvwPage p = false →
    let s1 := (s.setReg p Hd.owner (v &&& 0x13F)).setReg p Hd.irqEn 0
    exec (.pgOwnerWrite r p v) s =
      .next (s.settled (if s1.owner p = s.owner p then s1
        else let s2 := if pageKind p = some .can then (s1.canAbortDetect (pageInst p)).canFlush (pageInst p) else s1
          (s2.assign (s.owner p)).assign (s2.owner p))))
  ∧ ∀ (s : State) (p f : Nat), s.coreUp = true → p < 0x1000 → s.pageEvent p = true → s.fnFor (s.owner p) = some f →
      s.pci.fnEdge.contains (8, p) = true →
    exec (.pageEventDelivery p) s =
      .next (s.settled ({ s with pci := { s.pci with
        fnEdge := s.pci.fnEdge.filter (fun x => x != (8, p) && x != (f, p)) ++ [(f, p)] } } : State).usbFlush)

/-- PG_STAT[31] FAULT reads 1 while PG_STICKY is not zero, and where the block's chapter defines no summary, as for every block but
CDY, RS, FP and CAN, PG_STAT[30:0] reads zero (spec/03 R62). -/
def Obligations.PageStatusReads : Prop :=
  ∀ (s : State) (b g p : Nat),
    (bit (s.readReg b g p Hd.stat) 31 = true ↔ s.reg p Hd.sticky ≠ 0)
      ∧ (pageKind p ≠ some .cdy → pageKind p ≠ some .rs → pageKind p ≠ some .fp → pageKind p ≠ some .can →
          bf (s.readReg b g p Hd.stat) 0 31 = 0)

/-- Registers (spec/03 R54, R55, R63 to R66, spec/00 R8). A 32-bit store of a requester to a register it may write does what that
register's rule says, a 64-bit one is two, the lower first, and a narrower or misaligned one is ignored; an aligned 32-bit read
gives the register's value, a misaligned one zero. An uncorrectable error in a table of the gloves that the access meets raises
GLV.TABLE_ECC. Of the header's registers, PG_IRQ_PEND and PG_STICKY clear the bits written 1, PG_IRQ_EN and PG_DROP take the
value; a field that only a stopped page takes counts a drop while the page runs. A write to a page that is not the glove's is a
violation. Completes here (a clause ends in exec of it = next): registerWrite. -/
def Obligations.RegistersAreWritten : Prop :=
  (∀ (s : State) (r : Requester) (g p o : Nat) (v : DWord), p < 4096 → o < 4096 → o % 4 = 0 → isQdb p = false →
      (p, o) ≠ (Pg.cmd, Rg.CMD_OP) → s.writes r g p o = true →
    exec (.registerWrite r (windowBase r + (p * 4096 + o)) 4 (some v) false) s =
      .next (s.settled (s.regStore (bankOf r) g p o (v.setWidth 32))))
  ∧ (∀ (s : State) (r : Requester) (g p o : Nat) (v : DWord), p < 4096 → o < 4096 → o % 4 = 0 → isQdb p = false →
      (p, o) ≠ (Pg.cmd, Rg.CMD_OP) → s.coreUp = true → s.hasPage p = true → s.gloveOf r = some g →
      (s.active g && s.mayWrite g p o) = false →
    exec (.registerWrite r (windowBase r + (p * 4096 + o)) 4 (some v) false) s = .next (s.settled (s.violation g)))
  ∧ (∀ (s : State) (b g p : Nat) (w : Word),
      s.regStore b g p Hd.irqPend w = s.setReg p Hd.irqPend (s.reg p Hd.irqPend &&& ~~~w)
      ∧ s.regStore b g p Hd.sticky w = s.setReg p Hd.sticky (s.reg p Hd.sticky &&& ~~~w)
      ∧ s.regStore b g p Hd.irqEn w = s.setReg p Hd.irqEn w ∧ s.regStore b g p Hd.drop w = s.setReg p Hd.drop w)
  ∧ (∀ (s : State) (p o : Nat) (w : Word) (x : RegRow), regRow p o = some x → x.w1c = 0 →
      (x.rws ≠ 0 → s.stopped p = false → s.putReg p o w = s.bump p Hd.drop)
      ∧ (x.rws ≠ 0 → s.stopped p = true →
        s.putReg p o w = s.setReg p o (stored p o ((s.reg p o &&& ~~~x.rws) ||| (w &&& x.rws))))
      ∧ (x.rws = 0 → x.rw ≠ 0 → s.putReg p o w = s.setReg p o (stored p o ((s.reg p o &&& ~~~x.rw) ||| (w &&& x.rw))))
      ∧ (x.rws = 0 → x.rw = 0 → s.putReg p o w = s))
  ∧ (∀ (s : State) (r : Requester) (x : Nat) (v : DWord), x < 0x1000000 →
      (x % 8 = 0 → exec (.registerWrite r (windowBase r + x) 8 (some v) false) s =
        .next (s.settled ((s.windowWrite r x (v.setWidth 32)).windowWrite r (x + 4) ((v >>> 32).setWidth 32))))
      ∧ ∀ n, (n = 4 → x % 4 ≠ 0) → (n = 8 → x % 8 ≠ 0) →
        exec (.registerWrite r (windowBase r + x) n (some v) false) s = .next (s.settled s))
  ∧ (∀ (s : State) (r : Requester) (x : Nat), s.coreUp = true → x < 0x1000000 →
      (x % 4 = 0 → exec (.registerWrite r (windowBase r + x) 4 none false) s =
        .next (s.settled ((s.readEffect r x).emit (.read r (leBytes 4 (s.readFor r x).toNat)))))
      ∧ ∀ n, x % n ≠ 0 → exec (.registerWrite r (windowBase r + x) n none false) s =
        .next (s.settled (s.emit (.read r (leBytes n 0)))))
  ∧ ∀ (s : State) (r : Requester) (a n : Nat) (v : Option DWord), s.coreUp = true →
    exec (.registerWrite r a n v true) s = .next (s.settled ((s.raiseSrc Pg.glv 0).access r a n v))

/-- Stores to memory (spec/05 R118, spec/19 R488): a store of `n` bytes into the glove's DRAM writes exactly these bytes, the lowest
first, and, where nothing waits for the end of a command, every other byte of memory stays; one into memory that the glove may
not address, or of a glove that is not active, is a violation and stores nothing, and a read of such memory is one and returns
zeros. Completes here (a clause ends in exec of it = next): registerWrite. -/
def Obligations.MemoryIsWritten : Prop :=
  (∀ (s : State) (r : Requester) (g a n : Nat) (v : DWord), s.canon = true → s.idle = true → s.coreUp = true →
      s.gloveOf r = some g → s.active g = true → r ≠ .usb → inDram a n = true → s.memOk g a n = true →
    ∃ t, exec (.registerWrite r a n (some v) false) s = .next t ∧ (∀ k < n, rd8 t.mem (a + k) = BitVec.ofNat 8 (v.toNat / 256 ^ k))
      ∧ ∀ x, (x < a ∨ a + n ≤ x) → rd8 t.mem x = rd8 s.mem x)
  ∧ ∀ (s : State) (r : Requester) (g a n : Nat) (v : DWord), s.coreUp = true → s.gloveOf r = some g → r ≠ .usb →
      s.active g = false ∨ inDram a n = true ∧ s.memOk g a n = false → windowOff r a = none → bar4Off r a = none →
      (∀ c, r = .core c → ¬ (0x41000000 ≤ a ∧ a < 0x41001000)) →
    exec (.registerWrite r a n (some v) false) s = .next (s.settled (s.violation g))
      ∧ exec (.registerWrite r a n none false) s = .next (s.settled ((s.violation g).emit (.read r (leBytes n 0))))

/-- The restart record and the reset register (spec/02 R42, R44): a policy write of glove 0 stores target and kind in the register
and in MRAM; a keyed SYS_RESET starts the power-fail sequence with CAUSE 3 where none is running (spec/22 R581). Mode commands
of glove 0 (spec/02 R37, R50, R52). SYS_ENTER_RUN from COMMISSION enters RUN, or DEGRADED with a channel fenced, and completes
DONE or with NOTE; SYS_ENTER_COMMISSION leaves RUN or DEGRADED; SYS_ENTER_SAFE enters SAFE; SYS_RESTART from SAFE or COMMISSION
evaluates the retained data and starts its self-test, whose end without a failing channel restarts warm or cold, enters the
target mode and completes with KIND, the channels in service and the mode. Completes here (a clause ends in exec of it = next):
sysResetWrite, sysRestartPolicyWrite, sysRestart, sysEnterRun, sysEnterCommission, sysEnterSafe, sysRestartDone. -/
def Obligations.ModeCommandsComplete : Prop :=
  ((∀ (s : State) (r : Requester) (v : Word), s.writes r 0 Pg.sys Rg.SYS_RESTART_POLICY = true →
    let kind := if bf v 4 2 = 2 then 2 else 0
    let s1 := s.setReg Pg.sys Rg.SYS_RESTART_POLICY (wd (bf v 0 1 + 16 * kind))
    exec (.sysRestartPolicyWrite r v) s =
      .next (s.settled { s1 with nv := { s1.nv with restart := { s1.nv.restart with target := bit v 0, cold := kind == 2 } } }))
  ∧ ∀ (s : State) (r : Requester) (v : Word), s.writes r 0 Pg.sys Rg.SYS_RESET = true → bf v 16 16 = 0x5EB0 → bf v 0 4 = 1 →
      s.pwr.seq = .off →
    exec (.sysResetWrite r v) s = .next (s.settled (s.seqBegin (some 3))))
  ∧ (Takes .sysEnterRun 0x0102
      (fun c t => c.tenant = false ∧ t.isFatal = false ∧ t.sys.mode = .commission ∧ t.modeBusy c = false)
      (fun c t => let u := t.enterRun
        u.complete c.slot (if u.sys.mode = .degraded then 0x0001 else 0) 0 0 (wd u.sys.mode.code))
  ∧ Takes .sysEnterCommission 0x0103
      (fun c t => c.tenant = false ∧ t.isFatal = false ∧ (t.sys.mode = .run ∨ t.sys.mode = .degraded) ∧ t.modeBusy c = false)
      (fun c t => t.enterCommission.complete c.slot 0 0 0 2)
  ∧ Takes .sysEnterSafe 0x0104
      (fun c t => c.tenant = false ∧ t.live = true ∧ t.modeBusy c = false)
      (fun c t => (t.enterSafe 4).complete c.slot 0 0 0 0)
  ∧ Takes .sysRestart 0x0101
      (fun c t => c.f 0 0 2 = 2 ∧ c.tenant = false ∧ t.isFatal = false ∧ (t.sys.mode = .safe ∨ t.sys.mode = .commission)
        ∧ t.modeBusy c = false)
      (fun _ t => let u := t.evalRetain
        { u with sys := { u.sys with restartTest := true } })
  ∧ ∀ (s : State) (n : Nat), s.coreUp = true → s.restartSlot = some n → s.sys.restartTest = true →
      s.lse.selftestHit = [] →
      let s1 := { s with sys := { s.sys with restartTest := false }, lse := { s.lse with fenced := [], testPass := [], selftestHit := [] } }
      let a := (s.slotOf n).args.headD 0
      let warm := bf a 0 2 != 2 && bit s.sys.retain 4
      let u := (s1.restart warm).enterTarget (bit a 8)
      exec (.sysRestartDone []) s =
        .next (s.settled (u.complete n (if (bf a 0 2 == 0 && !warm) || u.sys.mode == .degraded then 0x0001 else 0)
          (if warm then 1 else 2) (wd (15 - u.fencedBits)) (wd u.sys.mode.code))))

/-- Saving (spec/03 R74, spec/22 R577): CFG_SAVE and FLT_SAVE of glove 0 put their change into the journal; the end of the oldest
journal write makes it the CONFIG generation and completes its command, or completes it FAILED_NAND with CONFIG as it was, or
ABORTED where its command has lost the loop or task that it names (spec/04 R96, spec/05 R129; `State.journalLost`). A save makes
the next generation. Completes here (a clause ends in exec of it = next): cfgSave, fltSave, configJournalDone. -/
def Obligations.SavingTakesTheJournal : Prop :=
  Takes .cfgSave 0x0105 (fun c t => c.tenant = false ∧ t.isFatal = false ∧ t.savingNow = false)
      (fun c t => { t with nv := { t.nv with journal := t.nv.journal ++ [⟨some c.slot, .save t.saveRec⟩] } })
  ∧ Takes .fltSave 0x0B01 (fun c t => c.tenant = false ∧ t.isFatal = false)
      (fun c t => { t with nv := { t.nv with journal := t.nv.journal ++ [⟨some c.slot, .severities t.flt.sev⟩] } })
  ∧ (∀ (s : State) (n : Nat) (r : CfgRec) (rest : List Journal), s.coreUp = true →
      s.nv.journal = ⟨some n, .save r⟩ :: rest →
      let e := CfgEdit.save r
      exec (.configJournalDone true) s =
        .next (s.settled (({ s with nv := { s.nv with journal := rest, cfg := e.renewed s.nv.cfg } } : State).complete n 0
          (wd (s.nv.cfg.gen + 1)) 0 0)))
  ∧ ∀ (s : State) (n : Nat) (e : CfgEdit) (rest : List Journal), s.coreUp = true → s.nv.journal = ⟨some n, e⟩ :: rest →
      exec (.configJournalDone false) s =
        .next (s.settled (({ s with nv := { s.nv with journal := rest } } : State).complete n
          (if s.journalLost ⟨some n, e⟩ then 0x0010 else 0x0203) 0 0 0))

/-- Severities (spec/22 R561, R576): a write stores the severity of the selected source, 5 to 7 as 4 and never below its floor;
where the stored severities fail their check (spec/22 R580), that word first returns to its default and FLT.TABLE_ECC is raised;
the keyed write of FLT_CTRL returns every severity to its default. Completes here (a clause ends in exec of it = next):
fltSevWrite, fltCtrlDefaults. -/
def Obligations.SeveritiesAreWritten : Prop :=
  (∀ (s : State) (r : Requester) (g : Nat) (v : Word), s.writes r g Pg.flt Rg.FLT_SEV = true →
    let src := bf (s.breg (bankOf r) Pg.flt Rg.FLT_SEL) 0 13
    (srcRow src).isSome = true →
    let w := if 5 ≤ bf v 0 3 then 4 else max (bf v 0 3) (srcFloor src)
    ∀ ecc : Bool, let s1 := if ecc = true then s.sevSpoilt src else s
    exec (.fltSevWrite r v ecc) s =
      .next (s.settled { s1 with flt := { s1.flt with sev := Sparse.set srcDefault s1.flt.sev src w } }))
  ∧ ∀ (s : State) (r : Requester) (g : Nat) (v : Word), s.writes r g Pg.flt Rg.FLT_CTRL = true →
      bf v 16 16 = 0x5EB0 → bit v 0 = true →
    exec (.fltCtrlDefaults r v) s = .next (s.settled { s with flt := { s.flt with sev := [] } })

/-- Start-up up to the image (spec/02 R47): VIN starts it, internal reset ends with RECOV_N sampled, and the self-test of the
channels reads the restart record and fences the channels that fail, with their source; a record that cannot be read is
defaulted to COMMISSION and AUTO, and SYS.RESTART_RECORD set (R46). The slot that boots (spec/21 R539): the active one, or the
armed one while its trial has fewer than three starts, with the trial counted; where PFW interrupted an UPD_CONFIRM after its
fuses had burned, the trial slot becomes the active one (R556); RECOVERY when no slot is valid, or RECOV_N was low at the end of
internal reset (spec/02 R47): there the riser ports read their address and forward (spec/14 R394). The image and the end of
start-up (spec/02 R47, R50, spec/03 R73): the chosen slot is loaded if it is valid, else the other one with its fault source,
and without a valid slot RECOVERY is entered; CONFIG is replayed, the hats loaded and the pages that CONFIG runs started; then
reclaims that a loss of power cut short are completed (spec/05 R128), the retained data evaluated, the restart performed as
SYS_RESTART_POLICY asks, with SYS.COLD_FALLBACK where a warm one it prefers is not possible, the target mode entered and the
Hatstand armed. Where the sealed state of the vault cannot be read, `sealedLost` comes first (spec/20 R534); a transition that
PFW interrupted after its fuse had burned is completed before the vault serves anything, and with none there is nothing to
complete (spec/20 R527). Completes here (a clause ends in exec of it = next): vinGood, internalResetEnd, startupSelftest,
slotSelection, imageLoaded, startupComplete. -/
def Obligations.StartupRuns : Prop :=
  ((∀ s : State, s.sys.mode = .backup → s.rtc.lost = false → s.vbat.tamper = false →
    exec .vinGood s = .next (s.settled (s.powerCycle .regulators .startup 1)))
  ∧ (∀ (s : State) (low : Bool), s.sys.stage = .regulators → s.clk.resetLow = false → s.pwr.seq = .off →
    exec (.internalResetEnd low) s =
      .next (s.settled { s with sys := { s.sys with stage := .resetEnded, recovStrap := low } }))
  ∧ (∀ (s : State) (l : List Nat), s.sys.stage = .resetEnded → s.coreUp = true → s.pwr.seq = .off →
      s.nv.restart.ok = true → s.nv.restart.lastStop ≠ 2 →
    let w := wd (s.nv.restart.target.toNat + 32 * s.nv.restart.cold.toNat)
    let s1 := s.setReg Pg.sys Rg.SYS_RESTART_POLICY w
    let s2 := s1.setReg Pg.pwr Rg.PWR_LAST_STOP (wd (s.nv.restart.lastStop % 4))
    let f := (List.range 4).filter (fun c => l.contains c)
    let s3 := { s2 with nv := { s2.nv with restart := { s2.nv.restart with lastStop := 2 } },
                        lse := { s2.lse with fenced := f }, sys := { s2.sys with stage := .tested } }
    exec (.startupSelftest l false) s = .next (s.settled (if f.isEmpty then s3 else s3.raiseSrc Pg.sys 2)))
  ∧ ∀ (s : State) (l : List Nat), s.sys.stage = .resetEnded → s.coreUp = true → s.pwr.seq = .off →
    s.nv.restart.lastStop ≠ 2 →
    let r := { s.nv.restart with ok := true, target := false, cold := false }
    let s1 := ({ s with nv := { s.nv with restart := r } } : State).raiseSrc Pg.sys 3
    let s2 := s1.setReg Pg.pwr Rg.PWR_LAST_STOP (wd (s.nv.restart.lastStop % 4))
    let f := (List.range 4).filter (fun c => l.contains c)
    let s3 := { s2 with nv := { s2.nv with restart := { r with lastStop := 2 } },
                        lse := { s2.lse with fenced := f }, sys := { s2.sys with stage := .tested } }
    exec (.startupSelftest l true) s = .next (s.settled (if f.isEmpty then s3 else s3.raiseSrc Pg.sys 2)))
  ∧ ((∀ s : State, s.sys.stage = .tested → s.coreUp = true → s.isFatal = false → s.pwr.seq = .off → s.sys.recovStrap = false →
      s.upd.record.ok = true → s.upd.record.armed = none →
    exec .slotSelection s = .next (s.settled (if s.slotValid 0 = true ∨ s.slotValid 1 = true
      then s.chooseSlot s.upd.record.active false 0 else s.enterRecovery 2)))
  ∧ (∀ (s : State) (n : Nat), s.sys.stage = .tested → s.coreUp = true → s.isFatal = false → s.pwr.seq = .off →
      s.sys.recovStrap = false → s.upd.record.ok = true → s.upd.record.armed = some n → s.upd.burnt = false → s.sys.bootCause ≠ 4 →
      s.upd.record.count < 3 →
    let k := s.upd.record.count + 1
    let s1 := { s with upd := { s.upd with record := { s.upd.record with count := k } } }
    exec .slotSelection s = .next (s.settled (if s.slotValid 0 = true ∨ s.slotValid 1 = true
      then s1.chooseSlot n true k else s.enterRecovery 2)))
  ∧ (∀ (s : State) (n : Nat), s.sys.stage = .tested → s.coreUp = true → s.isFatal = false → s.pwr.seq = .off →
      s.sys.recovStrap = false → s.upd.record.ok = true → s.upd.record.armed = some n → s.upd.burnt = true →
    let r := { s.upd.record with active := n, armed := none, count := 0, time := 0 }
    let s1 : State := { s with upd := { s.upd with burnt := false, record := r },
                               sys := { s.sys with trial := false, trialCount := 0 } }
    exec .slotSelection s = .next (s.settled (if s.slotValid 0 = true ∨ s.slotValid 1 = true
      then s1.chooseSlot n false 0 else s1.enterRecovery 2)))
  ∧ ∀ s : State, s.sys.stage = .tested → s.coreUp = true → s.isFatal = false → s.pwr.seq = .off → s.sys.recovStrap = true →
    let s0 := s.lcsResume
    let s1 := { s0 with sys := { s0.sys with stage := .loader, recovReason := 1 } }
    let s2 := ((s1.setCur (rsPage false) 2).setCur (rsPage true) 2).setMode .recovery
    let s3 := { s2 with sys := { s2.sys with boot := false } }
    exec .slotSelection s = .next (s.settled ((((s3.rsAddress false).rsAddress true).rsStarting false).rsStarting true)))
  ∧ ((∀ s : State, s.sys.stage = .slotChosen → s.coreUp = true → s.isFatal = false → s.pwr.seq = .off →
    let load (x : State) : State :=
      let h := (x.upd.slot x.sys.slot).hdr
      let y := x.journalReplay.replay
      ({ y with ces := { y.ces with romId := wd (sectionVersion h 3) },
                ktl := { y.ktl with romId := wd (sectionVersion h 2) },
                sys := { y.sys with stage := .imageLoaded, runGen := y.nv.cfg.ltGen } } : State).hatsLoaded
    let other : State := { s with
      sys := { s.sys with slot := 1 - s.sys.slot, trial := false, trialCount := 0, bootCause := 4 } }
    exec (.imageLoaded false) s =
      .next (s.settled (if s.slotValid s.sys.slot = true then load s
        else if s.slotValid (1 - s.sys.slot) = true then load (other.raiseSrc Pg.sys 1)
        else s.enterRecovery 2).kickAll))
  ∧ (∀ (s : State) (old : Nat), s.key.cut = none → s.lcsResume = s
      ∧ (s.cmd.slots = [] → ({ s with key := { s.key with cut := some old } } : State).lcsResume = s.transitionRest old))
  ∧ ∀ s : State, s.sys.stage = .imageLoaded → s.coreUp = true → s.isFatal = false → s.pwr.seq = .off →
    ∀ spoilt : Bool,
    let u := (if spoilt = true then s.sealedLost else s).lcsResume.resumeReclaim
    let s1 := { u with sys := { u.sys with retain := u.retainNow } }
    let w := s1.reg Pg.sys Rg.SYS_RESTART_POLICY
    let warm := bf w 4 2 != 2 && bit u.retainNow 4
    let s2 := ((if bf w 4 2 = 0 ∧ warm = false then s1.raiseSrc Pg.sys 0 else s1).restart warm).enterTarget (bit w 0)
    exec (.startupComplete spoilt) s =
      .next (s.settled { s2 with sys := { s2.sys with boot := false, stage := .entered }, hst := { s2.hst with armed := true } }))

/-- Loss of power (spec/22 R571 to R573, spec/02 R49): PFW begins the sequence, in start-up it halts it and VIN held restarts it; at
COMMIT_DONE the loop integrators (`ok`: as read back) and the restart record are written; VIN back restarts the module, VIN gone
makes it dark. RESET_N holds the module and its release runs power-up with CAUSE 2 (spec/23 R605). What a power cycle keeps
(spec/22 R573, R574): what MRAM and NAND hold, the VBAT domain, the Caddy but its mailbox, the commands that are in hand and the
events that wait for queues, and the queue of commands stay; a change that waits in the journal goes on without its command;
memory, registers, queues, loops, tasks and points are as after reset. Completes here (a clause ends in exec of it = next):
startupRetry, pfw, pfwCommitDone, vinDark, powerRestart, resetNAssert, resetNRelease. -/
def Obligations.PowerIsLostAndComesBack : Prop :=
  ((∀ s : State, s.powered = true → s.pwr.seq = .off →
    exec .pfw s = .next (s.settled (if s.sys.mode = .startup then { s with pwr := { s.pwr with seq := .startupHalt } }
      else s.seqBegin none)))
  ∧ (∀ s : State, s.pwr.seq = .startupHalt →
    exec .startupRetry s = .next (s.settled (s.powerCycle .regulators .startup 1)))
  ∧ (∀ (s : State) (cause : Option Nat), s.pwr.seq = .running cause → s.clk.gated = false → s.clk.rootLocked = true →
      s.sys.mode ≠ .recovery → s.sys.mode ≠ .startup → s.ktl.commits = [] →
    ∀ ok : Bool, let s1 := { s with ktl := { s.ktl with pendingC := [] } }.commitIntegrators ok
    exec (.pfwCommitDone ok) s =
      .next (s.settled { s1 with nv := { s1.nv with restart := { s1.nv.restart with lastStop := if cause = none then 1 else 3 } },
                                 pwr := { s1.pwr with seq := .done cause } }))
  ∧ (∀ (s : State) (cause : Option Nat), s.pwr.seq = .done cause →
    exec .powerRestart s = .next (s.settled (s.powerCycle .regulators .startup (cause.getD 1))))
  ∧ (∀ s : State, s.sys.mode ≠ .backup → exec .vinDark s = .next (s.settled (s.powerCycle .waitVin .backup 0)))
  ∧ (∀ s : State, s.sys.mode ≠ .backup →
    exec .resetNAssert s =
      .next (s.settled (({ s with clk := { s.clk with resetLow := true } } : State).powerCycle .waitVin .startup 2)))
  ∧ ∀ s : State, s.clk.resetLow = true → s.sys.mode ≠ .backup →
    exec .resetNRelease s =
      .next (s.settled { s with clk := { s.clk with resetLow := false },
                                sys := { s.sys with stage := .regulators, bootCause := 2 } }))
  ∧ (∀ (s : State) (st : Stage) (m : Mode) (cause : Nat),
    let t := s.powerCycle st m cause
    t.nv = { s.nv with journal := s.nv.journal.map (fun (j : Journal) => { j with slot := none }) }
      ∧ t.vbat = s.vbat ∧ t.rtc = s.rtc ∧ t.cdy = { s.cdy.disown (fun _ => true) with post := [] } ∧ t.pending = s.pending
      ∧ t.part = s.part ∧ t.upd.record = s.upd.record ∧ t.upd.rollback = s.upd.rollback
      ∧ t.sys.stage = st ∧ t.sys.mode = m ∧ t.sys.bootCause = cause
      ∧ t.mem = [] ∧ t.win = [] ∧ t.cmd = State.reset.cmd ∧ t.ces = State.reset.ces ∧ t.ktl = State.reset.ktl
      ∧ t.ptb = State.reset.ptb ∧ t.flt = State.reset.flt ∧ t.can = State.reset.can
      ∧ (Sparse.wf (dflt {}) s.lse.groups = true → ∀ n,
          (Sparse.get (dflt {}) t.lse.groups n).epoch = (Sparse.get (dflt {}) s.lse.groups n).epoch))

/-- Heartbeats (spec/09 R225, R226): those of the unfenced channels arrive; the supervisor fences a channel that is silent; the next
channel takes over from a silent supervisor, which it fences. The Hatstand (spec/22 R567 to R570): armed, it acts once: SAFE_N
is asserted, its path carries the outputs and its source is set; its beat and the loss of it; its oscillator's rate is kept in
HST_RC_KHZ, outside 7,200 to 8,800 with the source. Completes here (a clause ends in exec of it = next): heartbeat,
supervisorTakeover, channelHbLost, hatstandActs, hatstandBeat, hatstandLost, hstRcMeasure. -/
def Obligations.ChannelsAndHatstandAreWatched : Prop :=
  ((∀ s : State, s.coreUp = true → s.isFatal = false → s.clk.gated = false → s.unfenced ≠ [] → s.hst.armed = false →
    exec .heartbeat s =
      .next (s.settled { s with hst := { s.hst with beating := s.unfenced, supSeen := true, last := none } }))
  ∧ (∀ (s : State) (c : Nat), s.coreUp = true → s.isFatal = false → c ∈ s.unfenced → s.supervisor ≠ some c →
    exec (.channelHbLost c) s = .next (s.settled ((s.fence c).raiseSrc Pg.lse 8)))
  ∧ ∀ (s : State) (c k : Nat) (rest : List Nat), s.coreUp = true → s.isFatal = false → s.unfenced = k :: c :: rest → k ≠ c →
    exec (.supervisorTakeover c) s =
      .next (s.settled (((s.fence k).raiseSrc Pg.lse 3).bump Pg.lse Rg.LSE_SUP_CHANGES)))
  ∧ ((∀ s : State, s.hst.armed = true →
    exec .hatstandActs s =
      .next (s.settled (({ s with
        hst := { s.hst with armed := false, acted := true, path := true, beating := [], supSeen := false, last := none },
        sys := { s.sys with safeN := true } } : State).raiseSrc Pg.hst 0)))
  ∧ (∀ s : State, exec .hatstandBeat s = .next (s.settled { s with hst := { s.hst with beatOk := true } }))
  ∧ (∀ (s : State) (c : Nat), s.coreUp = true → s.supervisor = some c → s.hst.beatOk = true →
    exec .hatstandLost s =
      .next (s.settled (({ s with hst := { s.hst with beatOk := false } } : State).raiseSrc Pg.hst 1)))
  ∧ ∀ (s : State) (khz : Nat), s.coreUp = true →
    let s1 := s.setReg Pg.hst Rg.HST_RC_KHZ (wd (min khz 0xFFFF))
    exec (.hstRcMeasure khz) s = .next (s.settled (if khz < 7200 ∨ 8800 < khz then s1.raiseSrc Pg.hst 2 else s1)))

/-- Clocks (spec/23 R593, R595): loss of ROOT gates CCLK and ACLK, counts, sets its source and takes the riser ports down; relock
ends the hold; a measure of XIN goes to CLK_XIN_PPM, and to its source when it newly exceeds 100 ppm. Supplies and temperature
(spec/22 R579, R580): each threshold sets its source and PWR_TEMP where it is one of temperature; each measurement goes to its
register, that of VMET on parts with metrology only (spec/00 R4); a DIO bank's loss of supply sets its source (spec/18 R479).
Completes here (a clause ends in exec of it = next): rootUnlock, rootRelock, supplyEvent, vioBankChange, clkXinMeasure. -/
def Obligations.ClocksAndSuppliesAreWatched : Prop :=
  ((∀ s : State, s.coreUp = true →
    let s1 := { s with clk := { s.clk with rootLocked := false, gated := true },
                       hst := { s.hst with beating := [], supSeen := false } }
    let s2 := (s1.bump Pg.clk Rg.CLK_UNLOCKS).raiseSrc Pg.clk 0
    let dark (x : State) (w : Bool) : State :=
      if (x.rsPort w).st = 1 ∨ (x.rsPort w).st = 2 then x.rsFall w false else x.rsDown w .marker 0
    exec .rootUnlock s = .next (s.settled (dark (dark s2 false) true)))
  ∧ (∀ s : State, exec .rootRelock s = .next (s.settled { s with clk := { s.clk with rootLocked := true } }))
  ∧ ∀ (s : State) (v : Int), s.coreUp = true →
    let n := clampI (-32768) 32767 v
    let s1 := ({ s with clk := { s.clk with rtcRef := true } } : State).setReg Pg.clk Rg.CLK_XIN_PPM (wd (unsigned 16 n))
    exec (.clkXinMeasure v) s =
      .next (s.settled (if (signed 16 (s.reg Pg.clk Rg.CLK_XIN_PPM).toNat).natAbs ≤ 1000 ∧ 1000 < n.natAbs
        then s1.raiseSrc Pg.clk 1 else s1)))
  ∧ ((∀ (s : State) (v : Nat), s.powered = true →
    let temp := s.setReg Pg.pwr Rg.PWR_TEMP (wd (v % 65536))
    exec (.supplyEvent .tempHigh v) s = .next (s.settled (temp.raiseSrc Pg.pwr 2))
      ∧ exec (.supplyEvent .tempTrip v) s = .next (s.settled (temp.raiseSrc Pg.pwr 3))
      ∧ exec (.supplyEvent .tempNormal v) s = .next (s.settled temp)
      ∧ (let old := signed 16 (s.reg Pg.pwr Rg.PWR_TEMP).toNat
         let new := signed 16 (v % 65536)
         let s2 := if old ≤ 1150 ∧ 1150 < new then temp.raiseSrc Pg.pwr 2 else temp
         exec (.supplyEvent .tempMeasure v) s =
           .next (s.settled (if old ≤ 1250 ∧ 1250 < new then s2.raiseSrc Pg.pwr 3 else s2)))
      ∧ exec (.supplyEvent .regulator v) s = .next (s.settled (s.raiseSrc Pg.pwr 4))
      ∧ exec (.supplyEvent .vbatOk v) s = .next (s.settled { s with pwr := { s.pwr with vbatOk := true } })
      ∧ exec (.supplyEvent .vinMeasure v) s = .next (s.settled (s.setReg Pg.pwr Rg.PWR_VIN (wd (min v 0xFFFF))))
      ∧ exec (.supplyEvent .vbatMeasure v) s = .next (s.settled (s.setReg Pg.pwr Rg.PWR_VBAT (wd (min v 0xFFFF))))
      ∧ exec (.supplyEvent .vmetMeasure v) s =
          .next (s.settled (if s.metrology = true then s.setReg Pg.pwr Rg.PWR_VMET (wd (min v 0xFFFF)) else s)))
  ∧ (∀ (s : State) (v : Nat), s.powered = true → s.pwr.vbatOk = true →
    exec (.supplyEvent .vbatLow v) s =
      .next (s.settled (({ s with pwr := { s.pwr with vbatOk := false } } : State).raiseSrc Pg.pwr 1)))
  ∧ ∀ (s : State) (b : Nat), s.fio.vio.contains b = true →
    exec (.vioBankChange b false) s =
      .next (s.settled (({ s with fio := { s.fio with vio := delN s.fio.vio b, bankOff := addN s.fio.bankOff b } }
        : State).raiseSrc Pg.dio 1)))

/-- The VBAT domain (spec/15 R425, spec/20 R531, spec/23 R608): power-on loses the clock and begins the records anew; the cover
contact records its changes and openings with date and time, and VBM_READ of glove 0 answers and may clear the count; a tamper
event of a running module counts, sets its source and destroys the keys, after a transition under way (spec/20 R535); the loop
at TAMPER_N closed again is no tamper. Completes here (a clause ends in exec of it = next): vbatDomainPowerOn, tamper,
csealChange, vbmRead. -/
def Obligations.TheVbatDomainRecords : Prop :=
  (∀ s : State, exec .vbatDomainPowerOn s =
      .next (s.settled { s with rtc := {}, vbat := { csealOpen := s.vbat.csealOpen, tamperOpen := s.vbat.tamperOpen } }))
  ∧ (∀ (s : State) (o : Bool), s.vbat.csealOpen ≠ o →
    let k := if o then min (s.vbat.openings + 1) 0xFFFF else s.vbat.openings
    let v := { s.vbat with csealOpen := o, openings := k, chDate := s.rtc.date, chTime := s.rtc.time }
    exec (.csealChange o) s = .next (s.settled { s with vbat := v }))
  ∧ Takes .vbmRead 0x0C01 (fun c _ => c.tenant = false)
      (fun c t =>
        let s1 := if c.b 0 0 = true then { t with vbat := { t.vbat with openings := 0 } } else t
        s1.complete c.slot 0 (wd (t.vbat.csealOpen.toNat + 2 * t.vbat.tamperOpen.toNat + 65536 * t.vbat.openings))
          t.vbat.chDate t.vbat.chTime)
  ∧ ∀ s : State, s.powered = true →
    let s1 := ((s.lcsResume.bump Pg.key Rg.KEY_TAMPERS).raiseSrc Pg.key 0).destroyKeys
    exec (.tamper false false) s = .next (s.settled { s1 with key := { s1.key with tampered := true } })
      ∧ exec (.tamper true true) s = .next (s.settled { s with vbat := { s.vbat with tamperOpen := false } })

/-- Loop commands (spec/06 R150 to R153). LOOP_WRITE of a checked descriptor stores it in the loop table, its glove field kept for a
tenant, and with PERSIST journals it. LOOP_READ copies the entry, or a started role's copy. LOOP_START arms the named roles that
are not started and completes with the first release boundary and the roles started, NOTE for a cold start; a table entry that
cannot be read ends it FAILED_TABLE with its source (spec/06 R163). LOOP_STOP and LOOP_HANDOVER wait for their boundary,
LOOP_CLEAR_FLAGS for the next release, or completes at once where no role runs. LOOP_QUERY answers at once; its LOOP_LATE and
late periods are, of a lone shadow, the shadow's (the model's choice, log entry 102). Completes here (a clause ends in exec of
it = next): loopWrite, loopRead, loopStart, loopStop, loopHandover, loopQuery, loopClearFlags. -/
def Obligations.LoopCommandsComplete : Prop :=
  Takes .loopWrite 0x0301
      (fun c t => t.bufOk c (c.addr 1) 128 = true ∧ Desc.writable (t.load (c.addr 1) 128) = true
        ∧ t.loopMine c (c.f 0 0 16) = true ∧ t.isFatal = false ∧ t.loopBusy c (c.f 0 0 16) = false)
      (fun c t =>
        let l := c.f 0 0 16
        let b := t.load (c.addr 1) 128
        let g := if c.g = 0 then getLE b 3 1 else (getLE (t.ltEntry l) 3 1 % 64) + getLE b 3 1 / 64 * 64
        let b1 := patchB b 3 (leBytes 1 g)
        let s1 := t.store (t.ltAddr l) b1
        if c.b 0 16 = true then
          ({ s1 with nv := { s1.nv with journal := s1.nv.journal ++ [⟨some c.slot, .loop l b1⟩] } } : State).relayOut false l b1
        else s1.complete c.slot 0 0 0 0)
  ∧ Takes .loopRead 0x0302
      (fun c t => c.f 0 16 2 = 0 ∧ t.bufOk c (c.addr 1) 128 = true ∧ t.loopMine c (c.f 0 0 16) = true ∧ t.isFatal = false)
      (fun c t => (t.store (c.addr 1) (t.ltEntry (c.f 0 0 16))).complete c.slot 0 1 0 0)
  ∧ Takes .loopRead 0x0302
      (fun c t => (c.f 0 16 2 = 1 ∨ c.f 0 16 2 = 2) ∧ t.bufOk c (c.addr 1) 128 = true ∧ t.loopMine c (c.f 0 0 16) = true
        ∧ t.isFatal = false)
      (fun c t =>
        let r := (t.loop (c.f 0 0 16)).role (c.f 0 16 2 == 2)
        if r.started = true then (t.store (c.addr 1) r.copy).complete c.slot 0 1 0 0 else t.complete c.slot 0 0 0 0)
  ∧ Takes (fun r => .loopStart r false) 0x0303
      (fun c t =>
        let l := c.f 0 0 16
        let d := Desc.read (t.ltEntry l)
        let todo := (rolesOf (c.f 0 16 2)).filter (fun sh => !((t.loop l).role sh).started)
        let chan (sh : Bool) : Nat := t.startChan (t.loop l) d sh
        c.f 0 16 2 ≠ 3 ∧ t.loopMine c l = true ∧ t.live = true ∧ todo ≠ [] ∧ t.loopBusy c l = false
          ∧ d.defined = true ∧ Desc.passes (t.ltEntry l) = true
          ∧ (∀ sh ∈ todo, t.lse.fenced.contains (chan sh) = false ∧ t.running (Pg.cea (chan sh)) = true)
          ∧ t.loopFull (t.loop l).adopted l d = false
          ∧ ∀ sh ∈ todo, (t.rolesIn (chan sh)).length + (todo.filter (fun u => chan u == chan sh)).length ≤ 34816)
      (fun c t =>
        let l := c.f 0 0 16
        let b := t.ltEntry l
        let d := Desc.read b
        let todo := (rolesOf (c.f 0 16 2)).filter (fun sh => !((t.loop l).role sh).started)
        let s1 := todo.foldl
          (fun (a : State) sh => a.makeRole l sh (t.startChan (t.loop l) d sh) b (t.loop l).any false) t
        s1.complete c.slot (if (t.loop l).any = true then 0 else 0x0001) (wd (t.firstRelease d l))
          (wd ((s1.loop l).owner.started.toNat + 2 * (s1.loop l).shadow.started.toNat)) 0)
  ∧ Takes (fun r => .loopStart r true) 0x0303 (fun c _ => c.f 0 16 2 ≠ 3)
      (fun c t => (t.raiseSrc Pg.ces 0).complete c.slot 0x0201 0 0 0)
  ∧ Takes .loopStop 0x0304
      (fun c t =>
        let x := t.loop (c.f 0 0 16)
        let todo := (rolesOf (c.f 0 16 2)).filter (fun sh => (x.role sh).started)
        c.f 0 16 2 ≠ 3 ∧ t.loopMine c (c.f 0 0 16) = true ∧ t.isFatal = false ∧ todo ≠ []
          ∧ (c.f 0 16 2 = 0 → x.shadow.started = false) ∧ (∀ sh ∈ todo, t.running (Pg.cea (x.role sh).chan) = true)
          ∧ t.loopBusy c (c.f 0 0 16) = false)
      (fun c t =>
        let x := t.loop (c.f 0 0 16)
        t.setLoop (c.f 0 0 16) { x with stop := some ⟨some c.slot, (c.f 0 16 2 != 1) && x.owner.started,
          (c.f 0 16 2 != 0) && x.shadow.started⟩ })
  ∧ Takes .loopHandover 0x0305
      (fun c t => t.loopMine c (c.f 0 0 16) = true ∧ t.live = true ∧ t.loopBusy c (c.f 0 0 16) = false
        ∧ (t.loop (c.f 0 0 16)).owner.started = true ∧ (t.loop (c.f 0 0 16)).shadow.started = true
        ∧ t.running (Pg.cea (t.loop (c.f 0 0 16)).owner.chan) = true
        ∧ t.running (Pg.cea (t.loop (c.f 0 0 16)).shadow.chan) = true)
      (fun c t => t.setLoop (c.f 0 0 16) { t.loop (c.f 0 0 16) with handover := some (some c.slot) })
  ∧ Takes .loopQuery 0x0306 (fun c t => t.loopMine c (c.f 0 0 16) = true)
      (fun c t =>
        let x := t.loop (c.f 0 0 16)
        let o := x.owner
        let lead := if o.started = false ∧ x.shadow.started = true then x.shadow else o
        let f := o.started.toNat + 2 * x.shadow.started.toNat + 4 * o.chan + 16 * x.shadow.chan + 64 * x.window.toNat
          + 128 * x.latePending.toNat
          + 256 * (o.line.satAcc.toNat + 2 * o.line.satInt.toNat + 4 * o.line.satOut.toNat + 8 * o.line.satSp.toNat)
          + 4096 * lead.line.late.toNat
        t.complete c.slot 0 (wd f) (wd lead.line.latePeriods) (wd x.lastPub))
  ∧ Takes .loopClearFlags 0x0307
      (fun c t => t.loopMine c (c.f 0 0 16) = true ∧ t.isFatal = false ∧ t.loopBusy c (c.f 0 0 16) = false
        ∧ (t.loop (c.f 0 0 16)).any = true)
      (fun c t => t.setLoop (c.f 0 0 16) { t.loop (c.f 0 0 16) with clear := some (c.slot, c.f 1 0 5) })
  ∧ Takes .loopClearFlags 0x0307
      (fun c t => t.loopMine c (c.f 0 0 16) = true ∧ t.isFatal = false ∧ t.loopBusy c (c.f 0 0 16) = false
        ∧ (t.loop (c.f 0 0 16)).any = false)
      (fun c t => t.complete c.slot 0 0 0 0)

/-- Task commands (spec/08 R213, R214), as the loop commands do: TASK_WRITE of a checked copy whose priority is free stores it, its
glove field the issuer's choice only for glove 0. Completes here (a clause ends in exec of it = next): taskWrite, taskRead,
taskStart, taskStop, taskHandover, taskQuery. -/
def Obligations.TaskCommandsComplete : Prop :=
  Takes .taskWrite 0x0401
      (fun c t => t.taskBufOk c (c.addr 1) = true ∧ TaskCopy.passes (t.taskBuf (c.addr 1)) = true
        ∧ t.taskMine c (c.f 0 0 4) = true ∧ t.isFatal = false ∧ t.taskBusy c (c.f 0 0 4) = false
        ∧ t.prioFree (c.f 0 0 4) (t.taskBuf (c.addr 1)).d.prio = true)
      (fun c t =>
        let k := c.f 0 0 4
        let b := t.taskBuf (c.addr 1)
        let g := if c.g = 0 then b.d.glove else (t.taskEntry k).d.glove
        let b1 := { b with desc := patchB b.desc 0 (leBytes 4 (setBf (wd (getLE b.desc 0 4)) 8 6 g).toNat) }
        let s1 := t.setTaskEntry k b1
        if c.b 0 16 = true then
          ({ s1 with nv := { s1.nv with journal := s1.nv.journal ++ [⟨some c.slot, .task k b1⟩] } } : State).relayOut true k b1.bytes
        else s1.complete c.slot 0 0 0 0)
  ∧ Takes .taskRead 0x0402
      (fun c t => c.f 0 16 2 = 0 ∧ t.bufOk c (c.addr 1) (c.arg 3).toNat = true ∧ t.taskMine c (c.f 0 0 4) = true
        ∧ t.isFatal = false)
      (fun c t =>
        let b := (t.taskEntry (c.f 0 0 4)).bytes.take (c.arg 3).toNat
        (t.store (c.addr 1) b).complete c.slot 0 (wd b.length) 0 0)
  ∧ Takes .taskRead 0x0402
      (fun c t => (c.f 0 16 2 = 1 ∨ c.f 0 16 2 = 2) ∧ t.bufOk c (c.addr 1) (c.arg 3).toNat = true
        ∧ t.taskMine c (c.f 0 0 4) = true ∧ t.isFatal = false)
      (fun c t =>
        let r := (t.task (c.f 0 0 4)).role (c.f 0 16 2 == 2)
        let b := r.copy.bytes.take (c.arg 3).toNat
        if r.started = true then (t.store (c.addr 1) b).complete c.slot 0 (wd b.length) 0 0 else t.complete c.slot 0 0 0 0)
  ∧ Takes .taskStart 0x0403
      (fun c t =>
        let k := c.f 0 0 4
        let b := t.taskEntry k
        let todo := (rolesOf (c.f 0 16 2)).filter (fun sh => !((t.task k).role sh).started)
        let chan (sh : Bool) : Nat := t.startTaskChan (t.task k) b.d sh
        c.f 0 16 2 ≠ 3 ∧ t.taskMine c k = true ∧ t.live = true ∧ todo ≠ [] ∧ t.taskBusy c k = false
          ∧ b.d.defined = true ∧ TaskCopy.passes b = true ∧ t.prioFree k b.d.prio = true
          ∧ ∀ sh ∈ todo, t.lse.fenced.contains (chan sh) = false ∧ t.kettleOk (chan sh) = true)
      (fun c t =>
        let k := c.f 0 0 4
        let b := t.taskEntry k
        let todo := (rolesOf (c.f 0 16 2)).filter (fun sh => !((t.task k).role sh).started)
        let cold := !(t.task k).any
        let s0 := if cold = true then { t with
          ktl := { t.ktl with
            lc := Sparse.keep (fun i => i / 65536 != k) t.ktl.lc
            lcDone := Sparse.keep (fun i => i / 65536 != k) t.ktl.lcDone } } else t
        let s1 := todo.foldl (fun (a : State) sh => a.makeTaskRole k sh (t.startTaskChan (t.task k) b.d sh) b (!cold)) s0
        let y := s1.task k
        s1.complete c.slot (if todo.any (fun sh => !(y.role sh).copyFrom) = true then 0x0001 else 0) (wd (t.firstTaskRelease b.d))
          (wd (y.owner.started.toNat + 2 * y.shadow.started.toNat)) 0)
  ∧ Takes .taskStop 0x0404
      (fun c t =>
        let x := t.task (c.f 0 0 4)
        let todo := (rolesOf (c.f 0 16 2)).filter (fun sh => (x.role sh).started)
        c.f 0 16 2 ≠ 3 ∧ t.taskMine c (c.f 0 0 4) = true ∧ t.isFatal = false ∧ todo ≠ []
          ∧ (c.f 0 16 2 = 0 → x.shadow.started = false) ∧ (∀ sh ∈ todo, t.running (Pg.ktl (x.role sh).chan) = true)
          ∧ t.taskBusy c (c.f 0 0 4) = false)
      (fun c t =>
        let x := t.task (c.f 0 0 4)
        t.setTask (c.f 0 0 4) { x with stop := some ⟨some c.slot, (c.f 0 16 2 != 1) && x.owner.started,
          (c.f 0 16 2 != 0) && x.shadow.started⟩ })
  ∧ Takes .taskHandover 0x0405
      (fun c t => t.taskMine c (c.f 0 0 4) = true ∧ t.live = true ∧ t.taskBusy c (c.f 0 0 4) = false
        ∧ (t.task (c.f 0 0 4)).owner.started = true ∧ (t.task (c.f 0 0 4)).shadow.started = true
        ∧ t.running (Pg.ktl (t.task (c.f 0 0 4)).owner.chan) = true
        ∧ t.running (Pg.ktl (t.task (c.f 0 0 4)).shadow.chan) = true)
      (fun c t => t.setTask (c.f 0 0 4) { t.task (c.f 0 0 4) with handover := some (some c.slot) })
  ∧ Takes .taskQuery 0x0406 (fun c t => t.taskMine c (c.f 0 0 4) = true)
      (fun c t =>
        let x := t.task (c.f 0 0 4)
        let f := x.owner.started.toNat + 2 * x.shadow.started.toNat + 4 * x.owner.chan + 16 * x.shadow.chan
          + 64 * x.window.toNat + 128 * x.latePending.toNat
        t.complete c.slot 0 (wd f) (wd x.lateCount) (wd (match t.kNewest (c.f 0 0 4) with | some k => k.seq | none => x.lastSeq)))

/-- A tick boundary (spec/06 R138 to R145, R149, spec/09 R223, spec/18 R476, spec/22 R572): the errors that struck data at rest
since the last one take hold (`struck`, log entry 150), after a life-cycle transition or an UPD_CONFIRM under way (log entry
160), the tick is counted and the field pages write their points; until boundary k of the power-fail sequence has passed, the
windows of occupancy end, the image is fixed, field inputs sampled, loops and tasks checked and published; off that sequence
channels are then readmitted and, in a module that runs, loops and tasks released and LOOPCTLs advanced. A read of CES_TICK_LO
latches the high word (spec/06 R158). Cups (spec/06 R133, R142, R146, R163): a step that ends stores its result and the cup
takes its next entry; the cycles that it waited for data count in CEA_STALL; an upset that no check sees alters the result, a
corrected one counts only where the line is in SRAM; one that a check sees stores nothing and sets its source, and one that its
data cannot be read for returns its entry, as a step does that cannot end, whose other cycles of the 4,096 were busy (R149); a
unit test after a mismatch is recorded for every open test of the unit, and the tests that are decided come to their outcome
(spec/09 R218). Completes here (a clause ends in exec of it = next): tickBoundary, unitTestDone, cupStepDone, stepTimeout,
cesTickLoRead. -/
def Obligations.TicksRunTheLoops : Prop :=
  ((∀ (s : State) (strikes : List Strike), s.coreUp = true → s.pwr.kPassed = true →
    let h := strikes.foldl State.struck s.unfinished
    exec (.tickBoundary strikes) s =
      .next (s.settled ({ h with ces := { h.ces with tick := s.ces.tick + 1 } } : State).fieldTick))
  ∧ (∀ (s : State) (strikes : List Strike), s.coreUp = true → s.pwr.kPassed = false →
    let k := s.ces.tick + 1
    let h := strikes.foldl State.struck s.unfinished
    let put (x : State) : State := { x with pwr := { x.pwr with kPassed := s.pfw && s.sys.mode != .recovery } }
    let s0 : State := (({ h with ces := { h.ces with tick := k } } : State).occupancy k).kettleOccupancy k
    let s1 : State := s0.takeImage k
    let a := s1.fieldTick.loopsCheck k
    let b := a.1.tasksCheck k
    let r := b.1.readmit k (a.2, b.2)
    let s5 : State := ((r.1.loopsRelease k r.2.1).tasksRelease k s1.lcResults r.2.2).lcAdvance
    exec (.tickBoundary strikes) s =
      .next (s.settled (put (if s0.pfw = true then b.1
        else if s0.live = true then (if s5.sys.safeWait = .tick then s5.safeOff else s5) else r.1.lcAdvance))))
  ∧ (∀ s : State, s.key.cut = none → s.upd.burnt = false → s.unfinished = s)
  ∧ ∀ (s : State) (r : Requester) (g : Nat), s.reads r g Pg.ces Rg.CES_TICK_LO = true →
    exec (.cesTickLoRead r) s = .next (s.settled (s.setReg Pg.ces Rg.CES_TICK_HI (wd (s.ces.tick / 2 ^ 32)))))
  ∧ ((∀ (s : State) (c u stall : Nat) (e : DqEntry), s.coreUp = true → s.cupRuns c u = some e →
      let s1 := s.bumpBy (Pg.cea c) Rg.CEA_STALL stall
      let sram := ((s1.loop e.loop).role (s1.entrySh c e)).sram
      exec (.cupStepDone c u .none stall) s = .next (s.settled ((s1.storeStep c e 0).cupFree c u))
      ∧ (∀ m, exec (.cupStepDone c u (.flip m) stall) s = .next (s.settled ((s1.storeStep c e m).cupFree c u)))
      ∧ exec (.cupStepDone c u .corrected stall) s = .next (s.settled
          (((if sram = true then (s1.bump (Pg.cea c) Rg.CEA_SRAM_CE).raiseSrc (Pg.cea c) 2 else s1).storeStep c e 0).cupFree c u))
      ∧ exec (.cupStepDone c u .lockstep stall) s = .next (s.settled ((s1.raiseSrc (Pg.cea c) 0).cupFree c u))
      ∧ exec (.cupStepDone c u .romParity stall) s = .next (s.settled ((s1.raiseSrc (Pg.cea c) 6).cupFree c u))
      ∧ exec (.cupStepDone c u .dequeParity stall) s = .next (s.settled ((s1.raiseSrc (Pg.cea c) 7).cupFree c u))
      ∧ exec (.cupStepDone c u .lineEcc stall) s =
          .next (s.settled ((s1.raiseSrc (Pg.cea c) (if sram = true then 1 else 5)).cupRetry c u e))
      ∧ exec (.cupStepDone c u .copyEcc stall) s = .next (s.settled ((s1.raiseSrc (Pg.cea c) 5).cupRetry c u e))
      ∧ exec (.stepTimeout c u stall) s = .next (s.settled
          (((s1.addBusy c (4096 - stall - s.stepBooked c e)).raiseSrc (Pg.cea c) 3).cupRetry c u e)))
  ∧ ∀ (s : State) (task : Bool) (item : Nat) (shadow pass : Bool) (t : UnitTest), s.coreUp = true →
      s.lse.tests.find? (fun t => t.task == task && t.item == item) = some t →
    let c := if shadow then t.shChan else t.ownChan
    let u := if shadow then t.shCup else t.ownCup
    let hitO (x : UnitTest) : Bool := x.task == task && x.ownChan == c && x.ownCup == u && x.ownDone.isNone
    let hitS (x : UnitTest) : Bool := x.task == task && x.shChan == c && x.shCup == u && x.shDone.isNone
    let put (x : UnitTest) : UnitTest :=
      { x with ownDone := if hitO x = true then some pass else x.ownDone, shDone := if hitS x = true then some pass else x.shDone }
    exec (.unitTestDone task item shadow pass) s =
      .next (s.settled (({ s with lse := { s.lse with tests := s.lse.tests.map put } } : State).fenceMany 5 [])))

/-- The Kettles (spec/08 R195, R207, R210, R216) and the integrator commit (spec/01 R13): a Kettle runs the entry that is its turn,
and one that meets an error does not run and sets its source; a verified commit fills the older slot, with its sequence number
in SYS_KTL_COMMIT_SEQ, and counts, while one that fails leaves the previous slot valid and sets KTL.COMMIT_FAIL; a cycle past
its deadline sets its source; each second the loop integrators go to the other buffer, which is valid if it reads back.
Completes here (a clause ends in exec of it = next): kettleCallEntry, kettleCommitDone, kettleOverrun, loopIntegratorCommit. -/
def Obligations.KettlesRunAndCommit : Prop :=
  (∀ (s : State) (c t : Nat) (sh : Bool), s.coreUp = true → s.kettleOk c = true → s.ktl.testing.contains c = false →
      s.kettlePick c = some (t, sh) →
    exec (.kettleCallEntry c .none) s = .next (s.settled (s.runEntry c t sh 0))
      ∧ (∀ m, exec (.kettleCallEntry c (.flip m)) s = .next (s.settled (s.runEntry c t sh m)))
      ∧ exec (.kettleCallEntry c .corrected) s =
          .next (s.settled (((s.bump (Pg.ktl c) Rg.KTL_WORK_CE).raiseSrc (Pg.ktl c) 2).runEntry c t sh 0))
      ∧ (∀ u, u = .lineEcc ∨ u = .copyEcc → exec (.kettleCallEntry c u) s = .next (s.settled (s.raiseSrc (Pg.ktl c) 1)))
      ∧ exec (.kettleCallEntry c .romParity) s = .next (s.settled (s.raiseSrc (Pg.ktl c) 3))
      ∧ exec (.kettleCallEntry c .badEntry) s = .next (s.settled (s.raiseSrc (Pg.ktl c) 4)))
  ∧ (∀ (s : State) (t : Nat) (k : KCommit), s.coreUp = true → Sparse.get (dflt none) s.ktl.commits t = some k →
      s.ktl.pendingC = [] →
    let s1 := { s with ktl := { s.ktl with commits := Sparse.set (dflt none) s.ktl.commits t none } }
    let b := if s1.klast t k.layout k.gen = some 0 then 1 else 0
    let s2 := s1.setKslot b t (k.slot t)
    let s3 := { s2 with sys := { s2.sys with ktlSeq := wd k.seq } }
    exec (.kettleCommitDone t true) s =
        .next (s.settled ((s3.setTask t { s3.task t with lastSeq := k.seq }).bump (Pg.ktl k.chan) Rg.KTL_COMMITS))
      ∧ exec (.kettleCommitDone t false) s = .next (s.settled (s1.raiseSrc (Pg.ktl k.chan) 5)))
  ∧ (∀ (s : State) (t : Nat) (sh : Bool), s.coreUp = true →
      let r := (s.task t).role sh
      r.started = true → r.busy = true → s.lse.fenced.contains r.chan = false → r.deadline ≤ s.ces.tick →
    exec (.kettleOverrun t sh) s = .next (s.settled (s.raiseSrc (Pg.ktl ((s.task t).role sh).chan) 0)))
  ∧ ∀ (s : State) (ok : Bool), s.coreUp = true → s.pwr.seq = .off → s.clk.gated = false → s.sys.mode ≠ .startup →
      s.sys.mode ≠ .recovery →
    let own := s.ces.loops.filter (fun e => e.2.owner.started && !e.2.adopted && e.2.owner.armed.isNone)
    let m := own.foldl (fun (m : Sparse Int) (e : Nat × LoopSt) => Sparse.put m e.1 e.2.owner.line.integ) []
    let b : LBuf := { valid := ok, seq := s.nv.lseq + 1, gen := s.sys.runGen, integ := m }
    let toOne := s.nv.lbuf0.valid && (!s.nv.lbuf1.valid || decide (s.nv.lbuf1.seq < s.nv.lbuf0.seq))
    let s1 := { s with nv := { s.nv with lseq := s.nv.lseq + 1, lbuf0 := if toOne = true then s.nv.lbuf0 else b,
                                         lbuf1 := if toOne = true then b else s.nv.lbuf1 } }
    exec (.loopIntegratorCommit ok) s =
      .next (s.settled (if ok = true then { s1 with sys := { s1.sys with loopSeq := wd (s.nv.lseq + 1) } }
        else s1.raiseSrc Pg.pwr 5))

/-- An input is usable with quality GOOD, CLAMPED, FALLBACK or FORCED, and unusable with STALE or NONE, and a loop reads no other
property of a point, neither its age nor its owner (spec/07 R178): where two states have the same map, the same input results,
and the same value and quality of every point in the tick image, an invocation captures the same inputs. One that primes
(spec/09 R231) also reads the value of its OUT point, as its glove sees it (spec/05 R119). -/
def Obligations.InputsAreValueAndQuality : Prop :=
  (∀ q < 6, usableQ q = true ↔ q = 1 ∨ q = 3 ∨ q = 4 ∨ q = 5)
  ∧ (∀ (s : State) (d : Desc) (primes : Bool),
      (s.captureIns d primes).1.measOk = usableQ (s.imagePoint d.glove d.meas).qual
      ∧ (s.captureIns d primes).1.meas = (s.imagePoint d.glove d.meas).value.toNat
      ∧ (d.usesSp = true → d.spsrc = 1 → (s.captureIns d primes).1.srcOk = usableQ (s.imagePoint d.glove d.spPt).qual)
      ∧ (d.kind = 8 → (s.captureIns d primes).1.auxOk = usableQ (s.imagePoint d.glove d.aux).qual)
      ∧ (primes = true → (s.captureIns d primes).1.outV = (s.imagePoint d.glove d.out).value.toNat))
  ∧ ∀ (s t : State) (d : Desc) (primes : Bool), (∀ p, t.mapW p = s.mapW p) →
    (∀ p, (Sparse.get (dflt {}) t.ptb.image.points p).value = (Sparse.get (dflt {}) s.ptb.image.points p).value
      ∧ (Sparse.get (dflt {}) t.ptb.image.points p).qual = (Sparse.get (dflt {}) s.ptb.image.points p).qual) →
    t.ptb.image.inputs = s.ptb.image.inputs → t.captureIns d primes = s.captureIns d primes

/-- Channel commands of glove 0 (spec/09 R222, R248): CH_SELFTEST of a fenced channel whose pages are stopped begins its test, whose
end without a failed part sets TEST_PASS and completes with 1, and with failed parts sets LSE.SELFTEST_FAIL and completes FAILED
with them; CH_FENCE fences and completes with FENCED. Lease commands (spec/09 R232, R248, R249). LSE_CLAIM of a group that is
not HELD, or of all LOST own groups of the issuer, claims with NEXT from the next cycle, and waits; with no group to claim it
completes at once. LSE_RELEASE releases a HELD group and waits; LSE_UNADOPT ends the adoption: HELD partner groups release and
it waits for them, claims in hand end, and with none HELD it completes at once; LSE_QUERY answers with state, last NAK reason
and epochs; LSE_WARM_TASK stores a checked task of the partner. That a group claimed at mode entry is claimed anew is the
model's choice (log entry 107). Completes here (a clause ends in exec of it = next): chSelftest, chFence, lseClaim, lseRelease,
lseUnadopt, lseQuery, lseWarmTask, chSelftestDone. -/
def Obligations.LeaseCommandsComplete : Prop :=
  (Takes .chSelftest 0x0501
      (fun c t => c.tenant = false ∧ t.isFatal = false ∧ t.lse.fenced.contains (c.f 0 0 2) = true
        ∧ t.stopped (Pg.cea (c.f 0 0 2)) = true ∧ t.stopped (Pg.ktl (c.f 0 0 2)) = true
        ∧ ∀ e ∈ t.lse.selftests, e.1 ≠ c.f 0 0 2)
      (fun c t => { t with lse := { t.lse with selftests := t.lse.selftests ++ [(c.f 0 0 2, c.slot)] } })
  ∧ Takes .chFence 0x0502
      (fun c t => c.tenant = false ∧ t.live = true ∧ (t.lse.fenced.contains (c.f 0 0 2) = false → t.unfenced ≠ [c.f 0 0 2])
        ∧ ∀ e ∈ t.lse.selftests, e.1 ≠ c.f 0 0 2)
      (fun c t => let s1 := t.fence (c.f 0 0 2)
        s1.complete c.slot 0 (wd s1.fencedBits) 0 0)
  ∧ ∀ (s : State) (n slot : Nat), s.coreUp = true → s.lse.selftests.find? (fun e => e.1 == n) = some (n, slot) →
      s.lse.selftestHit = [] → s.lse.fenced.contains n = true →
    let l := s.lse.selftests.filter (fun e => e.1 != n)
    exec (.chSelftestDone n 0) s =
        .next (s.settled (({ s with lse := { s.lse with selftests := l, testPass := addN s.lse.testPass n } } : State).complete
          slot 0 1 0 0))
      ∧ ∀ m, m < 512 → m ≠ 0 → exec (.chSelftestDone n (2 * m)) s =
        .next (s.settled ((({ s with lse := { s.lse with selftests := l } } : State).raiseSrc Pg.lse 7).complete
          slot 0x0201 (wd (2 * m)) 0 0)))
  ∧ (Takes .lseClaim 0x0503
      (fun c t => c.b 0 15 = false ∧ t.leaseLive = true ∧ (t.group (c.f 0 0 11)).st ≠ .held
        ∧ (t.group (c.f 0 0 11)).cmd = none ∧ ∃ r, t.row (c.f 0 0 11) = some r ∧ r.glove = c.g)
      (fun c t =>
        let i := c.f 0 0 11
        let ms := c.f 1 0 16
        let k : ClaimCmd := { slot := c.slot, all := false, left := [i],
                              until_ := if ms = 0 then none else some (t.now1 + ms * 1000000) }
        let g := { t.group i with prior := if (t.group i).st = GrpState.claiming then .idle else (t.group i).st, cmd := some c.slot }
        ({ t with lse := { t.lse with claims := t.lse.claims ++ [k] } } : State).setGroup i
          (g.claim (t.ptb.cycle + 1) true 0 (c.b 0 16 && c.g == 0)))
  ∧ Takes .lseClaim 0x0503
      (fun c t => c.b 0 15 = true ∧ t.leaseLive = true
        ∧ ∀ i ∈ t.defined, ownGroup i = true → (t.group i).st = .lost → (t.group i).cmd = none)
      (fun c t =>
        let ms := c.f 1 0 16
        let gs := t.defined.filter (fun i => ownGroup i && (t.group i).st == .lost
          && (match t.row i with | some r => r.glove == c.g | none => false))
        let k : ClaimCmd := { slot := c.slot, all := true, left := gs,
                              until_ := if ms = 0 then none else some (t.now1 + ms * 1000000) }
        if gs = [] then t.complete c.slot 0 0 0 0
        else gs.foldl (fun (a : State) i =>
          let g := { a.group i with prior := if (a.group i).st = GrpState.claiming then .idle else (a.group i).st, cmd := some c.slot }
          a.setGroup i (g.claim (a.ptb.cycle + 1) true 0 (c.b 0 16 && c.g == 0)))
          { t with lse := { t.lse with claims := t.lse.claims ++ [k] } })
  ∧ Takes .lseRelease 0x0504
      (fun c t => t.leaseLive = true ∧ (t.group (c.f 0 0 11)).st = .held
        ∧ (t.group (c.f 0 0 11)).cmd = none ∧ ∃ r, t.row (c.f 0 0 11) = some r ∧ r.glove = c.g)
      (fun c t =>
        let s1 := t.setGroup (c.f 0 0 11) { (t.group (c.f 0 0 11)).release (c.b 0 16) with cmd := some c.slot }
        if ownGroup (c.f 0 0 11) = true then s1 else s1.checkAdopt)
  ∧ Takes .lseUnadopt 0x0505
      (fun c t => c.tenant = false ∧ t.leaseLive = true ∧ t.lse.adopting = true)
      (fun c t =>
        let gs := t.defined.filter (fun i => !ownGroup i)
        let n := (gs.filter (fun i => (t.group i).st == .held)).length
        let s1 := gs.foldl (fun (a : State) i =>
          let g := a.group i
          if g.st = .held then a.setGroup i (g.release false)
          else if g.st = .claiming then
            (match g.cmd with
              | some m => a.claimFail i m none
              | none => a.setGroup i { g with st := .idle })
          else a) t
        if n = 0 then s1.endAdopt.complete c.slot 0 0 0 0
        else { s1.endAdopt with lse := { s1.endAdopt.lse with unadopt := some (c.slot, n) } })
  ∧ Takes .lseQuery 0x0506
      (fun c t => ∃ r, t.row (c.f 0 0 11) = some r ∧ r.glove = c.g)
      (fun c t =>
        let g := t.group (c.f 0 0 11)
        t.complete c.slot 0 (wd (g.st.code + 256 * g.nak)) (wd g.epoch) (wd g.nodeEpoch))
  ∧ Takes .lseWarmTask 0x0507
      (fun c t => t.taskBufOk c (c.addr 1) = true ∧ TaskCopy.passes (t.taskBuf (c.addr 1)) = true ∧ c.tenant = false
        ∧ t.isFatal = false)
      (fun c t => (t.setTaskEntry (16 + c.f 0 0 4) (t.taskBuf (c.addr 1))).complete c.slot 0 t.lse.warmGen 0 0))

/-- Leases at work (spec/09 R228, R238, R239): at the send instant every DEFINED group sends what its state asks for; a NAK of a
HELD group counts, and FENCED (reason 1), of an own group, makes it LOST; a GRANT of a claiming group makes it HELD; a relayed
loop write of the partner, whether or not PARTNER_EN is set (log entry 24), enters the warm copy and marks the loop for
adoption, and a relayed task write enters the warm copy. Completes here (a clause ends in exec of it = next): relayWriteRx,
leaseSendInstant, leaseAnswerRx. -/
def Obligations.LeasesAreKept : Prop :=
  (∀ s : State, s.coreUp = true → s.lse.unadopt = none →
    let ok := s.leaseOk && !s.stopped Pg.lse
    let live := ok && s.running Pg.lse && (s.sys.mode == .run || s.sys.mode == .degraded)
    let s1 := s.defined.foldl (fun (a : State) i => a.groupSend ok live i) s
    let s2 : State := { s1 with lse := { s1.lse with stopWait := false } }
    s2.lse.unadopt = none →
    exec .leaseSendInstant s = .next (s.settled s2))
  ∧ (∀ (s : State) (can : Bool) (port node vlan i : Nat) (pdu : List Byte), s.coreUp = true → s.running Pg.lse = true →
      s.lse.silentSafe = false → s.pwr.seq = .off → 24 ≤ pdu.length → getLE pdu 0 1 = 0x4C → getLE pdu 1 1 = 4 →
      getLE pdu 3 1 = 1 → s.answerFor can port node vlan pdu = some i → (s.group i).st = .held → ownGroup i = true →
    let g := { s.group i with nak := 1, nodeEpoch := beNat (sliceB pdu 8 4) }
    exec (.leaseAnswerRx can port node vlan pdu) s =
      .next (s.settled (((s.bump Pg.lse Rg.LSE_NAKS).setGroup i g).groupLost i)))
  ∧ (∀ (s : State) (can : Bool) (port node vlan i : Nat) (pdu : List Byte) (r : GroupRow), s.coreUp = true →
      s.running Pg.lse = true → s.lse.silentSafe = false → s.pwr.seq = .off → 24 ≤ pdu.length → getLE pdu 0 1 = 0x4C →
      getLE pdu 1 1 = 3 → s.answerFor can port node vlan pdu = some i → s.row i = some r → (s.group i).st = .claiming →
    let e := beNat (sliceB pdu 8 4)
    exec (.leaseAnswerRx can port node vlan pdu) s =
      .next (s.settled ((s.setGroup i { s.group i with nodeEpoch := e }).granted i r e)))
  ∧ (∀ (s : State) (f : List Byte), s.coreUp = true → s.pwr.seq = .off →
      getLE f 14 1 = 0x57 → getLE f 16 1 = bf (s.reg Pg.lse Rg.LSE_CTRL) 8 7 → getLE f 15 1 = 0 →
      Desc.writable (f.drop 20) = true → f.length = 148 →
    let s1 := { s with lse := { s.lse with warmGen := s.lse.warmGen + 1 } }
    exec (.relayWriteRx f) s =
      .next (s.settled ((s1.store (s1.ltAddr (beNat (sliceB f 18 2))) (f.drop 20)).markAdopt (beNat (sliceB f 18 2)))))
  ∧ ∀ (s : State) (f : List Byte), s.coreUp = true → s.pwr.seq = .off → getLE f 14 1 = 0x57 →
      getLE f 16 1 = bf (s.reg Pg.lse Rg.LSE_CTRL) 8 7 → getLE f 15 1 = 1 → 20 < f.length →
      TaskCopy.passes (TaskCopy.ofBytes (f.drop 20)) = true → (f.drop 20).length = taskLen (f.drop 20) →
    let s1 := { s with lse := { s.lse with warmGen := s.lse.warmGen + 1 } }
    exec (.relayWriteRx f) s =
      .next (s.settled (s1.setTaskEntry (16 + beNat (sliceB f 18 2) % 16) (TaskCopy.ofBytes (f.drop 20))))

/-- The ring of points (spec/13 R354, R359 to R363, R370, R372): at a TPI cycle boundary the ring closes, remote entries age, leases
and the partner are served, the module publishes off the power-fail sequence, and change-of-value events are posted; an error
that the point table's ECC corrects (counted in PTB_CE, R369) or does not sets its source first, and `spoilt` names the loops
whose bits in the adoption bitmap cannot be read (spec/09 R251). A frame that passes counts, its records are taken, and a
publication of the partner is seen (spec/09 R229); one of the module's own comes back round; one that fails counts and sets its
source. TPI_CYCLE_LO latches the high word. Completes here (a clause ends in exec of it = next): tpiCycleBoundary, tpiFrameRx,
tpiCycleLoRead. -/
def Obligations.PointsGoRound : Prop :=
  (∀ (s : State) (e : Ecc) (spoilt : List Nat), s.coreUp = true →
    let s0 := match e with
      | .none => s
      | .corrected => (s.bump Pg.ptb Rg.PTB_CE).raiseSrc Pg.ptb 1
      | .lost => s.raiseSrc Pg.ptb 0
    let s1 := { s0 with ptb := { s0.ptb with cycle := s0.cycleNo, boundAt := some s0.now1 } }
    let s2 := s1.closeRing.agePoints.leaseBoundary spoilt
    exec (.tpiCycleBoundary e spoilt) s =
      .next (s.settled (if s.pfw = true then s2 else s2.publish).postCov))
  ∧ (∀ (s : State) (west : Bool) (b : List Byte), s.coreUp = true → s.running Pg.tpi = true →
      tpiField b 6 1 ≠ s.ptb.addr → s.tpiGood b = true →
    let f : RxFrame := { west := west, adopt := tpiField b 2 1 % 2 == 1, src := tpiField b 6 1, origin := tpiField b 7 1,
                         cyc := tpiField b 8 4 }
    let s1 := s.bump Pg.tpi Rg.TPI_RX_FRAMES
    let s2 := (rxRuns b (tpiField b 0x0E 2) 46).foldl (fun (a : State) r => a.rxRun f b r) s1
    exec (.tpiFrameRx west b) s =
      .next (s.settled (if f.src = bf (s.reg Pg.lse Rg.LSE_CTRL) 8 7 ∧ f.adopt = false then
        { s2 with lse := { s2.lse with partnerNow := true } } else s2)))
  ∧ (∀ (s : State) (west : Bool) (b : List Byte), s.coreUp = true → s.running Pg.tpi = true → tpiField b 6 1 = s.ptb.addr →
    exec (.tpiFrameRx west b) s = .next (s.settled
      { s with ptb := { s.ptb with backE := s.ptb.backE || west, backW := s.ptb.backW || !west } }))
  ∧ (∀ (s : State) (west : Bool) (b : List Byte), s.coreUp = true → s.running Pg.tpi = true → tpiField b 6 1 ≠ s.ptb.addr →
      s.tpiGood b = false →
    exec (.tpiFrameRx west b) s = .next (s.settled ((s.bump Pg.tpi Rg.TPI_BAD_HDR).raiseSrc Pg.tpi 2)))
  ∧ ∀ (s : State) (r : Requester) (g : Nat), s.reads r g Pg.tpi Rg.TPI_CYCLE_LO = true →
    exec (.tpiCycleLoRead r) s = .next (s.settled (s.setReg Pg.tpi Rg.TPI_CYCLE_HI (wd (s.ptb.cycle / 2 ^ 32))))

/-- One record of a frame (spec/13 R361, R362, R372, R373, R352): one with a wrong glove, type or quality counts in TPI_REC_DENY,
whatever else it fails; one for an OWN point that its role does not let in counts in TPI_CLASH with its source, unless the
frame's ORIGIN is this module. One for an unused or forced point, one that is not valid, one that comes while PTB does not run
and one that is older than what is held write nothing; any other replaces value and quality, names its source, and sets
TPI.STALE where it turns the entry STALE. Point commands (spec/13 R367): PT_READ copies entries as the issuer sees them into its
buffer, which it changes and nothing else; PT_WRITE of a command point of the issuer, and a force, set value and quality; a
release ends the force. Completes here (a clause ends in exec of it = next): ptRead, ptWrite. -/
def Obligations.PointCommandsComplete : Prop :=
  (∀ (s : State) (f : RxFrame) (p v tag : Nat),
    let m := s.mapW p
    let t := wd tag
    let wrong := bf t 16 6 ≠ mGlove m ∨ bf t 4 3 ≠ mType m ∨ 5 < bf t 0 4
    let out := s.roleTakes f p = false
    let s1 := if wrong then s.bump Pg.tpi Rg.TPI_REC_DENY else s
    let s2 := if mRole m = 1 ∧ out ∧ f.origin ≠ s.ptb.addr then (s1.bump Pg.tpi Rg.TPI_CLASH).raiseSrc Pg.tpi 1 else s1
    let none := s.unused p = true ∨ out ∨ wrong ∨ (s.pointOf p).forced = true ∨ s.running Pg.ptb = false
      ∨ takesEffect (s.pointOf p).held f = false
    (none → s.rxRecord f p v tag = s2)
    ∧ (¬ none →
        let s3 := s.setPoint p { (s.pointOf p).put s.tchgNow (wd v) (bf t 0 4) with
          age := bf t 8 8, ptype := mType m, glove := mGlove m, owner := f.src, dirW := f.west, adopted := f.adopt, miss := 0,
          seen := true, held := some (f.adopt, f.cyc) }
        s.rxRecord f p v tag = (if bf t 0 4 = 2 ∧ (s.pointOf p).qual ≠ 2 then s3.raiseSrc Pg.tpi 3 else s3))
    ∧ (¬ none → Sparse.wf (dflt {}) s.ptb.points = true →
        let x := (s.rxRecord f p v tag).pointOf p
        x.value = wd v ∧ x.qual = bf t 0 4 ∧ x.age = bf t 8 8 ∧ x.owner = f.src ∧ x.adopted = f.adopt ∧ x.miss = 0
          ∧ x.held = some (f.adopt, f.cyc) ∧ ∀ q ≠ p, (s.rxRecord f p v tag).pointOf q = s.pointOf q))
  ∧ (Takes .ptRead 0x0701
      (fun c t => 0 < c.f 1 0 13 ∧ c.f 1 0 13 ≤ 4096 ∧ c.f 0 0 16 + c.f 1 0 13 ≤ 65536
        ∧ t.bufOk c (c.addr 2) (16 * c.f 1 0 13) = true)
      (fun c t =>
        let b := (List.range (c.f 1 0 13)).flatMap (fun k => (t.pointFor t.ptb.points c.g (c.f 0 0 16 + k)).bytes)
        (t.store (c.addr 2) b).complete c.slot 0 (wd (c.f 1 0 13)) (wd t.cycleNo) 0)
  ∧ Takes .ptWrite 0x0702
      (fun c t => t.ptMine c ∧ c.b 0 16 = false ∧ c.b 0 17 = false ∧ c.f 2 0 4 ∈ [0, 1, 3, 4]
        ∧ mKind (t.mapW (c.f 0 0 16)) = 7 ∧ (t.pointOf (c.f 0 0 16)).forced = false)
      (fun c t =>
        let y := t.written (c.f 0 0 16) (c.arg 1) (c.f 2 0 4)
        (t.setPoint (c.f 0 0 16) y).complete c.slot 0 y.tchg 0 0)
  ∧ Takes .ptWrite 0x0702
      (fun c t => t.ptMine c ∧ c.b 0 16 = true ∧ c.b 0 17 = false)
      (fun c t =>
        let y := { t.written (c.f 0 0 16) (c.arg 1) 5 with forced := true }
        (t.setPoint (c.f 0 0 16) y).complete c.slot 0 y.tchg 0 0)
  ∧ Takes .ptWrite 0x0702
      (fun c t => t.ptMine c ∧ c.b 0 16 = false ∧ c.b 0 17 = true ∧ (t.pointOf (c.f 0 0 16)).forced = true)
      (fun c t =>
        let x := t.pointOf (c.f 0 0 16)
        let y := { x.put t.tchgNow x.value 0 with forced := false }
        (t.setPoint (c.f 0 0 16) y).complete c.slot 0 y.tchg 0 0))

/-- Time passes (spec/15 R397; that a step on an empty queue is one tick of 4 ns is the model's choice, log entry 1): on an empty
queue a module whose clocks run moves every time base by 4 ns and its rate, in units of 2^-32 ns modulo 2^64 s, and keeps its NS
below 10^9 and its FRAC below 2^32; without them no time base moves. Reading time (spec/15 R398, R417): a read of TMB_NOW_NS
latches SEC and FRAC in the requester's bank; a capture write takes all four time bases at once. Completes here (a clause ends
in exec of it = next): tmbNowNsRead, tmbCapture. -/
def Obligations.TimeBasesCount : Prop :=
  ((∀ t : TmbSt, let u := t.edge
      (u.value : Int) = ((t.value : Int) + 4 * 2 ^ 32 + t.rate) % (2 ^ 64 * 1000000000 * 2 ^ 32)
        ∧ u.ns < 1000000000 ∧ u.frac < 2 ^ 32 ∧ u.sec < 2 ^ 64 ∧ u.rate = t.rate ∧ u.integ = t.integ ∧ u.locked = t.locked)
  ∧ (∀ s : State, s.pending = [] → s.coreUp = true →
      ∃ t, step s = .next t ∧ t.tmb0 = s.tmb0.edge ∧ t.tmb1 = s.tmb1.edge ∧ t.tmb2 = s.tmb2.edge ∧ t.tmb3 = s.tmb3.edge
        ∧ t.rtc = s.rtc.edge ∧ t.mem = s.mem ∧ t.win = s.win ∧ t.cmd = s.cmd ∧ t.ces = s.ces ∧ t.ktl = s.ktl ∧ t.ptb = s.ptb)
  ∧ ∀ s : State, s.pending = [] → s.coreUp = false → step s = .next { s with rtc := s.rtc.edge })
  ∧ ((∀ (s : State) (r : Requester) (g n : Nat), s.reads r g (Pg.tmb n) Rg.TMB_NOW_NS = true →
    let t := s.tmb n
    let p := Pg.tmb n
    let b := bankOf r
    exec (.tmbNowNsRead r n) s =
      .next (s.settled (((s.setBreg b p Rg.TMB_NOW_SEC_LO (wd t.sec)).setBreg b p Rg.TMB_NOW_SEC_HI (wd (t.sec / 2 ^ 32))).setBreg
        b p Rg.TMB_NOW_FRAC (wd t.frac))))
  ∧ ∀ (s : State) (r : Requester) (g n : Nat) (w : Word), s.writes r g (Pg.tmb n) Rg.TMB_CAPTURE = true → bit w 0 = true →
    let p := Pg.tmb n
    let put (a : State) (k : Nat) : State :=
      (((a.setReg p (Rg.TMB_CAP_NS + 16 * k) (wd (s.tmb k).ns)).setReg p (Rg.TMB_CAP_SEC_LO + 16 * k) (wd (s.tmb k).sec)).setReg
        p (Rg.TMB_CAP_SEC_HI + 16 * k) (wd ((s.tmb k).sec / 2 ^ 32))).setReg p (Rg.TMB_CAP_FRAC + 16 * k) (wd (s.tmb k).frac)
    exec (.tmbCapture r n w) s = .next (s.settled (put (put (put (put s 0) 1) 2) 3)))

/-- The servo (spec/15 R400 to R404). A sample that reaches the offset register of TMB0, TMB2 or TMB3 is slewed unless a step is
due: integral and rate move as R401 says. A sample over ten times LOCK_NS steps an unlocked base: its rate and integral stay.
Without samples the base goes into holdover at its integral. In MANUAL samples change nothing and no holdover begins. Completes
here (a clause ends in exec of it = next): tmbOffsetSample, tmbHoldover. -/
def Obligations.TheServoSlewsAndSteps : Prop :=
  (∀ (s : State) (r : Requester) (g n : Nat) (lo : Word), s.writes r g (Pg.tmb n) Rg.TMB_OFS_LO = true → n ≠ 1 →
      s.running (Pg.tmb n) = true → (s.tmb n).manual = false →
    let p := Pg.tmb n
    let o := signed 64 (lo.toNat + 2 ^ 32 * (s.reg p Rg.TMB_OFS_HI).toNat)
    let t := { s.tmb n with hold := false, last := o }
    let s1 := s.setTmb n t
    let lockNs := s.fld p Rg.TMB_LOCK 0 16
    (t.locked = false → 10 * lockNs * 65536 < o.natAbs →
      exec (.tmbOffsetSample r n lo) s =
        .next (s.settled ((s1.setTmb n (t.setValue ((t.value : Int) - o * 65536))).stepped n)))
    ∧ (o.natAbs ≤ 10 * lockNs * 65536 →
      let kp : Int := s.fld p Rg.TMB_KP_KI 0 16
      let ki : Int := s.fld p Rg.TMB_KP_KI 16 16
      let iNew := t.integ - ki * o
      let rNew := iNew - kp * o
      let i := if (rNew.natAbs : Int) ≤ ppbLimit ∨ iNew.natAbs < t.integ.natAbs then clampI (-ppbLimit) ppbLimit iNew
               else t.integ
      let rr := clampI (-ppbLimit) ppbLimit (i - kp * o)
      let good := if o.natAbs ≤ lockNs * 65536 then min (t.good + 1) 255 else 0
      let lk := t.locked || decide (s.fld p Rg.TMB_LOCK 16 8 ≤ good)
      let s2 := s1.setTmb n { t with integ := i, good := good, locked := lk }
      (t.locked = true → o.natAbs ≤ 1000000000 * 65536) →
      exec (.tmbOffsetSample r n lo) s =
        .next (s.settled (s2.setRate n (rateOf rr) (decide ((rr.natAbs : Int) = ppbLimit))))))
  ∧ (∀ (s : State) (n : Nat), s.coreUp = true → n ≠ 1 → s.running (Pg.tmb n) = true → (s.tmb n).manual = false →
      (s.tmb n).hold = false →
    let t := s.tmb n
    exec (.tmbHoldover n) s =
      .next (s.settled (((s.setTmb n { t with hold := true }).setRate n (rateOf t.integ)
        (decide ((t.integ.natAbs : Int) = ppbLimit))).raiseSrc (Pg.tmb n) 0)))
  ∧ ∀ (s : State) (r : Requester) (g n : Nat) (lo : Word), s.writes r g (Pg.tmb n) Rg.TMB_OFS_LO = true →
      (s.tmb n).manual = true →
    exec (.tmbOffsetSample r n lo) s = .next (s.settled s) ∧ exec (.tmbHoldover n) s = .next (s.settled s)

/-- The real-time clock (spec/15 R422 to R425): a load waits and is then taken, with LOST cleared; a nudge is clamped to ±16,384 and
applied at the wrap of SUBSEC, whose carry it makes or withholds; a wrap carries; the crystal's stop sets its source and ends
with an edge. Carries of the real-time clock (spec/15 R424): below their limits SEC, MIN, HOUR and DAY move by one and leave the
rest; the last second of a year makes the first of the next; February has 29 days in a leap year alone. Completes here (a clause
ends in exec of it = next): xtalStop, rtcLoad, rtcLoadApplied, rtcNudgeWrite, rtcNudgeApplied, rtcSecondCarry, xtalResume. -/
def Obligations.TheClockCounts : Prop :=
  ((∀ (s : State) (r : Requester) (g : Nat) (v : Word), s.writes r g Pg.rtc Rg.RTC_CTRL = true → bit v 0 = true →
    exec (.rtcLoad r v) s = .next (s.settled { s with rtc := { s.rtc with loadBusy := true } }))
  ∧ (∀ s : State, s.rtc.loadBusy = true → s.rtc.xtalStop = false →
    let t := s.reg Pg.rtc Rg.RTC_SET_TIME
    let d := s.reg Pg.rtc Rg.RTC_SET_DATE
    let rtc := { s.rtc with phase := 0, subsec := bf t 0 15, sec := bf t 15 6, min := bf t 21 6, hour := bf t 27 5,
                            year := bf d 0 12, month := bf d 12 4, day := bf d 16 5, weekday := bf d 21 3, loadBusy := false,
                            nudge := none, lost := false }
    exec .rtcLoadApplied s = .next (s.settled { s with rtc := rtc }))
  ∧ (∀ (s : State) (r : Requester) (g : Nat) (v : Word), s.writes r g Pg.rtc Rg.RTC_NUDGE = true → s.rtc.nudge = none →
    let k := clampI (-16384) 16384 (signed 16 v.toNat)
    exec (.rtcNudgeWrite r v) s =
      .next (s.settled { s.setReg Pg.rtc Rg.RTC_NUDGE (wd (unsigned 16 k)) with rtc := { s.rtc with nudge := some k } }))
  ∧ (∀ (s : State) (k : Int), s.rtc.nudge = some k → s.rtc.xtalStop = false →
    let rtc : RtcSt := if 0 ≤ k then ({ s.rtc with subsec := k.toNat, phase := 0, nudge := none } : RtcSt).carry
      else { s.rtc with subsec := (32768 + k).toNat, phase := 0, nudge := none }
    exec .rtcNudgeApplied s = .next (s.settled { s with rtc := rtc }))
  ∧ (∀ s : State, s.rtc.nudge = none → s.rtc.xtalStop = false →
    exec .rtcSecondCarry s = .next (s.settled { s with rtc := ({ s.rtc with subsec := 0, phase := 0 } : RtcSt).carry }))
  ∧ (∀ s : State, s.coreUp = true → s.rtc.xtalStop = false →
    exec .xtalStop s = .next (s.settled (({ s with rtc := { s.rtc with xtalStop := true } } : State).raiseSrc Pg.rtc 1)))
  ∧ ∀ s : State, exec .xtalResume s = .next (s.settled { s with rtc := { s.rtc with xtalStop := false } }))
  ∧ ((∀ r : RtcSt, r.sec < 59 → r.carry = { r with sec := r.sec + 1 })
  ∧ (∀ r : RtcSt, r.sec = 59 → r.min < 59 → r.carry = { r with sec := 0, min := r.min + 1 })
  ∧ (∀ r : RtcSt, r.sec = 59 → r.min = 59 → r.hour < 23 → r.carry = { r with sec := 0, min := 0, hour := r.hour + 1 })
  ∧ (∀ r : RtcSt, r.sec = 59 → r.min = 59 → r.hour = 23 → r.weekday < 6 → r.day < monthLen r.year r.month →
    r.carry = { r with sec := 0, min := 0, hour := 0, weekday := r.weekday + 1, day := r.day + 1 })
  ∧ (∀ r : RtcSt, r.sec = 59 → r.min = 59 → r.hour = 23 → r.weekday = 6 → r.month = 12 → r.day = 31 → r.year < 4095 →
    r.carry = { r with sec := 0, min := 0, hour := 0, weekday := 0, day := 1, month := 1, year := r.year + 1 })
  ∧ ∀ y, monthLen y 2 = if (4 ∣ y ∧ ¬ 100 ∣ y) ∨ 400 ∣ y then 29 else 28)

/-- Analogue inputs (spec/18 R465 to R469): a converter's slots follow in ascending order, and the conversion after an overrange in
the same group of four is discarded and counts; a level within the range, V times 3,276.8 or I times 1,600, rounded to nearest,
sets code and quality GOOD; one beyond the range, judged on its exact value, or one with the shunt open is clamped, with quality
CLAMPED, sets AIN_OVR and its source and discards the next; a shunt opens at too high a current and is closed again for one try.
That the level comes in nV or pA is the model's choice (log entry 156). Pulse inputs (spec/18 R471 to R475): a level counts once
it has held for the filter's time, and a period runs from rising edge to rising edge; FREQ forms its result from the periods of
the millisecond, without the first after a start; a timeout makes it STALE with its source; COUNT counts the edges selected
after inversion and filter, up or down, modulo 2^32; a write of PIN_VAL loads it; an index edge in QUAD with a deviation within
the tolerance sets the count to the expected one and the drift. Outputs and digital inputs (spec/18 R479, R486): an overload
sets its bit and source; a readback fault its source; a debounced level is the pin's level; a new PWM period of a bank whose
pins follow nothing ends low. Completes here (a clause ends in exec of it = next): ainConversion, ainShuntOpen, ainShuntRetry,
pinResultUpdate, pinTimeout, pinIndex, pinValWrite, dioInputDebounced, pinEdge, outputOverload, aoutReadbackFault, dioPwmPeriod. -/
def Obligations.FieldSignalsAreTaken : Prop :=
  ((∀ (s : State) (n : Nat) (level : Int), s.ainOn = true → Sparse.get (dflt 0) s.fio.slots (n / 4) = n % 4 →
    let s0 : State := { s with fio := { s.fio with slots := Sparse.set (dflt 0) s.fio.slots (n / 4) ((n + 1) % 4) } }
    let num : Int := if s.ainRange n = 3 then level * 1600 else level * 32768
    let den : Nat := if s.ainRange n = 3 then 1000000000 else 10000000000
    let opened := s.ainRange n = 3 ∧ s.flag Pg.ain Rg.AIN_SHUNT n = true
    let fio := { s0.fio with shuntTry := delN s.fio.shuntTry n }
    (s.fio.discard.contains (n / 4) = true →
      exec (.ainConversion n level) s =
        .next (s.settled (({ s0 with fio := { s0.fio with discard := delN s.fio.discard (n / 4) } } : State).bump Pg.ain
          Rg.AIN_DISCARDS)))
    ∧ (s.fio.discard.contains (n / 4) = false → s.ainRange n ≠ 0 → s.fio.clamp.contains n = false → ¬ opened →
        s.fio.shuntTry.contains n = false → -32768 * den ≤ num → num ≤ 32767 * den →
      exec (.ainConversion n level) s =
        .next (s.settled (({ s0 with fio := { fio with clamp := delN s.fio.clamp n } } : State).ainUse n (nearestInt num den) 1)))
    ∧ (s.fio.discard.contains (n / 4) = false → s.ainRange n ≠ 0 → s.fio.clamp.contains n = false →
        s.fio.shuntTry.contains n = false → (opened ∨ 32767 * den < num ∨ num < -32768 * den) →
      let s1 : State := { s0 with
        fio := { fio with clamp := addN s.fio.clamp n, discard := addN s.fio.discard (n / 4) } }
      exec (.ainConversion n level) s =
        .next (s.settled (((s1.setReg Pg.ain Rg.AIN_OVR (s1.reg Pg.ain Rg.AIN_OVR ||| oneBit n)).raiseSrc Pg.ain 0).ainUse
          n (if opened ∨ 0 ≤ num then 32767 else -32768) 3))))
  ∧ (∀ (s : State) (n : Nat), s.ainOn = true → s.ainRange n = 3 → s.flag Pg.ain Rg.AIN_SHUNT n = false →
    exec (.ainShuntOpen n) s =
      .next (s.settled ((s.setReg Pg.ain Rg.AIN_SHUNT (s.reg Pg.ain Rg.AIN_SHUNT ||| oneBit n)).raiseSrc Pg.ain 1)))
  ∧ ∀ (s : State) (n : Nat), s.ainOn = true → s.flag Pg.ain Rg.AIN_SHUNT n = true →
    exec (.ainShuntRetry n) s =
      .next (s.settled { s with fio := { s.fio with shuntTry := addN s.fio.shuntTry n } }))
  ∧ ((∀ (w : PinWave) (filt : Nat) (l : Bool) (d : Nat), l ≠ w.level →
    (filt ≠ 0 → w.cand + d < 2 ^ filt → w.run filt l d = ({ w with cand := w.cand + d }, []))
    ∧ (filt = 0 ∨ 2 ^ filt ≤ w.cand + d → w.seen = true →
        (w.run filt l d).1.level = l ∧ (w.run filt l d).2 = (if l = true then [(w.t, w.hi)] else [])))
  ∧ (∀ (s : State) (n : Nat) (wave : List (Bool × Nat)) (u : PinWave) (l : List (Nat × Nat)) (x : Nat × Nat), s.coreUp = true →
      s.running Pg.pin = true → s.pinMode n = 1 → s.fio.pinFirst.contains n = false → s.pinRuns n wave = (u, x :: l) →
    exec (.pinResultUpdate n wave) s =
      .next (s.settled (({ s with
        fio := { s.fio with waves := Sparse.set (dflt {}) s.fio.waves n u, pinFirst := delN s.fio.pinFirst n } } : State).setPin n
        (wd (nearestDiv ((l.length + 1) * 25000000000) ((x :: l).foldl (fun k p => k + p.1) 0))) 1)))
  ∧ (∀ (s : State) (n : Nat), s.coreUp = true → s.running Pg.pin = true → periodic (s.pinMode n) = true →
      bf (s.reg Pg.pin (pinOff Rg.PIN_TMO n)) 0 16 ≠ 0 →
    let s1 := s.setPin n (s.pinVal n) 2
    exec (.pinTimeout n) s =
      .next (s.settled (({ s1 with fio := { s1.fio with pinFirst := addN s1.fio.pinFirst n } } : State).raiseSrc Pg.pin 1)))
  ∧ (∀ (s : State) (n held : Nat), s.coreUp = true → s.running Pg.pin = true → s.fio.pinHigh.contains n = false →
      s.pinMode n = 2 → bf (s.reg Pg.pin (pinOff Rg.PIN_CFG n)) 4 2 = 0 → bit (s.reg Pg.pin (pinOff Rg.PIN_CFG n)) 6 = false →
    let cfg := s.reg Pg.pin (pinOff Rg.PIN_CFG n)
    let level := !bit cfg 7
    let raw := if level = true then addN s.fio.pinRaw n else delN s.fio.pinRaw n
    (bf cfg 8 4 = 0 ∨ 2 ^ bf cfg 8 4 ≤ held →
      let s1 : State := { s with fio := { s.fio with pinRaw := raw, pinHigh := addN s.fio.pinHigh n } }
      exec (.pinEdge n level false held) s = .next (s.settled (s1.setReg Pg.pin (pinOff Rg.PIN_VAL n) (s.pinVal n + 1))))
    ∧ (bf cfg 8 4 ≠ 0 → held < 2 ^ bf cfg 8 4 →
      exec (.pinEdge n level false held) s = .next (s.settled { s with fio := { s.fio with pinRaw := raw } })))
  ∧ (∀ (s : State) (r : Requester) (g n : Nat) (v : Word), s.writes r g Pg.pin (pinOff Rg.PIN_VAL n) = true → s.pinMode n = 2 →
    exec (.pinValWrite r n v) s = .next (s.settled (s.setReg Pg.pin (pinOff Rg.PIN_VAL n) v)))
  ∧ ∀ (s : State) (k : Nat), s.coreUp = true → s.running Pg.pin = true → s.pinMode (2 * k) = 4 →
      bit (s.reg Pg.pin (pinOff Rg.PIN_CFG (2 * k))) 12 = true →
    let o (off : Nat) : Nat := pinOff off k
    let s1 := s.setReg Pg.pin (o Rg.PIN_IDXSTAT) (s.reg Pg.pin (o Rg.PIN_IDXSTAT) ||| 2)
    let c := (s.pinVal (2 * k)).toInt
    let e := expectedAt c (s.reg Pg.pin (o Rg.PIN_IDXEXP)).toInt (s.reg Pg.pin (o Rg.PIN_IDXPER)).toNat
    (c - e).natAbs ≤ bf (s.reg Pg.pin (o Rg.PIN_IDXTOL)) 0 16 →
    exec (.pinIndex k) s =
      .next (s.settled ((s1.setReg Pg.pin (pinOff Rg.PIN_VAL (2 * k)) (BitVec.ofInt 32 e)).setReg Pg.pin (o Rg.PIN_IDXDRIFT)
        (BitVec.ofInt 32 (sat32 ((s.reg Pg.pin (o Rg.PIN_IDXDRIFT)).toInt + (c - e)))))))
  ∧ ((∀ (s : State) (k : Nat), s.coreUp = true →
    exec (.outputOverload k) s =
      .next (s.settled (if k < 8 then (s.setReg Pg.aout Rg.AOUT_OVL (s.reg Pg.aout Rg.AOUT_OVL ||| oneBit k)).raiseSrc Pg.aout 0
        else (s.setReg Pg.dio Rg.DIO_OVL (s.reg Pg.dio Rg.DIO_OVL ||| oneBit (k - 8))).raiseSrc Pg.dio 0)))
  ∧ (∀ (s : State) (n : Nat), s.coreUp = true → n < 8 →
    exec (.aoutReadbackFault n) s = .next (s.settled (s.raiseSrc Pg.aout 1)))
  ∧ (∀ (s : State) (n : Nat) (l : Bool), s.coreUp = true →
    exec (.dioInputDebounced n l) s = .next (s.settled { s with fio := { s.fio with dioIn := setBit s.fio.dioIn n l } }))
  ∧ ∀ (s : State) (b : Nat), s.coreUp = true → s.sys.mode = .safe →
    exec (.dioPwmPeriod b) s =
      .next (s.settled ((List.range 8).foldl (fun (a : State) k =>
        { a with fio := { a.fio with pwmDuty := Sparse.set (dflt 0) a.fio.pwmDuty (8 * b + k) 0 } }) s)))

/-- Power and seal of the Caddy (spec/10 R257, R276, R277, R280, spec/11 R309, R310): VMET starts an unpowered Caddy; its fall stops
it, with an orderly stop where the hold-up lasts and the Caddy is not halted, whose commit writes the open summaries (R270), and
else with what was being written (`torn`) lost; a seal that opens is kept with its time, starts the identity display, marks the
header and is logged; one that closes is logged with its duration and refuses the deliveries in hand. Clocks and time of the
Caddy (spec/10 R259 to R261, R280): the change to the fallback oscillator, with the ratio in force, and back, with its duration,
are logged and mark the header; its error is kept while ROOT/700 runs; a TMB3 copy, with its fraction, sets legal time, ends a
holdover, which is logged and marks the header, and is logged itself where it moves legal time by more than 1 s; ten
milliseconds without one begin a holdover. Completes here (a clause ends in exec of it = next): caddyStart, vmetTrip,
sealChange, clkFallback, clkRoot, fallbackMeasure, tmb3Copy, timeHoldover. -/
def Obligations.TheCaddyStartsAndKeepsTime : Prop :=
  ((∀ (s : State) (o : Bool), s.metrology = true → s.cdy.mode = .unpowered →
    exec (.caddyStart 0 o) s =
      .next (s.settled (({ s with pwr := { s.pwr with vmetOk := true } } : State).onCaddy (fun k => k.start 0 o))))
  ∧ (∀ (s : State) (hold torn : Bool), s.metrology = true → s.cdy.mode ≠ .unpowered →
    let k := s.cdy
    let c1 := if hold = true ∧ k.mode ≠ .halted then ({ k.endPaths with dark := true } : CdySt).orderlyStop
      else if torn = true ∧ hold = false then
        { k.tearCommit with dark := true, paths := k.paths.map (fun (e : Nat × PathSt) => (e.1, e.2.tear k.ticks)) }
      else { k with dark := true }
    exec (.vmetTrip hold torn) s =
      .next (s.settled (({ s with pwr := { s.pwr with vmetOk := false } } : State).onCaddy (fun _ =>
        { c1.dropMail with mode := .unpowered, restart := 1, pulse := [], drivers := [],
                           paths := c1.paths.map (fun (e : Nat × PathSt) => (e.1, e.2.idle)) }))))
  ∧ (∀ s : State, s.cdy.mode ≠ .unpowered → s.cdy.sealOpen = false →
    let k := s.cdy
    exec (.sealChange true) s =
      .next (s.settled (s.onCaddy (fun _ => ({ k with
        sealOpen := true, sealSince := k.ticks, fbSeal := k.fallback, identAt := k.ticks, ident := k.ticks + 480000,
        hdrFlags := k.hdrFlags ||| 8 } : CdySt).logEv 0x10))))
  ∧ ∀ s : State, s.cdy.mode ≠ .unpowered → s.cdy.sealOpen = true →
    let k := s.cdy
    exec (.sealChange false) s =
      .next (s.settled (s.onCaddy (fun _ =>
        (({ k with sealOpen := false, identAt := k.ticks, ident := k.ticks + 480000 } : CdySt).logAt 0x11 0xFFFF
          (k.ticks - k.sealSince) [] k.time (k.fbSeal || k.fallback) k.holdover).refuseDeliveries))))
  ∧ ((∀ s : State, s.cdy.mode ≠ .unpowered → s.cdy.fallback = false →
    exec .clkFallback s =
      .next (s.settled (s.onCaddy (fun k =>
        ({ k with fallback := true, fbSince := k.ticks, fbSeal := true, fbHo := true, fbSplit := true, fbLost := true,
                  hdrFlags := k.hdrFlags ||| 1, sums := k.sums.map (fun (x : CdySum) => { x with fb := true }) } : CdySt).logEv
          0x30 [wd (unsigned 32 (clampI (-100000) 100000 k.clkErr))]))))
  ∧ (∀ s : State, s.coreUp = true → s.cdy.mode ≠ .unpowered → s.cdy.fallback = true →
    exec .clkRoot s =
      .next (s.settled (s.onCaddy (fun k => { k.logAt 0x31 0xFFFF (k.ticks - k.fbSince) [] k.time true k.holdover
        with fallback := false, hdrFlags := k.hdrFlags ||| 1 }))))
  ∧ (∀ (s : State) (ppb : Int), s.cdy.mode ≠ .unpowered → s.cdy.fallback = false →
    exec (.fallbackMeasure ppb) s = .next (s.settled (s.onCaddy (fun k => { k with clkErr := ppb }))))
  ∧ (∀ s : State, s.coreUp = true → s.cdy.mode ≠ .unpowered →
    let t : LTime := ⟨s.tmb3.sec, s.tmb3.ns, s.tmb3.frac⟩
    let d := t.diff s.cdy.time
    let ns := d.tdiv (2 ^ 32)
    let move (k : CdySt) : CdySt :=
      { (if k.holdover = true then { k.logAt 0x33 0xFFFF (k.ticks - k.hoSince) [] k.time (k.fbHo || k.fallback) true
          with holdover := false, hdrFlags := k.hdrFlags ||| 2 } else k) with time := t }
    (d.natAbs ≤ 1000000000 * 2 ^ 32 → exec .tmb3Copy s = .next (s.settled (s.onCaddy move)))
    ∧ (1000000000 * 2 ^ 32 < d.natAbs → exec .tmb3Copy s = .next (s.settled (s.onCaddy (fun k => (move k).logEv 0x34
        [wd (unsigned 64 (ns.tdiv 1000000000) % 2 ^ 32), wd (unsigned 64 (ns.tdiv 1000000000) / 2 ^ 32),
         wd (unsigned 32 (ns.tmod 1000000000))])))))
  ∧ ∀ s : State, s.cdy.mode ≠ .unpowered → s.cdy.holdover = false →
    exec .timeHoldover s =
      .next (s.settled (s.onCaddy (fun k =>
        ({ k with holdover := true, hoSince := k.ticks, fbHo := k.fallback, hdrFlags := k.hdrFlags ||| 2 } : CdySt).logEv 0x32))))

/-- Samples (spec/10 R264 to R270, spec/12 R319): a sample period of a METERING Caddy takes every input's bits, moves legal time by
125 µs and, once the first samples after its start are discarded, counts the sample and the duration that the clock in force
gives it; an input goes into data loss or overrange once, as an episode of its summary, where an overrange that leads into a
loss is none of its own; a summary is logged 60 s after it opened, and an episode that goes on then opens the next (the model's
choice, log entry 138). Windows and pulses (spec/11 R289, R302, R303, R308): at a window boundary a METERING Caddy that has
1,600 samples closes the window with them, starts the paths' intervals, turns its inputs, serves measurement, snapshots and the
commit, and takes the next delivery that waits; samples that came since belong to the next window. An idle output with a pending
count starts a pulse, whose high and low times end in turn. Completes here (a clause ends in exec of it = next): dataLoss, ovr,
summaryWrite, windowBoundary, pulseStart, pulseEnd, caddySample. -/
def Obligations.WindowsAreClosed : Prop :=
  ((∀ (s : State) (l : List (Nat × BitVec 1250)) (d : List Nat), s.cdy.mode = .metering →
    let k := s.cdy
    let c1 := (List.range 152).foldl (fun (a : CdySt) i => a.sampleInput i (k.streamOf l i)) k
    let c2 := (List.range 40).foldl (fun (a : CdySt) p => a.setDrv p (k.stepDriver d p)) c1
    let c3 : CdySt := { c2 with time := k.time.add 125000, ticks := k.ticks + 1, discard := k.discard - 1, n := k.n + 1,
                                lfsr := if k.n % 64 = 63 then lfsrNext k.lfsr else k.lfsr,
                                samples := k.samples + k.counts.toNat,
                                winSince := if k.counts = true then k.winSince else k.time.add 125000,
                                durs := if k.counts = true then
                                  (if k.fallback = true then some k.clkErr else none) :: k.durs else k.durs }
    exec (.caddySample l d) s = .next (s.settled (s.onCaddy (fun _ => c3))))
  ∧ (∀ (s : State) (i n : Nat), (s.cdy.inp i).loss = false →
    exec (.dataLoss i n) s =
      .next (s.settled (s.onCaddy (fun k =>
        let c1 := if (k.inp i).ovr = true then k.sumDrop 0x40 i (k.inp i).ovrN else k
        ({ c1.setInp i { k.inp i with loss := true, left := 0, ovr := false, ovrN := 0 } with lossHit := true }
          : CdySt).sumEpisode 0x41 i (k.bitTime n 640)))))
  ∧ (∀ (s : State) (i n : Nat), (s.cdy.inp i).loss = false → (s.cdy.inp i).ovr = false →
    exec (.ovr i n) s =
      .next (s.settled (s.onCaddy (fun k =>
        ({ k.setInp i { k.inp i with ovr := true, ovrN := 0 } with ovrHit := true } : CdySt).sumEpisode 0x40 i
          (k.bitTime n 16)))))
  ∧ ∀ (s : State) (typ subj : Nat) (x : CdySum), s.cdy.sums.find? (fun y => y.typ == typ && y.subject == subj) = some x →
      x.since + 480000 ≤ s.cdy.ticks → s.cdy.mode ≠ .unpowered →
    exec (.summaryWrite typ subj) s = .next (s.settled (s.onCaddy (fun k =>
      let c1 := k.sumWrite x
      if typ = 0x40 ∧ (c1.inp subj).ovr = true then (c1.setInp subj { c1.inp subj with ovrN := 0 }).sumEpisode typ subj c1.time
      else if typ = 0x41 ∧ (c1.inp subj).loss = true then c1.sumEpisode typ subj c1.time
      else c1))))
  ∧ ((∀ (s : State) (fails : Bool), s.cdy.mode = .metering → 1600 ≤ s.cdy.samples →
    let k := s.cdy
    let m := k.samples - 1600
    let c1 := ((((k.early m).closeWindow 1600 true).startIntervals).turnInputs).late k m
    exec (.windowBoundary fails) s = .next (s.settled (s.onCaddy (fun _ =>
      ((c1.serveCal.serveSnaps s.market).serveCommit fails).nextDeliveries s.market))))
  ∧ (∀ (s : State) (q : Nat), s.cdy.mode = .metering → q ≤ 31 → s.cdy.pulseOf q = .idle → s.cdy.pending q ≠ 0 →
      prmPulseSel s.cdy.prm q ≠ 8 → (s.cdy.circ q).typ ≠ 0 →
    exec (.pulseStart q) s =
      .next (s.settled (s.onCaddy (fun k => { k with pulse := Sparse.set (dflt .idle) k.pulse q .high,
                                                     pend := Sparse.set (dflt 0) k.pend q (k.pending q - 1) }))))
  ∧ (∀ (s : State) (q : Nat), s.cdy.pulseOf q = .high →
    exec (.pulseEnd q) s = .next (s.settled (s.onCaddy (fun k => { k with pulse := Sparse.set (dflt .idle) k.pulse q .low }))))
  ∧ ∀ (s : State) (q : Nat), s.cdy.pulseOf q = .low →
    exec (.pulseEnd q) s = .next (s.settled (s.onCaddy (fun k => { k with pulse := Sparse.set (dflt .idle) k.pulse q .idle }))))

/-- Booking loses nothing (spec/11 R299): REG × 2^32 + F × QUANTUM, in units of 1 ÷ (2^60 × 28,800,000), with the remainder, grows
by exactly 2^32 × N, for every accumulator, quantum and N; F stays below 2^32, the remainder below D, and REG never falls. A
change of QUANTUM (spec/11 R301) keeps REG and F to within 1 µWh and 2^-32 of the new quantum, and never adds. -/
def Obligations.BookingLosesNothing : Prop :=
  (∀ (a : Acc) (quantum n : Nat), 0 < quantum →
    let b := (a.book quantum n).1
    (b.reg * 2 ^ 32 + b.f * quantum) * (2 ^ 60 * 28800000) + b.rem
        = (a.reg * 2 ^ 32 + a.f * quantum) * (2 ^ 60 * 28800000) + a.rem + 2 ^ 32 * n
      ∧ b.f < 2 ^ 32 ∧ b.rem < 2 ^ 60 * 28800000 * quantum ∧ a.reg ≤ b.reg
      ∧ b.reg = a.reg + (a.book quantum n).2 * quantum)
  ∧ (∀ (a : Acc) (old new : Nat), 0 < new → a.f < 2 ^ 32 →
    let b := a.rescale old new
    b.reg = a.reg + a.f * old / 2 ^ 32 ∧ b.f = a.f * old % 2 ^ 32 / new ∧ b.rem = 0
      ∧ b.reg * 2 ^ 32 + b.f * new ≤ a.reg * 2 ^ 32 + a.f * old
      ∧ a.reg * 2 ^ 32 + a.f * old < b.reg * 2 ^ 32 + b.f * new + new)

/-- The log (spec/10 R278, R279): an event takes the next SEQ, which only ever grows to its limit; a stored legal entry is never
lost to a later one, and the log never holds more than 1,024 entries. -/
def Obligations.LegalEntriesStay : Prop :=
  ∀ (c : CdySt) (typ subject duration : Nat) (data : List Word) (t : LTime) (fb ho : Bool),
    let d := c.logAt typ subject duration data t fb ho
    d.evt = min (c.evt + 1) 0xFFFFFFFF ∧ (c.evt ≤ 0xFFFFFFFF → c.evt ≤ d.evt)
      ∧ (∀ e ∈ c.log, e.legal = true → e ∈ d.log) ∧ (c.log.length ≤ 1024 → d.log.length ≤ 1024)

/-- Paths and references (spec/12 R324, R330 to R333): an interval that was broken, or has no estimate, is counted with its reason;
a reference ratio out by more than 20 ppm opens a split of a METERING Caddy, which is logged; a driver that differed for eight
samples is a fault, and one with 64 clean groups recovers, and either breaks its paths' intervals; thirty days without an
estimate are logged. The end of a pilot interval (spec/12 R323 to R327, R333). Where the estimate's spread is within the limit
it is accepted: it replaces the path's Â_sub, and the trim moves by at most 131,072, within its bounds, toward round(2^30 ÷ d);
the first estimate out by more than 0.005 is logged, sets the snapshot rows' flags and SENSOR_DRIFT, and from then on the trim
moves to the bound on that side; where the path is held the trim stays. An estimate of greater spread is counted with its
reason, and changes nothing else. Completes here (a clause ends in exec of it = next): steepIntervalEnd, vrefMeasure,
pilotDriver, pilotStale. -/
def Obligations.PilotsAreWatched : Prop :=
  ((∀ (s : State) (i broken : Nat) (bs : List (Option Nat)), (s.cdy.path i).ended = some (broken, bs) →
      broken ≠ 0 ∨ estimate bs = none →
    exec (.steepIntervalEnd i) s =
      .next (s.settled (s.onCaddy (fun k =>
        (k.setPath i { k.path i with ended := none }).noEstimate i (if broken = 0 then 1 else broken)))))
  ∧ (∀ (s : State) (rho : Nat) (b : List Byte), s.cdy.param = some b → s.cdy.mode = .metering → s.cdy.cal = none →
      s.cdy.split = false → prmVref b * 50 < ((rho : Int) - prmVref b).natAbs * 1000000 →
    exec (.vrefMeasure rho) s =
      .next (s.settled (s.onCaddy (fun k =>
        ({ k with split := true, splitSince := k.ticks, fbSplit := k.fallback, agree := 0 } : CdySt).logEv 0x51
        [wd (unsigned 32 (if prmVref b = 0 then 0 else freeRound (((rho : Int) - prmVref b) * 1000000000) (prmVref b)))]))))
  ∧ (∀ (s : State) (p : Nat), (s.cdy.drv p).fault = false → 8 ≤ (s.cdy.drv p).bad →
    exec (.pilotDriver p true) s =
      .next (s.settled (s.onCaddy (fun k =>
        (k.served p).foldl (fun (a : CdySt) i => a.setPath i { a.path i with broken := 3 })
          ((k.setDrv p { k.drv p with fault := true, clean := 0, dirty := true, trying := false }).logEv 0x54 [1] (0x200 + p))))))
  ∧ (∀ (s : State) (p : Nat), (s.cdy.drv p).fault = true → 64 ≤ (s.cdy.drv p).clean →
    exec (.pilotDriver p false) s =
      .next (s.settled (s.onCaddy (fun k =>
        (k.served p).foldl (fun (a : CdySt) i => a.setPath i { a.path i with broken := 3 })
          ((k.setDrv p { k.drv p with fault := false, bad := 0, clean := 0, trying := false }).logEv 0x54 [0] (0x200 + p))))))
  ∧ ∀ (s : State) (i : Nat), s.cdy.mode = .metering → s.cdy.pathState i ≠ 0 →
      (s.cdy.path i).lastStale + 2592000 ≤ s.cdy.time.sec →
    exec (.pilotStale i) s =
      .next (s.settled (s.onCaddy (fun k => (k.setPath i { k.path i with lastStale := k.time.sec }).logEv 0x55
        [wd ((k.time.sec - (k.path i).lastAcc) / 86400)] i))))
  ∧ (∀ (s : State) (i : Nat) (bs : List (Option Nat)) (est spread : Nat), (s.cdy.path i).ended = some (0, bs) →
      estimate bs = some (est, spread) →
    let x := s.cdy.path i
    let ref := prmPilotRef s.cdy.prm i
    let y : PathSt := { x with ended := none, asub := some est, lastAcc := s.cdy.time.sec, lastStale := s.cdy.time.sec }
    let move (target : Int) : Int := clampI 1068373115 1079110533 (x.tau + clampI (-131072) 131072 (target - x.tau))
    let out := ref < ((est : Int) - ref).natAbs * 200
    (ref * 1349 * 8 < spread * 1000 * 2 ^ 15 →
        exec (.steepIntervalEnd i) s =
          .next (s.settled (s.onCaddy (fun k => (k.setPath i { x with ended := none }).noEstimate i 2))))
    ∧ (spread * 1000 * 2 ^ 15 ≤ ref * 1349 * 8 →
        (s.cdy.pathHeld i = true →
          exec (.steepIntervalEnd i) s =
            .next (s.settled (s.onCaddy (fun k => k.setTrim i { y with st := if x.st = 1 then 2 else x.st }))))
        ∧ (s.cdy.pathHeld i = false → x.st = 3 →
          exec (.steepIntervalEnd i) s =
            .next (s.settled (s.onCaddy (fun k => k.setTrim i { y with tau := move (if x.low = true then 0 else 2 ^ 40) }))))
        ∧ (s.cdy.pathHeld i = false → x.st ≠ 3 → ¬ out →
          exec (.steepIntervalEnd i) s =
            .next (s.settled (s.onCaddy (fun k => k.setTrim i
              { y with st := 2, tau := move (if est = 0 then 2 ^ 40 else roundDiv (2 ^ 30 * ref) est) }))))
        ∧ (s.cdy.pathHeld i = false → x.st ≠ 3 → out →
          exec (.steepIntervalEnd i) s =
            .next (s.settled (s.onCaddy (fun k => ((k.logEv 0x50 [wd (unsigned 32 (driftPpm est ref)), wd x.tau.toNat] i).setTrim i
              { y with st := 3, low := decide (ref < est), tau := move (if ref < est then 0 else 2 ^ 40) }).raiseRows
                (fun r => if k.rowUses r i = true then 4 else 0)))))))

/-- Points and events (spec/10 R281, spec/11 R307): while publication is enabled the points of every defined circuit are written;
the events that wait go, each to the metrology queues that existed when it happened, in their order. Caddy commands (spec/10
R285, R286, spec/11 R312, spec/12 R343, spec/21 R552): with good arguments, of an issuer that may, and with fewer than sixteen
in hand, a command is handed to the Caddy, which answers what it can at once; view and publication changes go to the CONFIG
journal. Caddy answers (spec/05 R129, spec/10 R283, R285, R286): an answer leaves the mailbox, stores its data in the buffer and
completes its command with its status and results, or ABORTED where its resource has changed owner; over a failing link its data
is free, and it completes FAILED with CDY.LINK. One that a Caddy never gives, out of METERING or without power when it came,
completes FAILED_NOCADDY, and the Caddy reads UNPOWERED until it is heard of again. Completes here (a clause ends in exec of it
= next): caddyPointPublish, cdyEventPost, cdyIdent, cdyLogRead, cdySnapshot, cdyViewSet, cdyPublish, cdyCommit, cdyHarmonics,
cdyParamLoad, cdyParamRead, cdyPilotStatus, cdyCalMeasure, cdyImageLoad, caddyAnswer, caddyAnswerTimeout. -/
def Obligations.CaddyCommandsComplete : Prop :=
  ((∀ s : State, s.coreUp = true → s.metrology = true → bit s.nv.cfg.publish 16 = true →
    let l := (List.range 64).filter (fun k => (s.cdy.circ k).typ != 0)
    exec .caddyPointPublish s =
      .next (s.settled (l.foldl (fun (a : State) k => a.cdyPoints (bf s.nv.cfg.publish 0 16) k) s)))
  ∧ ∀ s : State, s.coreUp = true →
    exec .cdyEventPost s =
      .next (s.settled (s.cdy.post.foldl (fun (a : State) p =>
        (p.queues.getD []).foldl (fun (b : State) q => b.cdyPostTo p.e q) a) { s with cdy := { s.cdy with post := [] } })))
  ∧ (Takes .cdyIdent 0x0601 (fun _ t => t.metrology = true ∧ t.isFatal = false ∧ t.cdyInHand < 16)
      (fun c t => t.handed c (fun k =>
        let k1 := if c.b 0 0 = true ∧ c.g = 0 then { k with identAt := k.ticks, ident := k.ticks + 480000 } else k
        k1.answer c.slot 0 (wd k.fwVer) (wd k.check) (wd (t.market + 256 * k.stateNo))))
  ∧ Takes .cdyLogRead 0x0602
      (fun c t => t.metrology = true ∧ t.isFatal = false ∧ t.cdyInHand < 16 ∧ 1 ≤ c.f 1 0 11 ∧ c.f 1 0 11 ≤ 1024
        ∧ t.bufOk c (c.addr 2) (64 * c.f 1 0 11) = true)
      (fun c t => t.draw.2.handed c (fun k =>
        let l := k.logRead t.viewOf c.g (c.arg 0).toNat (c.f 1 0 11)
        k.answer c.slot 0 (wd l.length)
          (wd (((k.logRead t.viewOf c.g 0 1).head?.map EvEntry.seq).getD t.draw.1)) (wd k.evt) (c.addr 2)
          (l.flatMap EvEntry.bytes)))
  ∧ Takes .cdySnapshot 0x0610
      (fun c t => t.metrology = true ∧ t.isFatal = false ∧ t.cdyInHand < 16 ∧ t.bufOk c (c.addr 0) 8256 = true)
      (fun c t => t.handed c id)
  ∧ Takes .cdyViewSet 0x0611
      (fun c t => t.metrology = true ∧ c.f 0 0 8 ≤ 63 ∧ c.f 0 8 24 ≤ 63 ∧ c.tenant = false ∧ t.isFatal = false
        ∧ t.cdyInHand < 16 ∧ t.cdy.mode ≠ .unpowered)
      (fun c t => { t with nv := { t.nv with journal := t.nv.journal ++ [⟨some c.slot, .view (c.f 0 0 8) (c.f 0 8 24)⟩] } })
  ∧ Takes .cdyPublish 0x0612
      (fun c t => t.metrology = true ∧ c.tenant = false ∧ t.isFatal = false ∧ t.cdyInHand < 16
        ∧ t.cdy.mode ≠ .unpowered ∧ c.f 0 0 16 % 16 = 0 ∧ c.f 0 0 16 ≤ 64512)
      (fun c t => { t with nv := { t.nv with
        journal := t.nv.journal ++ [⟨some c.slot, .publish (wd (c.f 0 0 16 + 65536 * (c.b 0 16).toNat))⟩] } })
  ∧ Takes .cdyCommit 0x0613 (fun _ t => t.metrology = true ∧ t.isFatal = false ∧ t.cdyInHand < 16)
      (fun c t => t.handed c (fun k => if k.mode = .halted then k else { k with commitReq := true }))
  ∧ Takes .cdyHarmonics 0x0614
      (fun c t => t.metrology = true ∧ t.isFatal = false ∧ t.cdyInHand < 16 ∧ c.f 0 0 32 ≤ 63
        ∧ t.bufOk c (c.addr 1) 1792 = true ∧ (c.g = 0 ∨ t.viewOf (c.f 0 0 32) = c.g))
      (fun c t => t.handed c (fun k => if k.mode = .metering then
        k.answer c.slot 0 (wd k.window) 0 0 (c.addr 1) (k.harmonics (c.f 0 0 32)) else k))
  ∧ (∀ fails, Takes (fun r => .cdyParamLoad r fails) 0x0620
      (fun c t => t.metrology = true ∧ t.isFatal = false ∧ t.cdyInHand < 16 ∧ t.bufOk c (c.addr 0) 31008 = true
        ∧ c.tenant = false)
      (fun c t => t.handed c (fun k => if k.mode = .halted then k else
        k.deliverBlock t.market c.slot (t.load (c.addr 0) 31008) fails)))
  ∧ Takes .cdyParamRead 0x0621
      (fun c t => t.metrology = true ∧ t.isFatal = false ∧ t.cdyInHand < 16 ∧ t.bufOk c (c.addr 0) 31008 = true)
      (fun c t => t.handed c (fun k => if k.mode = .halted then k else
        k.answer c.slot 0 (wd k.paramId) 0 0 (c.addr 0) k.prm))
  ∧ Takes .cdyPilotStatus 0x0622
      (fun c t => t.metrology = true ∧ t.isFatal = false ∧ t.cdyInHand < 16 ∧ c.f 0 0 8 ≤ 151
        ∧ t.pathMine c.g (c.f 0 0 8) = true)
      (fun c t => t.handed c (fun k => if k.mode = .halted then k else
        let p := k.path (c.f 0 0 8)
        k.answer c.slot 0
          (wd (k.pathState (c.f 0 0 8) + 4 * (k.pathHeld (c.f 0 0 8)).toNat + 16 * prmSteep k.prm (c.f 0 0 8) + 256 * p.noest))
          (wd (unsigned 32 p.tau)) (wd (k.asubOf (c.f 0 0 8)))))
  ∧ Takes .cdyCalMeasure 0x0623
      (fun c t => t.metrology = true ∧ t.isFatal = false ∧ t.cdyInHand < 16 ∧ c.f 0 0 8 ≤ 151 ∧ 64 ≤ c.f 0 16 16
        ∧ c.f 0 16 16 ≤ 32768 ∧ c.f 0 16 16 % 64 = 0 ∧ t.bufOk c (c.addr 3) 4928 = true ∧ c.tenant = false
        ∧ t.cdy.cal = none ∧ t.cdy.sealOpen = true ∧ t.cdy.mode ≠ .halted)
      (fun c t => t.handed c (fun k =>
        let forced := ((List.range 32).filter (fun n => c.b 1 n)) ++ (((List.range 8).filter (fun n => c.b 2 n)).map (· + 32))
        { k with cal := some { slot := c.slot, reference := c.f 0 0 8, total := c.f 0 16 16, left := c.f 0 16 16,
                               forced := forced, start := k.time } }))
  ∧ ∀ fails, Takes (fun r => .cdyImageLoad r fails) 0x0630
      (fun c t => t.metrology = true ∧ t.isFatal = false ∧ t.cdyInHand < 16 ∧ 1 ≤ (c.arg 2).toNat
        ∧ (c.arg 2).toNat ≤ 0x100000 ∧ t.bufOk c (c.addr 0) (c.arg 2).toNat = true ∧ c.tenant = false)
      (fun c t => t.handed c (fun k => if k.mode = .halted then k else
        k.deliverImage t.market c.slot (t.load (c.addr 0) (c.arg 2).toNat) fails)))
  ∧ ((∀ (s : State) (n : Nat) (m : Mail), s.coreUp = true → s.cdy.mail.find? (fun x => x.slot == n && x.ready) = some m →
      (s.slotOf n).phase = .inHand →
    let s1 := { s with cdy := { s.cdy with mail := s.cdy.mail.filter (fun x => x.slot != n) } }
    (s.mailMine m = true → (m.op ≠ 0x0610 ∨ m.status ≠ 0) →
      exec (.caddyAnswer n false) s = .next (s.settled ((s1.store m.buf m.data).complete n m.status m.res0 m.res1 m.res2)))
    ∧ (s.mailMine m = true →
      exec (.caddyAnswer n true) s = .next (s.settled ((((s1.freeBytes m.data.length).2.store m.buf
        (s1.freeBytes m.data.length).1).raiseSrc Pg.cdy 9).complete n 0x202 0 0 0)))
    ∧ (s.mailMine m = false → ∀ fails, exec (.caddyAnswer n fails) s = .next (s.settled (s1.complete n 0x10 0 0 0))))
  ∧ ∀ (s : State) (n : Nat), s.coreUp = true →
      (∃ x ∈ s.cdy.mail, x.slot = n ∧ x.ready = false ∧ (s.cdy.mode ≠ .metering ∨ x.cold = true)) →
    let s1 := { s with link := { s.link with silent := true }, cdy := { s.cdy with cal := s.cdy.cal.filter (fun m => m.slot != n) } }
    let s2 := if s.cdyGone = true then s1 else s1.raiseSrc Pg.cdy 0
    exec (.caddyAnswerTimeout n) s = .next (s.settled
      (({ s2 with cdy := { s2.cdy with mail := s2.cdy.mail.filter (fun x => x.slot != n) } } : State).complete n 0x201 0 0 0)))

/-- CDY_PARAM_ID reads the PARAM_ID of the block in force, and a block whose PARAM_ID is not greater is not accepted: the block in
force, and the one that waits, stay as they are (spec/12 R337). -/
def Obligations.OlderBlocksAreRefused : Prop :=
  (∀ (s : State) (b : List Byte), s.metrology = true → s.cdyGone = false → s.cdy.param = some b →
      ∀ r g, s.readReg r g Pg.cdy Rg.CDY_PARAM_ID = wd (getLE b 8 4))
  ∧ ∀ (c : CdySt) (market slot : Nat) (b : List Byte) (fails : Bool), getLE b 8 4 ≤ c.paramId →
      (c.blockReason market b fails).isSome = true
        ∧ (c.deliverBlock market slot b fails).param = c.param
        ∧ (c.deliverBlock market slot b fails).paramPend = c.paramPend
        ∧ (c.deliverBlock market slot b fails).acc = c.acc

/-- Bring-up (spec/14 R386 to R388): a DOWN port of a running page with a module present trains; trained, it aligns; aligned, it
enters AUTH with its deskew; a bring-up that takes too long falls back or fails; a failed authentication is tried again; a
CHALLENGE is answered once under the key, with 384 bits of MAC, while the random source works (spec/20 R512); a good RESPONSE is
marked; an UP port that loses its markers counts what its decoder found, cuts a frame that it is sending, which counts (R395),
and goes down, which the other port tells the ring. A port forged by a wrong key never comes up: a RESPONSE whose MAC matches
neither of this port's CHALLENGEs fails the authentication (spec/14 R387), with reason, counter and source. Completes here (a
clause ends in exec of it = next): riserTrainingStart, riserTrainingDone, riserAligned, riserChallengeRx, riserResponseRx,
riserBringupTimeout, riserAuthRetry, riserLinkDown. -/
def Obligations.PortsComeUp : Prop :=
  ((∀ (s : State) (w : Bool), s.rsAlive = true → s.rsRunning w = true → (s.rsPort w).st = 0 →
    exec (.riserTrainingStart w true) s =
      .next (s.settled (s.setRsPort w { s.rsPort w with present := true, st := 1, first := false })))
  ∧ (∀ (s : State) (w : Bool), s.rsAlive = true → (s.rsPort w).st = 1 →
    exec (.riserTrainingDone w) s = .next (s.settled (s.setRsPort w { s.rsPort w with st := 2 })))
  ∧ (∀ (s : State) (w : Bool) (d : Nat), s.rsAlive = true → (s.rsPort w).st = 2 →
    let k := if (s.rsPort w).lanes = 3 then d % 1024 else 0
    exec (.riserAligned w d) s = .next (s.settled ((s.setRsPort w { s.rsPort w with deskew := k }).authEnter w)))
  ∧ (∀ (s : State) (w : Bool) (bad : Nat), s.rsAlive = true → (s.rsPort w).st = 3 →
    let p := rsPage w
    let x := { s.rsPort w with st := 5, why := 1, verified := false, okSeen := false, peerValid := false }
    exec (.riserBringupTimeout w bad) s =
      .next (s.settled (((s.setRsPort w x).bump p Rg.RS_AUTH_FAILS).raiseSrc p 1)))
  ∧ (∀ (s : State) (w : Bool), s.rsAlive = true → (s.rsPort w).st = 5 →
    exec (.riserAuthRetry w) s = .next (s.settled (s.authEnter w)))
  ∧ (∀ (s : State) (w : Bool) (pdu k : List Byte), s.rsAlive = true → s.rsKey w = some k → (s.rsPort w).st = 3 →
      (s.rsPort w).answered = false → s.key.rngOk = true →
    let r := s.random 32
    let head := r.2.linkHead w 2 (s.authOk w) ++ r.1
    let s1 := r.2.onPort w (fun y => { y with challenged := true, answered := true })
    exec (.riserChallengeRx w pdu) s =
      .next (s.settled (s1.linkSend w (head ++ sliceB (Config.hmac k (pdu.take 0x30 ++ head)) 0 48))))
  ∧ (∀ (s : State) (w : Bool) (pdu k : List Byte), s.rsAlive = true → s.rsKey w = some k → (s.rsPort w).st = 3 →
      beNat (sliceB pdu 4 2) = s.ringParams.1 →
      getLE pdu 6 1 = s.ringParams.2 → getLE pdu 3 1 ≠ (s.rsPort w).addr →
    let ok := (s.rsPort w).okSeen || (getLE pdu 7 1 % 2 == 1)
    exec (.riserResponseRx w pdu) s =
      .next (s.settled (if sliceB (Config.hmac k (s.challenge w 0 ++ pdu.take 0x30)) 0 48 = sliceB pdu 0x30 48
          ∨ sliceB (Config.hmac k (s.challenge w 1 ++ pdu.take 0x30)) 0 48 = sliceB pdu 0x30 48 then
        (s.setRsPort w { s.rsPort w with verified := true, okSeen := ok, peer := getLE pdu 3 1 % 128 }).tryUp w
      else ((s.setRsPort w { s.rsPort w with st := 5, why := 2, verified := false, okSeen := false, peerValid := false }).bump (rsPage w)
        Rg.RS_AUTH_FAILS).raiseSrc (rsPage w) 1)))
  ∧ ∀ (s : State) (w : Bool) (bad : Nat) (fec : Fec) (cut : Bool), s.rsAlive = true → s.rsRunning w = true →
      (s.rsPort w).st = 4 →
    let p := rsPage w
    let down (x : State) : State := (((x.bump p Rg.RS_LINK_DOWNS).raiseSrc p 0).rsFall w true).rsNarrow w bad
    let s0 := s.bumpBy p Rg.RS_FEC_CORR fec.corr
    let s1 := if fec.lost = 0 then s0 else (s0.bumpBy p Rg.RS_FEC_UNCORR fec.lost).raiseSrc p 5
    let s2 := if cut = true ∧ (s.rsPort w).flight.isSome = true then (s1.emit (.riserCut w.toNat)).bump p Rg.RS_DROP_DOWN else s1
    exec (.riserLinkDown w .marker bad fec cut none) s = .next (s.settled (down s2)))
  ∧ (∀ (s : State) (w : Bool) (pdu k : List Byte), s.rsAlive = true → s.rsKey w = some k → (s.rsPort w).st = 3 →
    (∀ ok < 2, sliceB (Config.hmac k (s.challenge w ok ++ pdu.take 0x30)) 0 48 ≠ sliceB pdu 0x30 48) →
    let p := rsPage w
    let x := { s.rsPort w with st := 5, why := 2, verified := false, okSeen := false, peerValid := false }
    exec (.riserResponseRx w pdu) s =
      .next (s.settled (((s.setRsPort w x).bump p Rg.RS_AUTH_FAILS).raiseSrc p 1)))

/-- Frames of the ring (spec/14 R374 to R382, R389): an UP port counts what its decoder found, counts a frame and routes it by its
tag, poisoned where its FCS is wrong, which is counted, and a tag that is wrong counts with its source; a frame of its own is
removed, one for it delivered, one for all delivered and passed on; at a frame boundary a CONTROL frame goes out with its FCS,
the transit one first, and one that meets an uncorrectable error there is dropped first; HELLO goes out each millisecond,
ANNOUNCE to all every ten; an address not heard leaves the map; a clash ends. Completes here (a clause ends in exec of it =
next): riserFrameRx, riserFrameTx, riserHelloSend, riserAnnounceSend, ringMapExpiry, addrClashClear. -/
def Obligations.TheRingCarriesFrames : Prop :=
  (∀ (s : State) (w : Bool) (tag b : List Byte) (fec : Fec) (ago : Nat), s.rsAlive = true → s.rsRunning w = true →
      (s.rsPort w).st = 4 →
    let p := rsPage w
    let c := s.bumpBy p Rg.RS_FEC_CORR fec.corr
    let s0 := if fec.lost = 0 then c else (c.bumpBy p Rg.RS_FEC_UNCORR fec.lost).raiseSrc p 5
    let body := b.take (b.length - 4)
    let good := fcsGood b = true ∧ fec.hit = false
    (∀ f : RFrame, good → RFrame.ofTag tag body false = some f →
      exec (.riserFrameRx w tag b fec ago) s = .next (s.settled ((s0.bump p Rg.RS_RX_FRAMES).rsRoute w f ago)))
    ∧ (∀ f : RFrame, ¬ good → RFrame.ofTag tag body true = some f →
      let bad := if fcsPoison b = true ∧ fec.hit = false then Rg.RS_POISON_RX else Rg.RS_FCS_ERR
      exec (.riserFrameRx w tag b fec ago) s =
        .next (s.settled (((s0.bump p Rg.RS_RX_FRAMES).bump p bad).rsRoute w f ago)))
    ∧ ((∀ q, RFrame.ofTag tag body q = none) →
      exec (.riserFrameRx w tag b fec ago) s = .next (s.settled ((s0.bump p Rg.RS_TAG_ERR).raiseSrc p 6))))
  ∧ (∀ (s : State) (w : Bool) (f : RFrame) (ago : Nat), f.src ≠ (s.rsPort w).addr →
      (f.dest = (s.rsPort w).addr → s.rsRoute w f ago = s.rsDeliver w f ago)
      ∧ (f.dest ≠ (s.rsPort w).addr → f.dest < 0xFE → f.hop + 1 < f.limit → s.rsRoute w f ago = s.rsTransit (!w) f.onward)
      ∧ (f.dest ≠ (s.rsPort w).addr → f.dest = 0xFF → f.hop + 1 < f.limit →
          s.rsRoute w f ago = (s.rsDeliver w f ago).rsTransit (!w) f.onward))
  ∧ (∀ (s : State) (w : Bool) (f : RFrame) (l : List RFrame), s.rsAlive = true → (s.rsPort w).st = 4 → s.inWindow = false →
      (s.rsPort w).ctlT = f :: l →
    exec (.riserFrameTx w false) s =
      .next (s.settled
        (let s1 := ((s.setRsPort w { s.rsPort w with ctlT := l, flight := some f }).emit (.riser w.toNat f.wire)).bump (rsPage w)
          Rg.RS_TX_FRAMES
        match f.own with
        | none => s1
        | some t => s1.txDone t.queue t.glove t.pair 0 (s.rsStamp w true 0) t.len t.tag)))
  ∧ (∀ (s : State) (w : Bool) (c : Nat), s.rsAlive = true → (s.rsPort w).st = 4 → s.transitNext w = some c →
    exec (.riserFrameTx w true) s = .next (s.settled ((s.spoilTransit w c).riserTransmit w)))
  ∧ (∀ s : State, s.rsAlive = true → (s.rsPort false).st = 4 → (s.rsPort true).st = 0 →
    exec .riserHelloSend s = .next (s.settled (s.linkSend false (s.linkHead false 3 (s.authOk false)))))
  ∧ (∀ s : State, s.rsAlive = true →
    exec .riserAnnounceSend s =
      .next (s.settled (s.rsAll 1 (fun w => ownEth linkDest (rsMac w) (s.linkHead w 4 (s.lstate w))))))
  ∧ (∀ (s : State) (w : Bool) (a : Nat), s.rsAlive = true →
    let x := s.rsPort w
    let m := x.map.filter (fun e => e.1 != a)
    exec (.ringMapExpiry w a) s =
      .next (s.settled (s.setRsPort w { x with map := m, ownBack := x.ownBack && a != x.addr })))
  ∧ ∀ s : State, s.rsAlive = true →
    exec .addrClashClear s = .next (s.settled { s with rs := { s.rs with clash := false } })

/-- Floor ports (spec/16 R427 to R437): a frame that arrives at a port that passes frames is counted by what drops it, with its
source where the FIFO is full or meets an uncorrectable error (R441), writes the inputs that it carries (spec/13 R351) and goes
to the receive queue of its VLAN's glove; at a boundary the next lease frame or entry goes out; an entry sent completes on its
paired queue with its stamp; the loss of the link sets its source, drops a frame that is being received and ends one that is
being sent FAILED_LINK (R442); low-power idle begins on an idle port and ends; MDIO frames run. A held launch that falls due on
a free port with no lease frame to send first (spec/16 R435) is started as it is judged (spec/15 R413). Completes here (a clause
ends in exec of it = next): launchDue, fpFrameRx, fpFrameTx, fpTxDone, fpLinkChange, lpiEntry, mdioStart, mdioDone, lpiWake,
lpiRxChange. -/
def Obligations.FloorPortsWork : Prop :=
  ((∀ (s : State) (p : Nat) (b : List Byte) (ago : Nat), s.sys.mode ≠ .recovery → s.portsOn = true → s.fpPasses p = true →
    (∀ ecc l, exec (.fpFrameRx p b false ago ecc l) s =
        .next (s.settled ((s.bump (Pg.fp p) Rg.FP_RX_OVF).raiseSrc (Pg.fp p) 2)))
      ∧ (∀ l, exec (.fpFrameRx p b true ago true l) s =
        .next (s.settled ((s.bump (Pg.fp p) Rg.FP_RX_FCS_ERR).raiseSrc (Pg.fp p) 3)))
      ∧ (fcsGood b = false →
          ∀ l, exec (.fpFrameRx p b true ago false l) s = .next (s.settled (s.bump (Pg.fp p) Rg.FP_RX_FCS_ERR)))
      ∧ (fcsGood b = true → (b.length < 64 ∨ 9600 < b.length) →
          ∀ l, exec (.fpFrameRx p b true ago false l) s = .next (s.settled (s.bump (Pg.fp p) Rg.FP_RX_LEN_ERR)))
      ∧ (fcsGood b = true → 64 ≤ b.length → b.length ≤ 9600 →
          let e := Eth.read (b.take (b.length - 4))
          s.fpAccepts p e.dest = true → ¬ (e.etype = 0x88B5 ∧ e.payload.headD 0 = 0x4C) →
          ∀ l, exec (.fpFrameRx p b true ago false l) s =
            .next (s.settled ((s.nodeInputs false p (leNat e.src) e.vid l).fpDeliver p e false ago))))
  ∧ (∀ (s : State) (p : Nat) (f : List Byte) (l : List (List Byte)), s.portsOn = true → s.fpPasses p = true →
      (s.fpOf p).flight = none → (s.fpOf p).lpiTx = false → (s.fpOf p).lease = f :: l →
    exec (.fpFrameTx p) s =
      .next (s.settled (((s.setFp p { s.fpOf p with lease := l }).emit (.fp p (macFrame f))).bump (Pg.fp p) Rg.FP_TX_FRAMES)))
  ∧ (∀ (s : State) (p : Nat) (f : TxFlight), s.coreUp = true → (s.fpOf p).flight = some f → f.real = true →
    let s1 := s.setFp p { s.fpOf p with flight := none }
    exec (.fpTxDone p true) s =
      .next (s.settled ((s1.bump (Pg.fp p) Rg.FP_TX_FRAMES).txDone f.queue f.glove f.pair (if f.late = true then 0x0001 else 0)
        f.stamp f.len f.tag)))
  ∧ (∀ (s : State) (p rate : Nat) (cut : Bool), s.coreUp = true → (s.fpOf p).link = true → s.running (Pg.fp p) = true →
    let a0 := if cut = true ∧ s.fpHears p = true then s.bump (Pg.fp p) Rg.FP_RX_FCS_ERR else s
    let off (a : State) : State :=
      (a.setFp p { a.fpOf p with link := false, phyRate := rate % 8, half := false, lpiTx := false, lpiRx := false }).fpIdleEnd p
    let mismatch (a : State) : State :=
      if (off a).rateMismatch p = true ∧ s.rateMismatch p = false then (off a).raiseSrc (Pg.fp p) 1 else off a
    (∀ f : TxFlight, (s.fpOf p).flight = some f → f.real = true →
      let a := (a0.setFp p { s.fpOf p with flight := none }).txDone f.queue f.glove f.pair 0x203 f.left f.len f.tag
      exec (.fpLinkChange p false rate false cut) s =
        .next (s.settled (if (a.fpOf p).link = true then (mismatch a).raiseSrc (Pg.fp p) 0 else mismatch a)))
    ∧ ((s.fpOf p).flight = none →
      exec (.fpLinkChange p false rate false cut) s = .next (s.settled ((mismatch a0).raiseSrc (Pg.fp p) 0))))
  ∧ (∀ (s : State) (p : Nat), s.coreUp = true → s.flag (Pg.fp p) Rg.FP_EEE_CTL 0 = true → s.fpPasses p = true →
      (s.fpOf p).lpiTx = false → s.fpWaiting p = false →
    exec (.lpiEntry p) s =
      .next (s.settled ((s.setFp p { s.fpOf p with lpiTx := true }).bump (Pg.fp p) Rg.FP_LPI_ENTRIES)))
  ∧ (∀ (s : State) (p : Nat), s.coreUp = true →
    exec (.lpiWake p) s = .next (s.settled (s.setFp p { s.fpOf p with lpiTx := false }))
      ∧ ∀ on, exec (.lpiRxChange p on) s = .next (s.settled (s.setFp p { s.fpOf p with lpiRx := on })))
  ∧ (∀ (s : State) (r : Requester) (g p : Nat) (v : Word), s.writes r g (Pg.fp p) Rg.FP_MDIO_CTL = true →
      (s.fpOf p).mdioBusy = false → bit v 31 = true → bf v 26 2 = 2 →
    let x := { s.fpOf p with mdioBusy := true, mdioOp := v &&& 0x1FFFFFFF }
    exec (.mdioStart r p v) s =
      .next (s.settled (((s.setReg (Pg.fp p) Rg.FP_MDIO_CTL (v &&& 0x1FFFFFFF)).setFp p x).emit (.mdio p (v &&& 0x1FFFFFFF)))))
  ∧ ∀ (s : State) (p data : Nat), s.coreUp = true → (s.fpOf p).mdioBusy = true → bf (s.fpOf p).mdioOp 26 2 = 2 →
    exec (.mdioDone p data) s =
      .next (s.settled (s.setFp p { s.fpOf p with mdioBusy := false, mdioData := data % 65536 })))
  ∧ (∀ (s : State) (q : Nat),
    let src := bf (s.queue q).arg5 0 8
    let p := src - 0x18
    let e := TxEntry.read (s.headEntry q)
    s.portsOn = true → 0x18 ≤ src → src < 0x20 → (s.fpOf p).held.contains q = true → s.canTake q = true →
    s.fpPasses p = true → (s.fpOf p).flight = none → (s.fpOf p).lease = [] → (s.fpOf p).lpiTx = false → s.launchDelta e ≤ 0 →
    s.txLawful p (s.queueOwner q) e = true → s.judge e = .now →
    exec (.launchDue q) s = .next (s.settled ((s.countLaunch (s.queueOwner q) e .now).fpStart p q e false true)))

/-- Receiving (spec/17 R447 to R452): a frame that a live channel receives goes where the first matching filter sends it; no match
counts; an element with an uncorrectable error is discarded and raises bit 4, as does a filter entry with one, which matches
nothing; the inputs that a field node's frame carries are written to their points (spec/13 R351); a FIFO takes it in its next
place, and one that is full and keeps what it has loses the new frame; a dedicated buffer takes it, NEWDAT follows, and MSGLOST
where NEWDAT stood already. A write of CAN_RXFn_ACK frees an unbound FIFO up to the index read. Sending (spec/17 R453):
CAN_TXREQ asks for exactly the transmit buffers written, CAN_TXCANCEL withdraws exactly those written whose frame has not
started; arbitration offers a waiting frame of the lowest field, the earlier among equals; a buffer sent gets its stamp, and
TXDONE. A buffer whose element has an uncorrectable error is discarded and raises bit 4. Completes here (a clause ends in exec
of it = next): canFrameRx, canTxreqWrite, canTxcancelWrite, canArbitration, canTxDone, canRxfAckWrite. -/
def Obligations.CanFramesMove : Prop :=
  ((∀ (s : State) (c : Nat) (f : CanFrame) (ago : Nat) (bad : List Nat) (inputs : List NodeInput), s.canLive c = true →
      s.canMode c ≠ 2 →
    let st := s.canStamp c ago
    let s1 : State := (s.canRecDown c).canRefIn c f st
    let l := bad ++ (s1.canOf c).badFilters
    exec (.canFrameRx c f ago true bad inputs) s = .next (s.settled (s1.raiseSrc (Pg.can c) 4))
    ∧ exec (.canFrameRx c f ago false bad inputs) s =
      .next (s.settled (((if l = [] then s1 else s1.raiseSrc (Pg.can c) 4).nodeInputs true c (canNode f) 0 inputs).canAccept
        c f st l)))
  ∧ (∀ (s : State) (c : Nat) (f : CanFrame) (st : Nat) (bad : List Nat), s.canLeaseId c f = false →
      ((s.canOf c).filter f bad = none → s.canAccept c f st bad = s.bump (Pg.can c) Rg.CAN_RX_NOMATCH)
      ∧ ∀ n, ((s.canOf c).filter f bad = some (0, n) → s.canAccept c f st bad = s)
        ∧ ((s.canOf c).filter f bad = some (1, n) → s.canAccept c f st bad = s.canToFifo c false f st)
        ∧ ((s.canOf c).filter f bad = some (2, n) → s.canAccept c f st bad = s.canToFifo c true f st)
        ∧ ((s.canOf c).filter f bad = some (3, n) → s.canAccept c f st bad = s.canToBuf c n f st))
  ∧ (∀ (s : State) (c : Nat) (one : Bool) (f : CanFrame) (st : Nat),
      let x := s.canOf c
      let q := x.fifo one
      let s1 := s.setCan c (x.setFifo one { q with fill := q.fill + 1, put := (q.put + 1) % 64 })
      s.canBound c one = none →
      (q.fill < 64 → ∃ t, s.canToFifo c one f st = t.canMove c one
        ∧ t = (s1.canElement c (fifoAt one q.put) f st).bump (Pg.can c) Rg.CAN_RX_FRAMES)
      ∧ (64 ≤ q.fill → bit (s.canCfg c) (20 + one.toNat) = false →
        s.canToFifo c one f st = (s.bump (Pg.can c) Rg.CAN_RX_LOST).raiseSrc (Pg.can c) 2))
  ∧ (∀ (s : State) (c n : Nat) (f : CanFrame) (st : Nat), s.canIsTx c n = false →
      let s1 := s.canElement c (128 * n) f st
      let old := s1.flag (Pg.can c) (Rg.CAN_NEWDAT + 4 * (n / 32)) (n % 32)
      s.canToBuf c n f st = ((if old = true then s1.canMark c Rg.CAN_MSGLOST n else s1).canMark c Rg.CAN_NEWDAT n).bump
        (Pg.can c) Rg.CAN_RX_FRAMES)
  ∧ ∀ (s : State) (r : Requester) (g c : Nat) (w : Word), s.writes r g (Pg.can c) Rg.CAN_RXF_ACK = true →
      s.canBound c false = none →
      let x := s.canOf c
      let k := (bf w 0 6 + 64 - x.fifo0.get) % 64
      (k < x.fifo0.fill →
        let y := { x.fifo0 with fill := x.fifo0.fill - (k + 1), get := (x.fifo0.get + k + 1) % 64 }
        exec (.canRxfAckWrite r c 0 w) s = .next (s.settled (s.setCan c { x with fifo0 := y })))
      ∧ (x.fifo0.fill ≤ k → exec (.canRxfAckWrite r c 0 w) s = .next (s.settled s)))
  ∧ ((∀ (s : State) (r : Requester) (g c half : Nat) (w : Word),
      s.writes r g (Pg.can c) (Rg.CAN_TXREQ + 4 * half) = true →
    exec (.canTxreqWrite r c half w) s = .next (s.settled (s.canTxReq c half w)))
  ∧ (∀ (s : State) (c half : Nat) (w : Word), Sparse.wf (dflt {}) s.can = true → ∀ n < 64,
      n ∈ ((s.canTxReq c half w).canOf c).txPend ↔
        n ∈ (s.canOf c).txPend ∨ (s.canIsTx c n = true ∧ n / 32 = half ∧ bit w (n % 32) = true))
  ∧ (∀ (s : State) (r : Requester) (g c half : Nat) (w : Word),
      s.writes r g (Pg.can c) (Rg.CAN_TXCANCEL + 4 * half) = true →
    exec (.canTxcancelWrite r c half w) s = .next (s.settled (s.canTxCancel c half w)))
  ∧ (∀ (s : State) (c half : Nat) (w : Word) (n : Nat), Sparse.wf (dflt {}) s.can = true →
      (n ∈ ((s.canTxCancel c half w).canOf c).txPend ↔
        n ∈ (s.canOf c).txPend ∧ ¬ (n / 32 = half ∧ bit w (n % 32) = true ∧ (s.canOf c).offered ≠ some (.buf n))))
  ∧ (∀ (s : State) (c : Nat) (src : CanSrc) (f : CanFrame), s.portsOn = true → s.running (Pg.can c) = true →
      (s.canOf c).offered = none → s.canMode c ≠ 1 → (s.canOf c).busOff = false → s.canQueues c = [] →
      (∀ n ∈ (s.canOf c).txPend, (s.canOf c).lostIn (128 * n) 128 = false) →
      lowestArb (s.canCands c) = some (src, f) →
    let x := s.canOf c
    let h := { f with brs := f.brs && f.fdf && bit (s.canCfg c) 3 }
    exec (.canArbitration c false) s =
      .next (s.settled (s.setCan c { x with offered := some src, frame := some h, sof := s.canEdge c })))
  ∧ (∀ (s : State) (c n : Nat) (f : CanFrame), s.portsOn = true → s.running (Pg.can c) = true →
      (s.canOf c).offered = none → s.canMode c ≠ 1 → lowestArb (s.canCands c) = some (.buf n, f) →
    let x := s.canOf c
    exec (.canArbitration c true) s = .next (s.settled
      (((s.setCan c { x with txPend := delN x.txPend n, ready := delN x.ready n }).raiseSrc (Pg.can c) 4).canArbitrate c)))
  ∧ (∀ (l : List (CanSrc × CanFrame)) (a : CanSrc × CanFrame), lowestArb l = some a →
      ∃ before after, l = before ++ a :: after ∧ (∀ b ∈ before, canArb a.2 < canArb b.2) ∧ ∀ b ∈ after, canArb a.2 ≤ canArb b.2)
  ∧ ∀ (s : State) (c n : Nat) (f : CanFrame), s.coreUp = true → s.canLive c = true → s.canMode c ≠ 2 →
      (s.canOf c).offered = some (.buf n) → (s.canOf c).frame = some f →
    let x := s.canOf c
    let s1 := ((s.setCan c { x with offered := none, frame := none, tec := x.tec - 1 }).emit (.can c f)).bump (Pg.can c)
      Rg.CAN_TX_FRAMES
    let y := (s1.canOf c).wr (128 * n + 8) (leBytes 8 x.sof)
    exec (.canTxDone c) s =
      .next (s.settled ((s1.setCan c { y with txPend := delN y.txPend n, ready := delN y.ready n }).canMark c Rg.CAN_TXDONE n)))

/-- Errors, time-triggered operation and rate detection (spec/17 R455 to R460): an error counts with its code and moves the
counters, 8 for the transmitter and 1 for a receiver (as ISO 11898-1 has it, log entry 155); a TEC above 255 is bus-off, and
lease frames are dropped with it; RECOVER starts recovery, whose end makes the channel error-active; a master asks for its
reference message each cycle; a slave's cycle starts at its reference; two cycles without one lose the synchronisation; a time-
triggered buffer is offered once per cycle; a detection begins with the first candidate, counts the frames and errors that it
hears and ends with the candidate that two good frames in a row confirm; the end of a dwell moves to the next candidate, or
times out. Completes here (a clause ends in exec of it = next): canFrameRx, canErrorFrame, canRecover, canRecoveryDone,
canTtCycleBoundary, canTtReferenceRx, canTtSyncLost, canTtTrigger, canRateDetect, canRateDwellEnd. -/
def Obligations.CanErrorsAndTiming : Prop :=
  (∀ (s : State) (c lec more : Nat) (data excepted : Bool), s.coreUp = true → s.canLive c = true → lec ≠ 0 →
      s.canMode c ≠ 1 →
    let x := s.canOf c
    let s1 := (s.setCan c { x with lec := lec, lecData := data }).bump (Pg.can c) Rg.CAN_ERR_FRAMES
    let spared := excepted = true ∧ (lec = 3 ∧ x.passive = true ∨ lec = 1)
    let tec := if x.offered.isSome = true then x.tec + (if spared then 0 else 8) + 8 * more else x.tec
    let rxc := if x.offered.isSome = true then x.rxc else x.rxc + 1 + 8 * more
    exec (.canErrorFrame c lec data more excepted false) s = .next (s.settled ((s1.canUnoffer c).canCounters c tec rxc)))
  ∧ (∀ (s : State) (c tec rxc : Nat), Sparse.wf (dflt {}) s.can = true → 255 < tec →
      (s.canOf c).busOff = false →
    let x := (s.canCounters c tec rxc).canOf c
    x.busOff = true ∧ x.recovering = false ∧ x.offered = none ∧ x.frame = none ∧ x.lease = [])
  ∧ (∀ (s : State) (r : Requester) (g c : Nat) (w : Word), s.writes r g (Pg.can c) Rg.CAN_CTRL = true → bit w 0 = true →
      (s.canOf c).busOff = true →
    exec (.canRecover r c w) s = .next (s.settled (s.setCan c { s.canOf c with recovering := true })))
  ∧ (∀ (s : State) (c : Nat), (s.canOf c).recovering = true → s.portsOn = true → s.running (Pg.can c) = true →
    let x := s.canOf c
    exec (.canRecoveryDone c) s =
      .next (s.settled (s.setCan c { x with recovering := false, busOff := false, tec := 0, rxc := 0 })))
  ∧ (∀ (s : State) (c : Nat), s.portsOn = true → s.running (Pg.can c) = true → s.canTt c = 1 →
    let s1 := if (s.canOf c).refPend = true then s.bump (Pg.can c) Rg.CAN_TT_MISSED else s
    let o := (s.canOf c).offered
    let x := { s1.canOf c with refPend := true, ttClash := false, refAt := false, tried := [], ready := [],
                               offered := if o = some .reference then some .late else o }
    exec (.canTtCycleBoundary c) s = .next (s.settled (s1.setCan c x)))
  ∧ (∀ (s : State) (c : Nat) (f : CanFrame) (ago : Nat), s.canLive c = true → s.canMode c ≠ 2 → s.canTt c = 2 →
      s.canIsRef c f = true → (s.canOf c).rxc = 0 →
    let k := (f.data.headD 0).toNat % 64
    let x := { s.canOf c with ttStamp := s.canStamp c ago, ttCount := k, ttSync := true, refAt := true, tried := [], ready := [] }
    let y := s.setCan c x
    let l := (y.canOf c).badFilters
    exec (.canTtReferenceRx c f ago) s =
      .next (s.settled ((if l = [] then y else y.raiseSrc (Pg.can c) 4).canAccept c f (s.canStamp c ago) l)))
  ∧ (∀ (s : State) (c : Nat), s.canTt c = 2 → (s.canOf c).ttSync = true → s.portsOn = true → s.running (Pg.can c) = true →
    exec (.canTtSyncLost c) s =
      .next (s.settled ((s.setCan c { s.canOf c with ttSync := false, refAt := false }).raiseSrc (Pg.can c) 3)))
  ∧ (∀ (s : State) (c n : Nat), s.portsOn = true → s.running (Pg.can c) = true → s.canTimed c n = true →
      s.canIsTx c n = true → n ∈ (s.canOf c).txPend → (s.canOf c).refAt = true → n ∉ (s.canOf c).tried →
    let x := s.canOf c
    exec (.canTtTrigger c n) s = .next (s.settled (s.setCan c { x with tried := addN x.tried n, ready := addN x.ready n })))
  ∧ Takes .canRateDetect 0x0801
      (fun c t => 10 ≤ c.f 1 0 16 ∧ c.f 1 0 16 ≤ 10000 ∧ t.owner (Pg.can (c.f 0 0 3)) = c.g
        ∧ t.canRates (c.f 0 0 3) ≠ [] ∧ t.stopped (Pg.can (c.f 0 0 3)) = true ∧ (t.canOf (c.f 0 0 3)).detect = none)
      (fun c t =>
        let d : CanDetect := { slot := c.slot, apply := c.b 0 8, dwell := c.f 1 0 16, total := (c.arg 2).toNat,
                               cand := (t.canRates (c.f 0 0 3)).headD 0 }
        t.setCan (c.f 0 0 3) { t.canOf (c.f 0 0 3) with detect := some d })
  ∧ (∀ (s : State) (c : Nat) (f : CanFrame) (ago : Nat) (ecc : Bool) (bad : List Nat) (inputs : List NodeInput) (d : CanDetect),
      s.portsOn = true → s.canLive c = false → (s.canOf c).detect = some d →
    let n := Sparse.get (dflt 0) d.frames d.cand + 1
    (d.good = 0 → exec (.canFrameRx c f ago ecc bad inputs) s = .next (s.settled (s.setCan c { s.canOf c with
        detect := some { d with frames := Sparse.set (dflt 0) d.frames d.cand n, good := 1 } })))
    ∧ (1 ≤ d.good →
      let s1 := s.setCan c { s.canOf c with detect := none }
      let w := s1.reg (Pg.can c) (Rg.CAN_ABD + 4 * d.cand)
      let s2 := if d.apply = true then s1.setReg (Pg.can c) Rg.CAN_NBT (canTiming w) else s1
      exec (.canFrameRx c f ago ecc bad inputs) s =
        .next (s.settled (s2.complete d.slot 0 (wd d.cand) (wd n) (wd d.errors)))))
  ∧ (∀ (s : State) (c lec more : Nat) (excepted : Bool) (d : CanDetect), s.coreUp = true → s.portsOn = true →
      s.canLive c = false → (s.canOf c).detect = some d → lec ≠ 0 →
    exec (.canErrorFrame c lec false more excepted false) s =
      .next (s.settled (s.setCan c { s.canOf c with detect := some { d with errors := d.errors + 1, good := 0 } })))
  ∧ ∀ (s : State) (c : Nat) (d : CanDetect), s.coreUp = true → (s.canOf c).detect = some d →
    exec (.canRateDwellEnd c true) s =
        .next (s.settled ((s.setCan c { s.canOf c with detect := none }).complete d.slot 0x201 0xFF 0 0))
      ∧ ∀ k, (s.canRates c).find? (fun j => decide (d.cand < j)) = some k →
        exec (.canRateDwellEnd c false) s =
          .next (s.settled (s.setCan c { s.canOf c with detect := some { d with cand := k, good := 0 } }))

/-- Cores and PCI Express (spec/19 R490 to R500, R511): a privileged write sets a core's glove, another is ignored; a claim that
finds a queue event clears its core latch, and one that finds a page event changes nothing; an unmasked vector with an event due
sends its message, to the address and with the data of its table entry, and the event is taken; a function reads and writes that
table in BAR4; a core's event interrupt stands while it is enabled and an event is routed to it; function-level reset returns
the function's CMD bank, TMB latches and MSI-X table, masks its vectors, discards its latched events and leaves D3hot; the link
comes up within the limits of PCI_CTRL, and one that is up keeps its width and speed; a changed VF glove discards latched
events; errors count and show in Advanced Error Reporting. Completes here (a clause ends in exec of it = next): registerWrite,
coreGloveWrite, cleClaimRead, msixMessage, pciFunctionReset, pciVfGloveWrite, pciLinkUp, pciError. -/
def Obligations.HostCommandsComplete : Prop :=
  (∀ (s : State) (c v : Nat), s.coreUp = true →
    exec (.coreGloveWrite c v true) s =
        .next (s.settled { s with coreGlove := Sparse.set (dflt 0) s.coreGlove c (v % 64) })
      ∧ exec (.coreGloveWrite c v false) s = .next (s.settled s))
  ∧ (∀ (s : State) (c e : Nat), s.coreUp = true → s.claimed c = some e →
    exec (.cleClaimRead c) s =
      .next (s.settled (if e < 0x1000 then s else
        { s with pci := { s.pci with coreLatch := s.pci.coreLatch.filter (fun q => q + 0x1000 != e) } })))
  ∧ (∀ (s : State) (c e : Nat), s.claimed c = some e → e ∈ s.eventsOf c ∧ ∀ d ∈ s.eventsOf c, e ≤ d)
  ∧ (∀ (s : State) (f v q : Nat), s.coreUp = true → s.msixReady f v = true → v ≠ 0 →
      s.pci.fnLatch.find? (fun x => x.1 == f && queueVector x.2 == v) = some (f, q) →
    let l := s.pci.fnLatch.filter (fun x => x != (f, q))
    exec (.msixMessage f v none) s =
      .next (s.settled (({ s with pci := { s.pci with fnLatch := l } } : State).emit
        (.msix f v (Sparse.get (dflt 0) s.pci.table (f * 256 + v * 4)) (Sparse.get (dflt 0) s.pci.table (f * 256 + v * 4 + 1))
          (Sparse.get (dflt 0) s.pci.table (f * 256 + v * 4 + 2))))))
  ∧ (∀ (s : State) (r : Requester) (g f v k : Nat), s.coreUp = true → s.gloveOf r = some g →
      (r = .pf ∧ f = 0 ∨ ∃ n, r = .vf n ∧ f = n.val + 1) → v < 64 → k < 3 →
    let a := 0x2000000 + v * 16 + 4 * k
    let i := f * 256 + v * 4 + k
    exec (.registerWrite r a 4 none false) s =
        .next (s.settled (s.emit (.read r (leBytes 4 (Sparse.get (dflt 0) s.pci.table i).toNat))))
      ∧ ∀ x : DWord, exec (.registerWrite r a 4 (some x) false) s =
        .next (s.settled { s with
          pci := { s.pci with
            table := Sparse.set (dflt 0) s.pci.table i
              (if k = 0 then x.setWidth 32 &&& 0xFFFFFFFC else x.setWidth 32) } }))
  ∧ (∀ (s : State) (c : Nat), s.coreIrq c = true ↔ c ∈ s.pci.enable ∧ s.eventsOf c ≠ [])
  ∧ (∀ (s : State) (f : Nat), s.coreUp = true → s.pci.linkUp = true →
    exec (.pciFunctionReset (some f)) s = .next (s.settled (s.fnReset f))
      ∧ (∀ x ∈ (s.fnReset f).pci.fnLatch, x.1 ≠ f) ∧ (∀ v < 64, f * 64 + v ∉ (s.fnReset f).pci.unmasked)
      ∧ (∀ x ∈ (s.fnReset f).pci.table, x.1 / 256 ≠ f) ∧ f ∉ (s.fnReset f).pci.d3
      ∧ ∀ p o, (p = Pg.cmd ∨ p = Pg.tmb 0 ∨ p = Pg.tmb 1 ∨ p = Pg.tmb 2 ∨ p = Pg.tmb 3) → o < 4096 → f < 8 → s.canon = true →
        (s.fnReset f).breg (8 + f) p o = regReset (bkey (8 + f) p o))
  ∧ (∀ (s : State) (r : Requester) (g v : Nat) (w : Word), s.writes r g Pg.pci (Rg.PCI_VF_GLOVE + 4 * (v - 1)) = true →
    exec (.pciVfGloveWrite r v w) s = .next (s.settled (s.vfGlove v w)))
  ∧ (∀ (s : State) (v : Nat) (w : Word),
      let y := if bf (w &&& 0x13F) 0 6 = 0 then setBit (w &&& 0x13F) 8 false else w &&& 0x13F
      (y ≠ s.reg Pg.pci (Rg.PCI_VF_GLOVE + 4 * (v - 1)) →
        (∀ x ∈ (s.vfGlove v w).pci.fnLatch, x.1 ≠ v) ∧ ∀ x ∈ (s.vfGlove v w).pci.fnEdge, x.1 ≠ v)
      ∧ (y = s.reg Pg.pci (Rg.PCI_VF_GLOVE + 4 * (v - 1)) → s.vfGlove v w = s))
  ∧ (∀ (s : State) (width speed vfs : Nat) (m d : List Nat), s.coreUp = true → s.running Pg.pci = true →
      (∀ f ∈ m, f ∈ s.pci.msixEn) →
    let c := s.reg Pg.pci Rg.PCI_CTRL
    let n := min vfs (if bit c 8 = true then 7 else 0)
    s.pci.numVf ≤ n →
    let pci := { s.pci with linkUp := true, width := if s.pci.linkUp = true then s.pci.width else min width (bf c 0 2),
                            speed := if s.pci.linkUp = true then s.pci.speed else min speed (bf c 2 3),
                            numVf := n, msixEn := m.filter (fun f => decide (f ≤ n)), d3 := d.filter (fun f => decide (f ≤ n)) }
    exec (.pciLinkUp width speed vfs m d) s = .next (s.settled { s with pci := pci }))
  ∧ ∀ s : State, s.coreUp = true →
    exec (.pciError true) s = .next (s.settled
        ((({ s with pci := { s.pci with aerUncorr := true } } : State).bump Pg.pci Rg.PCI_ERR_UNCORR).raiseSrc Pg.pci 0))
      ∧ exec (.pciError false) s =
        .next (s.settled (({ s with pci := { s.pci with aerCorr := true } } : State).bump Pg.pci Rg.PCI_ERR_CORR))

/-- The USB port (spec/19 R501 to R509, spec/23 R597, R604): a nonce is fresh random bytes and stays for one attempt; a good MAC
opens the session and a wrong one closes it, counted; requests read and write registers and show the ring; an acknowledged
packet leaves the ring, and an uncorrectable error in its oldest entry raises bit 1; bus reset, suspend, remote wake, resume,
VBUS and the PLL move the device's state; standard requests set address and configuration and give the device's identity and its
self-powered status. Completes here (a clause ends in exec of it = next): sessionNonce, sessionOpen, sessionClose, regRead,
regWrite, ringState, ep1PacketAck, usbBusReset, usbRemoteWakeup, usbHostResume, usbPllLockChange, usbSuspend,
usbStandardRequest, usbVbusChange. -/
def Obligations.UsbWorks : Prop :=
  (∀ s : State, s.usbAwake = true → s.sys.mode ≠ .recovery → s.key.rngOk = true →
    let r := s.random 32
    exec .sessionNonce s =
      .next (s.settled (({ r.2 with usb := { r.2.usb with nonce := some r.1 } } : State).emit (.ep0 r.1))))
  ∧ (∀ (s : State) (g : Nat) (mac n k : List Byte), s.usbAwake = true → s.sys.mode ≠ .recovery → s.usb.nonce = some n →
      s.sessionKey g = some k →
    let s1 : State := { s with usb := { s.usb with nonce := none } }
    let due := (s1.enabledPages.filter (fun p => s1.pageEvent p && s1.owner p == g)).map (fun p => (g, p))
    let l := s.usb.latch.filter (fun x => !due.contains x) ++ due
    (Config.hmac k (n ++ leBytes 1 g) = mac →
      exec (.sessionOpen g mac) s =
        .next (s.settled ({ s1 with usb := { s1.usb with session := some g, latch := l } } : State).usbFlush))
    ∧ (Config.hmac k (n ++ leBytes 1 g) ≠ mac →
      exec (.sessionOpen g mac) s =
        .next (s.settled ((({ s1 with usb := { s1.usb with session := none } } : State).bump Pg.usb Rg.USB_AUTH_FAILS).raiseSrc
          Pg.usb 0))))
  ∧ (∀ s : State, s.usbAwake = true → s.sys.mode ≠ .recovery →
    exec .sessionClose s = .next (s.settled { s with usb := { s.usb with session := none } })
      ∧ exec .ringState s = .next (s.settled (s.emit (.ep0 s.ringBytes))))
  ∧ (∀ (s : State) (o : Nat), s.usbAwake = true → s.sys.mode ≠ .recovery → o < 0x1000000 →
    exec (.regRead o 4) s = .next (s.settled ((s.readEffect .usb o).emit (.ep0 (leBytes 4 (s.readFor .usb o).toNat)))))
  ∧ (∀ (s : State) (o : Nat) (w : Word), s.usbAwake = true → s.sys.mode ≠ .recovery → o < 0x1000000 → o % 4 = 0 →
    exec (.regWrite o [w]) s = .next (s.settled (s.windowWrite .usb o w)))
  ∧ (∀ (s : State) (g : Nat), s.usbAwake = true → s.usb.dstate = 4 → s.usb.session = some g → s.ring g ≠ [] →
    let n := if s.usb.high = true then 16 else 2
    let s1 := ({ s with usb := { s.usb with rings := Sparse.set (dflt []) s.usb.rings g ((s.ring g).drop n) } } : State)
    exec (.ep1PacketAck false) s = .next (s.settled (s1.emit (.ep1 ((s.ring g).take n).flatten)).usbFlush))
  ∧ (∀ (s : State) (g : Nat) (e : List Byte) (l : List (List Byte)), s.coreUp = true → s.usb.session = some g → s.ring g = e :: l →
    let u := { s.usb with rings := Sparse.set (dflt []) s.usb.rings g (if s.entryKept e = true then l ++ [e] else l) }
    exec (.ep1PacketAck true) s = .next (s.settled (({ s with usb := u } : State).raiseSrc Pg.usb 1)))
  ∧ (∀ (s : State) (chirp : Bool), s.usbOn = true → 1 ≤ s.usb.dstate →
    let u := { s.usb with dstate := 2, suspended := false, driving := false, armed := false, address := 0, session := none,
                          high := chirp && s.flag Pg.usb Rg.USB_CTRL 0 }
    exec (.usbBusReset false chirp) s =
      .next (s.settled ((({ s with usb := u } : State).bump Pg.usb Rg.USB_RESETS).pulse Pg.usb 2)))
  ∧ (∀ s : State, s.usbOn = true → s.wakePending = true →
    exec .usbRemoteWakeup s =
      .next (s.settled (({ s with usb := { s.usb with driving := true } } : State).emit .wakeK)))
  ∧ (∀ s : State, s.usbOn = true → s.usb.suspended = true →
    let w := s.reg Pg.usb Rg.USB_WAKE
    let s1 := s.setReg Pg.usb Rg.USB_WAKE (setBit (setBit w 0 (bit w 0 || s.usb.driving)) 1 (bit w 1 || s.wakePending))
    exec .usbHostResume s = .next (s.settled { s1 with usb := { s1.usb with suspended := false, driving := false } }))
  ∧ (∀ s : State, s.usbOn = true → 1 ≤ s.usb.dstate →
    exec .usbSuspend s = .next (s.settled { s with usb := { s.usb with suspended := true, driving := false } }))
  ∧ (∀ (s : State) (a : Nat), s.usbAwake = true →
    (s.usb.dstate ≤ 3 → exec (.usbStandardRequest (.setAddress a)) s =
        .next (s.settled { s with usb := { s.usb with address := a % 128, dstate := if a % 128 = 0 then 2 else 3 } }))
      ∧ (3 ≤ s.usb.dstate → exec (.usbStandardRequest (.setConfiguration 1)) s =
        .next (s.settled { s with usb := { s.usb with dstate := 4 } }))
      ∧ (∀ on, exec (.usbStandardRequest (.setRemoteWakeup on)) s =
        .next (s.settled { s with usb := { s.usb with armed := on } }))
      ∧ (∃ b, b.length = 18 ∧ sliceB b 7 1 = leBytes 1 64
        ∧ sliceB b 8 4 = leBytes 2 0x2F5E ++ leBytes 2 (if s.sys.mode = .recovery then 0x714F else 0x7140)
        ∧ ∀ k len, exec (.usbStandardRequest (.getDescriptor 1 k len)) s = .next (s.settled (s.emit (.ep0 (b.take len)))))
      ∧ exec (.usbStandardRequest .getStatus) s =
        .next (s.settled (s.emit (.ep0 (leBytes 2 (1 + 2 * s.usb.armed.toNat))))))
  ∧ (∀ s : State, s.usbOn = true → s.usb.dstate = 0 →
    exec (.usbVbusChange true) s = .next (s.settled { s with usb := { s.usb with vbus := true, dstate := 1 } }))
  ∧ (∀ s : State,
    let u := { s.usb with vbus := false, dstate := 0, suspended := false, driving := false, armed := false, high := false,
                          address := 0, session := none, nonce := none }
    exec (.usbVbusChange false) s = .next (s.settled { s with usb := u }))
  ∧ ∀ s : State, s.powered = true → s.clk.usbPll = true →
    let s1 := ({ s with clk := { s.clk with usbPll := false } } : State).raiseSrc Pg.clk 2
    exec (.usbPllLockChange false) s = .next (s.settled s1.usbAttach)

/-- Key commands (spec/20 R514 to R523, R530). A leaf is derived into a free handle under a subtree root or a derive parent, and a
handle destroyed or described; MAC, encryption, wrapping and verification use a handle of their usage, and store their result in
the issuer's memory; a wrong tag gives FAILED_AUTH (0x0201) and stores nothing; attestation signs the origin statement; a seed
opened by the transport key is installed; random bytes and the certificate are given. Keys of 256 and 384 bits are derived by
one HMAC with counter 1 (R514). Completes here (a clause ends in exec of it = next): keyDerive, keyDestroy, keyQuery, keyMac,
keyEncrypt, keyDecrypt, keyWrap, keyUnwrap, keyPublic, keyVerify, keyAttest, keySeed, keyRandom, keyEndorseCert. -/
def Obligations.KeyCommandsComplete : Prop :=
  (∀ key label context : List Byte,
    let k (n : Nat) := Config.hmac key ([0, 0, 0, 1] ++ label ++ [0] ++ context ++ beBytes 4 n)
    kdf key label context 384 = k 384 ∧ kdf key label context 256 = (k 256).take 32) ∧
  Takes .keyDerive 0x0901
      (fun c t => (c.f 0 0 3 = 2 ∨ c.f 0 0 3 = 3 ∨ c.f 0 0 3 = 4 ∨ c.f 0 0 3 = 5)
        ∧ (c.f 0 16 6 = 4 ∨ c.f 0 16 6 = 8 ∨ c.f 0 16 6 = 16 ∨ c.f 0 16 6 = 32) ∧ 1 ≤ c.f 0 24 7 ∧ c.f 0 24 7 ≤ 64
        ∧ t.bufOk c (c.addr 2) (c.f 0 24 7) = true ∧ c.g = (if c.f 0 0 3 = 5 then c.f 0 8 6 else 0) ∧ t.keyReady = true
        ∧ t.freeHandles ≠ [])
      (fun c t =>
        let r := t.newHandle ⟨c.f 0 0 3, c.g, if c.f 0 0 3 = 5 then t.keygen c.g else 0, c.f 0 16 6,
          [(t.load (c.addr 2) (c.f 0 24 7), c.f 0 16 6)], []⟩
        (r.2.bump Pg.key Rg.KEY_OPS).complete c.slot 0 (wd r.1) 0 0)
  ∧ (∀ h : Handle, Takes .keyDerive 0x0901
      (fun c t => c.f 0 0 3 = 0 ∧ (c.f 0 16 6 = 4 ∨ c.f 0 16 6 = 8 ∨ c.f 0 16 6 = 16 ∨ c.f 0 16 6 = 32) ∧ 1 ≤ c.f 0 24 7
        ∧ c.f 0 24 7 ≤ 64 ∧ t.bufOk c (c.addr 2) (c.f 0 24 7) = true ∧ (c.arg 1).toNat ≤ 255
        ∧ t.handleForeign c (c.arg 1).toNat = false ∧ t.keyReady = true ∧ t.handle (c.arg 1).toNat = some h ∧ h.usage = 32
        ∧ h.depth < 4 ∧ t.freeHandles ≠ [])
      (fun c t =>
        let u := c.f 0 16 6
        let r := t.newHandle { h with usage := u, chain := h.chain ++ [(t.load (c.addr 2) (c.f 0 24 7), u)] }
        (r.2.bump Pg.key Rg.KEY_OPS).complete c.slot 0 (wd r.1) 0 0))
  ∧ Takes .keyDestroy 0x0902
      (fun c t => 2 ≤ c.f 0 0 8 ∧ t.handleForeign c (c.f 0 0 8) = false ∧ t.keyReady = true)
      (fun c t => ((t.setHandle (c.f 0 0 8) none).bump Pg.key Rg.KEY_OPS).complete c.slot 0 0 0 0)
  ∧ Takes .keyQuery 0x0903
      (fun c t => 2 ≤ c.f 0 0 8 ∧ t.running Pg.key = true ∧ t.handle (c.f 0 0 8) = none)
      (fun c t => (t.bump Pg.key Rg.KEY_OPS).complete c.slot 0 0 0 0)
  ∧ (∀ (h : Handle) (l : List Byte × Nat), Takes .keyQuery 0x0903
      (fun c t => 2 ≤ c.f 0 0 8 ∧ t.running Pg.key = true ∧ t.handle (c.f 0 0 8) = some h ∧ h.glove = c.g
        ∧ h.chain.getLast? = some l)
      (fun c t => (t.bump Pg.key Rg.KEY_OPS).complete c.slot 0
        (wd (h.usage + h.subtree * 256 + h.glove * 65536 + h.depth * 2 ^ 24 + 2 ^ 31))
        (wd (beNat (sliceB (Config.sha384 l.1) 0 4))) (wd h.keygen)))
  ∧ (∀ k : List Byte, Takes .keyMac 0x0904
      (fun c t => let n := (c.arg 1).toNat
        1 ≤ n ∧ n ≤ 65536 ∧ t.bufOk c (c.addr 2) n = true ∧ t.bufOk c (c.addr 4) 48 = true
          ∧ t.handleForeign c (c.f 0 0 8) = false ∧ t.keyReady = true ∧ t.keyFor (c.f 0 0 8) 8 = some k)
      (fun c t =>
        let m := sliceB (Config.hmac k (t.load (c.addr 2) (c.arg 1).toNat)) 0 48
        if c.b 0 8 = true then (t.bump Pg.key Rg.KEY_OPS).complete c.slot 0 (wd (t.load (c.addr 4) 48 == m).toNat) 0 0
        else ((t.store (c.addr 4) m).bump Pg.key Rg.KEY_OPS).complete c.slot 0 0 0 0))
  ∧ (∀ k : List Byte, Takes .keyEncrypt 0x0905
      (fun c t => let n := (c.arg 1).toNat
        1 ≤ n ∧ n ≤ 65536 ∧ t.bufOk c (c.addr 2) n = true ∧ t.bufOk c (c.addr 4) (n + 28) = true
          ∧ t.handleForeign c (c.f 0 0 8) = false ∧ t.keyReady = true ∧ t.keyFor (c.f 0 0 8) 4 = some k ∧ t.key.rngOk = true)
      (fun c t =>
        let n := (c.arg 1).toNat
        let r := t.random 12
        let out := r.1 ++ sliceB (Config.gcmSeal k r.1 (t.load (c.addr 2) n)) 0 (n + 16)
        ((r.2.store (c.addr 4) out).bump Pg.key Rg.KEY_OPS).complete c.slot 0 (wd (n + 28)) 0 0))
  ∧ (∀ k : List Byte, Takes .keyDecrypt 0x0906
      (fun c t => let n := (c.arg 1).toNat
        1 ≤ n ∧ n ≤ 65536 ∧ t.bufOk c (c.addr 2) (n + 28) = true ∧ t.bufOk c (c.addr 4) n = true
          ∧ t.handleForeign c (c.f 0 0 8) = false ∧ t.keyReady = true ∧ t.keyFor (c.f 0 0 8) 4 = some k)
      (fun c t =>
        let n := (c.arg 1).toNat
        let b := t.load (c.addr 2) (n + 28)
        match Config.gcmOpen k (b.take 12) (b.drop 12) with
        | none => t.complete c.slot 0x0201 0 0 0
        | some p => ((t.store (c.addr 4) (sliceB p 0 n)).bump Pg.key Rg.KEY_OPS).complete c.slot 0 (wd n) 0 0))
  ∧ (∀ k : List Byte, Takes .keyWrap 0x0907
      (fun c t => let n := (c.arg 1).toNat
        16 ≤ n ∧ n ≤ 64 ∧ n % 8 = 0 ∧ t.bufOk c (c.addr 2) n = true ∧ t.bufOk c (c.addr 4) (n + 8) = true
          ∧ t.handleForeign c (c.f 0 0 8) = false ∧ t.keyReady = true ∧ t.keyFor (c.f 0 0 8) 16 = some k)
      (fun c t =>
        let n := (c.arg 1).toNat
        ((t.store (c.addr 4) (sliceB (Config.kwWrap k (t.load (c.addr 2) n)) 0 (n + 8))).bump Pg.key Rg.KEY_OPS).complete
          c.slot 0 (wd (n + 8)) 0 0))
  ∧ (∀ k : List Byte, Takes .keyUnwrap 0x0908
      (fun c t => let n := (c.arg 1).toNat
        24 ≤ n ∧ n ≤ 72 ∧ n % 8 = 0 ∧ t.bufOk c (c.addr 2) n = true ∧ t.bufOk c (c.addr 4) (n - 8) = true
          ∧ t.handleForeign c (c.f 0 0 8) = false ∧ t.keyReady = true ∧ t.keyFor (c.f 0 0 8) 16 = some k)
      (fun c t =>
        let n := (c.arg 1).toNat
        match Config.kwUnwrap k (t.load (c.addr 2) n) with
        | none => t.complete c.slot 0x0201 0 0 0
        | some p => ((t.store (c.addr 4) (sliceB p 0 (n - 8))).bump Pg.key Rg.KEY_OPS).complete c.slot 0 (wd (n - 8)) 0 0))
  ∧ Takes .keyPublic 0x0909
      (fun c t => t.bufOk c (c.addr 0) 96 = true ∧ t.keyReady = true ∧ t.freeHandles ≠ [])
      (fun c t =>
        let r := t.newHandle ⟨7, c.g, 0, 2, [], t.load (c.addr 0) 96⟩
        (r.2.bump Pg.key Rg.KEY_OPS).complete c.slot 0 (wd r.1) 0 0)
  ∧ (∀ h : Handle, Takes .keyVerify 0x090A
      (fun c t => t.bufOk c (c.addr 1) 48 = true ∧ t.bufOk c (c.addr 3) 96 = true ∧ t.handleForeign c (c.f 0 0 8) = false
        ∧ t.keyReady = true ∧ t.handle (c.f 0 0 8) = some h ∧ h.usage = 2)
      (fun c t =>
        let ok := Config.ecdsaVerify h.pub (t.load (c.addr 1) 48) (t.load (c.addr 3) 96)
        (t.bump Pg.key Rg.KEY_OPS).complete c.slot 0 (wd ok.toNat) 0 0))
  ∧ (∀ i x : List Byte, Takes .keyAttest 0x090B
      (fun c t => t.bufOk c (c.addr 0) 32 = true ∧ t.bufOk c (c.addr 2) 488 = true ∧ t.keyReady = true ∧ t.key.ident = some i
        ∧ t.key.xport = some x ∧ t.key.rngOk = true)
      (fun c t =>
        let h := t.originHead (t.load (c.addr 0) 32) i x
        let r := t.draw
        ((r.2.store (c.addr 2) (h ++ sliceB (Config.ecdsaSign i (Config.sha384 h) r.1) 0 96)).bump Pg.key Rg.KEY_OPS).complete
          c.slot 0 (wd t.key.lcsCount) 0 0))
  ∧ (∀ x : List Byte, Takes .keySeed 0x090C
      (fun c t => c.f 0 0 3 = 5 ∧ t.bufOk c (c.addr 1) 144 = true ∧ t.maySeed c.g 5 (c.f 0 8 6) = true ∧ t.keyReady = true
        ∧ t.key.xport = some x)
      (fun c t =>
        let e := t.load (c.addr 1) 144
        let path := pathCode 5 (c.f 0 8 6) (t.keygen (c.f 0 8 6)) 0 0
        let seed := (Config.ecdh x (e.take 96)).bind (fun z =>
          Config.gcmOpen (kdf z (asciiBytes "TAROS-SEED") path 256) (List.replicate 12 0) (e.drop 96))
        match seed with
        | none => t.complete c.slot 0x0201 0 0 0
        | some v => ((t.installSeed c.g 5 (c.f 0 8 6) v).bump Pg.key Rg.KEY_OPS).complete c.slot 0
          (wd (t.subtreeHandles 5 (c.f 0 8 6)).length) 0 0))
  ∧ Takes .keyRandom 0x090D
      (fun c t => let n := (c.arg 0).toNat
        1 ≤ n ∧ n ≤ 256 ∧ t.bufOk c (c.addr 1) n = true ∧ t.running Pg.key = true ∧ t.key.rngOk = true)
      (fun c t =>
        let r := t.random (c.arg 0).toNat
        ((r.2.store (c.addr 1) r.1).bump Pg.key Rg.KEY_OPS).complete c.slot 0 0 0 0)
  ∧ Takes .keyEndorseCert 0x090E
      (fun c t => t.bufOk c (c.addr 0) 2048 = true ∧ t.keyReady = true)
      (fun c t => ((t.store (c.addr 0) t.key.cert).bump Pg.key Rg.KEY_OPS).complete c.slot 0 (wd t.key.cert.length) 0 0)

/-- The life cycle and the random source (spec/20 R512, R525 to R528): provisioning fuses a fresh root; the certificate is stored in
PROVISIONED; a permitted transition destroys the keys and gives new ones, and one to RETIRED destroys the root as well; where
only the fuse has burned when the step ends, the command stays in hand and completes with the rest, a second one is refused
REFUSED_BUSY and KEY_ATTEST completes ABORTED (R535; that the steps may be apart is the model's form, log entry 160); a fuse
that fails completes FAILED (0x0203); while the source's tests fail, KEY_RANDOM completes 0x0202. Completes here (a clause ends
in exec of it = next): keyAttest, lcsProvision, lcsCertStore, lcsTransition, rngHealthFail, rngHealthRecover. -/
def Obligations.TheLifeCycleMoves : Prop :=
  Takes (fun r => .lcsProvision r false false) 0x0911
      (fun c t => t.bufOk c (c.addr 0) 96 = true ∧ c.g = 0 ∧ t.key.lcs = 0 ∧ t.key.lcsCount < 63 ∧ t.key.rngOk = true)
      (fun c t =>
        let r := t.random 32
        let s2 := (({ r.2 with key := { r.2.key with root := r.1 } } : State).lcsTo 1).destroyKeys
        (s2.store (c.addr 0) (sliceB (Config.publicKey s2.endorsementKey) 0 96)).complete c.slot 0 (wd (t.key.lcsCount + 1)) 0 0)
  ∧ Takes .lcsCertStore 0x0912
      (fun c t => (c.arg 0).toNat ≤ 2048 ∧ t.bufOk c (c.addr 1) (c.arg 0).toNat = true ∧ c.g = 0 ∧ t.key.lcs = 1)
      (fun c t =>
        ({ t with key := { t.key with cert := t.load (c.addr 1) (c.arg 0).toNat } } : State).complete c.slot 0 0 0 0)
  ∧ Takes (fun r => .lcsTransition r false false) 0x0913
      (fun c t => (c.f 0 0 3 = 2 ∨ (c.f 0 0 3 = 4 ∧ c.arg 1 = 0x5EB00004)) ∧ c.g = 0
        ∧ lcsPermitted t.key.lcs (c.f 0 0 3) t.key.lcsCount = true ∧ t.key.rngOk = true ∧ t.key.cut = none)
      (fun c t => (t.transition (c.f 0 0 3)).complete c.slot 0 (wd (t.transition (c.f 0 0 3)).key.lcsCount) (wd (c.f 0 0 3)) 0)
  ∧ Takes (fun r => .lcsTransition r false true) 0x0913
      (fun c t => (c.f 0 0 3 = 2 ∨ (c.f 0 0 3 = 4 ∧ c.arg 1 = 0x5EB00004)) ∧ c.g = 0
        ∧ lcsPermitted t.key.lcs (c.f 0 0 3) t.key.lcsCount = true ∧ t.key.rngOk = true ∧ t.key.cut = none)
      (fun c t => { t with
        key := { t.key with lcs := c.f 0 0 3, lcsCount := t.key.lcsCount + 1, cut := some t.key.lcs } })
  ∧ Takes (fun r => .lcsTransition r false false) 0x0913
      (fun c t => c.f 0 0 3 = 2 ∧ c.g = 0 ∧ t.key.cut ≠ none)
      (fun c t => t.complete c.slot 0x0103 0 0 0)
  ∧ (∀ (s : State) (old n : Nat), s.key.cut = some old → s.key.lcs = 2 → s.inHand 0x0911 0x0913 = [n] →
    let s1 := ({ s with key := { s.key with cut := none } } : State).transitionRest old
    s.lcsResume = s1.complete n 0 (wd s.key.lcsCount) 2 0)
  ∧ Takes .keyAttest 0x090B
      (fun c t => t.bufOk c (c.addr 0) 32 = true ∧ t.bufOk c (c.addr 2) 488 = true ∧ t.running Pg.key = true ∧ t.key.cut ≠ none)
      (fun c t => t.complete c.slot 0x0010 0 0 0)
  ∧ (∀ t : State,
      let x := (t.transition 4).key
      x.lcs = 4 ∧ x.lcsCount = t.key.lcsCount + 1 ∧ x.root = List.replicate 32 0xFF ∧ x.cert = [] ∧ x.handles = []
        ∧ x.seeds = [] ∧ x.ident = none ∧ x.xport = none ∧ (t.transition 4).usb.session = none)
  ∧ Takes (fun r => .lcsTransition r true false) 0x0913
      (fun c t => c.f 0 0 3 = 2 ∧ c.g = 0 ∧ lcsPermitted t.key.lcs 2 t.key.lcsCount = true ∧ t.key.rngOk = true
        ∧ t.key.cut = none)
      (fun c t => (t.raiseSrc Pg.lcs 0).complete c.slot 0x0203 0 0 0)
  ∧ (∀ s : State, s.coreUp = true →
    exec .rngHealthFail s =
        .next (s.settled ((({ s with key := { s.key with rngOk := false } } : State).bump Pg.key Rg.KEY_RNG_FAILS).raiseSrc
          Pg.key 1))
      ∧ exec .rngHealthRecover s = .next (s.settled { s with key := { s.key with rngOk := true } }))
  ∧ Takes .keyRandom 0x090D
      (fun c t => 1 ≤ (c.arg 0).toNat ∧ (c.arg 0).toNat ≤ 256 ∧ t.bufOk c (c.addr 1) (c.arg 0).toNat = true
        ∧ t.running Pg.key = true ∧ t.key.rngOk = false)
      (fun c t => t.complete c.slot 0x0202 0 0 0)

/-- Update commands (spec/21 R537, R540, R541, R545, R546): UPD_BEGIN of a header and list that pass opens the slot that did not
boot, and refuses a wrong header with its reason; UPD_CHUNK verifies a chunk and hands it to the NAND, and fails a wrong one;
UPD_FINISH writes the complete mark; UPD_ACTIVATE arms the staged slot; UPD_CONFIRM burns the count and ends the trial, or its
step ends when the fuses have burned (log entry 160); UPD_ABORT ends the session; a NAND write completes the command; ten
minutes of trial reset the module, but for one that a fatal fault holds. Completes here (a clause ends in exec of it = next):
updBegin, updChunk, updFinish, updActivate, updConfirm, updAbort, trialLimit, updWriteDone. -/
def Obligations.UpdateCommandsComplete : Prop :=
  Takes .updBegin 0x0A01
      (fun c t => let h := t.load (c.addr 1) 512
        c.b 0 0 = false ∧ t.bufOk c (c.addr 1) (512 + (if hdrFormat h = true then 48 * hdrChunks h else 0)) = true
          ∧ c.tenant = false ∧ t.running Pg.upd = true ∧ t.updMode = true ∧ t.onTrial = false ∧ t.upd.own = none
          ∧ t.upd.via = none)
      (fun c t =>
        let h := t.load (c.addr 1) 512
        let l := t.load (c.addr 1 + 512) (if hdrFormat h = true then 48 * hdrChunks h else 0)
        let x : UpdSess := { img := 1 - t.sys.slot, src := .host, keep := true, hdr := h, hashes := l,
                             writes := [⟨some c.slot, [], false⟩], fwd := none }
        if t.hdrReason h ≠ 0 then t.complete c.slot 0x0201 (wd (t.hdrReason h)) 0 0
        else if hashesOk h l = false then t.complete c.slot 0x0201 7 0 0
        else (t.openSlot (1 - t.sys.slot)).setSess true (some x))
  ∧ (∀ x : UpdSess, Takes .updChunk 0x0A02
      (fun c t => let i := (c.arg 0).toNat
        (c.arg 1).toNat = 1 ∧ i + 1 ≤ hdrChunks x.hdr ∧ i + 1 ≤ 8176 ∧ t.bufOk c (c.addr 2) 1 = true
          ∧ t.bufOk c (c.addr 2) (chunkLen x.hdr i) = true ∧ c.tenant = false ∧ t.running Pg.upd = true ∧ t.updMode = true
          ∧ t.upd.own = some x ∧ x.finish = none ∧ x.fail = none ∧ x.fwd = none)
      (fun c t =>
        let i := (c.arg 0).toNat
        let b := t.load (c.addr 2) (chunkLen x.hdr i)
        if chunkOk x.hashes i b = true then
          t.setSess true (some { x with have_ := Sparse.set (dflt []) x.have_ i b, writes := x.writes ++ [⟨some c.slot, [i], false⟩] })
        else ((t.bump Pg.upd Rg.UPD_CHUNK_FAILS).raiseSrc Pg.upd 0).complete c.slot 0x0202 (wd i) 0 0))
  ∧ (∀ x : UpdSess, Takes .updFinish 0x0A03
      (fun c t => c.tenant = false ∧ t.running Pg.upd = true ∧ t.updMode = true ∧ t.upd.own = some x ∧ x.full = true
        ∧ x.finish = none ∧ x.fwd = none)
      (fun c t =>
        (((t.onSess true (fun y => { y with finish := some c.slot, finished := true })).markSlot true x.side).setSess true
          none).complete c.slot 0 1 1 0xFF))
  ∧ Takes .updActivate 0x0A04
      (fun c t => c.tenant = false ∧ t.running Pg.upd = true ∧ t.updMode = true ∧ t.onTrial = false ∧ t.upd.own = none
        ∧ t.upd.via = none ∧ t.upd.staged = true)
      (fun c t =>
        let n := 1 - t.sys.slot
        if t.slotValid n = false then t.complete c.slot 0x0101 0 0 0 else
        let r := { t.upd.record with armed := some n, count := 0, time := 0 }
        let s1 : State := { t with upd := { t.upd with staged := false, record := r } }
        let s2 := s1.complete c.slot 0 (wd (s1.slotVersion n)) 0 0
        if c.b 0 0 = true then s2.moduleReset 3 else s2)
  ∧ Takes (fun r => .updConfirm r false false) 0x0A05
      (fun c t => c.tenant = false ∧ t.running Pg.upd = true ∧ t.isFatal = false ∧ (t.sys.mode = .run ∨ t.sys.mode = .degraded)
        ∧ t.sys.trial = true ∧ t.upd.burnt = false ∧ hdrRollback (t.upd.slot t.sys.slot).hdr ≤ 64)
      (fun c t =>
        let k := max t.upd.rollback (hdrRollback (t.upd.slot t.sys.slot).hdr)
        let r := { t.upd.record with active := t.sys.slot, armed := none, count := 0, time := 0 }
        ({ t with
          upd := { t.upd with rollback := k, record := r, burnt := false },
          sys := { t.sys with trial := false, trialCount := 0 } } : State).complete c.slot 0 (wd k) 0 0)
  ∧ Takes (fun r => .updConfirm r false true) 0x0A05
      (fun c t => c.tenant = false ∧ t.running Pg.upd = true ∧ t.isFatal = false ∧ (t.sys.mode = .run ∨ t.sys.mode = .degraded)
        ∧ t.sys.trial = true ∧ t.upd.burnt = false ∧ hdrRollback (t.upd.slot t.sys.slot).hdr ≤ 64)
      (fun _ t => { t with
        upd := { t.upd with rollback := max t.upd.rollback (hdrRollback (t.upd.slot t.sys.slot).hdr), burnt := true } })
  ∧ (∀ x : UpdSess, Takes .updAbort 0x0A06
      (fun c t => c.tenant = false ∧ t.isFatal = false ∧ t.running Pg.upd = true ∧ t.upd.own = some x)
      (fun c t => ((t.setSess true none).endCmds x 0x0010 0 0).complete c.slot 0 (wd x.stored.length) 0 0))
  ∧ (∀ (s : State) (x : UpdSess) (w : UpdWrite) (n : Nat), s.coreUp = true → s.upd.own = some x →
      x.writes.find? (fun w => !w.written) = some w → w.slot = some n → w.chunks = [] →
    let s1 := (s.onSlot x.img (fun g => { g with hdr := x.hdr, hashes := x.hashes })).onSess true
      (fun y => { y with writes := y.writes.erase w })
    exec (.updWriteDone false) s = .next (s.settled (s1.complete n 0 (wd (hdrChunks x.hdr)) (wd x.img) 0)))
  ∧ ∀ s : State, s.sys.trial = true → s.sys.mode ≠ Mode.startup →
    exec .trialLimit s = .next (s.settled (if s.isFatal = true then s else s.moduleReset 4))

/-- The relay and the loader (spec/21 R542 to R551): a first unit opens a session, an acknowledgement frees its place in the window,
a chunk not yet sent again 8 times is sent again, FINISH and REPORT end the chain, and without REPORT the command fails; the
loader announces itself, alternates FP0's mode, takes DFU blocks and resets with cause 5 when its image is whole. Completes here
(a clause ends in exec of it = next): relayUnitRx, relayAckRx, relayResend, relayFinishRx, relayReportRx, relayReportTimeout,
recoveryAnnounce, recoveryFp0Alternate, dfuDnload, recoveryComplete. -/
def Obligations.TheRelayAndTheLoader : Prop :=
  (∀ (s : State) (w : Bool) (f : List Byte), s.relayLive = true → relayField f 1 1 = 1 → relayField f 8 4 = 0 →
      s.upd.via = none →
    exec (.relayUnitRx w f) s = .next (s.settled (s.unitHeader (.riser w) f)))
  ∧ (∀ (s : State) (w : Bool) (f : List Byte) (x : UpdSess) (y : RelaySt), s.relayLive = true → relayField f 1 1 = 2 →
      s.upd.own = some x → s.upd.via = none → x.fwd = some y → y.west = w → y.session = relayField f 4 4 →
      relayField f 8 4 ≠ 0xFFFFFFFF → y.wait = [] → x.writes = [] → x.finished = false → s.sys.mode ≠ .recovery →
    let z := { y with sent := y.sent.filter (fun e => e.1 != relayField f 8 4) }
    exec (.relayAckRx w f) s = .next (s.settled { s with upd := { s.upd with own := some { x with fwd := some z } } }))
  ∧ (∀ (s : State) (i n : Nat) (x : UpdSess) (y : RelaySt), s.relayLive = true → s.upd.own = some x → x.fwd = some y →
      y.sent.find? (fun e => e.1 == i) = some (i, n) → n < 8 →
    let z := { y with sent := y.sent.map (fun e => if e.1 = i then (i, n + 1) else e) }
    exec (.relayResend i) s = .next (s.settled ((s.sendChunk x y i).onSess true (fun v => { v with fwd := some z }))))
  ∧ (∀ (s : State) (w : Bool) (f : List Byte) (x : UpdSess), s.relayLive = true → relayField f 1 1 = 3 → s.upd.via = some x →
      x.src = .riser w → x.session = relayField f 4 4 → x.hashes ≠ [] → x.whole = true → s.sys.mode ≠ .recovery →
    let y := { x with finished := true, loaded := relayLoaded f }
    exec (.relayFinishRx w f) s =
      .next (s.settled (({ s with upd := { s.upd with via := some y } } : State).settle false)))
  ∧ (∀ (s : State) (src : Nat) (f : List Byte) (x : UpdSess) (y : RelaySt), s.relayLive = true → relayField f 1 1 = 4 →
      relayField f 2 1 ≠ 9 → s.upd.own = some x → x.fwd = some y → y.session = relayField f 4 4 → y.finSent = true →
    let hops := y.remain + 2 - min (relayField f 3 1) y.remain
    exec (.relayReportRx src f) s =
      .next (s.settled ((s.showLoaded (relayLoaded f)).finishDone x y.west hops (relayLoaded f))))
  ∧ (∀ (s : State) (x : UpdSess) (n : Nat), s.coreUp = true → s.upd.own = some x → x.finish = some n →
    let d := s.draw
    exec .relayReportTimeout s =
      .next (s.settled (((d.2.setSess true none).raiseSrc Pg.upd 2).complete n 0x0205 9 (wd d.1) 0)))
  ∧ (∀ s : State, s.coreUp = true → s.sys.mode = .recovery → s.isFatal = false → s.pfw = false →
    exec .recoveryAnnounce s = .next (s.settled s.loaderAnnounce)
      ∧ exec .recoveryFp0Alternate s = .next (s.settled { s with upd := { s.upd with fp0Sgmii := !s.upd.fp0Sgmii } })
      ∧ ∀ b : List Byte, b ≠ [] → b.length ≤ 4096 → s.upd.dfuErr = 0 → s.upd.manifest = false →
        (s.upd.dfu ++ b).length < 512 →
        exec (.dfuDnload b) s = .next (s.settled { s with upd := { s.upd with dfu := s.upd.dfu ++ b, dfuErr := 0 } }))
  ∧ ∀ (s : State) (n : Nat), s.coreUp = true → s.sys.mode = .recovery → s.isFatal = false → s.loaderDone = some n →
    exec .recoveryComplete s = .next (s.settled ((s.loaderMark n).powerCycle .regulators .startup 5))

/-- Every command completes: for every constructor of Instr, all 256 rows of the opcode table, every value of its operands and every
state, exec answers a next state, in which the queue (the model's field) and the part stand as before, the rollback count has
not fallen, and memory and the window keep their canonical form. The effect that each command has there is what the other
statements say of it. -/
def Obligations.EveryCommandIsAnswered : Prop :=
  ∀ (c : Instr) (s : State), ∃ t, exec c s = .next t ∧ t.pending = s.pending ∧ t.part = s.part
    ∧ s.upd.rollback ≤ t.upd.rollback ∧ (s.canon = true → t.canon = true)
end

