-- ==== Sys2Proof/Laws/Sparse.lean ====
section
/-! SUPPORT. Laws of sparse tables and of memory: a read after a write, and that every operation keeps the canonical form. -/

namespace Sys2Proof.Machine

variable {α : Type}

/-- A put key reads the value put there. -/
@[simp] theorem Sparse.get_put_same (d : Nat → α) (m : Sparse α) (k : Nat) (w : α) :
    Sparse.get d (Sparse.put m k w) k = w := by
  induction m with
  | nil => simp [Sparse.put, Sparse.get]
  | cons e t ih =>
    obtain ⟨j, v⟩ := e
    by_cases h : k = j
    · simp [Sparse.put, Sparse.get, h]
    · by_cases h2 : k < j
      · simp [Sparse.put, Sparse.get, h, h2]
      · simp [Sparse.put, Sparse.get, h, h2, ih]

/-- A put leaves every other key as it was. -/
theorem Sparse.get_put_ne (d : Nat → α) (m : Sparse α) {k j : Nat} (w : α) (h : j ≠ k) :
    Sparse.get d (Sparse.put m k w) j = Sparse.get d m j := by
  induction m with
  | nil => simp [Sparse.put, Sparse.get, h]
  | cons e t ih =>
    obtain ⟨i, v⟩ := e
    by_cases h1 : k = i
    · subst h1; simp [Sparse.put, Sparse.get, h]
    · by_cases h2 : k < i
      · by_cases h3 : j < k
        · have h4 : j < i := by omega
          have h5 : j ≠ i := by omega
          simp [Sparse.put, Sparse.get, h1, h2, h, h3, h4, h5]
        · simp [Sparse.put, Sparse.get, h1, h2, h, h3]
      · simp [Sparse.put, Sparse.get, h1, h2, ih]

theorem Sparse.sortedFrom_mono {m : Sparse α} {lo lo' : Nat} (h : lo' ≤ lo) (w : Sparse.sortedFrom lo m = true) :
    Sparse.sortedFrom lo' m = true := by
  cases m with
  | nil => rfl
  | cons e t => simp [Sparse.sortedFrom] at w ⊢; exact ⟨by omega, w.2⟩

/-- Below the first key of a sorted table every key reads the default. -/
theorem Sparse.get_below (d : Nat → α) {m : Sparse α} {lo k : Nat} (w : Sparse.sortedFrom lo m = true) (h : k < lo) :
    Sparse.get d m k = d k := by
  cases m with
  | nil => rfl
  | cons e t =>
    simp [Sparse.sortedFrom] at w
    have h1 : k ≠ e.1 := by omega
    have h2 : k < e.1 := by omega
    simp [Sparse.get, h1, h2]

/-- An erased key reads the default. -/
theorem Sparse.get_erase_same (d : Nat → α) {m : Sparse α} {lo : Nat} (w : Sparse.sortedFrom lo m = true) (k : Nat) :
    Sparse.get d (Sparse.erase m k) k = d k := by
  induction m generalizing lo with
  | nil => rfl
  | cons e t ih =>
    obtain ⟨i, v⟩ := e
    simp [Sparse.sortedFrom] at w
    by_cases h1 : k = i
    · subst h1
      simp only [Sparse.erase, if_true]
      exact Sparse.get_below d w.2 (by omega)
    · by_cases h2 : k < i
      · simp [Sparse.erase, Sparse.get, h1, h2]
      · simp [Sparse.erase, Sparse.get, h1, h2, ih w.2]

/-- An erase leaves every other key as it was. -/
theorem Sparse.get_erase_ne (d : Nat → α) {m : Sparse α} {lo : Nat} (w : Sparse.sortedFrom lo m = true) {k j : Nat}
    (h : j ≠ k) : Sparse.get d (Sparse.erase m k) j = Sparse.get d m j := by
  induction m generalizing lo with
  | nil => rfl
  | cons e t ih =>
    obtain ⟨i, v⟩ := e
    simp [Sparse.sortedFrom] at w
    by_cases h1 : k = i
    · subst h1
      by_cases h3 : j < k
      · simp only [Sparse.erase, if_true, Sparse.get, h, h3, if_false]
        exact Sparse.get_below d w.2 (by omega)
      · simp [Sparse.erase, Sparse.get, h, h3]
    · by_cases h2 : k < i
      · simp [Sparse.erase, h1, h2]
      · simp [Sparse.erase, Sparse.get, h1, h2, ih w.2]

/-- A sorted table reads a written key as the value written. -/
theorem Sparse.get_set_same [DecidableEq α] (d : Nat → α) {m : Sparse α} {lo : Nat} (w : Sparse.sortedFrom lo m = true)
    (k : Nat) (x : α) : Sparse.get d (Sparse.set d m k x) k = x := by
  unfold Sparse.set
  split
  · rename_i h; rw [h]; exact Sparse.get_erase_same d w k
  · simp

/-- A table of any order reads a written key as the value written, if that is not the default. -/
theorem Sparse.get_set_put [DecidableEq α] (d : Nat → α) (m : Sparse α) {k : Nat} {x : α} (h : x ≠ d k) :
    Sparse.get d (Sparse.set d m k x) k = x := by
  simp [Sparse.set, h]

/-- A write leaves every other key of a sorted table as it was. -/
theorem Sparse.get_set_ne [DecidableEq α] (d : Nat → α) {m : Sparse α} {lo : Nat} (w : Sparse.sortedFrom lo m = true)
    {k j : Nat} (x : α) (h : j ≠ k) : Sparse.get d (Sparse.set d m k x) j = Sparse.get d m j := by
  unfold Sparse.set
  split
  · exact Sparse.get_erase_ne d w h
  · exact Sparse.get_put_ne d m x h

/-- A write of what is not the default leaves every other key as it was, in any order. -/
theorem Sparse.get_set_put_ne [DecidableEq α] (d : Nat → α) (m : Sparse α) {k j : Nat} {x : α} (h : x ≠ d k)
    (hj : j ≠ k) : Sparse.get d (Sparse.set d m k x) j = Sparse.get d m j := by
  simp [Sparse.set, h, Sparse.get_put_ne d m x hj]

-- The canonical form

theorem Sparse.sortedFrom_erase {m : Sparse α} {lo : Nat} (w : Sparse.sortedFrom lo m = true) (k : Nat) :
    Sparse.sortedFrom lo (Sparse.erase m k) = true := by
  induction m generalizing lo with
  | nil => rfl
  | cons e t ih =>
    obtain ⟨i, v⟩ := e
    simp [Sparse.sortedFrom] at w
    unfold Sparse.erase
    split
    · exact Sparse.sortedFrom_mono (by omega) w.2
    · split
      · simp [Sparse.sortedFrom, w]
      · simp [Sparse.sortedFrom, w.1, ih w.2]

theorem Sparse.sortedFrom_put {m : Sparse α} {lo : Nat} (w : Sparse.sortedFrom lo m = true) {k : Nat} (h : lo ≤ k) (x : α) :
    Sparse.sortedFrom lo (Sparse.put m k x) = true := by
  induction m generalizing lo with
  | nil => simp [Sparse.put, Sparse.sortedFrom, h]
  | cons e t ih =>
    obtain ⟨i, v⟩ := e
    simp [Sparse.sortedFrom] at w
    unfold Sparse.put
    split
    · rename_i h1; subst h1; simp [Sparse.sortedFrom, w]
    · split
      · rename_i h1 h2; simp [Sparse.sortedFrom, w, h]; omega
      · rename_i h1 h2; simp [Sparse.sortedFrom, w.1]; exact ih w.2 (by omega)

theorem Sparse.all_erase (p : Nat × α → Bool) {m : Sparse α} (h : m.all p = true) (k : Nat) :
    (Sparse.erase m k).all p = true := by
  induction m with
  | nil => rfl
  | cons e t ih =>
    obtain ⟨i, v⟩ := e
    simp only [List.all_cons, Bool.and_eq_true] at h
    unfold Sparse.erase
    split
    · exact h.2
    · split
      · simp [h.1, h.2]
      · simp only [List.all_cons, Bool.and_eq_true]; exact ⟨h.1, ih h.2⟩

theorem Sparse.all_put (p : Nat × α → Bool) {m : Sparse α} (h : m.all p = true) {k : Nat} {x : α} (hx : p (k, x) = true) :
    (Sparse.put m k x).all p = true := by
  induction m with
  | nil => simp [Sparse.put, hx]
  | cons e t ih =>
    obtain ⟨i, v⟩ := e
    simp only [List.all_cons, Bool.and_eq_true] at h
    unfold Sparse.put
    split
    · simp only [List.all_cons, Bool.and_eq_true]; exact ⟨hx, h.2⟩
    · split
      · simp only [List.all_cons, Bool.and_eq_true]; exact ⟨hx, h.1, h.2⟩
      · simp only [List.all_cons, Bool.and_eq_true]; exact ⟨h.1, ih h.2⟩

/-- The empty table is canonical. -/
@[simp] theorem Sparse.wf_nil [DecidableEq α] (d : Nat → α) : Sparse.wf d ([] : Sparse α) = true := rfl

theorem Sparse.wf_sorted [DecidableEq α] {d : Nat → α} {m : Sparse α} (h : Sparse.wf d m = true) :
    Sparse.sortedFrom 0 m = true := by
  simp only [Sparse.wf, Bool.and_eq_true] at h
  exact h.1

/-- A write keeps the canonical form. -/
theorem Sparse.wf_set [DecidableEq α] {d : Nat → α} {m : Sparse α} (h : Sparse.wf d m = true) (k : Nat) (x : α) :
    Sparse.wf d (Sparse.set d m k x) = true := by
  simp only [Sparse.wf, Bool.and_eq_true] at h ⊢
  unfold Sparse.set
  split
  · exact ⟨Sparse.sortedFrom_erase h.1 k, Sparse.all_erase _ h.2 k⟩
  · rename_i hx
    exact ⟨Sparse.sortedFrom_put h.1 (Nat.zero_le k) x, Sparse.all_put _ h.2 (by simpa using hx)⟩

theorem Sparse.sortedFrom_filter (p : Nat × α → Bool) {m : Sparse α} {lo : Nat} (w : Sparse.sortedFrom lo m = true) :
    Sparse.sortedFrom lo (m.filter p) = true := by
  induction m generalizing lo with
  | nil => rfl
  | cons e t ih =>
    simp [Sparse.sortedFrom] at w
    rw [List.filter_cons]
    split
    · simp [Sparse.sortedFrom, w.1, ih w.2]
    · exact Sparse.sortedFrom_mono (by omega) (ih w.2)

/-- Keeping some keys keeps the canonical form. -/
theorem Sparse.wf_filter [DecidableEq α] {d : Nat → α} {m : Sparse α} (h : Sparse.wf d m = true) (p : Nat × α → Bool) :
    Sparse.wf d (m.filter p) = true := by
  simp only [Sparse.wf, Bool.and_eq_true] at h ⊢
  refine ⟨Sparse.sortedFrom_filter p h.1, ?_⟩
  rw [List.all_eq_true] at h ⊢
  exact fun x hx => h.2 x (List.mem_of_mem_filter hx)

/-- Keeping some keys keeps the canonical form. -/
theorem Sparse.wf_keep [DecidableEq α] {d : Nat → α} {m : Sparse α} (h : Sparse.wf d m = true) (p : Nat → Bool) :
    Sparse.wf d (Sparse.keep p m) = true := Sparse.wf_filter h _

/-- A fold that keeps the canonical form at each element keeps it. -/
theorem Sparse.wf_foldl [DecidableEq α] {β : Type} {d : Nat → α} (f : Sparse α → β → Sparse α)
    (hf : ∀ m b, Sparse.wf d m = true → Sparse.wf d (f m b) = true) (l : List β) :
    ∀ m, Sparse.wf d m = true → Sparse.wf d (l.foldl f m) = true := by
  induction l with
  | nil => exact fun m h => h
  | cons b t ih => exact fun m h => ih _ (hf m b h)

-- Memory

/-- A written byte reads as it was written. -/
theorem rd8_wr8_same {m : List Host.Cell} (h : Memory.wf m = true) (a : Nat) (b : Byte) : rd8 (wr8 m a b) a = b :=
  Sparse.get_set_same memDflt (Sparse.wf_sorted h) a b

/-- A write leaves every other byte as it was. -/
theorem rd8_wr8_ne {m : List Host.Cell} (h : Memory.wf m = true) {a c : Nat} (b : Byte) (hc : c ≠ a) :
    rd8 (wr8 m a b) c = rd8 m c :=
  Sparse.get_set_ne memDflt (Sparse.wf_sorted h) b hc

theorem Memory.wf_wr8 {m : List Host.Cell} (h : Memory.wf m = true) (a : Nat) (b : Byte) : Memory.wf (wr8 m a b) = true :=
  Sparse.wf_set h a b

theorem Memory.wf_wrBytes (b : List Byte) : ∀ {m : List Host.Cell} (_ : Memory.wf m = true) (a : Nat),
    Memory.wf (wrBytes m a b) = true := by
  induction b with
  | nil => exact fun h _ => h
  | cons x t ih => exact fun h a => ih (Memory.wf_wr8 h a x) (a + 1)

theorem Memory.wf_wrLE {m : List Host.Cell} (h : Memory.wf m = true) (a n v : Nat) : Memory.wf (wrLE m a n v) = true :=
  Memory.wf_wrBytes _ h a

theorem Memory.wf_zeroRange {m : List Host.Cell} (h : Memory.wf m = true) (a n : Nat) :
    Memory.wf (zeroRange m a n) = true := Sparse.wf_keep h _

/-- A byte string written at `a` leaves every byte before and behind it as it was. -/
theorem rd8_wrBytes_ne (b : List Byte) : ∀ {m : List Host.Cell} (_ : Memory.wf m = true) (a c : Nat)
    (_ : c < a ∨ a + b.length ≤ c), rd8 (wrBytes m a b) c = rd8 m c := by
  induction b with
  | nil => intro m _ a c _; rfl
  | cons x t ih =>
    intro m h a c hc
    have h1 : c < a + 1 ∨ a + 1 + t.length ≤ c := by simp at hc; omega
    have h2 : c ≠ a := by simp at hc; omega
    simp only [wrBytes]
    rw [ih (Memory.wf_wr8 h a x) (a + 1) c h1, rd8_wr8_ne h x h2]

/-- A byte string written at `a` reads back. -/
theorem rdBytes_wrBytes (b : List Byte) : ∀ {m : List Host.Cell} (_ : Memory.wf m = true) (a : Nat),
    rdBytes (wrBytes m a b) a b.length = b := by
  induction b with
  | nil => intro m _ a; rfl
  | cons x t ih =>
    intro m h a
    simp only [wrBytes, List.length_cons, rdBytes]
    rw [ih (Memory.wf_wr8 h a x) (a + 1), rd8_wrBytes_ne t (Memory.wf_wr8 h a x) (a + 1) a (by omega), rd8_wr8_same h a x]

/-- Zero-filled bytes read zero, and the others as before. -/
theorem get_filter_keep (d : Nat → α) (p : Nat → Bool) {m : Sparse α} {lo : Nat} (w : Sparse.sortedFrom lo m = true) (k : Nat) :
    Sparse.get d (Sparse.keep p m) k = if p k then Sparse.get d m k else d k := by
  induction m generalizing lo with
  | nil => simp [Sparse.keep, Sparse.get]
  | cons e t ih =>
    obtain ⟨i, v⟩ := e
    simp [Sparse.sortedFrom] at w
    have e1 := ih w.2
    unfold Sparse.keep at e1 ⊢
    rw [List.filter_cons]
    by_cases hi : p i
    · simp only [hi, if_true]
      by_cases h1 : k = i
      · subst h1; simp [Sparse.get, hi]
      · by_cases h2 : k < i
        · simp [Sparse.get, h1, h2]
        · simp [Sparse.get, h1, h2, e1]
    · simp only [hi]
      by_cases h1 : k = i
      · subst h1; simp [e1, hi]
      · by_cases h2 : k < i
        · have h3 : Sparse.get d t k = d k := Sparse.get_below d w.2 (by omega)
          simp [Sparse.get, h1, h2, e1, h3]
        · simp [Sparse.get, h1, h2, e1]

end Sys2Proof.Machine
end

