-- ==== Sys2Proof/Laws/Keeps.lean ====
section
/-! SUPPORT. What every command keeps: the canonical form of the window and of memory, the ordering code, the queue of waiting
commands, and a rollback count that never falls. `Keeps a t` says it of a state `t` that comes from `a`; one lemma per
operation says that it goes on holding. -/

namespace Sys2Proof.Machine

/-- `t` comes from `a` with everything kept that every operation keeps. -/
structure Keeps (a t : State) : Prop where
  canon : a.canon = true → t.canon = true
  part : t.part = a.part
  pending : t.pending = a.pending
  rollback : a.upd.rollback ≤ t.upd.rollback
  bound : a.upd.rollback ≤ 64 → t.upd.rollback ≤ 64

theorem Keeps.refl (a : State) : Keeps a a := ⟨id, rfl, rfl, Nat.le_refl _, id⟩

theorem Keeps.trans {a b c : State} (h : Keeps a b) (k : Keeps b c) : Keeps a c :=
  ⟨fun x => k.canon (h.canon x), k.part.trans h.part, k.pending.trans h.pending, Nat.le_trans h.rollback k.rollback,
    fun x => k.bound (h.bound x)⟩

/-- From what is new about memory, the window and the rollback count alone. -/
theorem Keeps.step {a s t : State} (h : Keeps a s) (hp : t.part = s.part) (hq : t.pending = s.pending)
    (hm : Memory.wf s.mem = true → Memory.wf t.mem = true)
    (hw : Sparse.wf regReset s.win = true → Sparse.wf regReset t.win = true)
    (hu : s.upd.rollback ≤ t.upd.rollback) (hb : s.upd.rollback ≤ 64 → t.upd.rollback ≤ 64) : Keeps a t := by
  refine h.trans ⟨fun c => ?_, hp, hq, hu, hb⟩
  simp only [State.canon, Bool.and_eq_true] at c ⊢
  exact ⟨hm c.1, hw c.2⟩

/-- A change of other fields. -/
theorem Keeps.same {a s t : State} (h : Keeps a s) (hp : t.part = s.part) (hq : t.pending = s.pending)
    (hm : t.mem = s.mem) (hw : t.win = s.win) (hu : t.upd.rollback = s.upd.rollback) : Keeps a t :=
  h.step hp hq (fun x => by rw [hm]; exact x) (fun x => by rw [hw]; exact x) (Nat.le_of_eq hu.symm) (fun x => by rw [hu]; exact x)

theorem keeps_foldl {a : State} {β : Type} {f : State → β → State} (hf : ∀ s b, Keeps a s → Keeps a (f s b)) (l : List β) :
    ∀ {s : State}, Keeps a s → Keeps a (l.foldl f s) := by
  induction l with
  | nil => exact fun h => h
  | cons b t ih => exact fun h => ih (hf _ b h)

theorem keeps_foldl_fst {a : State} {β γ : Type} {f : State × γ → β → State × γ}
    (hf : ∀ s b, Keeps a s.1 → Keeps a (f s b).1) (l : List β) :
    ∀ {s : State × γ}, Keeps a s.1 → Keeps a (l.foldl f s).1 := by
  induction l with
  | nil => exact fun h => h
  | cons b t ih => exact fun h => ih (hf _ b h)

theorem keeps_of_snd {a s : State} {β : Type} {x : β × State} {b : β} (h : x = (b, s)) (k : Keeps a x.2) : Keeps a s := by
  rw [h] at k; exact k

theorem keeps_of_fst {a s : State} {β : Type} {x : State × β} {b : β} (h : x = (s, b)) (k : Keeps a x.1) : Keeps a s := by
  rw [h] at k; exact k

theorem keeps_repeat {a : State} {f : State → State} (hf : ∀ s, Keeps a s → Keeps a (f s)) (n : Nat) :
    ∀ {s : State}, Keeps a s → Keeps a (Nat.repeat f n s) := by
  induction n with
  | zero => exact fun h => h
  | succ k ih => exact fun h => hf _ (ih h)

/-- A state written field by field that has its first four fields, and its rollback count, from `s`. -/
theorem keeps_mk {a s : State} (h : Keeps a s) {x0 : List Emit} {x1 : Nat} {x2 : SysSt} {x3 : CmdSt} {x4 : GlvSt} {x5 : Sparse Nat} {x6 : CesSt} {x7 : KtlSt}
    {x8 : PtbSt} {x9 : LseSt} {x10 : FioSt} {x11 : FltSt} {x12 : HstSt} {x13 : PwrSt} {x14 : ClkSt} {x15 : NvSt}
    {x16 : TmbSt} {x17 : TmbSt} {x18 : TmbSt} {x19 : TmbSt} {x20 : RtcSt} {x21 : VbatSt} {x22 : CdySt} {x23 :
    CdyLink} {x24 : RsSt} {x25 : Sparse FpPort} {x26 : Sparse CanCh} {x27 : PciSt} {x28 : UsbSt} {x29 : KeySt}
    {x30 : UpdSt}
    (hu : x30.rollback = s.upd.rollback) :
    Keeps a ⟨s.pending, s.part, s.win, s.mem,
      x0, x1, x2, x3, x4, x5, x6, x7, x8, x9, x10, x11, x12, x13, x14, x15, x16, x17, x18, x19, x20, x21, x22, x23, x24, x25, x26, x27, x28, x29,
      x30⟩ :=
  h.same rfl rfl rfl rfl hu

end Sys2Proof.Machine
end

