-- ==== Sys2Proof/Laws/Keeps1.lean ====
section
/-! SUPPORT. Every operation keeps what `Keeps` says, part 1: one lemma per operation, in the order of their use. -/

namespace Sys2Proof.Machine

theorem State.setReg_keeps {a : State} {s0 : State} (p1 p2 : ℕ) (p3 : Word) (h0' : Keeps a s0) :
    Keeps a (s0.setReg p1 p2 p3) :=
  Keeps.step h0' rfl rfl (fun x => x) (fun x => Sparse.wf_set x _ _) (Nat.le_refl _) (fun x => x)

theorem State.raiseSrc_keeps {a : State} {s0 : State} (p1 : ℕ) (p2 : ℕ) (h0' : Keeps a s0) :
    Keeps a (State.raiseSrc s0 p1 p2) := by
  unfold State.raiseSrc
  extract_lets vs1_1 vsrc_2
  have h3 : Keeps a vs1_1 := by
    unfold vs1_1
    apply State.setReg_keeps
    exact h0'
  clear_value vs1_1
  refine keeps_mk ?_ rfl
  exact h3

theorem State.setSlot_keeps {a : State} {s0 : State} (p1 : ℕ) (p2 : Slot) (h0' : Keeps a s0) :
    Keeps a (State.setSlot s0 p1 p2) := by
  unfold State.setSlot
  extract_lets vsrc_1
  refine keeps_mk ?_ rfl
  exact h0'

theorem State.freeSlot_keeps {a : State} {s0 : State} (p1 : ℕ) (h0' : Keeps a s0) :
    Keeps a (State.freeSlot s0 p1) := by
  unfold State.freeSlot
  extract_lets vsrc_1 vs1_2 vsrc_3
  have h4 : Keeps a vs1_2 := by
    unfold vs1_2
    apply State.setSlot_keeps
    exact h0'
  clear_value vs1_2
  refine keeps_mk ?_ rfl
  exact h4

theorem State.store_keeps {a : State} {s0 : State} (p1 : ℕ) (p2 : List Byte) (h0' : Keeps a s0) :
    Keeps a (s0.store p1 p2) :=
  Keeps.step h0' rfl rfl (fun x => Memory.wf_wrBytes _ x _) (fun x => x) (Nat.le_refl _) (fun x => x)

theorem State.setQueue_keeps {a : State} {s0 : State} (p1 : ℕ) (p2 : Queue) (h0' : Keeps a s0) :
    Keeps a (State.setQueue s0 p1 p2) := by
  unfold State.setQueue
  extract_lets vsrc_1
  refine keeps_mk ?_ rfl
  exact h0'

theorem State.pushRing_keeps {a : State} {s0 : State} (p1 : ℕ) (p2 : UsbEntry) (h0' : Keeps a s0) :
    Keeps a (State.pushRing s0 p1 p2) := by
  unfold State.pushRing
  extract_lets vsrc_1
  refine keeps_mk ?_ rfl
  exact h0'

theorem State.usbFlush_keeps {a : State} {s0 : State} (h0' : Keeps a s0) :
    Keeps a (State.usbFlush s0) := by
  unfold State.usbFlush
  dsimp only
  split
  · exact h0'
  · apply keeps_foldl
    · intro x1 x2 h3
      split
      · refine keeps_mk ?_ rfl
        apply State.pushRing_keeps
        exact h3
      · exact h3
    · exact h0'

theorem State.raiseQueue_keeps {a : State} {s0 : State} (p1 : ℕ) (h0' : Keeps a s0) :
    Keeps a (State.raiseQueue s0 p1) := by
  unfold State.raiseQueue
  extract_lets vx_1 vg_2 vs1_3 vf_4 vsrc_5 vsrc_6 vs2_7
  have h8 : Keeps a vs1_3 := by
    unfold vs1_3
    apply State.setQueue_keeps
    exact h0'
  clear_value vs1_3
  have h9 : Keeps a vs2_7 := by
    unfold vs2_7
    refine keeps_mk ?_ rfl
    exact h8
  clear_value vs2_7
  apply State.usbFlush_keeps
  exact h9

theorem State.checkQueue_keeps {a : State} {s0 : State} (p1 : ℕ) (h0' : Keeps a s0) :
    Keeps a (State.checkQueue s0 p1) := by
  unfold State.checkQueue
  split
  · apply State.raiseQueue_keeps
    exact h0'
  · exact h0'

theorem State.post_keeps {a : State} {s0 : State} (p1 : ℕ) (p2 : Bool → List Byte) (h0' : Keeps a s0) :
    Keeps a (State.post s0 p1 p2) := by
  unfold State.post
  extract_lets vx_1 vs1_2
  have h3 : Keeps a vs1_2 := by
    unfold vs1_2
    apply State.store_keeps
    exact h0'
  clear_value vs1_2
  apply State.checkQueue_keeps
  apply State.setQueue_keeps
  exact h3

theorem State.postSlot_keeps {a : State} {s0 : State} (p1 : ℕ) (h0' : Keeps a s0) :
    Keeps a (State.postSlot s0 p1) := by
  unfold State.postSlot
  split
  · exact h0'
  · apply State.freeSlot_keeps
    apply State.post_keeps
    exact h0'
  · apply State.freeSlot_keeps
    apply State.pushRing_keeps
    exact h0'

theorem State.queueEcc_keeps {a : State} {s0 : State} (p1 : ℕ) (h0' : Keeps a s0) :
    Keeps a (State.queueEcc s0 p1) := by
  unfold State.queueEcc
  extract_lets vsrc_1
  apply State.raiseSrc_keeps
  apply State.setQueue_keeps
  exact h0'

theorem State.queueChecked_keeps {a : State} {s0 : State} (p1 : ℕ) (h0' : Keeps a s0) :
    Keeps a (State.queueChecked s0 p1) := by
  unfold State.queueChecked
  split
  · apply State.queueEcc_keeps
    exact h0'
  · exact h0'

theorem State.bump_keeps {a : State} {s0 : State} (p1 : ℕ) (p2 : ℕ) (h0' : Keeps a s0) :
    Keeps a (State.bump s0 p1 p2) := by
  unfold State.bump
  apply State.setReg_keeps
  exact h0'

theorem State.violation_keeps {a : State} {s0 : State} (p1 : ℕ) (h0' : Keeps a s0) :
    Keeps a (State.violation s0 p1) := by
  unfold State.violation
  apply State.bump_keeps
  exact h0'

theorem State.ringTried_keeps {a : State} {s0 : State} (p1 : ℕ) (h0' : Keeps a s0) :
    Keeps a (State.ringTried s0 p1) := by
  unfold State.ringTried
  extract_lets vs1_1
  have h2 : Keeps a vs1_1 := by
    unfold vs1_1
    apply State.queueChecked_keeps
    exact h0'
  clear_value vs1_1
  split
  · apply State.violation_keeps
    exact h2
  · exact h2

theorem State.completeTried_keeps {a : State} {s0 : State} (p1 : ℕ) (h0' : Keeps a s0) :
    Keeps a (State.completeTried s0 p1) := by
  unfold State.completeTried
  split
  · split
    · apply State.ringTried_keeps
      exact h0'
    · exact h0'
  · exact h0'

theorem State.complete_keeps {a : State} {s0 : State} (p1 : ℕ) (p2 : ℕ) (p3 : optParam Word 0) (p4 : optParam Word 0) (p5 : optParam Word 0) (h0' : Keeps a s0) :
    Keeps a (State.complete s0 p1 p2 p3 p4 p5) := by
  unfold State.complete
  extract_lets vx_1 vy_2 vs0_3 vs1_4 vs2_5 vsrc_6
  have h7 : Keeps a vs0_3 := by
    unfold vs0_3
    split
    · apply State.raiseSrc_keeps
      exact h0'
    · exact h0'
  clear_value vs0_3
  have h8 : Keeps a vs1_4 := by
    unfold vs1_4
    apply State.setSlot_keeps
    exact h7
  clear_value vs1_4
  have h9 : Keeps a vs2_5 := by
    unfold vs2_5
    apply State.completeTried_keeps
    exact h8
  clear_value vs2_5
  split
  · split
    · apply State.setSlot_keeps
      exact h7
    · split
      · apply State.postSlot_keeps
        exact h8
      · refine keeps_mk ?_ rfl
        exact h9
  · exact h0'

theorem State.setCan_keeps {a : State} {s0 : State} (p1 : ℕ) (p2 : CanCh) (h0' : Keeps a s0) :
    Keeps a (State.setCan s0 p1 p2) := by
  unfold State.setCan
  refine keeps_mk ?_ rfl
  exact h0'

theorem State.canDwell_keeps {a : State} {s0 : State} (p1 : ℕ) (p2 : Bool) (h0' : Keeps a s0) :
    Keeps a (State.canDwell s0 p1 p2) := by
  unfold State.canDwell
  extract_lets vx_1 vl_2
  dsimp only
  split
  · exact h0'
  · split
    · apply State.complete_keeps
      apply State.setCan_keeps
      exact h0'
    · apply State.setCan_keeps
      exact h0'

theorem State.canSpoil_keeps {a : State} {s0 : State} (p1 : ℕ) (h0' : Keeps a s0) :
    Keeps a (State.canSpoil s0 p1) := by
  unfold State.canSpoil
  extract_lets vx_1
  split
  · split
    · apply State.raiseSrc_keeps
      apply State.setCan_keeps
      exact h0'
    · exact h0'
  · exact h0'

theorem State.noteSrc_keeps {a : State} {s0 : State} (p1 : ℕ) (h0' : Keeps a s0) :
    Keeps a (State.noteSrc s0 p1) := by
  unfold State.noteSrc
  extract_lets vp_1 voff_2
  apply State.setReg_keeps
  exact h0'

theorem State.setTask_keeps {a : State} {s0 : State} (p1 : ℕ) (p2 : TaskSt) (h0' : Keeps a s0) :
    Keeps a (State.setTask s0 p1 p2) := by
  unfold State.setTask
  extract_lets vsrc_1
  refine keeps_mk ?_ rfl
  exact h0'

theorem State.storeWork_keeps {a : State} {s0 : State} (p1 : ℕ) (p2 : Bool) (h0' : Keeps a s0) :
    Keeps a (State.storeWork s0 p1 p2) := by
  unfold State.storeWork
  extract_lets vr_1 va_2
  split
  · apply State.store_keeps
    apply State.store_keeps
    apply State.store_keeps
    exact h0'
  · exact h0'

theorem State.taskLost_keeps {a : State} {s0 : State} (p1 : ℕ) (h0' : Keeps a s0) :
    Keeps a (State.taskLost s0 p1) := by
  unfold State.taskLost
  extract_lets vx_1 vs1_2
  have h3 : Keeps a vs1_2 := by
    unfold vs1_2
    apply State.setTask_keeps
    exact h0'
  clear_value vs1_2
  split
  · apply State.complete_keeps
    exact h3
  · exact h3

theorem State.fenceTask_keeps {a : State} {s0 : State} (p1 : ℕ) (p2 : List ℕ) (p3 : ℕ) (h0' : Keeps a s0) :
    Keeps a (State.fenceTask s0 p1 p2 p3) := by
  unfold State.fenceTask
  extract_lets vx_1 vhitO_2 vhitS_3 vsh_4 vat_5
  split
  · split
    · apply State.storeWork_keeps
      apply State.setTask_keeps
      exact h0'
    · apply State.taskLost_keeps
      exact h0'
  · split
    · split
      · apply State.setTask_keeps
        exact h0'
      · apply State.taskLost_keeps
        exact h0'
    · apply State.setTask_keeps
      exact h0'

theorem State.fenceTasks_keeps {a : State} {s0 : State} (p1 : ℕ) (p2 : List ℕ) (h0' : Keeps a s0) :
    Keeps a (State.fenceTasks s0 p1 p2) := by
  unfold State.fenceTasks
  extract_lets vgone_1 vs1_2 vsrc_3
  have h4 : Keeps a vs1_2 := by
    unfold vs1_2
    dsimp only
    apply keeps_foldl
    · intro x5 x6 h7
      apply State.setTask_keeps
      apply State.fenceTask_keeps
      exact h7
    · exact h0'
  clear_value vs1_2
  refine keeps_mk ?_ rfl
  exact h4

theorem State.setLoop_keeps {a : State} {s0 : State} (p1 : ℕ) (p2 : LoopSt) (h0' : Keeps a s0) :
    Keeps a (State.setLoop s0 p1 p2) := by
  unfold State.setLoop
  extract_lets vsrc_1
  refine keeps_mk ?_ rfl
  exact h0'

theorem State.loopLost_keeps {a : State} {s0 : State} (p1 : ℕ) (h0' : Keeps a s0) :
    Keeps a (State.loopLost s0 p1) := by
  unfold State.loopLost
  extract_lets vx_1 vs1_2 vs2_3
  have h4 : Keeps a vs1_2 := by
    unfold vs1_2
    apply State.setLoop_keeps
    exact h0'
  clear_value vs1_2
  have h5 : Keeps a vs2_3 := by
    unfold vs2_3
    split
    · apply State.complete_keeps
      exact h4
    · exact h4
  clear_value vs2_3
  split
  · apply State.complete_keeps
    exact h5
  · exact h5

theorem State.fenceLoop_keeps {a : State} {s0 : State} (p1 : ℕ) (p2 : List ℕ) (p3 : ℕ) (h0' : Keeps a s0) :
    Keeps a (State.fenceLoop s0 p1 p2 p3) := by
  unfold State.fenceLoop
  extract_lets vx_1 vhitO_2 vhitS_3 vsh_4
  split
  · split
    · apply State.setLoop_keeps
      exact h0'
    · apply State.loopLost_keeps
      exact h0'
  · split
    · split
      · apply State.setLoop_keeps
        exact h0'
      · apply State.loopLost_keeps
        exact h0'
    · apply State.setLoop_keeps
      exact h0'

theorem State.fenceLoops_keeps {a : State} {s0 : State} (p1 : ℕ) (p2 : List ℕ) (h0' : Keeps a s0) :
    Keeps a (State.fenceLoops s0 p1 p2) := by
  unfold State.fenceLoops
  extract_lets vs1_1 vsrc_2
  have h3 : Keeps a vs1_1 := by
    unfold vs1_1
    apply keeps_foldl
    · intro x4 x5 h6
      apply State.fenceLoop_keeps
      exact h6
    · exact h0'
  clear_value vs1_1
  refine keeps_mk ?_ rfl
  exact h3

theorem State.setMode_keeps {a : State} {s0 : State} (p1 : Mode) (h0' : Keeps a s0) :
    Keeps a (State.setMode s0 p1) := by
  unfold State.setMode
  extract_lets vsrc_1
  split
  · exact h0'
  · refine keeps_mk ?_ rfl
    exact h0'

theorem State.fenceOne_keeps {a : State} {s0 : State} (p1 : ℕ) (h0' : Keeps a s0) : Keeps a (s0.fenceOne p1) := by
  unfold State.fenceOne
  split
  · exact h0'
  · extract_lets f unf x1 x2 s1 s2
    have h1 : Keeps a s1 := keeps_mk h0' rfl
    have h2 : Keeps a s2 := State.fenceTasks_keeps _ _ (State.fenceLoops_keeps _ _ h1)
    split
    · exact State.setMode_keeps _ h2
    · exact h2

theorem State.setCup_keeps {a : State} {s0 : State} (p1 : ℕ) (p2 : ℕ) (p3 : Option DqEntry) (h0' : Keeps a s0) :
    Keeps a (State.setCup s0 p1 p2 p3) := by
  unfold State.setCup
  extract_lets vsrc_1
  refine keeps_mk ?_ rfl
  exact h0'

theorem State.addBusy_keeps {a : State} {s0 : State} (p1 : ℕ) (p2 : ℕ) (h0' : Keeps a s0) :
    Keeps a (State.addBusy s0 p1 p2) := by
  unfold State.addBusy
  extract_lets vb_1 vb1_2 vsrc_3
  refine keeps_mk ?_ rfl
  exact h0'

theorem State.cupTake_keeps {a : State} {s0 : State} (p1 : ℕ) (p2 : ℕ) (p3 : DqEntry) (p4 : Bool) (h0' : Keeps a s0) :
    Keeps a (State.cupTake s0 p1 p2 p3 p4) := by
  unfold State.cupTake
  extract_lets vx_1 vsh_2 vr_3 vs1_4 vs2_5
  have h6 : Keeps a vs1_4 := by
    unfold vs1_4
    apply State.setCup_keeps
    exact h0'
  clear_value vs1_4
  have h7 : Keeps a vs2_5 := by
    unfold vs2_5
    split
    · apply State.setLoop_keeps
      exact h6
    · exact h6
  clear_value vs2_5
  apply State.addBusy_keeps
  exact h7

theorem State.setDeque_keeps {a : State} {s0 : State} (p1 : ℕ) (p2 : ℕ) (p3 : List DqEntry) (h0' : Keeps a s0) :
    Keeps a (State.setDeque s0 p1 p2 p3) := by
  unfold State.setDeque
  extract_lets vsrc_1
  refine keeps_mk ?_ rfl
  exact h0'

theorem State.stealAll_keeps {a : State} {s0 : State} {s1 : State} (p2 : ℕ) (h0' : Keeps a s0) (h1' : Keeps a s1) :
    Keeps a (State.stealAll s0 s1 p2) := by
  unfold State.stealAll
  extract_lets vw_1 vlens_2
  split
  · apply keeps_foldl_fst
    · intro x3 x4 h5
      split
      · split
        · exact h5
        · split
          · exact h5
          · split
            · dsimp only
              apply State.bump_keeps
              apply State.cupTake_keeps
              apply State.setDeque_keeps
              exact h5
            · exact h5
      · exact h5
    · dsimp only
      exact h1'
  · exact h1'

theorem State.popAll_keeps {a : State} {s0 : State} (p1 : ℕ) (h0' : Keeps a s0) :
    Keeps a (State.popAll s0 p1) := by
  unfold State.popAll
  apply keeps_foldl
  · intro x1 x2 h3
    split
    · exact h3
    · split
      · apply State.cupTake_keeps
        apply State.setDeque_keeps
        exact h3
      · exact h3
  · exact h0'

theorem State.cupCycle_keeps {a : State} {s0 : State} (p1 : ℕ) (h0' : Keeps a s0) :
    Keeps a (State.cupCycle s0 p1) := by
  unfold State.cupCycle
  apply State.stealAll_keeps
  · exact h0'
  · apply State.popAll_keeps
    exact h0'

theorem State.cupsTake_keeps {a : State} {s0 : State} (p1 : ℕ) (h0' : Keeps a s0) :
    Keeps a (State.cupsTake s0 p1) := by
  unfold State.cupsTake
  apply keeps_repeat
  · intro x1 h2
    apply State.cupCycle_keeps
    exact h2
  · exact h0'

theorem State.freeUnits_keeps {a : State} {s0 : State} (h0' : Keeps a s0) :
    Keeps a (State.freeUnits s0) := by
  unfold State.freeUnits
  extract_lets vcups_1 vks_2 vsrc_3 vsrc_4 vs1_5
  have h6 : Keeps a vs1_5 := by
    unfold vs1_5
    refine keeps_mk ?_ rfl
    exact h0'
  clear_value vs1_5
  apply keeps_foldl
  · intro x7 x8 h9
    apply State.cupsTake_keeps
    exact h9
  · exact h6

theorem State.countUnres_keeps {a : State} {s0 : State} (p1 : ℕ) (p2 : ℕ) (h0' : Keeps a s0) :
    Keeps a (State.countUnres s0 p1 p2).1 := by
  unfold State.countUnres
  extract_lets vnow_1 vadd_2 vs1_3 vlim_4 vhit_5
  have h6 : ∀ y0 (_ : Keeps a y0) y1, Keeps a (vadd_2 y0 y1) := by
    unfold vadd_2
    intro x7 h8 x9
    extract_lets vl_10 vsrc_11
    refine keeps_mk ?_ rfl
    exact h8
  have h12 : Keeps a vs1_3 := by
    unfold vs1_3
    split
    · apply h6
      exact h0'
    · apply h6
      apply h6
      exact h0'
  clear_value vs1_3
  dsimp only
  exact h12

theorem State.concludeTests_keeps {a : State} {s0 : State} (h0' : Keeps a s0) :
    Keeps a (State.concludeTests s0).1 := by
  unfold State.concludeTests
  extract_lets vended_1 vsrc_2 vs1_3
  have h4 : Keeps a vs1_3 := by
    unfold vs1_3
    refine keeps_mk ?_ rfl
    exact h0'
  clear_value vs1_3
  dsimp only
  apply keeps_foldl_fst
  · intro x5 x6 h7
    split
    · dsimp only
      apply State.countUnres_keeps
      split
      · apply State.setTask_keeps
        apply State.bump_keeps
        exact h7
      · apply State.setLoop_keeps
        apply State.bump_keeps
        exact h7
    · dsimp only
      exact h7
    · exact h7
  · dsimp only
    exact h4

theorem State.fenceMany_keeps {a : State} (n : ℕ) : ∀ {s : State} (cs : List ℕ), Keeps a s → Keeps a (State.fenceMany n s cs) := by
  induction n with
  | zero => exact fun _ h => h
  | succ k ih =>
    intro s cs h
    unfold State.fenceMany
    have h1 : Keeps a (cs.foldl (fun a c => a.fenceOne c) s) := keeps_foldl (fun _ _ x => State.fenceOne_keeps _ x) cs h
    have h2 := State.freeUnits_keeps (State.concludeTests_keeps h1)
    dsimp only
    split
    · exact h2
    · exact ih _ (State.raiseSrc_keeps _ _ h2)

theorem State.fence_keeps {a : State} {s0 : State} (p1 : ℕ) (h0' : Keeps a s0) :
    Keeps a (State.fence s0 p1) := by
  unfold State.fence
  apply State.fenceMany_keeps
  exact h0'

theorem State.setReq_keeps {a : State} {s0 : State} (p1 : ℕ) (p2 : ℕ) (h0' : Keeps a s0) :
    Keeps a (State.setReq s0 p1 p2) := by
  unfold State.setReq
  apply State.setReg_keeps
  exact h0'

theorem State.canAbortDetect_keeps {a : State} {s0 : State} (p1 : ℕ) (h0' : Keeps a s0) :
    Keeps a (State.canAbortDetect s0 p1) := by
  unfold State.canAbortDetect
  extract_lets vsrc_1
  split
  · exact h0'
  · apply State.complete_keeps
    apply State.setCan_keeps
    exact h0'

theorem State.setRsPort_keeps {a : State} {s0 : State} (p1 : Bool) (p2 : RsPort) (h0' : Keeps a s0) :
    Keeps a (State.setRsPort s0 p1 p2) := by
  unfold State.setRsPort
  extract_lets vsrc_1
  split
  · refine keeps_mk ?_ rfl
    exact h0'
  · refine keeps_mk ?_ rfl
    exact h0'

theorem State.onPort_keeps {a : State} {s0 : State} (p1 : Bool) (p2 : RsPort → RsPort) (h0' : Keeps a s0) :
    Keeps a (State.onPort s0 p1 p2) := by
  unfold State.onPort
  apply State.setRsPort_keeps
  exact h0'

theorem State.rsAddress_keeps {a : State} {s0 : State} (p1 : Bool) (h0' : Keeps a s0) :
    Keeps a (State.rsAddress s0 p1) := by
  unfold State.rsAddress
  apply State.onPort_keeps
  exact h0'

theorem State.startingHook_keeps {a : State} {s0 : State} (p1 : ℕ) (h0' : Keeps a s0) :
    Keeps a (State.startingHook s0 p1) := by
  unfold State.startingHook
  split
  · apply State.rsAddress_keeps
    exact h0'
  · exact h0'

theorem State.setCur_keeps {a : State} {s0 : State} (p1 : ℕ) (p2 : ℕ) (h0' : Keeps a s0) :
    Keeps a (State.setCur s0 p1 p2) := by
  unfold State.setCur
  apply State.setReg_keeps
  exact h0'

theorem State.setGroup_keeps {a : State} {s0 : State} (p1 : ℕ) (p2 : GroupSt) (h0' : Keeps a s0) :
    Keeps a (State.setGroup s0 p1 p2) := by
  unfold State.setGroup
  extract_lets vsrc_1
  refine keeps_mk ?_ rfl
  exact h0'

theorem State.abortLease_keeps {a : State} {s0 : State} (h0' : Keeps a s0) :
    Keeps a (State.abortLease s0) := by
  unfold State.abortLease
  extract_lets vs1_1 vs2_2 vsrc_3 vs3_4
  have h5 : Keeps a vs1_1 := by
    unfold vs1_1
    apply keeps_foldl
    · intro x6 x7 h8
      apply State.complete_keeps
      exact h8
    · exact h0'
  clear_value vs1_1
  have h9 : Keeps a vs2_2 := by
    unfold vs2_2
    split
    · apply State.complete_keeps
      exact h5
    · exact h5
  clear_value vs2_2
  have h10 : Keeps a vs3_4 := by
    unfold vs3_4
    refine keeps_mk ?_ rfl
    exact h9
  clear_value vs3_4
  dsimp only
  apply keeps_foldl
  · intro x11 x12 h13
    split
    · apply State.complete_keeps
      apply State.setGroup_keeps
      exact h13
    · exact h13
  · exact h10

theorem State.stopTasks_keeps {a : State} {s0 : State} (p1 : Bool) (h0' : Keeps a s0) :
    Keeps a (State.stopTasks s0 p1) := by
  unfold State.stopTasks
  dsimp only
  apply keeps_foldl
  · intro x1 x2 h3
    split
    · apply State.setTask_keeps
      split
      · apply State.complete_keeps
        split
        · split
          · apply State.complete_keeps
            exact h3
          · exact h3
        · exact h3
      · split
        · split
          · apply State.complete_keeps
            exact h3
          · exact h3
        · exact h3
    · exact h3
  · exact h0'

theorem State.stopLoops_keeps {a : State} {s0 : State} (p1 : Bool) (h0' : Keeps a s0) :
    Keeps a (State.stopLoops s0 p1) := by
  unfold State.stopLoops
  dsimp only
  apply keeps_foldl
  · intro x1 x2 h3
    split
    · apply State.setLoop_keeps
      split
      · apply State.complete_keeps
        split
        · apply State.complete_keeps
          split
          · split
            · apply State.complete_keeps
              exact h3
            · exact h3
          · exact h3
        · split
          · split
            · apply State.complete_keeps
              exact h3
            · exact h3
          · exact h3
      · split
        · apply State.complete_keeps
          split
          · split
            · apply State.complete_keeps
              exact h3
            · exact h3
          · exact h3
        · split
          · split
            · apply State.complete_keeps
              exact h3
            · exact h3
          · exact h3
    · exact h3
  · exact h0'

theorem State.endAdopt_keeps {a : State} {s0 : State} (h0' : Keeps a s0) :
    Keeps a (State.endAdopt s0) := by
  unfold State.endAdopt
  extract_lets vsrc_1 vs1_2
  have h3 : Keeps a vs1_2 := by
    unfold vs1_2
    refine keeps_mk ?_ rfl
    exact h0'
  clear_value vs1_2
  apply State.stopTasks_keeps
  apply State.stopLoops_keeps
  exact h3

theorem State.releaseAll_keeps {a : State} {s0 : State} (p1 : Bool) (h0' : Keeps a s0) :
    Keeps a (State.releaseAll s0 p1) := by
  unfold State.releaseAll
  extract_lets vs1_1 vs2_2
  have h3 : Keeps a vs1_1 := by
    unfold vs1_1
    apply State.abortLease_keeps
    exact h0'
  clear_value vs1_1
  have h4 : Keeps a vs2_2 := by
    unfold vs2_2
    dsimp only
    apply keeps_foldl
    · intro x5 x6 h7
      split
      · apply State.setGroup_keeps
        exact h7
      · split
        · apply State.setGroup_keeps
          exact h7
        · exact h7
    · exact h3
  clear_value vs2_2
  split
  · apply State.endAdopt_keeps
    exact h4
  · exact h4

theorem State.setTmb_keeps {a : State} {s0 : State} (p1 : ℕ) (p2 : TmbSt) (h0' : Keeps a s0) :
    Keeps a (State.setTmb s0 p1 p2) := by
  unfold State.setTmb
  split
  · refine keeps_mk ?_ rfl
    exact h0'
  · refine keeps_mk ?_ rfl
    exact h0'
  · refine keeps_mk ?_ rfl
    exact h0'
  · refine keeps_mk ?_ rfl
    exact h0'

theorem State.tmbStopping_keeps {a : State} {s0 : State} (p1 : ℕ) (h0' : Keeps a s0) :
    Keeps a (State.tmbStopping s0 p1) := by
  unfold State.tmbStopping
  extract_lets vsrc_1
  apply State.setTmb_keeps
  exact h0'

theorem State.setFp_keeps {a : State} {s0 : State} (p1 : ℕ) (p2 : FpPort) (h0' : Keeps a s0) :
    Keeps a (State.setFp s0 p1 p2) := by
  unfold State.setFp
  refine keeps_mk ?_ rfl
  exact h0'

theorem State.fpStopping_keeps {a : State} {s0 : State} (p1 : ℕ) (h0' : Keeps a s0) :
    Keeps a (State.fpStopping s0 p1) := by
  unfold State.fpStopping
  extract_lets vsrc_1
  apply State.setFp_keeps
  exact h0'

theorem State.canFlush_keeps {a : State} {s0 : State} (p1 : ℕ) (h0' : Keeps a s0) :
    Keeps a (State.canFlush s0 p1) := by
  unfold State.canFlush
  extract_lets vsrc_1
  apply State.setCan_keeps
  exact h0'

theorem State.postOwed_keeps {a : State} {s0 : State} (p1 : Owed) (h0' : Keeps a s0) :
    Keeps a (State.postOwed s0 p1) := by
  unfold State.postOwed
  apply State.post_keeps
  exact h0'

theorem State.flushOwed_keeps {a : State} {s0 : State} (h0' : Keeps a s0) :
    Keeps a (State.flushOwed s0) := by
  unfold State.flushOwed
  dsimp only
  apply keeps_foldl
  · intro x1 x2 h3
    split
    · refine keeps_mk ?_ rfl
      apply State.postOwed_keeps
      exact h3
    · exact h3
  · exact h0'

theorem State.txDone_keeps {a : State} {s0 : State} (p1 : ℕ) (p2 : ℕ) (p3 : Option ℕ) (p4 : ℕ) (p5 : ℕ) (p6 : ℕ) (p7 : Word) (h0' : Keeps a s0) :
    Keeps a (State.txDone s0 p1 p2 p3 p4 p5 p6 p7) := by
  unfold State.txDone
  extract_lets vsrc_1
  dsimp only
  split
  · exact h0'
  · split
    · apply State.ringTried_keeps
      apply State.flushOwed_keeps
      refine keeps_mk ?_ rfl
      exact h0'
    · apply State.flushOwed_keeps
      refine keeps_mk ?_ rfl
      exact h0'

theorem State.rsUnsent_keeps {a : State} {s0 : State} (p1 : RFrame) (h0' : Keeps a s0) :
    Keeps a (State.rsUnsent s0 p1) := by
  unfold State.rsUnsent
  split
  · exact h0'
  · apply State.txDone_keeps
    exact h0'

theorem State.bumpBy_keeps {a : State} {s0 : State} (p1 : ℕ) (p2 : ℕ) (p3 : ℕ) (h0' : Keeps a s0) :
    Keeps a (State.bumpBy s0 p1 p2 p3) := by
  unfold State.bumpBy
  apply State.setReg_keeps
  exact h0'

theorem State.rsFlush_keeps {a : State} {s0 : State} (p1 : Bool) (h0' : Keeps a s0) :
    Keeps a (State.rsFlush s0 p1) := by
  unfold State.rsFlush
  extract_lets vx_1 vl_2
  apply keeps_foldl
  · intro x3 x4 h5
    apply State.rsUnsent_keeps
    exact h5
  · apply State.setRsPort_keeps
    apply State.bumpBy_keeps
    exact h0'

theorem State.rsLocal_keeps {a : State} {s0 : State} (p1 : Bool) (p2 : RFrame) (h0' : Keeps a s0) :
    Keeps a (State.rsLocal s0 p1 p2) := by
  unfold State.rsLocal
  extract_lets vx_1
  split
  · split
    · apply State.setRsPort_keeps
      exact h0'
    · split
      · apply State.setRsPort_keeps
        exact h0'
      · exact h0'
  · apply State.bump_keeps
    exact h0'

theorem State.linkEvent_keeps {a : State} {s0 : State} (p1 : Bool) (h0' : Keeps a s0) :
    Keeps a (State.linkEvent s0 p1) := by
  unfold State.linkEvent
  apply State.rsLocal_keeps
  exact h0'

theorem State.rsFall_keeps {a : State} {s0 : State} (p1 : Bool) (p2 : Bool) (h0' : Keeps a s0) :
    Keeps a (State.rsFall s0 p1 p2) := by
  unfold State.rsFall
  extract_lets vs1_1
  have h2 : Keeps a vs1_1 := by
    unfold vs1_1
    apply State.onPort_keeps
    apply State.rsFlush_keeps
    exact h0'
  clear_value vs1_1
  split
  · apply State.linkEvent_keeps
    exact h2
  · exact h2

theorem State.rsStopping_keeps {a : State} {s0 : State} (p1 : Bool) (h0' : Keeps a s0) :
    Keeps a (State.rsStopping s0 p1) := by
  unfold State.rsStopping
  apply State.onPort_keeps
  apply State.rsFall_keeps
  exact h0'

theorem State.fnReset_keeps {a : State} {s0 : State} (p1 : ℕ) (h0' : Keeps a s0) : Keeps a (s0.fnReset p1) := by
  unfold State.fnReset
  dsimp only
  exact Keeps.step h0' rfl rfl (fun x => x) (fun x => Sparse.wf_filter x _) (Nat.le_refl _) (fun x => x)

theorem State.pciDown_keeps {a : State} {s0 : State} (h0' : Keeps a s0) :
    Keeps a (State.pciDown s0) := by
  unfold State.pciDown
  extract_lets vup_1 vs1_2 vsrc_3 vs2_4 vs3_5
  have h6 : Keeps a vs1_2 := by
    unfold vs1_2
    apply keeps_foldl
    · intro x7 x8 h9
      apply State.fnReset_keeps
      exact h9
    · exact h0'
  clear_value vs1_2
  have h10 : Keeps a vs2_4 := by
    unfold vs2_4
    refine keeps_mk ?_ rfl
    exact h6
  clear_value vs2_4
  have h11 : Keeps a vs3_5 := by
    unfold vs3_5
    apply State.bump_keeps
    exact h10
  clear_value vs3_5
  split
  · split
    · apply State.raiseSrc_keeps
      exact h11
    · exact h11
  · exact h10

theorem State.usbAttach_keeps {a : State} {s0 : State} (h0' : Keeps a s0) :
    Keeps a (State.usbAttach s0) := by
  unfold State.usbAttach
  extract_lets vsrc_1
  split
  · split
    · refine keeps_mk ?_ rfl
      exact h0'
    · exact h0'
  · refine keeps_mk ?_ rfl
    exact h0'

theorem State.endCmds_keeps {a : State} {s0 : State} (p1 : UpdSess) (p2 : ℕ) (p3 : Word) (p4 : Word) (h0' : Keeps a s0) :
    Keeps a (State.endCmds s0 p1 p2 p3 p4) := by
  unfold State.endCmds
  extract_lets vslots_1
  apply keeps_foldl
  · intro x2 x3 h4
    apply State.complete_keeps
    exact h4
  · exact h0'

theorem State.updStop_keeps {a : State} {s0 : State} (h0' : Keeps a s0) :
    Keeps a (State.updStop s0) := by
  unfold State.updStop
  extract_lets vs1_1 vsrc_2
  have h3 : Keeps a vs1_1 := by
    unfold vs1_1
    split
    · apply State.endCmds_keeps
      exact h0'
    · exact h0'
  clear_value vs1_1
  refine keeps_mk ?_ rfl
  exact h3

theorem State.unhook_keeps {a : State} {s0 : State} (p1 : ℕ) (h0' : Keeps a s0) :
    Keeps a (State.unhook s0 p1) := by
  unfold State.unhook
  extract_lets vs1_1 vs2_2 vjr_3 vcans_4 vsrc_5 vsrc_6 vsrc_7
  have h8 : Keeps a vs1_1 := by
    unfold vs1_1
    dsimp only
    apply keeps_foldl
    · intro x9 x10 h11
      split
      · exact h11
      · apply State.setLoop_keeps
        exact h11
    · exact h0'
  clear_value vs1_1
  have h12 : Keeps a vs2_2 := by
    unfold vs2_2
    dsimp only
    apply keeps_foldl
    · intro x13 x14 h15
      split
      · exact h15
      · apply State.setTask_keeps
        exact h15
    · exact h8
  clear_value vs2_2
  refine keeps_mk ?_ rfl
  exact h12

theorem State.abort_keeps {a : State} {s0 : State} (p1 : ℕ) (h0' : Keeps a s0) :
    Keeps a (State.abort s0 p1) := by
  unfold State.abort
  apply State.complete_keeps
  apply State.unhook_keeps
  exact h0'

theorem State.abortWhere_keeps {a : State} {s0 : State} (p1 : Slot → Bool) (h0' : Keeps a s0) :
    Keeps a (State.abortWhere s0 p1) := by
  unfold State.abortWhere
  apply keeps_foldl
  · intro x1 x2 h3
    apply State.abort_keeps
    exact h3
  · exact h0'

theorem State.abortLoops_keeps {a : State} {s0 : State} (p1 : ℕ) (h0' : Keeps a s0) :
    Keeps a (State.abortLoops s0 p1) := by
  unfold State.abortLoops
  dsimp only
  apply keeps_foldl
  · intro x1 x2 h3
    split
    · split
      · apply State.complete_keeps
        split
        · apply State.complete_keeps
          split
          · split
            · apply State.complete_keeps
              apply State.setLoop_keeps
              exact h3
            · apply State.setLoop_keeps
              exact h3
          · apply State.setLoop_keeps
            exact h3
        · split
          · split
            · apply State.complete_keeps
              apply State.setLoop_keeps
              exact h3
            · apply State.setLoop_keeps
              exact h3
          · apply State.setLoop_keeps
            exact h3
      · split
        · apply State.complete_keeps
          split
          · split
            · apply State.complete_keeps
              apply State.setLoop_keeps
              exact h3
            · apply State.setLoop_keeps
              exact h3
          · apply State.setLoop_keeps
            exact h3
        · split
          · split
            · apply State.complete_keeps
              apply State.setLoop_keeps
              exact h3
            · apply State.setLoop_keeps
              exact h3
          · apply State.setLoop_keeps
            exact h3
    · exact h3
  · exact h0'

theorem State.abortTasks_keeps {a : State} {s0 : State} (p1 : ℕ) (h0' : Keeps a s0) :
    Keeps a (State.abortTasks s0 p1) := by
  unfold State.abortTasks
  dsimp only
  apply keeps_foldl
  · intro x1 x2 h3
    split
    · split
      · apply State.complete_keeps
        split
        · split
          · apply State.complete_keeps
            apply State.setTask_keeps
            exact h3
          · apply State.setTask_keeps
            exact h3
        · apply State.setTask_keeps
          exact h3
      · split
        · split
          · apply State.complete_keeps
            apply State.setTask_keeps
            exact h3
          · apply State.setTask_keeps
            exact h3
        · apply State.setTask_keeps
          exact h3
    · exact h3
  · exact h0'

theorem State.stoppingHook_keeps {a : State} {s0 : State} (p1 : ℕ) (h0' : Keeps a s0) :
    Keeps a (State.stoppingHook s0 p1) := by
  unfold State.stoppingHook
  extract_lets vk_1 vheld_2 vs1_3 vsrc_4
  have h5 : Keeps a vs1_3 := by
    unfold vs1_3
    apply State.releaseAll_keeps
    exact h0'
  clear_value vs1_3
  split
  · apply State.tmbStopping_keeps
    exact h0'
  · apply State.fpStopping_keeps
    exact h0'
  · apply State.canFlush_keeps
    exact h0'
  · apply State.rsStopping_keeps
    exact h0'
  · refine keeps_mk ?_ rfl
    exact h5
  · apply State.pciDown_keeps
    exact h0'
  · apply State.usbAttach_keeps
    exact h0'
  · apply State.updStop_keeps
    exact h0'
  · apply State.abortWhere_keeps
    exact h0'
  · apply keeps_foldl
    · intro x6 x7 h8
      apply State.abortLoops_keeps
      exact h8
    · exact h0'
  · apply State.abortLoops_keeps
    exact h0'
  · apply State.abortTasks_keeps
    exact h0'
  · exact h0'

theorem State.kick_keeps {a : State} {s0 : State} (p1 : ℕ) (h0' : Keeps a s0) :
    Keeps a (State.kick s0 p1) := by
  unfold State.kick
  split
  · apply State.startingHook_keeps
    apply State.setCur_keeps
    exact h0'
  · split
    · apply State.stoppingHook_keeps
      apply State.setCur_keeps
      exact h0'
    · exact h0'

theorem State.runReq_keeps {a : State} {s0 : State} (p1 : ℕ) (p2 : ℕ) (h0' : Keeps a s0) :
    Keeps a (State.runReq s0 p1 p2) := by
  unfold State.runReq
  extract_lets vs1_1 vs2_2
  have h3 : Keeps a vs1_1 := by
    unfold vs1_1
    apply State.setReq_keeps
    exact h0'
  clear_value vs1_1
  have h4 : Keeps a vs2_2 := by
    unfold vs2_2
    split
    · apply State.canAbortDetect_keeps
      exact h3
    · exact h3
  clear_value vs2_2
  split
  · exact h0'
  · split
    · apply State.bump_keeps
      exact h0'
    · apply State.kick_keeps
      exact h4

theorem State.takeOut_keeps {a : State} {s0 : State} (p1 : ℕ) (h0' : Keeps a s0) :
    Keeps a (State.takeOut s0 p1) := by
  unfold State.takeOut
  extract_lets vp_1
  split
  · apply State.fence_keeps
    exact h0'
  · split
    · exact h0'
    · apply State.runReq_keeps
      exact h0'

theorem State.reactUnit_keeps {a : State} {s0 : State} (p1 : ℕ) (p2 : React) (h0' : Keeps a s0) :
    Keeps a (State.reactUnit s0 p1 p2) := by
  unfold State.reactUnit
  split
  · exact h0'
  · apply State.noteSrc_keeps
    exact h0'
  · apply State.noteSrc_keeps
    exact h0'
  · apply State.takeOut_keeps
    apply State.noteSrc_keeps
    exact h0'
  · split
    · exact h0'
    · apply State.takeOut_keeps
      exact h0'
  · split
    · exact h0'
    · apply State.noteSrc_keeps
      exact h0'

theorem State.testHit_keeps {a : State} {s0 : State} (p1 : ℕ) (h0' : Keeps a s0) :
    Keeps a (State.testHit s0 p1) := by
  unfold State.testHit
  extract_lets vsrc_1
  split
  · split
    · refine keeps_mk ?_ rfl
      exact h0'
    · exact h0'
  · exact h0'

theorem State.setPoint_keeps {a : State} {s0 : State} (p1 : ℕ) (p2 : Point) (h0' : Keeps a s0) :
    Keeps a (State.setPoint s0 p1 p2) := by
  unfold State.setPoint
  extract_lets vsrc_1
  refine keeps_mk ?_ rfl
  exact h0'

theorem State.writerNone_keeps {a : State} {s0 : State} (p1 : Bool) (p2 : ℕ → ℕ → Bool) (h0' : Keeps a s0) :
    Keeps a (State.writerNone s0 p1 p2) := by
  unfold State.writerNone
  dsimp only
  apply keeps_foldl
  · intro x1 x2 h3
    split
    · split
      · apply State.setPoint_keeps
        exact h3
      · exact h3
    · split
      · apply State.setPoint_keeps
        exact h3
      · exact h3
  · exact h0'

theorem State.stopAll_keeps {a : State} {s0 : State} (h0' : Keeps a s0) :
    Keeps a (State.stopAll s0) := by
  unfold State.stopAll
  apply State.writerNone_keeps
  apply State.stopTasks_keeps
  apply State.stopLoops_keeps
  exact h0'

theorem State.enterSafe_keeps {a : State} {s0 : State} (p1 : ℕ) (h0' : Keeps a s0) :
    Keeps a (State.enterSafe s0 p1) := by
  unfold State.enterSafe
  extract_lets vs2_1 vs3_2 vsrc_3
  have h4 : Keeps a vs2_1 := by
    unfold vs2_1
    apply State.abortWhere_keeps
    apply State.releaseAll_keeps
    apply State.stopAll_keeps
    exact h0'
  clear_value vs2_1
  have h5 : Keeps a vs3_2 := by
    unfold vs3_2
    apply State.setMode_keeps
    exact h4
  clear_value vs3_2
  split
  · refine keeps_mk ?_ rfl
    exact h5
  · exact h0'

theorem State.haltUnits_keeps {a : State} {s0 : State} (h0' : Keeps a s0) :
    Keeps a (State.haltUnits s0) := by
  unfold State.haltUnits
  extract_lets vhalt_1 vsrc_2 vsrc_3
  dsimp only
  refine keeps_mk ?_ rfl
  exact h0'

theorem State.haltLease_keeps {a : State} {s0 : State} (h0' : Keeps a s0) :
    Keeps a (State.haltLease s0) := by
  unfold State.haltLease
  extract_lets vs1_1 vs2_2 vsrc_3 vs3_4
  have h5 : Keeps a vs1_1 := by
    unfold vs1_1
    apply State.abortLease_keeps
    exact h0'
  clear_value vs1_1
  have h6 : Keeps a vs2_2 := by
    unfold vs2_2
    dsimp only
    apply keeps_foldl
    · intro x7 x8 h9
      apply State.setGroup_keeps
      exact h9
    · exact h5
  clear_value vs2_2
  have h10 : Keeps a vs3_4 := by
    unfold vs3_4
    refine keeps_mk ?_ rfl
    exact h6
  clear_value vs3_4
  split
  · apply State.endAdopt_keeps
    exact h10
  · exact h10

theorem State.fatal_keeps {a : State} {s0 : State} (h0' : Keeps a s0) :
    Keeps a (State.fatal s0) := by
  unfold State.fatal
  extract_lets vsrc_1 vsrc_2 vs1_3 vs3_4 vs4_5 vsrc_6 vsrc_7
  have h8 : Keeps a vs1_3 := by
    unfold vs1_3
    apply State.haltUnits_keeps
    refine keeps_mk ?_ rfl
    exact h0'
  clear_value vs1_3
  have h9 : Keeps a vs3_4 := by
    unfold vs3_4
    apply State.abortWhere_keeps
    apply State.haltLease_keeps
    apply State.stopAll_keeps
    exact h8
  clear_value vs3_4
  have h10 : Keeps a vs4_5 := by
    unfold vs4_5
    split
    · apply State.updStop_keeps
      exact h9
    · apply State.setMode_keeps
      exact h9
  clear_value vs4_5
  split
  · exact h0'
  · split
    · exact h8
    · refine keeps_mk ?_ rfl
      exact h10

theorem State.reactOnce_keeps {a : State} {s0 : State} (h0' : Keeps a s0) :
    Keeps a (State.reactOnce s0) := by
  unfold State.reactOnce
  extract_lets vrs_1 vsrc_2 vs1_3 vs2_4 vs3_5
  have h6 : Keeps a vs1_3 := by
    unfold vs1_3
    refine keeps_mk ?_ rfl
    exact h0'
  clear_value vs1_3
  have h7 : Keeps a vs2_4 := by
    unfold vs2_4
    apply keeps_foldl
    · intro x8 x9 h10
      apply State.reactUnit_keeps
      apply State.testHit_keeps
      exact h10
    · exact h6
  clear_value vs2_4
  have h11 : Keeps a vs3_5 := by
    unfold vs3_5
    split
    · apply State.enterSafe_keeps
      exact h7
    · exact h7
  clear_value vs3_5
  split
  · apply State.fatal_keeps
    exact h11
  · exact h11

theorem State.reactAll_keeps {a : State} (n : ℕ) : ∀ {s : State}, Keeps a s → Keeps a (State.reactAll n s) := by
  induction n with
  | zero => exact fun h => h
  | succ k ih =>
    intro s h
    unfold State.reactAll
    split
    · exact h
    · exact ih (State.reactOnce_keeps h)

theorem State.react_keeps {a : State} {s0 : State} (h0' : Keeps a s0) :
    Keeps a (State.react s0) := by
  unfold State.react
  split
  · apply State.reactAll_keeps
    exact h0'
  · exact h0'

theorem State.rxPut_keeps {a : State} {s0 : State} (p1 : ℕ) (p2 : List Byte) (p3 : Bool → List Byte) (h0' : Keeps a s0) :
    Keeps a (State.rxPut s0 p1 p2 p3) := by
  unfold State.rxPut
  apply State.post_keeps
  apply State.store_keeps
  exact h0'

theorem State.canMove_keeps {a : State} {s0 : State} (p1 : ℕ) (p2 : Bool) (h0' : Keeps a s0) :
    Keeps a (State.canMove s0 p1 p2) := by
  unfold State.canMove
  extract_lets vx_1 vf_2 va_3 ve_4 vfr_5 vs1_6
  have h7 : Keeps a vs1_6 := by
    unfold vs1_6
    apply State.setCan_keeps
    exact h0'
  clear_value vs1_6
  split
  · exact h0'
  · split
    · apply State.raiseSrc_keeps
      apply State.setCan_keeps
      exact h0'
    · split
      · apply State.rxPut_keeps
        exact h7
      · split
        · apply State.queueChecked_keeps
          exact h0'
        · exact h0'

theorem State.canDrain_keeps {a : State} {s0 : State} (h0' : Keeps a s0) :
    Keeps a (State.canDrain s0) := by
  unfold State.canDrain
  dsimp only
  apply keeps_foldl
  · intro x1 x2 h3
    split
    · apply keeps_repeat
      · intro x4 h5
        apply State.canMove_keeps
        exact h5
      · split
        · apply keeps_repeat
          · intro x6 h7
            apply State.canMove_keeps
            exact h7
          · exact h3
        · exact h3
    · split
      · apply keeps_repeat
        · intro x8 h9
          apply State.canMove_keeps
          exact h9
        · exact h3
      · exact h3
  · exact h0'

end Sys2Proof.Machine
end

