-- ==== Sys2Proof/Laws/Keeps2.lean ====
section
/-! SUPPORT. Every operation keeps what `Keeps` says, part 2: one lemma per operation, in the order of their use. -/

namespace Sys2Proof.Machine

theorem State.assertPages_keeps {a : State} {s0 : State} {s1 : State} (h0' : Keeps a s0) (h1' : Keeps a s1) :
    Keeps a (State.assertPages s0 s1) := by
  unfold State.assertPages
  extract_lets vsrc_1 vkept_2
  have h3 : Keeps a vkept_2 := by
    unfold vkept_2
    refine keeps_mk ?_ rfl
    exact h1'
  clear_value vkept_2
  dsimp only
  apply keeps_foldl
  · intro x4 x5 h6
    split
    · apply State.usbFlush_keeps
      refine keeps_mk ?_ rfl
      exact h6
    · exact h6
  · exact h3

theorem State.latchRaw_keeps {a : State} {s0 : State} {s1 : State} (h0' : Keeps a s0) (h1' : Keeps a s1) :
    Keeps a (State.latchRaw s0 s1) := by
  unfold State.latchRaw
  dsimp only
  apply keeps_foldl
  · intro x1 x2 h3
    split
    · exact h3
    · apply State.setReg_keeps
      exact h3
  · exact h1'

theorem State.settled_keeps {a : State} {s0 : State} {s1 : State} (h0' : Keeps a s0) (h1' : Keeps a s1) :
    Keeps a (State.settled s0 s1) := by
  unfold State.settled
  extract_lets va_1
  have h2 : Keeps a va_1 := by
    unfold va_1
    apply State.react_keeps
    apply State.canDrain_keeps
    apply State.flushOwed_keeps
    exact h1'
  clear_value va_1
  split
  · split
    · apply State.assertPages_keeps
      · exact h0'
      · apply State.latchRaw_keeps
        · exact h0'
        · exact h2
    · exact h2
  · exact h1'

theorem State.pulse_keeps {a : State} {s0 : State} (p1 : ℕ) (p2 : ℕ) (h0' : Keeps a s0) :
    Keeps a (State.pulse s0 p1 p2) := by
  unfold State.pulse
  apply State.setReg_keeps
  exact h0'

theorem State.onCaddy_keeps {a : State} {s0 : State} (p1 : CdySt → CdySt) (h0' : Keeps a s0) :
    Keeps a (State.onCaddy s0 p1) := by
  unfold State.onCaddy
  extract_lets vc_1 vsrc_2 vs1_3 vs2_4
  have h5 : Keeps a vs1_3 := by
    unfold vs1_3
    refine keeps_mk ?_ rfl
    exact h0'
  clear_value vs1_3
  have h6 : Keeps a vs2_4 := by
    unfold vs2_4
    apply keeps_foldl
    · intro x7 x8 h9
      apply State.raiseSrc_keeps
      exact h9
    · exact h5
  clear_value vs2_4
  split
  · split
    · split
      · exact h6
      · apply State.pulse_keeps
        exact h6
    · exact h5
  · exact h0'

theorem State.putLine_keeps {a : State} {s0 : State} (p1 : Role) (h0' : Keeps a s0) :
    Keeps a (State.putLine s0 p1) := by
  unfold State.putLine
  split
  · apply State.store_keeps
    exact h0'
  · exact h0'

theorem State.putRole_keeps {a : State} {s0 : State} (p1 : ℕ) (p2 : Bool) (p3 : Role) (h0' : Keeps a s0) :
    Keeps a (State.putRole s0 p1 p2 p3) := by
  unfold State.putRole
  apply State.putLine_keeps
  apply State.setLoop_keeps
  exact h0'

theorem State.seatRole_keeps {a : State} {s0 : State} (p1 : ℕ) (p2 : ℕ) (p3 : Bool) (p4 : Role) (h0' : Keeps a s0) :
    Keeps a (State.seatRole s0 p1 p2 p3 p4) := by
  unfold State.seatRole
  extract_lets vx_1 vother_2 vdiffer_3 vy_4
  apply State.store_keeps
  apply State.putRole_keeps
  apply State.setLoop_keeps
  exact h0'

theorem State.startShadow_keeps {a : State} {s0 : State} (p1 : ℕ) (p2 : ℕ) (p3 : ℕ) (h0' : Keeps a s0) :
    Keeps a (State.startShadow s0 p1 p2 p3).1 := by
  unfold State.startShadow
  extract_lets vb_1 vd_2 vo_3 vnow_4 vr_5
  dsimp only
  apply State.seatRole_keeps
  exact h0'

theorem State.restoreLoop_keeps {a : State} {s0 : State} (p1 : ℕ) (p2 : ℕ) (p3 : List (ℕ × Bool)) (p4 : ℕ) (h0' : Keeps a s0) :
    Keeps a (State.restoreLoop s0 p1 p2 p3 p4).1 := by
  unfold State.restoreLoop
  extract_lets vx_1 vd_2 vnamed_3 vtwin_4 vup_5 vsource_6 vgo1_7 vs1_8 vr_9
  have h10 : Keeps a vs1_8 := by
    unfold vs1_8
    apply State.setLoop_keeps
    exact h0'
  clear_value vs1_8
  have h11 : Keeps a vr_9.1 := by
    unfold vr_9
    apply State.startShadow_keeps
    exact h10
  split
  · split
    · dsimp only
      apply State.setLoop_keeps
      exact h0'
    · split
      · dsimp only
        exact h10
      · dsimp only
        exact h11
  · dsimp only
    apply State.setLoop_keeps
    exact h0'

theorem State.restoreLoops_keeps {a : State} {s0 : State} (p1 : ℕ) (p2 : ℕ) (p3 : List (ℕ × Bool)) (h0' : Keeps a s0) :
    Keeps a (State.restoreLoops s0 p1 p2 p3).1 := by
  unfold State.restoreLoops
  apply keeps_foldl_fst
  · intro x1 x2 h3
    apply State.restoreLoop_keeps
    exact h3
  · dsimp only
    exact h0'

theorem State.stepped_keeps {a : State} {s0 : State} (p1 : ℕ) (h0' : Keeps a s0) :
    Keeps a (State.stepped s0 p1) := by
  unfold State.stepped
  extract_lets vsrc_1 vs1_2
  have h3 : Keeps a vs1_2 := by
    unfold vs1_2
    apply State.setTmb_keeps
    exact h0'
  clear_value vs1_2
  apply State.raiseSrc_keeps
  apply State.pulse_keeps
  apply State.bump_keeps
  exact h3

theorem State.tmbStarting_keeps {a : State} {s0 : State} (p1 : ℕ) (h0' : Keeps a s0) :
    Keeps a (State.tmbStarting s0 p1) := by
  unfold State.tmbStarting
  extract_lets vp_1 vt_2 vmanual_3 vt1_4 vv_5 vv_6
  split
  · apply State.stepped_keeps
    apply State.setReg_keeps
    apply State.setTmb_keeps
    exact h0'
  · split
    · apply State.setTmb_keeps
      exact h0'
    · apply State.setTmb_keeps
      exact h0'

theorem State.setLc_keeps {a : State} {s0 : State} (p1 : ℕ) (p2 : ℕ) (p3 : LoopCtl) (h0' : Keeps a s0) :
    Keeps a (State.setLc s0 p1 p2 p3) := by
  unfold State.setLc
  extract_lets vsrc_1
  refine keeps_mk ?_ rfl
  exact h0'

theorem State.lcHarvest_keeps {a : State} {s0 : State} (p1 : ℕ) (h0' : Keeps a s0) :
    Keeps a (State.lcHarvest s0 p1) := by
  unfold State.lcHarvest
  extract_lets vmine_1 vsrc_2 vs1_3
  have h4 : Keeps a vs1_3 := by
    unfold vs1_3
    refine keeps_mk ?_ rfl
    exact h0'
  clear_value vs1_3
  apply keeps_foldl
  · intro x5 x6 h7
    split
    · apply State.setLc_keeps
      exact h7
    · exact h7
  · exact h4

theorem State.onBell_keeps {a : State} {s0 : State} (p1 : Requester) {p2 : ℕ → State → State} (h0' : Keeps a s0) (h2' : ∀ y0 y1 (_ : Keeps a y1), Keeps a (p2 y0 y1)) :
    Keeps a (State.onBell s0 p1 p2) := by
  unfold State.onBell
  split
  · split
    · exact h0'
    · split
      · split
        · exact h0'
        · apply State.violation_keeps
          exact h0'
      · apply h2'
        exact h0'
  · exact h0'

theorem State.bellChecked_keeps {a : State} {s0 : State} (p1 : ℕ) (p2 : Bool) (h0' : Keeps a s0) :
    Keeps a (State.bellChecked s0 p1 p2) := by
  unfold State.bellChecked
  split
  · apply State.queueEcc_keeps
    exact h0'
  · apply State.queueChecked_keeps
    exact h0'

theorem State.bellIndex_keeps {a : State} {s0 : State} (p1 : ℕ) (p2 : ℕ) (p3 : Word) (p4 : Bool) (h0' : Keeps a s0) :
    Keeps a (State.bellIndex s0 p1 p2 p3 p4) := by
  unfold State.bellIndex
  extract_lets vs1_1 vx_2
  have h3 : Keeps a vs1_1 := by
    unfold vs1_1
    apply State.bellChecked_keeps
    exact h0'
  clear_value vs1_1
  split
  · apply State.violation_keeps
    exact h0'
  · split
    · exact h0'
    · split
      · apply State.checkQueue_keeps
        apply State.setQueue_keeps
        exact h3
      · apply State.setQueue_keeps
        exact h3

theorem State.setBreg_keeps {a : State} {s0 : State} (p1 p2 p3 : ℕ) (p4 : Word) (h0' : Keeps a s0) :
    Keeps a (s0.setBreg p1 p2 p3 p4) := by
  unfold State.setBreg
  generalize bkey p1 p2 p3 = k
  exact Keeps.step h0' rfl rfl (fun x => x) (fun x => Sparse.wf_set x k p4) (Nat.le_refl _) (fun x => x)

theorem State.alloc_keeps {a : State} {s0 : State} (p1 : ℕ) (p2 : ℕ) (p3 : ℕ) (p4 : List Word) (p5 : CmdOrigin) (p6 : CqTo) (p7 : Word) (h0' : Keeps a s0) :
    Keeps a (State.alloc s0 p1 p2 p3 p4 p5 p6 p7) := by
  unfold State.alloc
  extract_lets vx_1 vy_2 vs1_3 vsrc_4
  have h5 : Keeps a vs1_3 := by
    unfold vs1_3
    apply State.setSlot_keeps
    exact h0'
  clear_value vs1_3
  refine keeps_mk ?_ rfl
  exact h5

theorem State.fin_keeps {a : State} {s0 : State} (p1 : Ctx) (p2 : ℕ) (p3 : optParam Word 0) (p4 : optParam Word 0) (p5 : optParam Word 0) (h0' : Keeps a s0) :
    Keeps a (State.fin s0 p1 p2 p3 p4 p5) := by
  unfold State.fin
  apply State.complete_keeps
  exact h0'

theorem State.foreign_keeps {a : State} {s0 : State} (p1 : Ctx) (h0' : Keeps a s0) :
    Keeps a (State.foreign s0 p1) := by
  unfold State.foreign
  apply State.fin_keeps
  apply State.violation_keeps
  exact h0'

theorem ownsNothing_keeps {a : State} (p0 : Ctx) {s1 : State} (h1' : Keeps a s1) :
    Keeps a (ownsNothing p0 s1) := by
  unfold ownsNothing
  apply State.foreign_keeps
  exact h1'

theorem State.issue_keeps {a : State} {s0 : State} (p1 : Requester) (p2 : ℕ) {p3 : Ctx → State → State} (h0' : Keeps a s0) (h3' : ∀ y0 y1 (_ : Keeps a y1), Keeps a (p3 y0 y1)) :
    Keeps a (State.issue s0 p1 p2 p3) := by
  unfold State.issue
  extract_lets vb_1 vn_2 vargs_3 vcq_4 vdst_5
  dsimp only
  split
  · split
    · exact h0'
    · split
      · apply State.setBreg_keeps
        split
        · exact h0'
        · apply State.violation_keeps
          exact h0'
      · split
        · split
          · apply h3'
            apply State.setBreg_keeps
            apply State.alloc_keeps
            exact h0'
          · apply ownsNothing_keeps
            apply State.setBreg_keeps
            apply State.alloc_keeps
            exact h0'
        · apply State.setBreg_keeps
          apply State.setBreg_keeps
          split
          · exact h0'
          · apply State.violation_keeps
            exact h0'
  · exact h0'

theorem State.setTaskEntry_keeps {a : State} {s0 : State} (p1 : ℕ) (p2 : TaskCopy) (h0' : Keeps a s0) :
    Keeps a (State.setTaskEntry s0 p1 p2) := by
  unfold State.setTaskEntry
  extract_lets vsrc_1
  refine keeps_mk ?_ rfl
  exact h0'

theorem State.rsTo_keeps {a : State} {s0 : State} (p1 : ℕ) (p2 : Bool → List Byte) (h0' : Keeps a s0) :
    Keeps a (State.rsTo s0 p1 p2) := by
  unfold State.rsTo
  split
  · apply State.bump_keeps
    exact h0'
  · apply State.rsLocal_keeps
    exact h0'

theorem State.relayOut_keeps {a : State} {s0 : State} (p1 : Bool) (p2 : ℕ) (p3 : List Byte) (h0' : Keeps a s0) :
    Keeps a (State.relayOut s0 p1 p2 p3) := by
  unfold State.relayOut
  extract_lets vw_1
  split
  · apply State.rsTo_keeps
    exact h0'
  · exact h0'

theorem State.journalAdd_keeps {a : State} {s0 : State} (p1 : Option ℕ) (p2 : CfgEdit) (h0' : Keeps a s0) :
    Keeps a (State.journalAdd s0 p1 p2) := by
  unfold State.journalAdd
  extract_lets vsrc_1
  refine keeps_mk ?_ rfl
  exact h0'

theorem State.done_keeps {a : State} {s0 : State} (p1 : Ctx) (p2 : optParam Word 0) (p3 : optParam Word 0) (p4 : optParam Word 0) (h0' : Keeps a s0) :
    Keeps a (State.done s0 p1 p2 p3 p4) := by
  unfold State.done
  apply State.fin_keeps
  exact h0'

theorem taskWriteBody_keeps {a : State} (p0 : Ctx) {s1 : State} (h1' : Keeps a s1) :
    Keeps a (taskWriteBody p0 s1) := by
  unfold taskWriteBody
  extract_lets vt_1 va_2 vb_3 vg_4 vb1_5 vs1_6
  have h7 : Keeps a vs1_6 := by
    unfold vs1_6
    apply State.setTaskEntry_keeps
    exact h1'
  clear_value vs1_6
  split
  · apply State.fin_keeps
    exact h1'
  · split
    · apply State.foreign_keeps
      exact h1'
    · split
      · apply State.fin_keeps
        exact h1'
      · split
        · apply State.fin_keeps
          exact h1'
        · split
          · apply State.fin_keeps
            exact h1'
          · split
            · apply State.relayOut_keeps
              apply State.journalAdd_keeps
              exact h7
            · apply State.done_keeps
              exact h7

theorem State.usbPll_keeps {a : State} {s0 : State} (p1 : Bool) (h0' : Keeps a s0) :
    Keeps a (State.usbPll s0 p1) := by
  unfold State.usbPll
  extract_lets vsrc_1 vs1_2 vs2_3
  have h4 : Keeps a vs1_2 := by
    unfold vs1_2
    refine keeps_mk ?_ rfl
    exact h0'
  clear_value vs1_2
  have h5 : Keeps a vs2_3 := by
    unfold vs2_3
    split
    · exact h4
    · apply State.raiseSrc_keeps
      exact h4
  clear_value vs2_3
  split
  · apply State.usbAttach_keeps
    exact h5
  · exact h0'

theorem State.releaseRole_keeps {a : State} {s0 : State} (p1 : ℕ) (p2 : ℕ) (p3 : Bool) (h0' : Keeps a s0) :
    Keeps a (State.releaseRole s0 p1 p2 p3) := by
  unfold State.releaseRole
  extract_lets vx_1 vr_2 vother_3 vd_4 vcopies_5 vagain_6 vprimes_7 vline_8 vi_9 vaux_10 vr1_11 vs1_12
  have h13 : Keeps a vs1_12 := by
    unfold vs1_12
    apply State.putRole_keeps
    exact h0'
  clear_value vs1_12
  split
  · apply State.violation_keeps
    exact h13
  · exact h13

theorem State.whenUp_keeps {a : State} {s0 : State} {p1 : State → State} (h0' : Keeps a s0) (h1' : ∀ y0 (_ : Keeps a y0), Keeps a (p1 y0)) :
    Keeps a (State.whenUp s0 p1) := by
  unfold State.whenUp
  split
  · apply h1'
    exact h0'
  · exact h0'

theorem State.fpDrop_keeps {a : State} {s0 : State} (p1 : ℕ) (p2 : ℕ) (h0' : Keeps a s0) :
    Keeps a (State.fpDrop s0 p1 p2) := by
  unfold State.fpDrop
  apply State.bump_keeps
  exact h0'

theorem State.fpTxDone_keeps {a : State} {s0 : State} (p1 : ℕ) (p2 : Bool) (h0' : Keeps a s0) :
    Keeps a (State.fpTxDone s0 p1 p2) := by
  unfold State.fpTxDone
  extract_lets vx_1 vs1_2
  have h3 : Keeps a vs1_2 := by
    unfold vs1_2
    apply State.setFp_keeps
    exact h0'
  clear_value vs1_2
  split
  · exact h0'
  · split
    · apply State.txDone_keeps
      split
      · apply State.bump_keeps
        exact h3
      · exact h3
    · apply State.txDone_keeps
      exact h3

theorem State.fpCut_keeps {a : State} {s0 : State} (p1 : ℕ) (p2 : Bool) (h0' : Keeps a s0) :
    Keeps a (State.fpCut s0 p1 p2) := by
  unfold State.fpCut
  extract_lets vs1_1
  have h2 : Keeps a vs1_1 := by
    unfold vs1_1
    split
    · apply State.fpDrop_keeps
      exact h0'
    · exact h0'
  clear_value vs1_1
  split
  · exact h2
  · split
    · apply State.fpTxDone_keeps
      exact h2
    · exact h2

theorem State.fpIdleEnd_keeps {a : State} {s0 : State} (p1 : ℕ) (h0' : Keeps a s0) :
    Keeps a (State.fpIdleEnd s0 p1) := by
  unfold State.fpIdleEnd
  extract_lets vsrc_1
  split
  · apply State.setFp_keeps
    exact h0'
  · exact h0'

theorem State.fpLink_keeps {a : State} {s0 : State} (p1 : ℕ) (p2 : Bool) (p3 : ℕ) (p4 : Bool) (p5 : Bool) (h0' : Keeps a s0) :
    Keeps a (State.fpLink s0 p1 p2 p3 p4 p5) := by
  unfold State.fpLink
  extract_lets va_1 vx_2 vs1_3 vdup_4 vs2_5
  have h6 : Keeps a va_1 := by
    unfold va_1
    split
    · apply State.fpCut_keeps
      exact h0'
    · exact h0'
  clear_value va_1
  have h7 : Keeps a vs1_3 := by
    unfold vs1_3
    apply State.fpIdleEnd_keeps
    apply State.setFp_keeps
    exact h6
  clear_value vs1_3
  have h8 : Keeps a vs2_5 := by
    unfold vs2_5
    split
    · apply State.raiseSrc_keeps
      exact h7
    · exact h7
  clear_value vs2_5
  split
  · apply State.raiseSrc_keeps
    exact h8
  · exact h8

theorem State.rsNarrow_keeps {a : State} {s0 : State} (p1 : Bool) (p2 : ℕ) (h0' : Keeps a s0) :
    Keeps a (State.rsNarrow s0 p1 p2) := by
  unfold State.rsNarrow
  extract_lets vx_1 vc_2
  split
  · apply State.raiseSrc_keeps
    apply State.setRsPort_keeps
    exact h0'
  · exact h0'

theorem ptWriteBody_keeps {a : State} (p0 : Ctx) {s1 : State} (h1' : Keeps a s1) :
    Keeps a (ptWriteBody p0 s1) := by
  unfold ptWriteBody
  extract_lets vp_1 vforce_2 vrel_3 vq_4 vm_5 vx_6 vplain_7 vsrc_8 vsrc_9 vy_10
  split
  · apply State.fin_keeps
    exact h1'
  · split
    · apply State.foreign_keeps
      exact h1'
    · split
      · apply State.fin_keeps
        exact h1'
      · apply State.done_keeps
        apply State.setPoint_keeps
        exact h1'

theorem State.keyDone_keeps {a : State} {s0 : State} (p1 : Ctx) (p2 : optParam Word 0) (p3 : optParam Word 0) (p4 : optParam Word 0) (h0' : Keeps a s0) :
    Keeps a (State.keyDone s0 p1 p2 p3 p4) := by
  unfold State.keyDone
  apply State.done_keeps
  apply State.bump_keeps
  exact h0'

theorem keyMacBody_keeps {a : State} (p0 : Ctx) {s1 : State} (h1' : Keeps a s1) :
    Keeps a (keyMacBody p0 s1) := by
  unfold keyMacBody
  extract_lets vn_1 vlen_2
  dsimp only
  split
  · apply State.fin_keeps
    exact h1'
  · split
    · apply State.foreign_keeps
      exact h1'
    · split
      · apply State.fin_keeps
        exact h1'
      · split
        · apply State.fin_keeps
          exact h1'
        · split
          · apply State.keyDone_keeps
            exact h1'
          · apply State.keyDone_keeps
            apply State.store_keeps
            exact h1'

theorem State.onWrite_keeps {a : State} {s0 : State} (p1 : Requester) (p2 : ℕ) (p3 : ℕ) {p4 : ℕ → State → State} (h0' : Keeps a s0) (h4' : ∀ y0 y1 (_ : Keeps a y1), Keeps a (p4 y0 y1)) :
    Keeps a (State.onWrite s0 p1 p2 p3 p4) := by
  unfold State.onWrite
  split
  · split
    · exact h0'
    · split
      · split
        · exact h0'
        · apply h4'
          exact h0'
      · apply State.violation_keeps
        exact h0'
  · exact h0'

theorem State.vfGlove_keeps {a : State} {s0 : State} (p1 : ℕ) (p2 : Word) (h0' : Keeps a s0) :
    Keeps a (State.vfGlove s0 p1 p2) := by
  unfold State.vfGlove
  extract_lets vx_1 vy_2 voff_3 vs1_4 vsrc_5
  have h6 : Keeps a vs1_4 := by
    unfold vs1_4
    apply State.setReg_keeps
    exact h0'
  clear_value vs1_4
  split
  · exact h0'
  · refine keeps_mk ?_ rfl
    exact h6

theorem State.seqBegin_keeps {a : State} {s0 : State} (p1 : Option ℕ) (h0' : Keeps a s0) :
    Keeps a (State.seqBegin s0 p1) := by
  unfold State.seqBegin
  extract_lets von_1 vs1_2 vn_3 vsrc_4 vrr_5 vs2_6 vs3_7 vsrc_8 vs4_9 vsrc_10
  have h11 : ∀ y0 (_ : Keeps a y0), Keeps a (von_1 y0) := by
    unfold von_1
    intro x12 h13
    extract_lets vsrc_14 vsrc_15
    refine keeps_mk ?_ rfl
    exact h13
  have h16 : Keeps a vs1_2 := by
    unfold vs1_2
    apply State.updStop_keeps
    exact h0'
  clear_value vs1_2
  have h17 : Keeps a vs2_6 := by
    unfold vs2_6
    refine keeps_mk ?_ rfl
    exact h16
  clear_value vs2_6
  have h18 : Keeps a vs3_7 := by
    unfold vs3_7
    apply State.abortWhere_keeps
    exact h17
  clear_value vs3_7
  have h19 : Keeps a vs4_9 := by
    unfold vs4_9
    apply h11
    refine keeps_mk ?_ rfl
    exact h18
  clear_value vs4_9
  split
  · apply h11
    exact h16
  · split
    · refine keeps_mk ?_ rfl
      exact h19
    · exact h19

theorem State.moduleReset_keeps {a : State} {s0 : State} (p1 : ℕ) (h0' : Keeps a s0) :
    Keeps a (State.moduleReset s0 p1) := by
  unfold State.moduleReset
  split
  · apply State.seqBegin_keeps
    exact h0'
  · exact h0'

theorem updActivateBody_keeps {a : State} (p0 : Ctx) {s1 : State} (h1' : Keeps a s1) :
    Keeps a (updActivateBody p0 s1) := by
  unfold updActivateBody
  extract_lets vn_1 vsrc_2 vsrc_3 vs1_4 vs2_5
  have h6 : Keeps a vs1_4 := by
    unfold vs1_4
    refine keeps_mk ?_ rfl
    exact h1'
  clear_value vs1_4
  have h7 : Keeps a vs2_5 := by
    unfold vs2_5
    apply State.done_keeps
    exact h6
  clear_value vs2_5
  split
  · apply State.foreign_keeps
    exact h1'
  · split
    · apply State.fin_keeps
      exact h1'
    · split
      · apply State.fin_keeps
        exact h1'
      · split
        · apply State.fin_keeps
          exact h1'
        · split
          · apply State.moduleReset_keeps
            exact h7
          · exact h7

theorem State.seatTask_keeps {a : State} {s0 : State} (p1 : ℕ) (p2 : ℕ) (p3 : Bool) (p4 : TaskRole) (h0' : Keeps a s0) :
    Keeps a (State.seatTask s0 p1 p2 p3 p4) := by
  unfold State.seatTask
  extract_lets vx_1 vother_2 vdiffer_3 vsrc_4
  apply State.storeWork_keeps
  apply State.setTask_keeps
  exact h0'

theorem State.makeTaskRole_keeps {a : State} {s0 : State} (p1 : ℕ) (p2 : Bool) (p3 : ℕ) (p4 : TaskCopy) (p5 : Bool) (h0' : Keeps a s0) :
    Keeps a (State.makeTaskRole s0 p1 p2 p3 p4 p5) := by
  unfold State.makeTaskRole
  extract_lets vk_1
  apply State.seatTask_keeps
  exact h0'

theorem State.adoptStartTasks_keeps {a : State} {s0 : State} (h0' : Keeps a s0) :
    Keeps a (State.adoptStartTasks s0) := by
  unfold State.adoptStartTasks
  dsimp only
  apply keeps_foldl
  · intro x1 x2 h3
    split
    · exact h3
    · split
      · exact h3
      · apply State.makeTaskRole_keeps
        apply State.makeTaskRole_keeps
        exact h3
  · exact h0'

theorem State.makeRole_keeps {a : State} {s0 : State} (p1 : ℕ) (p2 : Bool) (p3 : ℕ) (p4 : List Byte) (p5 : Bool) (p6 : Bool) (p7 : optParam (Option ℤ) none) (h0' : Keeps a s0) :
    Keeps a (State.makeRole s0 p1 p2 p3 p4 p5 p6 p7) := by
  unfold State.makeRole
  extract_lets vk_1 vsrc_2
  apply State.seatRole_keeps
  exact h0'

theorem State.adoptStartLoops_keeps {a : State} {s0 : State} (p1 : List ℕ) (h0' : Keeps a s0) :
    Keeps a (State.adoptStartLoops s0 p1) := by
  unfold State.adoptStartLoops
  dsimp only
  apply keeps_foldl
  · intro x1 x2 h3
    split
    · exact h3
    · split
      · exact h3
      · apply State.makeRole_keeps
        apply State.makeRole_keeps
        apply State.setLoop_keeps
        exact h3
  · exact h0'

theorem State.checkAdopt_keeps {a : State} {s0 : State} (h0' : Keeps a s0) :
    Keeps a (State.checkAdopt s0) := by
  unfold State.checkAdopt
  split
  · apply State.endAdopt_keeps
    exact h0'
  · exact h0'

theorem State.adopt_keeps {a : State} {s0 : State} (p1 : List ℕ) (h0' : Keeps a s0) :
    Keeps a (State.adopt s0 p1) := by
  unfold State.adopt
  extract_lets vsrc_1 vs1_2 vs2_3 vs3_4 vs4_5
  have h6 : Keeps a vs1_2 := by
    unfold vs1_2
    refine keeps_mk ?_ rfl
    exact h0'
  clear_value vs1_2
  have h7 : Keeps a vs2_3 := by
    unfold vs2_3
    apply State.bump_keeps
    apply State.raiseSrc_keeps
    split
    · exact h6
    · apply State.raiseSrc_keeps
      exact h6
  clear_value vs2_3
  have h8 : Keeps a vs3_4 := by
    unfold vs3_4
    apply State.adoptStartTasks_keeps
    apply State.adoptStartLoops_keeps
    exact h7
  clear_value vs3_4
  have h9 : Keeps a vs4_5 := by
    unfold vs4_5
    apply keeps_foldl
    · intro x10 x11 h12
      split
      · exact h12
      · apply State.setGroup_keeps
        exact h12
    · exact h8
  clear_value vs4_5
  apply State.checkAdopt_keeps
  exact h9

theorem State.partnerCycle_keeps {a : State} {s0 : State} (p1 : List ℕ) (h0' : Keeps a s0) :
    Keeps a (State.partnerCycle s0 p1) := by
  unfold State.partnerCycle
  extract_lets vl_1 vs1_2 vlost_3 vsrc_4
  have h5 : Keeps a vs1_2 := by
    unfold vs1_2
    refine keeps_mk ?_ rfl
    exact h0'
  clear_value vs1_2
  split
  · refine keeps_mk ?_ rfl
    exact h5
  · split
    · apply State.adopt_keeps
      exact h5
    · exact h5

theorem State.fuseFailed_keeps {a : State} {s0 : State} (p1 : Ctx) (h0' : Keeps a s0) :
    Keeps a (State.fuseFailed s0 p1) := by
  unfold State.fuseFailed
  apply State.fin_keeps
  apply State.raiseSrc_keeps
  exact h0'

theorem State.whenLoader_keeps {a : State} {s0 : State} {p1 : State → State} (h0' : Keeps a s0) (h1' : ∀ y0 (_ : Keeps a y0), Keeps a (p1 y0)) :
    Keeps a (State.whenLoader s0 p1) := by
  unfold State.whenLoader
  split
  · apply h1'
    exact h0'
  · exact h0'

theorem State.setSess_keeps {a : State} {s0 : State} (p1 : Bool) (p2 : Option UpdSess) (h0' : Keeps a s0) :
    Keeps a (State.setSess s0 p1 p2) := by
  unfold State.setSess
  extract_lets vsrc_1
  split
  · refine keeps_mk ?_ rfl
    exact h0'
  · refine keeps_mk ?_ rfl
    exact h0'

theorem State.emit_keeps {a : State} {s0 : State} (p1 : Emit) (h0' : Keeps a s0) :
    Keeps a (State.emit s0 p1) := by
  unfold State.emit
  refine keeps_mk ?_ rfl
  exact h0'

theorem State.loaderSend_keeps {a : State} {s0 : State} (p1 : List Byte) (p2 : List Byte) (h0' : Keeps a s0) :
    Keeps a (State.loaderSend s0 p1 p2) := by
  unfold State.loaderSend
  apply State.emit_keeps
  exact h0'

theorem State.relayOrigin_keeps {a : State} {s0 : State} (p1 : UpdSess) (p2 : List Byte) (h0' : Keeps a s0) :
    Keeps a (State.relayOrigin s0 p1 p2) := by
  unfold State.relayOrigin
  split
  · apply State.rsTo_keeps
    exact h0'
  · apply State.loaderSend_keeps
    exact h0'
  · exact h0'

theorem State.relayAbort_keeps {a : State} {s0 : State} (p1 : UpdSess) (p2 : ℕ) (h0' : Keeps a s0) :
    Keeps a (State.relayAbort s0 p1 p2) := by
  unfold State.relayAbort
  apply State.setSess_keeps
  apply State.relayOrigin_keeps
  exact h0'

theorem State.onSlot_keeps {a : State} {s0 : State} (p1 : ℕ) (p2 : SlotImg → SlotImg) (h0' : Keeps a s0) :
    Keeps a (s0.onSlot p1 p2) := by
  unfold State.onSlot UpdSt.setSlot
  refine keeps_mk h0' ?_
  split <;> rfl

theorem State.openSlot_keeps {a : State} {s0 : State} (p1 : ℕ) (h0' : Keeps a s0) :
    Keeps a (State.openSlot s0 p1) := by
  unfold State.openSlot
  extract_lets vs1_1 vsrc_2
  have h3 : Keeps a vs1_1 := by
    unfold vs1_1
    apply State.onSlot_keeps
    exact h0'
  clear_value vs1_1
  refine keeps_mk ?_ rfl
  exact h3

theorem State.unitHeader_keeps {a : State} {s0 : State} (p1 : UpdFrom) (p2 : List Byte) (h0' : Keeps a s0) :
    Keeps a (State.unitHeader s0 p1 p2) := by
  unfold State.unitHeader
  extract_lets vh_1 vwhy_2 vrec_3 vremain_4 vfree_5 vkeep_6 vimg_7 vonward_8 vx_9 vs1_10
  have h11 : Keeps a vs1_10 := by
    unfold vs1_10
    apply State.setSess_keeps
    exact h0'
  clear_value vs1_10
  split
  · apply State.relayAbort_keeps
    exact h11
  · split
    · apply State.setSess_keeps
      apply State.openSlot_keeps
      exact h11
    · exact h11

theorem State.onSess_keeps {a : State} {s0 : State} (p1 : Bool) (p2 : UpdSess → UpdSess) (h0' : Keeps a s0) :
    Keeps a (State.onSess s0 p1 p2) := by
  unfold State.onSess
  apply State.setSess_keeps
  exact h0'

theorem State.relayNext_keeps {a : State} {s0 : State} (p1 : Bool) (p2 : List Byte) (h0' : Keeps a s0) :
    Keeps a (State.relayNext s0 p1 p2) := by
  unfold State.relayNext
  apply State.rsLocal_keeps
  exact h0'

theorem State.sendHeader_keeps {a : State} {s0 : State} (p1 : Bool) (h0' : Keeps a s0) :
    Keeps a (State.sendHeader s0 p1) := by
  unfold State.sendHeader
  dsimp only
  split
  · exact h0'
  · split
    · exact h0'
    · split
      · apply keeps_foldl
        · intro x1 x2 h3
          apply State.relayNext_keeps
          exact h3
        · apply State.relayNext_keeps
          exact h0'
      · apply State.onSess_keeps
        exact h0'

theorem State.relayBack_keeps {a : State} {s0 : State} (p1 : UpdSess) (p2 : List Byte) (h0' : Keeps a s0) :
    Keeps a (State.relayBack s0 p1 p2) := by
  unfold State.relayBack
  split
  · apply State.relayNext_keeps
    exact h0'
  · apply State.loaderSend_keeps
    exact h0'
  · exact h0'

theorem State.unitList_keeps {a : State} {s0 : State} (p1 : UpdSess) (p2 : ℕ) (p3 : List Byte) (h0' : Keeps a s0) :
    Keeps a (State.unitList s0 p1 p2 p3) := by
  unfold State.unitList
  extract_lets vus_1 vs1_2 vl_3 vw_4 vs2_5 vs3_6
  have h7 : Keeps a vs1_2 := by
    unfold vs1_2
    apply State.onSess_keeps
    exact h0'
  clear_value vs1_2
  have h8 : Keeps a vs2_5 := by
    unfold vs2_5
    apply State.onSess_keeps
    exact h7
  clear_value vs2_5
  have h9 : Keeps a vs3_6 := by
    unfold vs3_6
    split
    · apply State.onSlot_keeps
      exact h8
    · exact h8
  clear_value vs3_6
  split
  · exact h0'
  · split
    · exact h7
    · split
      · apply State.sendHeader_keeps
        apply State.relayBack_keeps
        exact h9
      · apply State.relayAbort_keeps
        exact h7

theorem State.sendChunk_keeps {a : State} {s0 : State} (p1 : UpdSess) (p2 : RelaySt) (p3 : ℕ) (h0' : Keeps a s0) :
    Keeps a (State.sendChunk s0 p1 p2 p3) := by
  unfold State.sendChunk
  extract_lets vb_1
  apply keeps_foldl
  · intro x2 x3 h4
    apply State.relayNext_keeps
    exact h4
  · exact h0'

theorem State.pumpOne_keeps {a : State} {s0 : State} (p1 : Bool) (h0' : Keeps a s0) :
    Keeps a (State.pumpOne s0 p1) := by
  unfold State.pumpOne
  dsimp only
  split
  · exact h0'
  · split
    · exact h0'
    · split
      · exact h0'
      · split
        · exact h0'
        · split
          · apply State.onSess_keeps
            apply State.bump_keeps
            apply State.sendChunk_keeps
            exact h0'
          · apply State.onSess_keeps
            exact h0'

theorem State.pump_keeps {a : State} {s0 : State} (p1 : Bool) (h0' : Keeps a s0) :
    Keeps a (State.pump s0 p1) := by
  unfold State.pump
  apply keeps_repeat
  · intro x1 h2
    apply State.pumpOne_keeps
    exact h2
  · exact h0'

theorem State.forward_keeps {a : State} {s0 : State} (p1 : Bool) (p2 : ℕ) (h0' : Keeps a s0) :
    Keeps a (State.forward s0 p1 p2) := by
  unfold State.forward
  apply State.pump_keeps
  apply State.onSess_keeps
  exact h0'

theorem State.unitBlock_keeps {a : State} {s0 : State} (p1 : UpdSess) (p2 : ℕ) (p3 : List Byte) (h0' : Keeps a s0) :
    Keeps a (State.unitBlock s0 p1 p2 p3) := by
  unfold State.unitBlock
  extract_lets vk_1 vi_2 vack_3 vn_4 vus_5 vmine_6 vrest_7 vb_8 vs1_9 vs2_10 vs3_11
  have h12 : Keeps a vs1_9 := by
    unfold vs1_9
    apply State.onSess_keeps
    exact h0'
  clear_value vs1_9
  have h13 : Keeps a vs2_10 := by
    unfold vs2_10
    apply State.onSess_keeps
    exact h12
  clear_value vs2_10
  have h14 : Keeps a vs3_11 := by
    unfold vs3_11
    split
    · exact h13
    · split
      · apply State.onSess_keeps
        apply State.onSlot_keeps
        exact h13
      · apply State.onSess_keeps
        exact h13
  clear_value vs3_11
  split
  · exact h0'
  · split
    · apply State.relayBack_keeps
      exact h0'
    · split
      · apply State.onSess_keeps
        exact h0'
      · split
        · apply State.forward_keeps
          apply State.relayBack_keeps
          exact h14
        · apply State.raiseSrc_keeps
          apply State.bump_keeps
          exact h12

theorem State.unitRx_keeps {a : State} {s0 : State} (p1 : UpdFrom) (p2 : List Byte) (h0' : Keeps a s0) :
    Keeps a (State.unitRx s0 p1 p2) := by
  unfold State.unitRx
  extract_lets vu_1
  split
  · exact h0'
  · split
    · split
      · split
        · exact h0'
        · apply State.unitHeader_keeps
          exact h0'
      · apply State.unitHeader_keeps
        exact h0'
    · split
      · exact h0'
      · split
        · exact h0'
        · split
          · apply State.unitList_keeps
            exact h0'
          · apply State.unitBlock_keeps
            exact h0'

theorem State.settleChunks_keeps {a : State} {s0 : State} (h0' : Keeps a s0) :
    Keeps a (State.settleChunks s0) := by
  unfold State.settleChunks
  dsimp only
  split
  · exact h0'
  · apply keeps_foldl
    · intro x1 x2 h3
      split
      · apply State.complete_keeps
        exact h3
      · exact h3
    · apply State.onSess_keeps
      exact h0'

theorem State.showLoaded_keeps {a : State} {s0 : State} (p1 : ℕ) (h0' : Keeps a s0) :
    Keeps a (State.showLoaded s0 p1) := by
  unfold State.showLoaded
  apply keeps_foldl
  · intro x1 x2 h3
    apply State.setReg_keeps
    exact h3
  · exact h0'

theorem State.finishDone_keeps {a : State} {s0 : State} (p1 : UpdSess) (p2 : Bool) (p3 : ℕ) (p4 : ℕ) (h0' : Keeps a s0) :
    Keeps a (State.finishDone s0 p1 p2 p3 p4) := by
  unfold State.finishDone
  extract_lets vs1_1 vn_2
  have h3 : Keeps a vs1_1 := by
    unfold vs1_1
    apply State.setSess_keeps
    apply State.showLoaded_keeps
    exact h0'
  clear_value vs1_1
  split
  · exact h3
  · apply State.complete_keeps
    exact h3

theorem State.finishFailed_keeps {a : State} {s0 : State} (p1 : UpdSess) (p2 : ℕ) (p3 : Word) (h0' : Keeps a s0) :
    Keeps a (State.finishFailed s0 p1 p2 p3) := by
  unfold State.finishFailed
  extract_lets vs1_1
  have h2 : Keeps a vs1_1 := by
    unfold vs1_1
    apply State.raiseSrc_keeps
    apply State.setSess_keeps
    exact h0'
  clear_value vs1_1
  split
  · exact h2
  · apply State.complete_keeps
    exact h2

theorem State.passFinish_keeps {a : State} {s0 : State} (p1 : Bool) (h0' : Keeps a s0) :
    Keeps a (State.passFinish s0 p1) := by
  unfold State.passFinish
  dsimp only
  split
  · exact h0'
  · split
    · split
      · split
        · exact h0'
        · apply State.setSess_keeps
          apply State.relayOrigin_keeps
          exact h0'
      · exact h0'
    · split
      · split
        · split
          · split
            · apply State.finishDone_keeps
              exact h0'
            · apply State.finishFailed_keeps
              exact h0'
          · apply State.setSess_keeps
            exact h0'
          · apply State.setSess_keeps
            apply State.relayOrigin_keeps
            exact h0'
        · split
          · apply State.onSess_keeps
            apply State.relayNext_keeps
            exact h0'
          · apply State.onSess_keeps
            apply State.relayNext_keeps
            exact h0'
          · apply State.setSess_keeps
            apply State.relayNext_keeps
            exact h0'
      · exact h0'

theorem State.markSlot_keeps {a : State} {s0 : State} (p1 : Bool) (p2 : Bool) (h0' : Keeps a s0) :
    Keeps a (State.markSlot s0 p1 p2) := by
  unfold State.markSlot
  dsimp only
  split
  · exact h0'
  · split
    · apply State.onSess_keeps
      refine keeps_mk ?_ rfl
      apply State.onSlot_keeps
      exact h0'
    · exact h0'

theorem State.settle_keeps {a : State} {s0 : State} (p1 : Bool) (h0' : Keeps a s0) :
    Keeps a (State.settle s0 p1) := by
  unfold State.settle
  extract_lets vs1_1
  have h2 : Keeps a vs1_1 := by
    unfold vs1_1
    split
    · apply State.settleChunks_keeps
      exact h0'
    · exact h0'
  clear_value vs1_1
  split
  · exact h0'
  · split
    · exact h2
    · apply State.passFinish_keeps
      apply State.markSlot_keeps
      exact h2

theorem State.finishRx_keeps {a : State} {s0 : State} (p1 : List Byte) (h0' : Keeps a s0) :
    Keeps a (State.finishRx s0 p1) := by
  unfold State.finishRx
  extract_lets vs1_1
  have h2 : Keeps a vs1_1 := by
    unfold vs1_1
    apply State.onSess_keeps
    exact h0'
  clear_value vs1_1
  split
  · exact h0'
  · split
    · exact h0'
    · split
      · exact h0'
      · split
        · split
          · apply State.relayOrigin_keeps
            exact h2
          · exact h0'
        · apply State.settle_keeps
          exact h2

theorem State.loaderRx_keeps {a : State} {s0 : State} (p1 : Eth) (h0' : Keeps a s0) :
    Keeps a (State.loaderRx s0 p1) := by
  unfold State.loaderRx
  extract_lets vb_1
  split
  · split
    · apply State.unitRx_keeps
      exact h0'
    · apply State.finishRx_keeps
      exact h0'
    · exact h0'
  · exact h0'

theorem State.safeOff_keeps {a : State} {s0 : State} (h0' : Keeps a s0) :
    Keeps a (State.safeOff s0) := by
  unfold State.safeOff
  extract_lets vsrc_1
  split
  · refine keeps_mk ?_ rfl
    exact h0'
  · exact h0'

theorem State.reprimeFor_keeps {a : State} {s0 : State} (p1 : List ℕ) (h0' : Keeps a s0) :
    Keeps a (State.reprimeFor s0 p1) := by
  unfold State.reprimeFor
  extract_lets vdue_1
  dsimp only
  apply keeps_foldl
  · intro x2 x3 h4
    split
    · apply State.setLoop_keeps
      exact h4
    · exact h4
  · exact h0'

theorem State.grantHeld_keeps {a : State} {s0 : State} (p1 : ℕ) (p2 : GroupRow) (p3 : ℕ) (h0' : Keeps a s0) :
    Keeps a (State.grantHeld s0 p1 p2 p3) := by
  unfold State.grantHeld
  extract_lets vg_1 vs1_2 vs2_3 vs3_4 vwaits_5 vsrc_6 vsrc_7
  have h8 : Keeps a vs1_2 := by
    unfold vs1_2
    apply State.setGroup_keeps
    exact h0'
  clear_value vs1_2
  have h9 : Keeps a vs2_3 := by
    unfold vs2_3
    split
    · apply State.safeOff_keeps
      exact h8
    · exact h8
  clear_value vs2_3
  have h10 : Keeps a vs3_4 := by
    unfold vs3_4
    split
    · apply State.reprimeFor_keeps
      exact h9
    · exact h9
  clear_value vs3_4
  split
  · split
    · refine keeps_mk ?_ rfl
      exact h10
    · exact h10
  · refine keeps_mk ?_ rfl
    exact h8

theorem State.claimOver_keeps {a : State} {s0 : State} (p1 : ClaimCmd) (h0' : Keeps a s0) :
    Keeps a (State.claimOver s0 p1) := by
  unfold State.claimOver
  split
  · apply State.complete_keeps
    exact h0'
  · split
    · apply State.complete_keeps
      exact h0'
    · split
      · apply State.complete_keeps
        exact h0'
      · apply State.complete_keeps
        exact h0'

theorem State.claimSettle_keeps {a : State} {s0 : State} (p1 : ℕ) (p2 : ℕ) (p3 : ClaimCmd → ClaimCmd) (h0' : Keeps a s0) :
    Keeps a (State.claimSettle s0 p1 p2 p3) := by
  unfold State.claimSettle
  extract_lets vrest_1 vsrc_2
  dsimp only
  split
  · exact h0'
  · split
    · apply State.claimOver_keeps
      refine keeps_mk ?_ rfl
      exact h0'
    · refine keeps_mk ?_ rfl
      exact h0'

theorem State.granted_keeps {a : State} {s0 : State} (p1 : ℕ) (p2 : GroupRow) (p3 : ℕ) (h0' : Keeps a s0) :
    Keeps a (State.granted s0 p1 p2 p3) := by
  unfold State.granted
  extract_lets vs1_1
  have h2 : Keeps a vs1_1 := by
    unfold vs1_1
    apply State.grantHeld_keeps
    exact h0'
  clear_value vs1_1
  split
  · apply State.claimSettle_keeps
    exact h2
  · exact h2

theorem State.groupLost_keeps {a : State} {s0 : State} (p1 : ℕ) (h0' : Keeps a s0) :
    Keeps a (State.groupLost s0 p1) := by
  unfold State.groupLost
  extract_lets vsrc_1 vs1_2 vsrc_3
  have h4 : Keeps a vs1_2 := by
    unfold vs1_2
    apply State.raiseSrc_keeps
    apply State.setGroup_keeps
    exact h0'
  clear_value vs1_2
  refine keeps_mk ?_ rfl
  exact h4

theorem State.groupIdle_keeps {a : State} {s0 : State} (p1 : ℕ) (p2 : Bool) (h0' : Keeps a s0) :
    Keeps a (State.groupIdle s0 p1 p2) := by
  unfold State.groupIdle
  extract_lets vsrc_1 vs1_2 vs2_3
  have h4 : Keeps a vs1_2 := by
    unfold vs1_2
    apply State.setGroup_keeps
    exact h0'
  clear_value vs1_2
  have h5 : Keeps a vs2_3 := by
    unfold vs2_3
    split
    · apply State.raiseSrc_keeps
      exact h4
    · exact h4
  clear_value vs2_3
  split
  · exact h5
  · apply State.checkAdopt_keeps
    exact h5

theorem State.claimFail_keeps {a : State} {s0 : State} (p1 : ℕ) (p2 : ℕ) (p3 : Option (ℕ × ℕ)) (h0' : Keeps a s0) :
    Keeps a (State.claimFail s0 p1 p2 p3) := by
  unfold State.claimFail
  extract_lets vg_1 vs1_2 vunknown_3 vs2_4
  have h5 : Keeps a vs1_2 := by
    unfold vs1_2
    apply State.setGroup_keeps
    exact h0'
  clear_value vs1_2
  have h6 : Keeps a vs2_4 := by
    unfold vs2_4
    apply State.claimSettle_keeps
    split
    · apply State.raiseSrc_keeps
      exact h5
    · exact h5
  clear_value vs2_4
  split
  · exact h6
  · apply State.checkAdopt_keeps
    exact h6

theorem State.nakked_keeps {a : State} {s0 : State} (p1 : ℕ) (p2 : ℕ) (p3 : ℕ) (h0' : Keeps a s0) :
    Keeps a (State.nakked s0 p1 p2 p3) := by
  unfold State.nakked
  extract_lets vsrc_1 vs1_2 vg_3
  have h4 : Keeps a vs1_2 := by
    unfold vs1_2
    apply State.setGroup_keeps
    apply State.bump_keeps
    exact h0'
  clear_value vs1_2
  dsimp only
  split
  · split
    · apply State.setGroup_keeps
      apply State.bump_keeps
      exact h4
    · split
      · split
        · apply State.groupLost_keeps
          exact h4
        · apply State.groupIdle_keeps
          exact h4
      · split
        · apply State.groupIdle_keeps
          exact h4
        · exact h4
  · split
    · split
      · apply State.setGroup_keeps
        exact h4
      · apply State.claimFail_keeps
        exact h4
    · split
      · apply State.groupIdle_keeps
        exact h4
      · split
        · split
          · apply State.groupLost_keeps
            exact h4
          · apply State.groupIdle_keeps
            exact h4
        · exact h4
  · exact h4

end Sys2Proof.Machine
end

