-- ==== Sys2Proof/Laws/Keeps3.lean ====
section
/-! SUPPORT. Every operation keeps what `Keeps` says, part 3: one lemma per operation, in the order of their use. -/

namespace Sys2Proof.Machine

theorem State.leaseAnswer_keeps {a : State} {s0 : State} (p1 : Bool) (p2 : ℕ) (p3 : ℕ) (p4 : ℕ) (p5 : List Byte) (h0' : Keeps a s0) :
    Keeps a (State.leaseAnswer s0 p1 p2 p3 p4 p5) := by
  unfold State.leaseAnswer
  extract_lets vepoch_1 vop_2
  dsimp only
  split
  · split
    · exact h0'
    · split
      · split
        · split
          · apply State.granted_keeps
            apply State.setGroup_keeps
            exact h0'
          · exact h0'
        · exact h0'
      · split
        · apply State.nakked_keeps
          exact h0'
        · exact h0'
  · exact h0'

theorem State.dropEntry_keeps {a : State} {s0 : State} (p1 : ℕ) (h0' : Keeps a s0) :
    Keeps a (State.dropEntry s0 p1) := by
  unfold State.dropEntry
  extract_lets vx_1
  apply State.ringTried_keeps
  apply State.setQueue_keeps
  exact h0'

theorem State.fpDeliver_keeps {a : State} {s0 : State} (p1 : ℕ) (p2 : Eth) (p3 : Bool) (p4 : ℕ) (h0' : Keeps a s0) :
    Keeps a (State.fpDeliver s0 p1 p2 p3 p4) := by
  unfold State.fpDeliver
  extract_lets vg_1 vn_2 vbc_3 vmc_4 vfl_5
  split
  · apply State.fpDrop_keeps
    exact h0'
  · split
    · apply State.fpDrop_keeps
      exact h0'
    · split
      · apply State.bump_keeps
        apply State.rxPut_keeps
        exact h0'
      · apply State.dropEntry_keeps
        apply State.fpDrop_keeps
        exact h0'

theorem State.writePoint_keeps {a : State} {s0 : State} (p1 : Writer) (p2 : ℕ) (p3 : Word) (p4 : ℕ) (h0' : Keeps a s0) :
    Keeps a (State.writePoint s0 p1 p2 p3 p4) := by
  unfold State.writePoint
  split
  · apply State.setPoint_keeps
    exact h0'
  · apply State.bump_keeps
    exact h0'

theorem State.nodeInputs_keeps {a : State} {s0 : State} (p1 : Bool) (p2 : ℕ) (p3 : ℕ) (p4 : ℕ) (p5 : List NodeInput) (h0' : Keeps a s0) :
    Keeps a (State.nodeInputs s0 p1 p2 p3 p4 p5) := by
  unfold State.nodeInputs
  apply keeps_foldl
  · intro x1 x2 h3
    split
    · exact h3
    · split
      · apply State.writePoint_keeps
        exact h3
      · exact h3
  · exact h0'

theorem State.fpReceive_keeps {a : State} {s0 : State} (p1 : ℕ) (p2 : List Byte) (p3 : Bool) (p4 : ℕ) (p5 : Bool) (p6 : List NodeInput) (h0' : Keeps a s0) :
    Keeps a (State.fpReceive s0 p1 p2 p3 p4 p5 p6) := by
  unfold State.fpReceive
  extract_lets vg_1 ve_2 vown_3
  split
  · exact h0'
  · split
    · apply State.raiseSrc_keeps
      apply State.fpDrop_keeps
      exact h0'
    · split
      · apply State.raiseSrc_keeps
        apply State.fpDrop_keeps
        exact h0'
      · split
        · apply State.fpDrop_keeps
          exact h0'
        · split
          · apply State.fpDrop_keeps
            exact h0'
          · split
            · apply State.fpDrop_keeps
              exact h0'
            · split
              · split
                · apply State.bump_keeps
                  apply State.leaseAnswer_keeps
                  exact h0'
                · apply State.fpDrop_keeps
                  exact h0'
              · apply State.fpDeliver_keeps
                apply State.nodeInputs_keeps
                exact h0'

theorem State.fpFrame_keeps {a : State} {s0 : State} (p1 : ℕ) (p2 : List Byte) (p3 : Bool) (p4 : ℕ) (p5 : Bool) (p6 : List NodeInput) (h0' : Keeps a s0) :
    Keeps a (State.fpFrame s0 p1 p2 p3 p4 p5 p6) := by
  unfold State.fpFrame
  split
  · split
    · apply State.whenLoader_keeps
      · exact h0'
      · intro x1 h2
        apply State.loaderRx_keeps
        exact h2
    · exact h0'
  · apply State.fpReceive_keeps
    exact h0'

theorem State.cdyCheck_keeps {a : State} {s0 : State} (p1 : Ctx) (p2 : Bool) (p3 : Bool) {s4 : State} (h0' : Keeps a s0) (h4' : Keeps a s4) :
    Keeps a (State.cdyCheck s0 p1 p2 p3 s4) := by
  unfold State.cdyCheck
  split
  · apply State.fin_keeps
    exact h0'
  · split
    · apply State.fin_keeps
      exact h0'
    · split
      · apply State.foreign_keeps
        exact h0'
      · exact h4'

theorem State.cdyHand_keeps {a : State} {s0 : State} (p1 : Ctx) (p2 : Bool) (p3 : CdySt → CdySt) (h0' : Keeps a s0) :
    Keeps a (State.cdyHand s0 p1 p2 p3) := by
  unfold State.cdyHand
  dsimp only
  split
  · apply State.fin_keeps
    exact h0'
  · split
    · apply State.fin_keeps
      exact h0'
    · apply State.onCaddy_keeps
      exact h0'

theorem cdyImageLoadBody_keeps {a : State} (p0 : Bool) (p1 : Ctx) {s2 : State} (h2' : Keeps a s2) :
    Keeps a (cdyImageLoadBody p0 p1 s2) := by
  unfold cdyImageLoadBody
  extract_lets vn_1
  apply State.cdyCheck_keeps
  · exact h2'
  · apply State.cdyHand_keeps
    exact h2'

theorem loopWriteBody_keeps {a : State} (p0 : Ctx) {s1 : State} (h1' : Keeps a s1) :
    Keeps a (loopWriteBody p0 s1) := by
  unfold loopWriteBody
  extract_lets vl_1 vb_2 vg_3 vb1_4 vs1_5
  have h6 : Keeps a vs1_5 := by
    unfold vs1_5
    apply State.store_keeps
    exact h1'
  clear_value vs1_5
  split
  · apply State.fin_keeps
    exact h1'
  · split
    · apply State.foreign_keeps
      exact h1'
    · split
      · apply State.fin_keeps
        exact h1'
      · split
        · apply State.fin_keeps
          exact h1'
        · split
          · apply State.relayOut_keeps
            apply State.journalAdd_keeps
            exact h6
          · apply State.done_keeps
            exact h6

theorem State.lcsTo_keeps {a : State} {s0 : State} (p1 : ℕ) (h0' : Keeps a s0) :
    Keeps a (State.lcsTo s0 p1) := by
  unfold State.lcsTo
  extract_lets vsrc_1
  refine keeps_mk ?_ rfl
  exact h0'

theorem State.lcsDone_keeps {a : State} {s0 : State} (p1 : Ctx) (h0' : Keeps a s0) :
    Keeps a (State.lcsDone s0 p1) := by
  unfold State.lcsDone
  split
  · apply State.done_keeps
    apply State.store_keeps
    exact h0'
  · apply State.done_keeps
    exact h0'

theorem State.destroyKeys_keeps {a : State} {s0 : State} (h0' : Keeps a s0) :
    Keeps a (State.destroyKeys s0) := by
  unfold State.destroyKeys
  extract_lets vsrc_1 vsrc_2
  refine keeps_mk ?_ rfl
  exact h0'

theorem State.random_keeps {a : State} {s0 : State} (p1 : ℕ) (h0' : Keeps a s0) :
    Keeps a (State.random s0 p1).2 := by
  unfold State.random
  dsimp only
  refine keeps_mk ?_ rfl
  exact h0'

theorem State.draw_keeps {a : State} {s0 : State} (h0' : Keeps a s0) :
    Keeps a (State.draw s0).2 := by
  unfold State.draw
  dsimp only
  refine keeps_mk ?_ rfl
  exact h0'

theorem State.generateKeys_keeps {a : State} {s0 : State} (h0' : Keeps a s0) :
    Keeps a (State.generateKeys s0) := by
  unfold State.generateKeys
  dsimp only
  refine keeps_mk ?_ rfl
  apply State.draw_keeps
  apply State.random_keeps
  apply State.random_keeps
  exact h0'

theorem State.transitionRest_keeps {a : State} {s0 : State} (p1 : ℕ) (h0' : Keeps a s0) :
    Keeps a (State.transitionRest s0 p1) := by
  unfold State.transitionRest
  extract_lets vn_1 vsrc_2 vs1_3 vs2_4 vsrc_5 vsrc_6 vs3_7
  have h8 : Keeps a vs1_3 := by
    unfold vs1_3
    split
    · refine keeps_mk ?_ rfl
      exact h0'
    · exact h0'
  clear_value vs1_3
  have h9 : Keeps a vs2_4 := by
    unfold vs2_4
    apply State.destroyKeys_keeps
    exact h8
  clear_value vs2_4
  have h10 : Keeps a vs3_7 := by
    unfold vs3_7
    split
    · refine keeps_mk ?_ rfl
      exact h9
    · exact h9
  clear_value vs3_7
  split
  · apply State.generateKeys_keeps
    exact h10
  · exact h10

theorem State.transition_keeps {a : State} {s0 : State} (p1 : ℕ) (h0' : Keeps a s0) :
    Keeps a (State.transition s0 p1) := by
  unfold State.transition
  apply State.transitionRest_keeps
  apply State.lcsTo_keeps
  exact h0'

theorem lcsTransitionBody_keeps {a : State} (p0 : Bool) (p1 : Bool) (p2 : Ctx) {s3 : State} (h3' : Keeps a s3) :
    Keeps a (lcsTransitionBody p0 p1 p2 s3) := by
  unfold lcsTransitionBody
  extract_lets vn_1 vs1_2 vsrc_3
  have h4 : Keeps a vs1_2 := by
    unfold vs1_2
    apply State.lcsTo_keeps
    exact h3'
  clear_value vs1_2
  split
  · apply State.fin_keeps
    exact h3'
  · split
    · apply State.foreign_keeps
      exact h3'
    · split
      · apply State.fin_keeps
        exact h3'
      · split
        · apply State.fin_keeps
          exact h3'
        · split
          · apply State.fin_keeps
            exact h3'
          · split
            · apply State.fin_keeps
              exact h3'
            · split
              · apply State.fuseFailed_keeps
                exact h3'
              · split
                · refine keeps_mk ?_ rfl
                  exact h4
                · apply State.lcsDone_keeps
                  apply State.transition_keeps
                  exact h3'

theorem State.rsAll_keeps {a : State} {s0 : State} (p1 : ℕ) (p2 : Bool → List Byte) (h0' : Keeps a s0) :
    Keeps a (State.rsAll s0 p1 p2) := by
  unfold State.rsAll
  apply State.rsLocal_keeps
  apply State.rsLocal_keeps
  exact h0'

theorem State.ringSend_keeps {a : State} {s0 : State} (p1 : ℕ) (h0' : Keeps a s0) :
    Keeps a (State.ringSend s0 p1) := by
  unfold State.ringSend
  apply State.rsAll_keeps
  exact h0'

theorem State.canCycle_keeps {a : State} {s0 : State} (p1 : ℕ) (p2 : ℕ) (p3 : ℕ) (h0' : Keeps a s0) :
    Keeps a (State.canCycle s0 p1 p2 p3) := by
  unfold State.canCycle
  extract_lets vx_1
  apply State.setCan_keeps
  exact h0'

theorem State.canRefIn_keeps {a : State} {s0 : State} (p1 : ℕ) (p2 : CanFrame) (p3 : ℕ) (h0' : Keeps a s0) :
    Keeps a (State.canRefIn s0 p1 p2 p3) := by
  unfold State.canRefIn
  extract_lets vsrc_1
  split
  · split
    · apply State.canCycle_keeps
      exact h0'
    · apply State.setCan_keeps
      exact h0'
  · exact h0'

theorem State.canRecDown_keeps {a : State} {s0 : State} (p1 : ℕ) (h0' : Keeps a s0) :
    Keeps a (State.canRecDown s0 p1) := by
  unfold State.canRecDown
  extract_lets vx_1 vr_2
  have h3 : Keeps a vr_2.2 := by
    unfold vr_2
    apply State.draw_keeps
    exact h0'
  split
  · exact h0'
  · split
    · apply State.setCan_keeps
      exact h0'
    · apply State.setCan_keeps
      exact h3

theorem State.freeBytes_keeps {a : State} {s0 : State} (p1 : ℕ) (h0' : Keeps a s0) :
    Keeps a (State.freeBytes s0 p1).2 := by
  unfold State.freeBytes
  dsimp only
  refine keeps_mk ?_ rfl
  exact h0'

theorem State.canElement_keeps {a : State} {s0 : State} (p1 : ℕ) (p2 : ℕ) (p3 : CanFrame) (p4 : ℕ) (h0' : Keeps a s0) :
    Keeps a (State.canElement s0 p1 p2 p3 p4) := by
  unfold State.canElement
  extract_lets vr_1 vx_2
  have h3 : Keeps a vr_1.2 := by
    unfold vr_1
    apply State.freeBytes_keeps
    exact h0'
  apply State.setCan_keeps
  exact h3

theorem State.canLost_keeps {a : State} {s0 : State} (p1 : ℕ) (h0' : Keeps a s0) :
    Keeps a (State.canLost s0 p1) := by
  unfold State.canLost
  apply State.raiseSrc_keeps
  apply State.bump_keeps
  exact h0'

theorem State.canToFifo_keeps {a : State} {s0 : State} (p1 : ℕ) (p2 : Bool) (p3 : CanFrame) (p4 : ℕ) (h0' : Keeps a s0) :
    Keeps a (State.canToFifo s0 p1 p2 p3 p4) := by
  unfold State.canToFifo
  extract_lets vx_1 vq_2 vput_3
  have h4 : ∀ y0 (_ : Keeps a y0) y1, Keeps a (vput_3 y0 y1) := by
    unfold vput_3
    intro x5 h6 x7
    extract_lets vb_8
    have h9 : Keeps a vb_8 := by
      unfold vb_8
      apply State.setCan_keeps
      exact h6
    clear_value vb_8
    apply State.bump_keeps
    apply State.canElement_keeps
    exact h9
  split
  · apply State.canMove_keeps
    apply h4
    exact h0'
  · split
    · apply State.dropEntry_keeps
      apply State.canLost_keeps
      exact h0'
    · split
      · apply h4
        apply State.canLost_keeps
        exact h0'
      · apply State.canLost_keeps
        exact h0'

theorem State.canMark_keeps {a : State} {s0 : State} (p1 : ℕ) (p2 : ℕ) (p3 : ℕ) (h0' : Keeps a s0) :
    Keeps a (State.canMark s0 p1 p2 p3) := by
  unfold State.canMark
  apply State.setReg_keeps
  exact h0'

theorem State.canToBuf_keeps {a : State} {s0 : State} (p1 : ℕ) (p2 : ℕ) (p3 : CanFrame) (p4 : ℕ) (h0' : Keeps a s0) :
    Keeps a (State.canToBuf s0 p1 p2 p3 p4) := by
  unfold State.canToBuf
  extract_lets vs1_1 vs2_2
  have h3 : Keeps a vs1_1 := by
    unfold vs1_1
    apply State.canElement_keeps
    exact h0'
  clear_value vs1_1
  have h4 : Keeps a vs2_2 := by
    unfold vs2_2
    split
    · apply State.canMark_keeps
      exact h3
    · exact h3
  clear_value vs2_2
  split
  · apply State.bump_keeps
    exact h0'
  · apply State.bump_keeps
    apply State.canMark_keeps
    exact h4

theorem State.canAccept_keeps {a : State} {s0 : State} (p1 : ℕ) (p2 : CanFrame) (p3 : ℕ) (p4 : List ℕ) (h0' : Keeps a s0) :
    Keeps a (State.canAccept s0 p1 p2 p3 p4) := by
  unfold State.canAccept
  split
  · apply State.bump_keeps
    apply State.leaseAnswer_keeps
    exact h0'
  · split
    · apply State.bump_keeps
      exact h0'
    · exact h0'
    · apply State.canToFifo_keeps
      exact h0'
    · apply State.canToFifo_keeps
      exact h0'
    · apply State.canToBuf_keeps
      exact h0'

theorem State.canHeard_keeps {a : State} {s0 : State} (p1 : ℕ) (p2 : CanDetect) (h0' : Keeps a s0) :
    Keeps a (State.canHeard s0 p1 p2) := by
  unfold State.canHeard
  extract_lets vx_1 vn_2 vs1_3 vw_4 vs2_5
  have h6 : Keeps a vs1_3 := by
    unfold vs1_3
    apply State.setCan_keeps
    exact h0'
  clear_value vs1_3
  have h7 : Keeps a vs2_5 := by
    unfold vs2_5
    split
    · apply State.setReg_keeps
      exact h6
    · exact h6
  clear_value vs2_5
  split
  · apply State.complete_keeps
    exact h7
  · apply State.setCan_keeps
    exact h0'

theorem State.canReceive_keeps {a : State} {s0 : State} (p1 : ℕ) (p2 : CanFrame) (p3 : ℕ) (p4 : Bool) (p5 : List ℕ) (p6 : List NodeInput) (h0' : Keeps a s0) :
    Keeps a (State.canReceive s0 p1 p2 p3 p4 p5 p6) := by
  unfold State.canReceive
  extract_lets vstamp_1 vs1_2 vl_3 vs2_4
  have h5 : Keeps a vs1_2 := by
    unfold vs1_2
    apply State.canRefIn_keeps
    apply State.canRecDown_keeps
    exact h0'
  clear_value vs1_2
  have h6 : Keeps a vs2_4 := by
    unfold vs2_4
    split
    · apply State.raiseSrc_keeps
      exact h5
    · exact h5
  clear_value vs2_4
  split
  · split
    · exact h6
    · apply State.canAccept_keeps
      apply State.nodeInputs_keeps
      exact h6
  · split
    · split
      · apply State.canHeard_keeps
        exact h0'
      · exact h0'
    · exact h0'

theorem State.ackRx_keeps {a : State} {s0 : State} (p1 : Bool) (p2 : List Byte) (h0' : Keeps a s0) :
    Keeps a (State.ackRx s0 p1 p2) := by
  unfold State.ackRx
  extract_lets vu_1 vone_2
  have h3 : ∀ y0 (_ : Keeps a y0) y1, Keeps a (vone_2 y0 y1) := by
    unfold vone_2
    intro x4 h5 x6
    dsimp only
    split
    · exact h5
    · split
      · exact h5
      · split
        · exact h5
        · apply State.settle_keeps
          apply State.pump_keeps
          apply State.onSess_keeps
          exact h5
  split
  · apply h3
    apply h3
    exact h0'
  · exact h0'

theorem State.lcsResume_keeps {a : State} {s0 : State} (h0' : Keeps a s0) :
    Keeps a (State.lcsResume s0) := by
  unfold State.lcsResume
  extract_lets vsrc_1
  dsimp only
  split
  · exact h0'
  · apply keeps_foldl
    · intro x2 x3 h4
      apply State.lcsDone_keeps
      exact h4
    · apply State.transitionRest_keeps
      refine keeps_mk ?_ rfl
      exact h0'

theorem State.rsStarting_keeps {a : State} {s0 : State} (p1 : Bool) (h0' : Keeps a s0) :
    Keeps a (State.rsStarting s0 p1) := by
  unfold State.rsStarting
  extract_lets vm_1
  apply State.onPort_keeps
  exact h0'

theorem State.enterRecovery_keeps {a : State} {s0 : State} (p1 : ℕ) (h0' : Keeps a s0) :
    Keeps a (State.enterRecovery s0 p1) := by
  unfold State.enterRecovery
  extract_lets vs0_1 vsrc_2 vs1_3 vs2_4 vsrc_5
  have h6 : Keeps a vs0_1 := by
    unfold vs0_1
    apply State.lcsResume_keeps
    exact h0'
  clear_value vs0_1
  have h7 : Keeps a vs1_3 := by
    unfold vs1_3
    refine keeps_mk ?_ rfl
    exact h6
  clear_value vs1_3
  have h8 : Keeps a vs2_4 := by
    unfold vs2_4
    apply State.setMode_keeps
    apply State.setCur_keeps
    apply State.setCur_keeps
    exact h7
  clear_value vs2_4
  apply State.rsStarting_keeps
  apply State.rsStarting_keeps
  apply State.rsAddress_keeps
  apply State.rsAddress_keeps
  refine keeps_mk ?_ rfl
  exact h8

theorem wf_putTable {m : List Host.Cell} (h : Memory.wf m = true) (base n : ℕ) (t : List Host.Cell) :
    Memory.wf (putTable m base n t) = true :=
  Sparse.wf_foldl _ (fun _ _ x => Memory.wf_wr8 x _ _) t _ (Memory.wf_zeroRange h _ _)

theorem wf_putTable_if {m : List Host.Cell} (h : Memory.wf m = true) (base n : ℕ) (t : List Host.Cell) :
    Memory.wf (if base = 0 then m else putTable m base n t) = true := by
  split
  · exact h
  · exact wf_putTable h base n t

theorem State.putTables_keeps {a : State} {s0 : State} (h0' : Keeps a s0) : Keeps a s0.putTables := by
  unfold State.putTables
  refine Keeps.step h0' rfl rfl (fun x => ?_) (fun x => x) (Nat.le_refl _) (fun x => x)
  exact wf_putTable_if (wf_putTable_if (wf_putTable_if (wf_putTable_if x _ _ _) _ _ _) _ _ _) _ _ _

theorem State.replay_keeps {a : State} {s0 : State} (h0' : Keeps a s0) : Keeps a s0.replay := by
  unfold State.replay
  extract_lets c x1 x2 x3 s1
  have h1 : Keeps a s1 := by
    unfold s1
    exact Keeps.step h0' rfl rfl (fun x => x)
      (fun x => Sparse.wf_foldl _ (fun _ _ y => by
        split
        · exact y
        · exact Sparse.wf_set y _ _) _ _ x) (Nat.le_refl _) (fun x => x)
  clear_value s1
  apply keeps_foldl
  · intro b e h
    exact State.setReq_keeps _ _ h
  · exact State.putTables_keeps h1

theorem State.journalReplay_keeps {a : State} {s0 : State} (h0' : Keeps a s0) :
    Keeps a (State.journalReplay s0) := by
  unfold State.journalReplay
  extract_lets vc_1 vsrc_2
  refine keeps_mk ?_ rfl
  exact h0'

theorem State.dioStarting_keeps {a : State} {s0 : State} (h0' : Keeps a s0) :
    Keeps a (State.dioStarting s0) := by
  unfold State.dioStarting
  extract_lets voff_1 vcfg_2 vsrc_3
  split
  · exact h0'
  · refine keeps_mk ?_ rfl
    exact h0'

theorem State.aoutStarting_keeps {a : State} {s0 : State} (h0' : Keeps a s0) :
    Keeps a (State.aoutStarting s0) := by
  unfold State.aoutStarting
  extract_lets vsrc_1
  split
  · exact h0'
  · refine keeps_mk ?_ rfl
    exact h0'

theorem State.hatsLoaded_keeps {a : State} {s0 : State} (h0' : Keeps a s0) :
    Keeps a (State.hatsLoaded s0) := by
  unfold State.hatsLoaded
  extract_lets vu_1 vt_2 vsrc_3
  have h4 : Keeps a vt_2 := by
    unfold vt_2
    apply State.dioStarting_keeps
    apply State.aoutStarting_keeps
    exact h0'
  clear_value vt_2
  refine keeps_mk ?_ rfl
  exact h4

theorem State.imageIn_keeps {a : State} {s0 : State} (p1 : Bool) (h0' : Keeps a s0) :
    Keeps a (State.imageIn s0 p1) := by
  unfold State.imageIn
  extract_lets vn_1 vfails_2 vsrc_3 vs1_4 vh_5 vs2_6 vsrc_7 vsrc_8 vsrc_9 vs3_10
  have h11 : Keeps a vs1_4 := by
    unfold vs1_4
    split
    · apply State.raiseSrc_keeps
      refine keeps_mk ?_ rfl
      exact h0'
    · exact h0'
  clear_value vs1_4
  have h12 : Keeps a vs2_6 := by
    unfold vs2_6
    apply State.replay_keeps
    apply State.journalReplay_keeps
    exact h11
  clear_value vs2_6
  have h13 : Keeps a vs3_10 := by
    unfold vs3_10
    refine keeps_mk ?_ rfl
    exact h12
  clear_value vs3_10
  split
  · split
    · apply State.enterRecovery_keeps
      exact h0'
    · apply State.hatsLoaded_keeps
      exact h13
  · exact h0'

theorem State.reportTimeout_keeps {a : State} {s0 : State} (h0' : Keeps a s0) :
    Keeps a (State.reportTimeout s0) := by
  unfold State.reportTimeout
  extract_lets vd_1
  have h2 : Keeps a vd_1.2 := by
    unfold vd_1
    apply State.draw_keeps
    exact h0'
  split
  · exact h0'
  · split
    · apply State.finishFailed_keeps
      exact h2
    · exact h0'

theorem State.cdyPoints_keeps {a : State} {s0 : State} (p1 : ℕ) (p2 : ℕ) (h0' : Keeps a s0) :
    Keeps a (State.cdyPoints s0 p1 p2) := by
  unfold State.cdyPoints
  dsimp only
  apply keeps_foldl
  · intro x1 x2 h3
    apply State.writePoint_keeps
    exact h3
  · exact h0'

theorem State.cdyPublishPoints_keeps {a : State} {s0 : State} (h0' : Keeps a s0) :
    Keeps a (State.cdyPublishPoints s0) := by
  unfold State.cdyPublishPoints
  extract_lets vw_1
  split
  · apply keeps_foldl
    · intro x2 x3 h4
      apply State.cdyPoints_keeps
      exact h4
    · exact h0'
  · exact h0'

theorem State.clash_keeps {a : State} {s0 : State} (h0' : Keeps a s0) :
    Keeps a (State.clash s0) := by
  unfold State.clash
  extract_lets vsrc_1
  split
  · exact h0'
  · apply State.raiseSrc_keeps
    apply State.raiseSrc_keeps
    refine keeps_mk ?_ rfl
    exact h0'

theorem State.mapRx_keeps {a : State} {s0 : State} (p1 : Bool) (p2 : ℕ) (p3 : ℕ) (p4 : List Byte) (h0' : Keeps a s0) :
    Keeps a (State.mapRx s0 p1 p2 p3 p4) := by
  unfold State.mapRx
  extract_lets vh_1 vbeyond_2 vs1_3
  have h4 : Keeps a vs1_3 := by
    unfold vs1_3
    dsimp only
    apply State.onPort_keeps
    exact h0'
  clear_value vs1_3
  split
  · apply State.clash_keeps
    exact h4
  · exact h4

theorem State.fpWake_keeps {a : State} {s0 : State} (p1 : ℕ) (h0' : Keeps a s0) :
    Keeps a (State.fpWake s0 p1) := by
  unfold State.fpWake
  extract_lets vsrc_1
  apply State.setFp_keeps
  exact h0'

theorem State.leaseBoundary_keeps {a : State} {s0 : State} (p1 : List ℕ) (h0' : Keeps a s0) :
    Keeps a (State.leaseBoundary s0 p1) := by
  unfold State.leaseBoundary
  extract_lets vsrc_1 vs1_2 vs2_3
  have h4 : Keeps a vs1_2 := by
    unfold vs1_2
    split
    · refine keeps_mk ?_ rfl
      exact h0'
    · exact h0'
  clear_value vs1_2
  have h5 : Keeps a vs2_3 := by
    unfold vs2_3
    apply State.partnerCycle_keeps
    exact h4
  clear_value vs2_3
  split
  · apply State.safeOff_keeps
    exact h5
  · exact h5

theorem State.agePoints_keeps {a : State} {s0 : State} (h0' : Keeps a s0) :
    Keeps a (State.agePoints s0) := by
  unfold State.agePoints
  extract_lets vks_1 vs1_2
  have h3 : Keeps a vs1_2 := by
    unfold vs1_2
    apply keeps_foldl
    · intro x4 x5 h6
      apply State.setPoint_keeps
      exact h6
    · exact h0'
  clear_value vs1_2
  split
  · split
    · apply State.raiseSrc_keeps
      exact h3
    · exact h3
  · apply keeps_foldl
    · intro x7 x8 h9
      apply State.setPoint_keeps
      exact h9
    · exact h0'

theorem State.closeRing_keeps {a : State} {s0 : State} (h0' : Keeps a s0) :
    Keeps a (State.closeRing s0) := by
  unfold State.closeRing
  extract_lets vb_1 vs1_2
  have h3 : Keeps a vs1_2 := by
    unfold vs1_2
    refine keeps_mk ?_ rfl
    exact h0'
  clear_value vs1_2
  split
  · apply State.raiseSrc_keeps
    exact h3
  · exact h3

theorem State.setPosted_keeps {a : State} {s0 : State} (p1 : ℕ) (p2 : ℕ) (p3 : Posted) (h0' : Keeps a s0) :
    Keeps a (State.setPosted s0 p1 p2 p3) := by
  unfold State.setPosted
  extract_lets vsrc_1
  refine keeps_mk ?_ rfl
  exact h0'

theorem State.postMarked_keeps {a : State} {s0 : State} (p1 : ℕ) (p2 : Bool → Bool → List Byte) (h0' : Keeps a s0) :
    Keeps a (State.postMarked s0 p1 p2) := by
  unfold State.postMarked
  extract_lets vx_1
  apply State.post_keeps
  apply State.setQueue_keeps
  exact h0'

theorem State.covPost_keeps {a : State} {s0 : State} (p1 : ℕ) (p2 : ℕ) (h0' : Keeps a s0) :
    Keeps a (State.covPost s0 p1 p2) := by
  unfold State.covPost
  extract_lets vx_1
  split
  · split
    · apply State.setPosted_keeps
      apply State.postMarked_keeps
      exact h0'
    · apply State.dropEntry_keeps
      exact h0'
  · exact h0'

theorem State.postCov_keeps {a : State} {s0 : State} (h0' : Keeps a s0) :
    Keeps a (State.postCov s0) := by
  unfold State.postCov
  apply keeps_foldl
  · intro x1 x2 h3
    apply keeps_foldl
    · intro x4 x5 h6
      apply State.covPost_keeps
      exact h6
    · exact h3
  · exact h0'

theorem State.publishSet_keeps {a : State} {s0 : State} (p1 : ℕ) (p2 : Bool) (p3 : List ℕ) (h0' : Keeps a s0) :
    Keeps a (State.publishSet s0 p1 p2 p3) := by
  unfold State.publishSet
  extract_lets vfs_1
  apply keeps_foldl
  · intro x2 x3 h4
    apply State.rsAll_keeps
    exact h4
  · exact h0'

theorem State.publish_keeps {a : State} {s0 : State} (h0' : Keeps a s0) :
    Keeps a (State.publish s0) := by
  unfold State.publish
  extract_lets vs1_1
  have h2 : Keeps a vs1_1 := by
    unfold vs1_1
    split
    · apply State.publishSet_keeps
      exact h0'
    · exact h0'
  clear_value vs1_1
  split
  · apply State.publishSet_keeps
    exact h2
  · exact h2

theorem State.tpiBoundary_keeps {a : State} {s0 : State} (p1 : List ℕ) (h0' : Keeps a s0) :
    Keeps a (State.tpiBoundary s0 p1) := by
  unfold State.tpiBoundary
  extract_lets vsrc_1 vs1_2 vs2_3
  have h4 : Keeps a vs1_2 := by
    unfold vs1_2
    refine keeps_mk ?_ rfl
    exact h0'
  clear_value vs1_2
  have h5 : Keeps a vs2_3 := by
    unfold vs2_3
    apply State.leaseBoundary_keeps
    apply State.agePoints_keeps
    apply State.closeRing_keeps
    exact h4
  clear_value vs2_3
  split
  · apply State.postCov_keeps
    split
    · exact h5
    · apply State.publish_keeps
      exact h5
  · exact h0'

theorem State.pointCheck_keeps {a : State} {s0 : State} (p1 : Ecc) (h0' : Keeps a s0) :
    Keeps a (State.pointCheck s0 p1) := by
  unfold State.pointCheck
  split
  · exact h0'
  · apply State.raiseSrc_keeps
    apply State.bump_keeps
    exact h0'
  · apply State.raiseSrc_keeps
    exact h0'

theorem lcsCertStoreBody_keeps {a : State} (p0 : Ctx) {s1 : State} (h1' : Keeps a s1) :
    Keeps a (lcsCertStoreBody p0 s1) := by
  unfold lcsCertStoreBody
  extract_lets vlen_1 vsrc_2
  split
  · apply State.fin_keeps
    exact h1'
  · split
    · apply State.foreign_keeps
      exact h1'
    · split
      · apply State.fin_keeps
        exact h1'
      · apply State.done_keeps
        refine keeps_mk ?_ rfl
        exact h1'

theorem lseReleaseBody_keeps {a : State} (p0 : Ctx) {s1 : State} (h1' : Keeps a s1) :
    Keeps a (lseReleaseBody p0 s1) := by
  unfold lseReleaseBody
  extract_lets vi_1 vsrc_2 vs1_3
  have h4 : Keeps a vs1_3 := by
    unfold vs1_3
    apply State.setGroup_keeps
    exact h1'
  clear_value vs1_3
  split
  · apply State.fin_keeps
    exact h1'
  · split
    · apply State.foreign_keeps
      exact h1'
    · split
      · apply State.fin_keeps
        exact h1'
      · split
        · apply State.fin_keeps
          exact h1'
        · split
          · exact h4
          · apply State.checkAdopt_keeps
            exact h4

theorem State.countLaunch_keeps {a : State} {s0 : State} (p1 : ℕ) (p2 : TxEntry) (p3 : Launch) (h0' : Keeps a s0) :
    Keeps a (State.countLaunch s0 p1 p2 p3) := by
  unfold State.countLaunch
  extract_lets vp_1 vs1_2
  have h3 : Keeps a vs1_2 := by
    unfold vs1_2
    apply State.bump_keeps
    exact h0'
  clear_value vs1_2
  split
  · split
    · apply State.bump_keeps
      exact h0'
    · split
      · exact h3
      · apply State.raiseSrc_keeps
        exact h3
    · apply State.bump_keeps
      exact h0'
    · exact h0'
  · exact h0'

theorem State.setRate_keeps {a : State} {s0 : State} (p1 : ℕ) (p2 : ℤ) (p3 : Bool) (h0' : Keeps a s0) :
    Keeps a (State.setRate s0 p1 p2 p3) := by
  unfold State.setRate
  extract_lets vt_1 vs1_2
  have h3 : Keeps a vs1_2 := by
    unfold vs1_2
    apply State.setTmb_keeps
    exact h0'
  clear_value vs1_2
  split
  · apply State.raiseSrc_keeps
    exact h3
  · exact h3

theorem State.sample_keeps {a : State} {s0 : State} (p1 : ℕ) (p2 : ℤ) (h0' : Keeps a s0) :
    Keeps a (State.sample s0 p1 p2) := by
  unfold State.sample
  extract_lets vp_1 vt0_2 vlockNs_3 vt_4 vs1_5 vkp_6 vki_7 viNew_8 vrNew_9 vi_10 vr_11 vgood_12 vs2_13
  have h14 : Keeps a vs1_5 := by
    unfold vs1_5
    apply State.setTmb_keeps
    exact h0'
  clear_value vs1_5
  have h15 : Keeps a vs2_13 := by
    unfold vs2_13
    apply State.setTmb_keeps
    exact h14
  clear_value vs2_13
  split
  · exact h0'
  · split
    · apply State.stepped_keeps
      apply State.setTmb_keeps
      exact h14
    · apply State.setRate_keeps
      exact h15

theorem State.setKslot_keeps {a : State} {s0 : State} (p1 : ℕ) (p2 : ℕ) (p3 : KSlot) (h0' : Keeps a s0) :
    Keeps a (State.setKslot s0 p1 p2 p3) := by
  unfold State.setKslot
  extract_lets vsrc_1
  refine keeps_mk ?_ rfl
  exact h0'

theorem State.slotDone_keeps {a : State} {s0 : State} (p1 : ℕ) (p2 : ℕ) (p3 : KCommit) (h0' : Keeps a s0) :
    Keeps a (State.slotDone s0 p1 p2 p3) := by
  unfold State.slotDone
  extract_lets vs1_1 vsrc_2 vs2_3 vsrc_4
  have h5 : Keeps a vs1_1 := by
    unfold vs1_1
    apply State.setKslot_keeps
    exact h0'
  clear_value vs1_1
  have h6 : Keeps a vs2_3 := by
    unfold vs2_3
    refine keeps_mk ?_ rfl
    exact h5
  clear_value vs2_3
  apply State.bump_keeps
  apply State.setTask_keeps
  exact h6

theorem State.coldCommit_keeps {a : State} {s0 : State} (p1 : ℕ) (p2 : ℕ) (p3 : TaskCopy) (h0' : Keeps a s0) :
    Keeps a (State.coldCommit s0 p1 p2 p3) := by
  unfold State.coldCommit
  extract_lets vsrc_1 vs1_2 vsrc_3 vs2_4 vsrc_5
  have h6 : Keeps a vs1_2 := by
    unfold vs1_2
    apply State.setKslot_keeps
    exact h0'
  clear_value vs1_2
  have h7 : Keeps a vs2_4 := by
    unfold vs2_4
    refine keeps_mk ?_ rfl
    exact h6
  clear_value vs2_4
  apply State.slotDone_keeps
  exact h7

theorem State.restartTasks_keeps {a : State} {s0 : State} (p1 : Bool) (h0' : Keeps a s0) :
    Keeps a (State.restartTasks s0 p1) := by
  unfold State.restartTasks
  extract_lets vown_1 vtable_2 vsrc_3 vs1_4 vsrc_5 vs2_6
  have h7 : Keeps a vs1_4 := by
    unfold vs1_4
    refine keeps_mk ?_ rfl
    exact h0'
  clear_value vs1_4
  have h8 : Keeps a vs2_6 := by
    unfold vs2_6
    split
    · exact h7
    · refine keeps_mk ?_ rfl
      exact h7
  clear_value vs2_6
  dsimp only
  apply keeps_foldl
  · intro x9 x10 h11
    split
    · split
      · split
        · exact h11
        · apply State.coldCommit_keeps
          exact h11
      · split
        · apply State.makeTaskRole_keeps
          split
          · apply State.makeTaskRole_keeps
            split
            · exact h11
            · apply State.coldCommit_keeps
              exact h11
          · split
            · exact h11
            · apply State.coldCommit_keeps
              exact h11
        · split
          · apply State.makeTaskRole_keeps
            split
            · exact h11
            · apply State.coldCommit_keeps
              exact h11
          · split
            · exact h11
            · apply State.coldCommit_keeps
              exact h11
    · exact h11
  · exact h8

theorem taskHandoverBody_keeps {a : State} (p0 : Ctx) {s1 : State} (h1' : Keeps a s1) :
    Keeps a (taskHandoverBody p0 s1) := by
  unfold taskHandoverBody
  extract_lets vt_1 vx_2
  split
  · apply State.foreign_keeps
    exact h1'
  · split
    · apply State.fin_keeps
      exact h1'
    · split
      · apply State.fin_keeps
        exact h1'
      · apply State.setTask_keeps
        exact h1'

theorem loopStopBody_keeps {a : State} (p0 : Ctx) {s1 : State} (h1' : Keeps a s1) :
    Keeps a (loopStopBody p0 s1) := by
  unfold loopStopBody
  extract_lets vl_1 vrole_2 vx_3 vtodo_4
  split
  · apply State.fin_keeps
    exact h1'
  · split
    · apply State.foreign_keeps
      exact h1'
    · split
      · apply State.fin_keeps
        exact h1'
      · split
        · apply State.fin_keeps
          exact h1'
        · apply State.setLoop_keeps
          exact h1'

theorem State.hatstandAct_keeps {a : State} {s0 : State} (h0' : Keeps a s0) :
    Keeps a (State.hatstandAct s0) := by
  unfold State.hatstandAct
  extract_lets vsrc_1 vsrc_2
  split
  · apply State.raiseSrc_keeps
    refine keeps_mk ?_ rfl
    exact h0'
  · exact h0'

theorem State.offsetSample_keeps {a : State} {s0 : State} (p1 : ℕ) (p2 : Word) (h0' : Keeps a s0) :
    Keeps a (State.offsetSample s0 p1 p2) := by
  unfold State.offsetSample
  apply State.sample_keeps
  exact h0'

theorem State.commitBegin_keeps {a : State} {s0 : State} (p1 : ℕ) (p2 : KCommit) (h0' : Keeps a s0) :
    Keeps a (State.commitBegin s0 p1 p2) := by
  unfold State.commitBegin
  extract_lets vb_1 vsrc_2 vs1_3 vsrc_4 vsrc_5
  have h6 : Keeps a vs1_3 := by
    unfold vs1_3
    apply State.setKslot_keeps
    exact h0'
  clear_value vs1_3
  refine keeps_mk ?_ rfl
  exact h6

theorem State.setHandle_keeps {a : State} {s0 : State} (p1 : ℕ) (p2 : Option Handle) (h0' : Keeps a s0) :
    Keeps a (State.setHandle s0 p1 p2) := by
  unfold State.setHandle
  extract_lets vsrc_1
  refine keeps_mk ?_ rfl
  exact h0'

theorem State.newHandle_keeps {a : State} {s0 : State} (p1 : Handle) (h0' : Keeps a s0) :
    Keeps a (State.newHandle s0 p1).2 := by
  unfold State.newHandle
  extract_lets vl_1
  dsimp only
  apply State.setHandle_keeps
  apply State.draw_keeps
  exact h0'

theorem State.leaseOut_keeps {a : State} {s0 : State} (p1 : GroupRow) (p2 : List Byte) (h0' : Keeps a s0) :
    Keeps a (State.leaseOut s0 p1 p2) := by
  unfold State.leaseOut
  extract_lets vcfg_1 vd_2 vf_3 vx_4 vhead_5 vx_6
  split
  · split
    · apply State.setCan_keeps
      exact h0'
    · exact h0'
  · split
    · apply State.setFp_keeps
      exact h0'
    · exact h0'

theorem State.groupTx_keeps {a : State} {s0 : State} (p1 : ℕ) (p2 : GroupRow) (p3 : ℕ) (p4 : ℕ) (p5 : ℕ) (p6 : ℕ) (p7 : Bool) (h0' : Keeps a s0) :
    Keeps a (State.groupTx s0 p1 p2 p3 p4 p5 p6 p7) := by
  unfold State.groupTx
  extract_lets vpdu_1 vsrc_2 vs1_3
  have h4 : Keeps a vs1_3 := by
    unfold vs1_3
    apply State.setGroup_keeps
    exact h0'
  clear_value vs1_3
  split
  · split
    · exact h4
    · apply State.leaseOut_keeps
      exact h4
  · apply State.leaseOut_keeps
    exact h4

theorem State.overload_keeps {a : State} {s0 : State} (p1 : ℕ) (h0' : Keeps a s0) :
    Keeps a (State.overload s0 p1) := by
  unfold State.overload
  split
  · apply State.raiseSrc_keeps
    apply State.setReg_keeps
    exact h0'
  · apply State.raiseSrc_keeps
    apply State.setReg_keeps
    exact h0'

theorem queueQueryBody_keeps {a : State} (p0 : Ctx) {s1 : State} (h1' : Keeps a s1) :
    Keeps a (queueQueryBody p0 s1) := by
  unfold queueQueryBody
  extract_lets vq_1 vx_2
  split
  · apply State.foreign_keeps
    exact h1'
  · split
    · apply State.fin_keeps
      exact h1'
    · apply State.done_keeps
      apply State.queueChecked_keeps
      exact h1'

theorem loopClearBody_keeps {a : State} (p0 : Ctx) {s1 : State} (h1' : Keeps a s1) :
    Keeps a (loopClearBody p0 s1) := by
  unfold loopClearBody
  extract_lets vl_1 vx_2
  split
  · apply State.foreign_keeps
    exact h1'
  · split
    · apply State.fin_keeps
      exact h1'
    · split
      · apply State.fin_keeps
        exact h1'
      · split
        · apply State.done_keeps
          exact h1'
        · apply State.setLoop_keeps
          exact h1'

theorem State.usbVbus_keeps {a : State} {s0 : State} (p1 : Bool) (h0' : Keeps a s0) :
    Keeps a (State.usbVbus s0 p1) := by
  unfold State.usbVbus
  extract_lets vsrc_1
  apply State.usbAttach_keeps
  refine keeps_mk ?_ rfl
  exact h0'

theorem State.rsTransit_keeps {a : State} {s0 : State} (p1 : Bool) (p2 : RFrame) (h0' : Keeps a s0) :
    Keeps a (State.rsTransit s0 p1 p2) := by
  unfold State.rsTransit
  extract_lets vx_1 vq_2
  split
  · split
    · apply State.bump_keeps
      exact h0'
    · split
      · apply State.setRsPort_keeps
        exact h0'
      · split
        · apply State.setRsPort_keeps
          exact h0'
        · apply State.setRsPort_keeps
          exact h0'
  · apply State.bump_keeps
    exact h0'

theorem State.consume_keeps {a : State} {s0 : State} (p1 : ℕ) (h0' : Keeps a s0) :
    Keeps a (State.consume s0 p1) := by
  unfold State.consume
  extract_lets vx_1
  apply State.checkQueue_keeps
  apply State.setQueue_keeps
  exact h0'

theorem State.canTxEnd_keeps {a : State} {s0 : State} (p1 : ℕ) (p2 : ℕ) (p3 : ℕ) (h0' : Keeps a s0) :
    Keeps a (State.canTxEnd s0 p1 p2 p3) := by
  unfold State.canTxEnd
  extract_lets ve_1 vpair_2
  apply State.txDone_keeps
  apply State.consume_keeps
  exact h0'

theorem State.canFail_keeps {a : State} {s0 : State} (p1 : ℕ) (p2 : CanSrc) (h0' : Keeps a s0) :
    Keeps a (State.canFail s0 p1 p2) := by
  unfold State.canFail
  extract_lets vx_1 vdar_2
  split
  · split
    · apply State.setCan_keeps
      exact h0'
    · exact h0'
  · exact h0'
  · exact h0'
  · split
    · apply State.bump_keeps
      apply State.setCan_keeps
      exact h0'
    · split
      · apply State.setCan_keeps
        exact h0'
      · exact h0'
  · split
    · apply State.canTxEnd_keeps
      exact h0'
    · exact h0'

theorem State.pinLoad_keeps {a : State} {s0 : State} (p1 : ℕ) (p2 : Word) (h0' : Keeps a s0) :
    Keeps a (State.pinLoad s0 p1 p2) := by
  unfold State.pinLoad
  split
  · apply State.setReg_keeps
    exact h0'
  · exact h0'

theorem State.tpiStarting_keeps {a : State} {s0 : State} (h0' : Keeps a s0) :
    Keeps a (State.tpiStarting s0) := by
  unfold State.tpiStarting
  extract_lets vc_1 vsrc_2 vs1_3 vsrc_4
  have h5 : Keeps a vs1_3 := by
    unfold vs1_3
    refine keeps_mk ?_ rfl
    exact h0'
  clear_value vs1_3
  refine keeps_mk ?_ rfl
  exact h5

theorem taskReadBody_keeps {a : State} (p0 : Ctx) {s1 : State} (h1' : Keeps a s1) :
    Keeps a (taskReadBody p0 s1) := by
  unfold taskReadBody
  extract_lets vt_1 vsrc_2 vn_3 vout_4 vr_5
  have h6 : ∀ y0, Keeps a (vout_4 y0) := by
    unfold vout_4
    intro x7
    extract_lets vb_8
    apply State.done_keeps
    apply State.store_keeps
    exact h1'
  split
  · apply State.fin_keeps
    exact h1'
  · split
    · apply State.foreign_keeps
      exact h1'
    · split
      · apply State.fin_keeps
        exact h1'
      · split
        · apply h6
        · split
          · apply h6
          · apply State.done_keeps
            exact h1'

theorem taskStartBody_keeps {a : State} (p0 : Ctx) {s1 : State} (h1' : Keeps a s1) :
    Keeps a (taskStartBody p0 s1) := by
  unfold taskStartBody
  extract_lets vt_1 vrole_2 vx_3 vb_4 vtodo_5 vchan_6 vcold_7 vsrc_8 vs0_9 vs1_10 vy_11 vnote_12
  have h13 : Keeps a vs0_9 := by
    unfold vs0_9
    split
    · refine keeps_mk ?_ rfl
      exact h1'
    · exact h1'
  clear_value vs0_9
  have h14 : Keeps a vs1_10 := by
    unfold vs1_10
    apply keeps_foldl
    · intro x15 x16 h17
      apply State.makeTaskRole_keeps
      exact h17
    · exact h13
  clear_value vs1_10
  split
  · apply State.fin_keeps
    exact h1'
  · split
    · apply State.foreign_keeps
      exact h1'
    · split
      · apply State.fin_keeps
        exact h1'
      · split
        · apply State.fin_keeps
          exact h1'
        · split
          · apply State.fin_keeps
            exact h1'
          · split
            · apply State.fin_keeps
              exact h1'
            · split
              · apply State.fin_keeps
                exact h1'
              · apply State.fin_keeps
                exact h14

theorem taskStopBody_keeps {a : State} (p0 : Ctx) {s1 : State} (h1' : Keeps a s1) :
    Keeps a (taskStopBody p0 s1) := by
  unfold taskStopBody
  extract_lets vt_1 vrole_2 vx_3 vtodo_4
  split
  · apply State.fin_keeps
    exact h1'
  · split
    · apply State.foreign_keeps
      exact h1'
    · split
      · apply State.fin_keeps
        exact h1'
      · split
        · apply State.fin_keeps
          exact h1'
        · apply State.setTask_keeps
          exact h1'

end Sys2Proof.Machine
end

