-- ==== Sys2Proof/Laws/Keeps4.lean ====
section
/-! SUPPORT. Every operation keeps what `Keeps` says, part 4: one lemma per operation, in the order of their use. -/

namespace Sys2Proof.Machine

theorem taskQueryBody_keeps {a : State} (p0 : Ctx) {s1 : State} (h1' : Keeps a s1) :
    Keeps a (taskQueryBody p0 s1) := by
  unfold taskQueryBody
  extract_lets vt_1 vx_2 vf_3
  split
  · apply State.foreign_keeps
    exact h1'
  · apply State.done_keeps
    exact h1'

theorem State.clearNow_keeps {a : State} {s0 : State} (p1 : ℕ) (h0' : Keeps a s0) :
    Keeps a (State.clearNow s0 p1) := by
  unfold State.clearNow
  extract_lets vx_1 vs1_2
  have h3 : Keeps a vs1_2 := by
    unfold vs1_2
    apply State.setLoop_keeps
    exact h0'
  clear_value vs1_2
  dsimp only
  split
  · exact h0'
  · split
    · apply State.complete_keeps
      apply State.putRole_keeps
      apply State.putRole_keeps
      exact h3
    · apply State.complete_keeps
      exact h3

theorem State.spoilTransit_keeps {a : State} {s0 : State} (p1 : Bool) (p2 : ℕ) (h0' : Keeps a s0) :
    Keeps a (State.spoilTransit s0 p1 p2) := by
  unfold State.spoilTransit
  extract_lets vx_1 vp_2
  apply State.raiseSrc_keeps
  apply State.setRsPort_keeps
  exact h0'

theorem State.lcImage_keeps {a : State} {s0 : State} (p1 : ℕ) (h0' : Keeps a s0) :
    Keeps a (State.lcImage s0 p1) := by
  unfold State.lcImage
  apply keeps_foldl
  · intro x1 x2 h3
    split
    · apply State.lcHarvest_keeps
      exact h3
    · exact h3
  · exact h0'

theorem State.rsReturned_keeps {a : State} {s0 : State} (p1 : Bool) (p2 : RFrame) (h0' : Keeps a s0) :
    Keeps a (State.rsReturned s0 p1 p2) := by
  unfold State.rsReturned
  extract_lets vsrc_1
  split
  · exact h0'
  · split
    · refine keeps_mk ?_ rfl
      exact h0'
    · split
      · split
        · apply State.clash_keeps
          exact h0'
        · split
          · apply State.onPort_keeps
            exact h0'
          · exact h0'
      · exact h0'

theorem State.rxCounts_keeps {a : State} {s0 : State} (p1 : RxFrame) (p2 : ℕ) (p3 : ℕ) (h0' : Keeps a s0) :
    Keeps a (State.rxCounts s0 p1 p2 p3) := by
  unfold State.rxCounts
  extract_lets vm_1 vt_2 vs1_3
  have h4 : Keeps a vs1_3 := by
    unfold vs1_3
    split
    · apply State.bump_keeps
      exact h0'
    · exact h0'
  clear_value vs1_3
  split
  · apply State.raiseSrc_keeps
    apply State.bump_keeps
    exact h4
  · exact h4

theorem State.rxRecord_keeps {a : State} {s0 : State} (p1 : RxFrame) (p2 : ℕ) (p3 : ℕ) (p4 : ℕ) (h0' : Keeps a s0) :
    Keeps a (State.rxRecord s0 p1 p2 p3 p4) := by
  unfold State.rxRecord
  extract_lets vm_1 vt_2 vs1_3 vx_4 vsrc_5 vs2_6
  have h7 : Keeps a vs1_3 := by
    unfold vs1_3
    apply State.rxCounts_keeps
    exact h0'
  clear_value vs1_3
  have h8 : Keeps a vs2_6 := by
    unfold vs2_6
    apply State.setPoint_keeps
    exact h7
  clear_value vs2_6
  split
  · split
    · apply State.raiseSrc_keeps
      exact h8
    · exact h8
  · exact h7

theorem State.rxRun_keeps {a : State} {s0 : State} (p1 : RxFrame) (p2 : List Byte) (p3 : RxRun) (h0' : Keeps a s0) :
    Keeps a (State.rxRun s0 p1 p2 p3) := by
  unfold State.rxRun
  apply keeps_foldl
  · intro x1 x2 h3
    apply State.rxRecord_keeps
    exact h3
  · exact h0'

theorem State.tpiReceive_keeps {a : State} {s0 : State} (p1 : Bool) (p2 : List Byte) (h0' : Keeps a s0) :
    Keeps a (State.tpiReceive s0 p1 p2) := by
  unfold State.tpiReceive
  extract_lets vsrc_1 vf_2 vs1_3 vs2_4 vc_5 vsrc_6
  have h7 : Keeps a vs1_3 := by
    unfold vs1_3
    apply State.bump_keeps
    exact h0'
  clear_value vs1_3
  have h8 : Keeps a vs2_4 := by
    unfold vs2_4
    apply keeps_foldl
    · intro x9 x10 h11
      apply State.rxRun_keeps
      exact h11
    · exact h7
  clear_value vs2_4
  split
  · split
    · refine keeps_mk ?_ rfl
      exact h0'
    · split
      · split
        · refine keeps_mk ?_ rfl
          exact h8
        · exact h8
      · apply State.raiseSrc_keeps
        apply State.bump_keeps
        exact h0'
  · exact h0'

theorem State.rsOut_keeps {a : State} {s0 : State} (p1 : Bool) (p2 : RFrame) (h0' : Keeps a s0) :
    Keeps a (State.rsOut s0 p1 p2) := by
  unfold State.rsOut
  extract_lets vsrc_1
  apply State.bump_keeps
  apply State.emit_keeps
  apply State.setRsPort_keeps
  exact h0'

theorem State.linkSend_keeps {a : State} {s0 : State} (p1 : Bool) (p2 : List Byte) (h0' : Keeps a s0) :
    Keeps a (State.linkSend s0 p1 p2) := by
  unfold State.linkSend
  extract_lets vf_1
  split
  · apply State.rsLocal_keeps
    exact h0'
  · apply State.rsOut_keeps
    exact h0'

theorem State.challengeRx_keeps {a : State} {s0 : State} (p1 : Bool) (p2 : List Byte) (h0' : Keeps a s0) :
    Keeps a (State.challengeRx s0 p1 p2) := by
  unfold State.challengeRx
  extract_lets vx_1 vr_2 vhead_3 vs1_4
  have h5 : Keeps a vr_2.2 := by
    unfold vr_2
    apply State.random_keeps
    exact h0'
  have h6 : Keeps a vs1_4 := by
    unfold vs1_4
    apply State.onPort_keeps
    exact h5
  clear_value vs1_4
  split
  · exact h0'
  · split
    · apply State.linkSend_keeps
      exact h6
    · exact h0'

theorem State.authFail_keeps {a : State} {s0 : State} (p1 : Bool) (p2 : ℕ) (h0' : Keeps a s0) :
    Keeps a (State.authFail s0 p1 p2) := by
  unfold State.authFail
  extract_lets vp_1
  apply State.raiseSrc_keeps
  apply State.bump_keeps
  apply State.onPort_keeps
  exact h0'

theorem State.tryUp_keeps {a : State} {s0 : State} (p1 : Bool) (h0' : Keeps a s0) :
    Keeps a (State.tryUp s0 p1) := by
  unfold State.tryUp
  extract_lets vx_1
  split
  · apply State.ringSend_keeps
    apply State.setRsPort_keeps
    exact h0'
  · exact h0'

theorem State.responseRx_keeps {a : State} {s0 : State} (p1 : Bool) (p2 : List Byte) (h0' : Keeps a s0) :
    Keeps a (State.responseRx s0 p1 p2) := by
  unfold State.responseRx
  extract_lets vx_1 vmac_2
  dsimp only
  split
  · exact h0'
  · split
    · split
      · apply State.authFail_keeps
        exact h0'
      · split
        · apply State.authFail_keeps
          exact h0'
        · split
          · apply State.authFail_keeps
            exact h0'
          · split
            · apply State.authFail_keeps
              exact h0'
            · apply State.tryUp_keeps
              apply State.setRsPort_keeps
              exact h0'
    · exact h0'

theorem State.helloRx_keeps {a : State} {s0 : State} (p1 : Bool) (p2 : List Byte) (h0' : Keeps a s0) :
    Keeps a (State.helloRx s0 p1 p2) := by
  unfold State.helloRx
  extract_lets vx_1 vcrossed_2 vs1_3 vs2_4 vs3_5
  have h6 : Keeps a vs1_3 := by
    unfold vs1_3
    apply State.setRsPort_keeps
    exact h0'
  clear_value vs1_3
  have h7 : Keeps a vs2_4 := by
    unfold vs2_4
    split
    · apply State.raiseSrc_keeps
      exact h6
    · exact h6
  clear_value vs2_4
  have h8 : Keeps a vs3_5 := by
    unfold vs3_5
    split
    · apply State.clash_keeps
      exact h7
    · exact h7
  clear_value vs3_5
  split
  · apply State.tryUp_keeps
    exact h8
  · exact h0'

theorem State.linkRx_keeps {a : State} {s0 : State} (p1 : Bool) (p2 : RFrame) (h0' : Keeps a s0) :
    Keeps a (State.linkRx s0 p1 p2) := by
  unfold State.linkRx
  extract_lets vpdu_1
  split
  · apply State.challengeRx_keeps
    exact h0'
  · apply State.responseRx_keeps
    exact h0'
  · apply State.helloRx_keeps
    exact h0'
  · split
    · apply State.mapRx_keeps
      exact h0'
    · exact h0'
  · split
    · apply State.mapRx_keeps
      exact h0'
    · exact h0'
  · exact h0'

theorem State.reportRx_keeps {a : State} {s0 : State} (p1 : ℕ) (p2 : List Byte) (h0' : Keeps a s0) :
    Keeps a (State.reportRx s0 p1 p2) := by
  unfold State.reportRx
  extract_lets vop_1 vwhy_2 vours_3 vt_4
  have h5 : Keeps a vt_4 := by
    unfold vt_4
    apply State.showLoaded_keeps
    exact h0'
  clear_value vt_4
  dsimp only
  split
  · exact h0'
  · split
    · split
      · split
        · split
          · apply State.finishFailed_keeps
            exact h5
          · apply State.finishDone_keeps
            exact h5
        · exact h0'
      · split
        · apply State.finishFailed_keeps
          apply State.onSess_keeps
          exact h0'
        · apply State.settle_keeps
          split
          · apply State.complete_keeps
            apply State.raiseSrc_keeps
            apply State.onSess_keeps
            apply State.onSess_keeps
            exact h0'
          · apply State.raiseSrc_keeps
            apply State.onSess_keeps
            apply State.onSess_keeps
            exact h0'
        · apply State.onSess_keeps
          apply State.onSess_keeps
          exact h0'
    · split
      · split
        · apply State.setSess_keeps
          exact h0'
        · exact h0'
      · exact h0'

theorem State.serve_keeps {a : State} {s0 : State} (p1 : Bool) (h0' : Keeps a s0) :
    Keeps a (State.serve s0 p1) := by
  unfold State.serve
  extract_lets vok_1 vg_2 vd_3 vf_4 vx_5
  have h6 : Keeps a vd_3.2 := by
    unfold vd_3
    apply State.draw_keeps
    exact h0'
  split
  · apply State.pump_keeps
    apply State.sendHeader_keeps
    apply State.setSess_keeps
    exact h6
  · exact h0'

theorem State.relayFrame_keeps {a : State} {s0 : State} (p1 : Bool) (p2 : ℕ) (p3 : List Byte) (h0' : Keeps a s0) :
    Keeps a (State.relayFrame s0 p1 p2 p3) := by
  unfold State.relayFrame
  split
  · apply State.unitRx_keeps
    exact h0'
  · apply State.ackRx_keeps
    exact h0'
  · apply State.finishRx_keeps
    exact h0'
  · apply State.reportRx_keeps
    exact h0'
  · split
    · apply State.serve_keeps
      exact h0'
    · apply State.reportRx_keeps
      exact h0'
  · exact h0'

theorem State.markAdopt_keeps {a : State} {s0 : State} (p1 : ℕ) (h0' : Keeps a s0) :
    Keeps a (State.markAdopt s0 p1) := by
  unfold State.markAdopt
  extract_lets va_1
  apply State.store_keeps
  exact h0'

theorem State.relayIn_keeps {a : State} {s0 : State} (p1 : List Byte) (h0' : Keeps a s0) :
    Keeps a (State.relayIn s0 p1) := by
  unfold State.relayIn
  extract_lets vc_1 vid_2 vdata_3 vsrc_4 vs1_5 vb_6
  have h7 : Keeps a vs1_5 := by
    unfold vs1_5
    refine keeps_mk ?_ rfl
    exact h0'
  clear_value vs1_5
  split
  · split
    · split
      · apply State.markAdopt_keeps
        apply State.store_keeps
        exact h7
      · exact h0'
    · split
      · split
        · apply State.setTaskEntry_keeps
          exact h7
        · exact h0'
      · exact h0'
  · exact h0'

theorem State.beDeliver_keeps {a : State} {s0 : State} (p1 : Bool) (p2 : RFrame) (p3 : ℕ) (h0' : Keeps a s0) :
    Keeps a (State.beDeliver s0 p1 p2 p3) := by
  unfold State.beDeliver
  extract_lets vp_1 ve_2 vn_3 vbc_4 vmc_5
  split
  · apply State.bump_keeps
    exact h0'
  · split
    · exact h0'
    · split
      · apply State.rxPut_keeps
        exact h0'
      · apply State.dropEntry_keeps
        exact h0'

theorem State.rsDeliver_keeps {a : State} {s0 : State} (p1 : Bool) (p2 : RFrame) (p3 : ℕ) (h0' : Keeps a s0) :
    Keeps a (State.rsDeliver s0 p1 p2 p3) := by
  unfold State.rsDeliver
  split
  · exact h0'
  · split
    · apply State.tpiReceive_keeps
      exact h0'
    · split
      · split
        · split
          · apply State.linkRx_keeps
            exact h0'
          · apply State.relayFrame_keeps
            exact h0'
          · split
            · exact h0'
            · apply State.relayIn_keeps
              exact h0'
          · exact h0'
        · split
          · apply State.beDeliver_keeps
            exact h0'
          · exact h0'
      · split
        · exact h0'
        · apply State.beDeliver_keeps
          exact h0'

theorem State.rsRoute_keeps {a : State} {s0 : State} (p1 : Bool) (p2 : RFrame) (p3 : ℕ) (h0' : Keeps a s0) :
    Keeps a (State.rsRoute s0 p1 p2 p3) := by
  unfold State.rsRoute
  extract_lets vp_1 vs1_2
  have h3 : Keeps a vs1_2 := by
    unfold vs1_2
    split
    · apply State.rsDeliver_keeps
      exact h0'
    · exact h0'
  clear_value vs1_2
  split
  · apply State.rsReturned_keeps
    exact h0'
  · split
    · apply State.rsDeliver_keeps
      exact h0'
    · split
      · apply State.rsTransit_keeps
        exact h3
      · split
        · apply State.bump_keeps
          exact h3
        · exact h3

theorem State.rsTake_keeps {a : State} {s0 : State} (p1 : Bool) (p2 : RFrame) (p3 : ℕ) (h0' : Keeps a s0) :
    Keeps a (State.rsTake s0 p1 p2 p3) := by
  unfold State.rsTake
  split
  · apply State.rsRoute_keeps
    exact h0'
  · split
    · apply State.linkRx_keeps
      exact h0'
    · exact h0'

theorem State.setRoute_keeps {a : State} {s0 : State} (p1 : ℕ) (p2 : ℕ) (h0' : Keeps a s0) :
    Keeps a (State.setRoute s0 p1 p2) := by
  unfold State.setRoute
  extract_lets vsrc_1
  refine keeps_mk ?_ rfl
  exact h0'

theorem State.cleWrite_keeps {a : State} {s0 : State} (p1 : ℕ) (p2 : ℕ) (p3 : Word) (h0' : Keeps a s0) :
    Keeps a (State.cleWrite s0 p1 p2 p3) := by
  unfold State.cleWrite
  extract_lets vsrc_1
  split
  · apply State.violation_keeps
    exact h0'
  · split
    · split
      · apply State.setRoute_keeps
        exact h0'
      · split
        · refine keeps_mk ?_ rfl
          exact h0'
        · exact h0'
    · exact h0'

theorem lcsProvisionBody_keeps {a : State} (p0 : Bool) (p1 : Bool) (p2 : Ctx) {s3 : State} (h3' : Keeps a s3) :
    Keeps a (lcsProvisionBody p0 p1 p2 s3) := by
  unfold lcsProvisionBody
  dsimp only
  split
  · apply State.fin_keeps
    exact h3'
  · split
    · apply State.foreign_keeps
      exact h3'
    · split
      · apply State.fin_keeps
        exact h3'
      · split
        · apply State.fin_keeps
          exact h3'
        · split
          · apply State.fuseFailed_keeps
            exact h3'
          · split
            · refine keeps_mk ?_ rfl
              apply State.lcsTo_keeps
              refine keeps_mk ?_ rfl
              apply State.random_keeps
              exact h3'
            · apply State.lcsDone_keeps
              apply State.transitionRest_keeps
              apply State.lcsTo_keeps
              refine keeps_mk ?_ rfl
              apply State.random_keeps
              exact h3'

theorem keyAttestBody_keeps {a : State} (p0 : Ctx) {s1 : State} (h1' : Keeps a s1) :
    Keeps a (keyAttestBody p0 s1) := by
  unfold keyAttestBody
  dsimp only
  split
  · apply State.fin_keeps
    exact h1'
  · split
    · apply State.fin_keeps
      exact h1'
    · split
      · split
        · apply State.keyDone_keeps
          apply State.store_keeps
          apply State.draw_keeps
          exact h1'
        · apply State.fin_keeps
          exact h1'
      · apply State.fin_keeps
        exact h1'

theorem State.rsTimeout_keeps {a : State} {s0 : State} (p1 : Bool) (p2 : ℕ) (h0' : Keeps a s0) :
    Keeps a (State.rsTimeout s0 p1 p2) := by
  unfold State.rsTimeout
  extract_lets vst_1
  split
  · apply State.rsNarrow_keeps
    apply State.onPort_keeps
    exact h0'
  · split
    · apply State.authFail_keeps
      exact h0'
    · exact h0'

theorem keeps_ite {a x y : State} {c : Prop} [Decidable c] (hx : Keeps a x) (hy : Keeps a y) :
    Keeps a (if c then x else y) := by
  split
  · exact hx
  · exact hy

theorem loopStartBody_keeps {a : State} (p0 : Bool) (p1 : Ctx) {s2 : State} (h2' : Keeps a s2) :
    Keeps a (loopStartBody p0 p1 s2) := by
  unfold loopStartBody
  extract_lets l role x b d todo chan cold s1 y
  have h1 : Keeps a s1 := keeps_foldl (fun _ _ h => State.makeRole_keeps _ _ _ _ _ _ _ h) _ h2'
  clear_value s1
  exact keeps_ite (State.fin_keeps _ _ _ _ _ h2')
    (keeps_ite (State.fin_keeps _ _ _ _ _ (State.raiseSrc_keeps _ _ h2'))
    (keeps_ite (State.foreign_keeps _ h2')
    (keeps_ite (State.fin_keeps _ _ _ _ _ h2')
    (keeps_ite (State.fin_keeps _ _ _ _ _ h2')
    (keeps_ite (State.fin_keeps _ _ _ _ _ h2')
    (keeps_ite (State.fin_keeps _ _ _ _ _ h2')
    (keeps_ite (State.fin_keeps _ _ _ _ _ h2')
    (keeps_ite (State.fin_keeps _ _ _ _ _ h2')
    (keeps_ite (State.fin_keeps _ _ _ _ _ h2')
    (State.fin_keeps _ _ _ _ _ h1))))))))))

theorem loopHandoverBody_keeps {a : State} (p0 : Ctx) {s1 : State} (h1' : Keeps a s1) :
    Keeps a (loopHandoverBody p0 s1) := by
  unfold loopHandoverBody
  extract_lets vl_1 vx_2
  split
  · apply State.foreign_keeps
    exact h1'
  · split
    · apply State.fin_keeps
      exact h1'
    · split
      · apply State.fin_keeps
        exact h1'
      · apply State.setLoop_keeps
        exact h1'

theorem State.lcIssue_keeps {a : State} {s0 : State} (p1 : LcOp) (h0' : Keeps a s0) :
    Keeps a (State.lcIssue s0 p1) := by
  unfold State.lcIssue
  extract_lets vop_1 vrole_2 vargs_3 vs1_4 vc_5
  have h6 : Keeps a vs1_4 := by
    unfold vs1_4
    apply State.setSlot_keeps
    exact h0'
  clear_value vs1_4
  split
  · apply loopStartBody_keeps
    exact h6
  · split
    · apply loopHandoverBody_keeps
      exact h6
    · apply loopStopBody_keeps
      exact h6

theorem noOpBody_keeps {a : State} (p0 : Ctx) {s1 : State} (h1' : Keeps a s1) :
    Keeps a (noOpBody p0 s1) := by
  unfold noOpBody
  apply State.fin_keeps
  exact h1'

theorem State.evalRetain_keeps {a : State} {s0 : State} (h0' : Keeps a s0) :
    Keeps a (State.evalRetain s0) := by
  unfold State.evalRetain
  extract_lets vsrc_1
  refine keeps_mk ?_ rfl
  exact h0'

theorem sysRestartBody_keeps {a : State} (p0 : Ctx) {s1 : State} (h1' : Keeps a s1) :
    Keeps a (sysRestartBody p0 s1) := by
  unfold sysRestartBody
  extract_lets vkind_1 vs1_2 vv_3 vs2_4 vsrc_5
  have h6 : Keeps a vs1_2 := by
    unfold vs1_2
    apply State.evalRetain_keeps
    exact h1'
  clear_value vs1_2
  have h7 : Keeps a vs2_4 := by
    unfold vs2_4
    split
    · apply State.raiseSrc_keeps
      exact h6
    · exact h6
  clear_value vs2_4
  split
  · apply State.fin_keeps
    exact h1'
  · split
    · apply State.foreign_keeps
      exact h1'
    · split
      · apply State.fin_keeps
        exact h1'
      · split
        · apply State.fin_keeps
          exact h1'
        · split
          · apply State.fin_keeps
            exact h6
          · refine keeps_mk ?_ rfl
            exact h7

theorem State.whenRs_keeps {a : State} {s0 : State} {p1 : State → State} (h0' : Keeps a s0) (h1' : ∀ y0 (_ : Keeps a y0), Keeps a (p1 y0)) :
    Keeps a (State.whenRs s0 p1) := by
  unfold State.whenRs
  split
  · apply h1'
    exact h0'
  · exact h0'

theorem State.nonceFor_keeps {a : State} {s0 : State} (p1 : Bool) (h0' : Keeps a s0) :
    Keeps a (State.nonceFor s0 p1) := by
  unfold State.nonceFor
  extract_lets vr_1
  have h2 : Keeps a vr_1.2 := by
    unfold vr_1
    apply State.random_keeps
    exact h0'
  split
  · apply State.onPort_keeps
    exact h2
  · exact h0'

theorem State.authSend_keeps {a : State} {s0 : State} (p1 : Bool) (h0' : Keeps a s0) :
    Keeps a (State.authSend s0 p1) := by
  unfold State.authSend
  extract_lets vs1_1 vs2_2
  have h3 : Keeps a vs1_1 := by
    unfold vs1_1
    apply State.nonceFor_keeps
    exact h0'
  clear_value vs1_1
  have h4 : Keeps a vs2_2 := by
    unfold vs2_2
    split
    · exact h3
    · apply State.linkSend_keeps
      exact h3
  clear_value vs2_2
  apply State.linkSend_keeps
  exact h4

theorem State.helloSend_keeps {a : State} {s0 : State} (h0' : Keeps a s0) :
    Keeps a (State.helloSend s0) := by
  unfold State.helloSend
  dsimp only
  apply keeps_foldl
  · intro x1 x2 h3
    split
    · apply State.linkSend_keeps
      exact h3
    · split
      · apply State.authSend_keeps
        exact h3
      · exact h3
  · exact h0'

theorem State.hatstandBeat_keeps {a : State} {s0 : State} (h0' : Keeps a s0) :
    Keeps a (State.hatstandBeat s0) := by
  unfold State.hatstandBeat
  extract_lets vsrc_1
  refine keeps_mk ?_ rfl
  exact h0'

theorem State.resetWrite_keeps {a : State} {s0 : State} (p1 : ℕ) (p2 : Word) (h0' : Keeps a s0) :
    Keeps a (State.resetWrite s0 p1 p2) := by
  unfold State.resetWrite
  split
  · apply State.moduleReset_keeps
    exact h0'
  · exact h0'

theorem State.readRecord_keeps {a : State} {s0 : State} (p1 : Bool) (h0' : Keeps a s0) :
    Keeps a (State.readRecord s0 p1) := by
  unfold State.readRecord
  extract_lets vsrc_1 vr_2 vsrc_3 vs1_4 vs2_5 vsrc_6 vsrc_7 vs3_8
  have h9 : Keeps a vs1_4 := by
    unfold vs1_4
    split
    · apply State.setReg_keeps
      exact h0'
    · apply State.raiseSrc_keeps
      refine keeps_mk ?_ rfl
      exact h0'
  clear_value vs1_4
  have h10 : Keeps a vs2_5 := by
    unfold vs2_5
    apply State.setReg_keeps
    exact h9
  clear_value vs2_5
  have h11 : Keeps a vs3_8 := by
    unfold vs3_8
    refine keeps_mk ?_ rfl
    exact h10
  clear_value vs3_8
  split
  · apply State.raiseSrc_keeps
    exact h11
  · exact h11

theorem State.selftested_keeps {a : State} {s0 : State} (p1 : List ℕ) (p2 : Bool) (h0' : Keeps a s0) :
    Keeps a (State.selftested s0 p1 p2) := by
  unfold State.selftested
  extract_lets vs1_1 vf_2 vsrc_3 vsrc_4 vs2_5
  have h6 : Keeps a vs1_1 := by
    unfold vs1_1
    apply State.readRecord_keeps
    exact h0'
  clear_value vs1_1
  have h7 : Keeps a vs2_5 := by
    unfold vs2_5
    refine keeps_mk ?_ rfl
    exact h6
  clear_value vs2_5
  split
  · split
    · exact h7
    · apply State.raiseSrc_keeps
      exact h7
  · exact h0'

theorem fltSaveBody_keeps {a : State} (p0 : Ctx) {s1 : State} (h1' : Keeps a s1) :
    Keeps a (fltSaveBody p0 s1) := by
  unfold fltSaveBody
  split
  · apply State.foreign_keeps
    exact h1'
  · split
    · apply State.fin_keeps
      exact h1'
    · apply State.journalAdd_keeps
      exact h1'

theorem keyDestroyBody_keeps {a : State} (p0 : Ctx) {s1 : State} (h1' : Keeps a s1) :
    Keeps a (keyDestroyBody p0 s1) := by
  unfold keyDestroyBody
  extract_lets vn_1
  split
  · apply State.fin_keeps
    exact h1'
  · split
    · apply State.foreign_keeps
      exact h1'
    · split
      · apply State.fin_keeps
        exact h1'
      · apply State.keyDone_keeps
        apply State.setHandle_keeps
        exact h1'

theorem State.policyWrite_keeps {a : State} {s0 : State} (p1 : Word) (h0' : Keeps a s0) :
    Keeps a (State.policyWrite s0 p1) := by
  unfold State.policyWrite
  extract_lets vkind_1 vs1_2 vsrc_3 vsrc_4
  have h5 : Keeps a vs1_2 := by
    unfold vs1_2
    apply State.setReg_keeps
    exact h0'
  clear_value vs1_2
  refine keeps_mk ?_ rfl
  exact h5

theorem State.rootBack_keeps {a : State} {s0 : State} (h0' : Keeps a s0) :
    Keeps a (State.rootBack s0) := by
  unfold State.rootBack
  extract_lets vsrc_1
  refine keeps_mk ?_ rfl
  exact h0'

theorem State.slotTimeout_keeps {a : State} {s0 : State} (p1 : ℕ) (h0' : Keeps a s0) :
    Keeps a (State.slotTimeout s0 p1) := by
  unfold State.slotTimeout
  split
  · apply State.freeSlot_keeps
    exact h0'
  · exact h0'

theorem State.mismatch_keeps {a : State} {s0 : State} (p1 : Bool) (p2 : ℕ) (p3 : ℕ) (p4 : ℕ) (p5 : ℕ) (p6 : ℕ) (h0' : Keeps a s0) :
    Keeps a (State.mismatch s0 p1 p2 p3 p4 p5 p6) := by
  unfold State.mismatch
  extract_lets vs1_1 vt_2 vsrc_3 vsrc_4 vsrc_5
  have h6 : Keeps a vs1_1 := by
    unfold vs1_1
    apply State.raiseSrc_keeps
    apply State.bump_keeps
    exact h0'
  clear_value vs1_1
  refine keeps_mk ?_ rfl
  exact h6

theorem vbmReadBody_keeps {a : State} (p0 : Ctx) {s1 : State} (h1' : Keeps a s1) :
    Keeps a (vbmReadBody p0 s1) := by
  unfold vbmReadBody
  extract_lets vv_1 vs1_2
  have h3 : Keeps a vs1_2 := by
    unfold vs1_2
    split
    · refine keeps_mk ?_ rfl
      exact h1'
    · exact h1'
  clear_value vs1_2
  split
  · apply State.foreign_keeps
    exact h1'
  · apply State.done_keeps
    exact h3

theorem cdyIdentBody_keeps {a : State} (p0 : Ctx) {s1 : State} (h1' : Keeps a s1) :
    Keeps a (cdyIdentBody p0 s1) := by
  unfold cdyIdentBody
  dsimp only
  apply State.cdyCheck_keeps
  · exact h1'
  · apply State.cdyHand_keeps
    exact h1'

theorem State.claimTx_keeps {a : State} {s0 : State} (p1 : ℕ) (p2 : GroupRow) (h0' : Keeps a s0) :
    Keeps a (State.claimTx s0 p1 p2) := by
  unfold State.claimTx
  extract_lets vg_1 vcmd_2 vlate_3 vg1_4
  split
  · apply State.claimFail_keeps
    exact h0'
  · split
    · split
      · apply State.claimFail_keeps
        exact h0'
      · apply State.groupIdle_keeps
        exact h0'
    · apply State.groupTx_keeps
      apply State.setGroup_keeps
      exact h0'

theorem State.sevWrite_keeps {a : State} {s0 : State} (p1 : ℕ) (p2 : ℕ) (h0' : Keeps a s0) :
    Keeps a (State.sevWrite s0 p1 p2) := by
  unfold State.sevWrite
  extract_lets vw_1 vsrc_2
  split
  · refine keeps_mk ?_ rfl
    exact h0'
  · exact h0'

theorem State.powerCycle_keeps {a : State} {s0 : State} (p1 : Stage) (p2 : Mode) (p3 : ℕ) (h0' : Keeps a s0) :
    Keeps a (s0.powerCycle p1 p2 p3) := by
  unfold State.powerCycle
  exact Keeps.step h0' rfl rfl (fun _ => rfl) (fun _ => rfl) (Nat.le_refl _) (fun x => x)

theorem State.dark_keeps {a : State} {s0 : State} (h0' : Keeps a s0) :
    Keeps a (State.dark s0) := by
  unfold State.dark
  split
  · exact h0'
  · apply State.powerCycle_keeps
    exact h0'

theorem updBeginBody_keeps {a : State} (p0 : Ctx) {s1 : State} (h1' : Keeps a s1) :
    Keeps a (updBeginBody p0 s1) := by
  unfold updBeginBody
  extract_lets va_1 vh_2 vn_3 vrelay_4 vl_5 vwhy_6 vimg_7 vd_8 vwest_9 vf_10 vx_11 vs1_12
  have h13 : Keeps a vd_8.2 := by
    unfold vd_8
    apply State.draw_keeps
    exact h1'
  have h14 : Keeps a vs1_12 := by
    unfold vs1_12
    apply State.openSlot_keeps
    split
    · exact h13
    · exact h1'
  clear_value vs1_12
  split
  · apply State.fin_keeps
    exact h1'
  · split
    · apply State.foreign_keeps
      exact h1'
    · split
      · apply State.fin_keeps
        exact h1'
      · split
        · apply State.fin_keeps
          exact h1'
        · split
          · apply State.fin_keeps
            exact h1'
          · split
            · apply State.fin_keeps
              exact h1'
            · apply State.sendHeader_keeps
              apply State.setSess_keeps
              exact h14

theorem State.cupFree_keeps {a : State} {s0 : State} (p1 : ℕ) (p2 : ℕ) (h0' : Keeps a s0) :
    Keeps a (State.cupFree s0 p1 p2) := by
  unfold State.cupFree
  apply State.cupsTake_keeps
  apply State.setCup_keeps
  exact h0'

theorem State.growDeque_keeps {a : State} {s0 : State} (p1 : ℕ) (p2 : ℕ) (p3 : List DqEntry) (h0' : Keeps a s0) :
    Keeps a (State.growDeque s0 p1 p2 p3) := by
  unfold State.growDeque
  extract_lets vs1_1
  have h2 : Keeps a vs1_1 := by
    unfold vs1_1
    apply State.setDeque_keeps
    exact h0'
  clear_value vs1_1
  split
  · apply State.setReg_keeps
    exact h2
  · exact h2

theorem State.cupRetry_keeps {a : State} {s0 : State} (p1 : ℕ) (p2 : ℕ) (p3 : DqEntry) (h0' : Keeps a s0) :
    Keeps a (State.cupRetry s0 p1 p2 p3) := by
  unfold State.cupRetry
  extract_lets vh_1
  apply State.cupFree_keeps
  apply State.growDeque_keeps
  exact h0'

theorem State.cupTimeout_keeps {a : State} {s0 : State} (p1 : ℕ) (p2 : ℕ) (p3 : ℕ) (h0' : Keeps a s0) :
    Keeps a (State.cupTimeout s0 p1 p2 p3) := by
  unfold State.cupTimeout
  dsimp only
  split
  · exact h0'
  · apply State.cupRetry_keeps
    apply State.raiseSrc_keeps
    apply State.addBusy_keeps
    apply State.bumpBy_keeps
    exact h0'

theorem State.takeSpoilt_keeps {a : State} {s0 : State} (p1 : ℕ) (h0' : Keeps a s0) :
    Keeps a (State.takeSpoilt s0 p1) := by
  unfold State.takeSpoilt
  extract_lets vn_1
  split
  · split
    apply State.complete_keeps
    apply State.queueEcc_keeps
    apply State.alloc_keeps
    apply State.consume_keeps
    refine keeps_of_snd (by assumption) ?_
    apply State.draw_keeps
    exact h0'
  · exact h0'

theorem nopBody_keeps {a : State} (p0 : Ctx) {s1 : State} (h1' : Keeps a s1) :
    Keeps a (nopBody p0 s1) := by
  unfold nopBody
  apply State.done_keeps
  exact h1'

theorem queueCreateBody_keeps {a : State} (p0 : Ctx) {s1 : State} (h1' : Keeps a s1) :
    Keeps a (queueCreateBody p0 s1) := by
  unfold queueCreateBody
  extract_lets vq_1 vkind_2 vpair_3 vsrc_4 vframed_5 vx_6 vsrc_7 vs1_8
  have h9 : Keeps a vs1_8 := by
    unfold vs1_8
    refine keeps_mk ?_ rfl
    exact h1'
  clear_value vs1_8
  split
  · apply State.fin_keeps
    exact h1'
  · split
    · apply State.foreign_keeps
      exact h1'
    · split
      · apply State.fin_keeps
        apply State.queueChecked_keeps
        exact h1'
      · apply State.done_keeps
        apply State.setQueue_keeps
        exact h9

theorem State.queueGone_keeps {a : State} {s0 : State} (p1 : ℕ) (h0' : Keeps a s0) :
    Keeps a (State.queueGone s0 p1) := by
  unfold State.queueGone
  extract_lets vs1_1 vsrc_2
  have h3 : Keeps a vs1_1 := by
    unfold vs1_1
    apply State.setQueue_keeps
    exact h0'
  clear_value vs1_1
  dsimp only
  refine keeps_mk ?_ rfl
  exact h3

theorem queueDestroyBody_keeps {a : State} (p0 : Ctx) {s1 : State} (h1' : Keeps a s1) :
    Keeps a (queueDestroyBody p0 s1) := by
  unfold queueDestroyBody
  extract_lets vq_1
  split
  · apply State.foreign_keeps
    exact h1'
  · split
    · apply State.fin_keeps
      exact h1'
    · apply State.done_keeps
      apply State.queueGone_keeps
      apply State.queueChecked_keeps
      exact h1'

theorem State.claimAtEntry_keeps {a : State} {s0 : State} (h0' : Keeps a s0) :
    Keeps a (State.claimAtEntry s0) := by
  unfold State.claimAtEntry
  extract_lets vown_1 vc_2 vs1_3 vsrc_4 vsrc_5
  have h6 : Keeps a vs1_3 := by
    unfold vs1_3
    dsimp only
    apply keeps_foldl
    · intro x7 x8 h9
      split
      · exact h9
      · apply State.setGroup_keeps
        exact h9
    · exact h0'
  clear_value vs1_3
  split
  · refine keeps_mk ?_ rfl
    exact h6
  · refine keeps_mk ?_ rfl
    exact h0'

theorem State.enterRun_keeps {a : State} {s0 : State} (h0' : Keeps a s0) :
    Keeps a (State.enterRun s0) := by
  unfold State.enterRun
  extract_lets vs1_1 vsrc_2
  have h3 : Keeps a vs1_1 := by
    unfold vs1_1
    apply State.setMode_keeps
    exact h0'
  clear_value vs1_1
  apply State.claimAtEntry_keeps
  refine keeps_mk ?_ rfl
  exact h3

theorem sysEnterRunBody_keeps {a : State} (p0 : Ctx) {s1 : State} (h1' : Keeps a s1) :
    Keeps a (sysEnterRunBody p0 s1) := by
  unfold sysEnterRunBody
  extract_lets vs1_1
  have h2 : Keeps a vs1_1 := by
    unfold vs1_1
    apply State.enterRun_keeps
    exact h1'
  clear_value vs1_1
  split
  · apply State.foreign_keeps
    exact h1'
  · split
    · apply State.fin_keeps
      exact h1'
    · split
      · apply State.fin_keeps
        exact h1'
      · apply State.fin_keeps
        exact h2

theorem State.enterQuiet_keeps {a : State} {s0 : State} (p1 : Mode) (h0' : Keeps a s0) :
    Keeps a (State.enterQuiet s0 p1) := by
  unfold State.enterQuiet
  split
  · exact h0'
  · apply State.setMode_keeps
    apply State.abortWhere_keeps
    exact h0'

theorem State.enterCommission_keeps {a : State} {s0 : State} (h0' : Keeps a s0) :
    Keeps a (State.enterCommission s0) := by
  unfold State.enterCommission
  extract_lets vs1_1 vsrc_2
  have h3 : Keeps a vs1_1 := by
    unfold vs1_1
    apply State.enterQuiet_keeps
    apply State.releaseAll_keeps
    exact h0'
  clear_value vs1_1
  refine keeps_mk ?_ rfl
  exact h3

theorem sysEnterCommissionBody_keeps {a : State} (p0 : Ctx) {s1 : State} (h1' : Keeps a s1) :
    Keeps a (sysEnterCommissionBody p0 s1) := by
  unfold sysEnterCommissionBody
  split
  · apply State.foreign_keeps
    exact h1'
  · split
    · apply State.fin_keeps
      exact h1'
    · split
      · apply State.fin_keeps
        exact h1'
      · apply State.done_keeps
        apply State.enterCommission_keeps
        exact h1'

theorem sysEnterSafeBody_keeps {a : State} (p0 : Ctx) {s1 : State} (h1' : Keeps a s1) :
    Keeps a (sysEnterSafeBody p0 s1) := by
  unfold sysEnterSafeBody
  split
  · apply State.foreign_keeps
    exact h1'
  · split
    · apply State.fin_keeps
      exact h1'
    · split
      · apply State.fin_keeps
        exact h1'
      · apply State.done_keeps
        apply State.enterSafe_keeps
        exact h1'

theorem cfgSaveBody_keeps {a : State} (p0 : Ctx) {s1 : State} (h1' : Keeps a s1) :
    Keeps a (cfgSaveBody p0 s1) := by
  unfold cfgSaveBody
  split
  · apply State.foreign_keeps
    exact h1'
  · split
    · apply State.fin_keeps
      exact h1'
    · split
      · apply State.fin_keeps
        exact h1'
      · apply State.journalAdd_keeps
        exact h1'

theorem State.setGlove_keeps {a : State} {s0 : State} (p1 : ℕ) (p2 : Glove) (h0' : Keeps a s0) :
    Keeps a (State.setGlove s0 p1 p2) := by
  unfold State.setGlove
  extract_lets vsrc_1
  refine keeps_mk ?_ rfl
  exact h0'

theorem State.assign_keeps {a : State} {s0 : State} (p1 : ℕ) (h0' : Keeps a s0) :
    Keeps a (State.assign s0 p1) := by
  unfold State.assign
  apply State.pulse_keeps
  exact h0'

theorem State.cfgNow_keeps {a : State} {s0 : State} (p1 : CfgEdit) (h0' : Keeps a s0) :
    Keeps a (State.cfgNow s0 p1) := by
  unfold State.cfgNow
  extract_lets vsrc_1
  refine keeps_mk ?_ rfl
  exact h0'

theorem gloveSetBody_keeps {a : State} (p0 : Ctx) {s1 : State} (h1' : Keeps a s1) :
    Keeps a (gloveSetBody p0 s1) := by
  unfold gloveSetBody
  extract_lets vn_1 vact_2 ve_3 vbase_4 vsize_5 vquota_6 vr_7 ve1_8 vs1_9 vs2_10 vs3_11
  have h12 : Keeps a vs1_9 := by
    unfold vs1_9
    apply State.setGlove_keeps
    exact h1'
  clear_value vs1_9
  have h13 : Keeps a vs2_10 := by
    unfold vs2_10
    split
    · exact h12
    · apply State.assign_keeps
      exact h12
  clear_value vs2_10
  have h14 : Keeps a vs3_11 := by
    unfold vs3_11
    apply State.cfgNow_keeps
    exact h13
  clear_value vs3_11
  split
  · apply State.fin_keeps
    exact h1'
  · split
    · apply State.foreign_keeps
      exact h1'
    · split
      · apply State.fin_keeps
        exact h1'
      · split
        · apply State.fin_keeps
          exact h1'
        · apply State.fin_keeps
          exact h14

theorem gloveQblockBody_keeps {a : State} (p0 : Ctx) {s1 : State} (h1' : Keeps a s1) :
    Keeps a (gloveQblockBody p0 s1) := by
  unfold gloveQblockBody
  extract_lets vb_1 vn_2 vold_3 vsrc_4 vs1_5 vs2_6
  have h7 : Keeps a vs1_5 := by
    unfold vs1_5
    refine keeps_mk ?_ rfl
    exact h1'
  clear_value vs1_5
  have h8 : Keeps a vs2_6 := by
    unfold vs2_6
    split
    · exact h7
    · apply State.assign_keeps
      apply State.assign_keeps
      exact h7
  clear_value vs2_6
  split
  · apply State.foreign_keeps
    exact h1'
  · split
    · apply State.fin_keeps
      exact h1'
    · apply State.done_keeps
      apply State.cfgNow_keeps
      exact h8

theorem wf_mapGive {m : List Host.Cell} (h : Memory.wf m = true) (g base : ℕ) : Memory.wf (mapGive g base m) = true := by
  unfold mapGive
  refine Sparse.wf_foldl (d := memDflt) _ (fun b k y => ?_) _ _ h
  dsimp only
  split
  · exact Memory.wf_wrLE y _ _ _
  · exact y

theorem State.giveUp_keeps {a : State} {s0 : State} (p1 : ℕ) (h0' : Keeps a s0) : Keeps a (s0.giveUp p1) := by
  unfold State.giveUp
  extract_lets base s1 mem1 x1 x2 x3 x4 x5
  have h1 : Keeps a s1 := by
    unfold s1
    apply keeps_foldl
    · intro b e h
      exact State.setReg_keeps _ _ _ (State.setReg_keeps _ _ _ h)
    · exact h0'
  exact Keeps.step h1 rfl rfl
    (fun x => wf_mapGive (Sparse.wf_foldl (d := memDflt) _ (fun _ _ y => Memory.wf_wr8 y _ _) _ _ x) _ _) (fun x => x)
    (Nat.le_refl _) (fun x => x)

theorem gloveReclaimBody_keeps {a : State} (p0 : Ctx) {s1 : State} (h1' : Keeps a s1) :
    Keeps a (gloveReclaimBody p0 s1) := by
  unfold gloveReclaimBody
  extract_lets vn_1 vsrc_2 vs1_3 vs2_4 vqs_5 vs3_6 vmoved_7 vs4_8 vs5_9 vsrc_10 vsrc_11
  have h12 : Keeps a vs1_3 := by
    unfold vs1_3
    apply State.assign_keeps
    apply State.setGlove_keeps
    exact h1'
  clear_value vs1_3
  have h13 : Keeps a vs2_4 := by
    unfold vs2_4
    apply State.abortWhere_keeps
    exact h12
  clear_value vs2_4
  have h14 : Keeps a vs3_6 := by
    unfold vs3_6
    apply keeps_foldl
    · intro x15 x16 h17
      apply State.queueGone_keeps
      exact h17
    · exact h13
  clear_value vs3_6
  have h18 : Keeps a vs4_8 := by
    unfold vs4_8
    split
    · apply State.giveUp_keeps
      exact h14
    · apply State.assign_keeps
      apply State.giveUp_keeps
      exact h14
  clear_value vs4_8
  have h19 : Keeps a vs5_9 := by
    unfold vs5_9
    apply State.cfgNow_keeps
    exact h18
  clear_value vs5_9
  split
  · apply State.fin_keeps
    exact h1'
  · split
    · apply State.foreign_keeps
      exact h1'
    · split
      · apply State.fin_keeps
        exact h1'
      · split
        · apply State.fin_keeps
          exact h1'
        · refine keeps_mk ?_ rfl
          exact h19

theorem loopReadBody_keeps {a : State} (p0 : Ctx) {s1 : State} (h1' : Keeps a s1) :
    Keeps a (loopReadBody p0 s1) := by
  unfold loopReadBody
  extract_lets vl_1 vsrc_2 vr_3
  split
  · apply State.fin_keeps
    exact h1'
  · split
    · apply State.foreign_keeps
      exact h1'
    · split
      · apply State.fin_keeps
        exact h1'
      · split
        · apply State.done_keeps
          apply State.store_keeps
          exact h1'
        · split
          · apply State.done_keeps
            apply State.store_keeps
            exact h1'
          · apply State.done_keeps
            exact h1'

theorem loopQueryBody_keeps {a : State} (p0 : Ctx) {s1 : State} (h1' : Keeps a s1) :
    Keeps a (loopQueryBody p0 s1) := by
  unfold loopQueryBody
  extract_lets vl_1 vx_2 vo_3 vlead_4 vf_5
  split
  · apply State.foreign_keeps
    exact h1'
  · apply State.done_keeps
    exact h1'

theorem chSelftestBody_keeps {a : State} (p0 : Ctx) {s1 : State} (h1' : Keeps a s1) :
    Keeps a (chSelftestBody p0 s1) := by
  unfold chSelftestBody
  extract_lets vn_1 vsrc_2
  split
  · apply State.foreign_keeps
    exact h1'
  · split
    · apply State.fin_keeps
      exact h1'
    · split
      · apply State.fin_keeps
        exact h1'
      · refine keeps_mk ?_ rfl
        exact h1'

theorem chFenceBody_keeps {a : State} (p0 : Ctx) {s1 : State} (h1' : Keeps a s1) :
    Keeps a (chFenceBody p0 s1) := by
  unfold chFenceBody
  extract_lets vn_1 vs1_2
  have h3 : Keeps a vs1_2 := by
    unfold vs1_2
    apply State.fence_keeps
    exact h1'
  clear_value vs1_2
  split
  · apply State.foreign_keeps
    exact h1'
  · split
    · apply State.fin_keeps
      exact h1'
    · split
      · apply State.fin_keeps
        exact h1'
      · apply State.done_keeps
        exact h3

theorem lseClaimBody_keeps {a : State} (p0 : Ctx) {s1 : State} (h1' : Keeps a s1) :
    Keeps a (lseClaimBody p0 s1) := by
  unfold lseClaimBody
  extract_lets vi_1 vall_2 vgl_3 vgs_4 vms_5 vcmd_6 vsrc_7 vs1_8
  have h9 : Keeps a vs1_8 := by
    unfold vs1_8
    refine keeps_mk ?_ rfl
    exact h1'
  clear_value vs1_8
  dsimp only
  split
  · apply State.fin_keeps
    exact h1'
  · split
    · apply State.foreign_keeps
      exact h1'
    · split
      · apply State.fin_keeps
        exact h1'
      · split
        · apply State.fin_keeps
          exact h1'
        · split
          · apply State.done_keeps
            exact h1'
          · apply keeps_foldl
            · intro x10 x11 h12
              apply State.setGroup_keeps
              exact h12
            · exact h9

theorem lseUnadoptBody_keeps {a : State} (p0 : Ctx) {s1 : State} (h1' : Keeps a s1) :
    Keeps a (lseUnadoptBody p0 s1) := by
  unfold lseUnadoptBody
  extract_lets vgs_1 vn_2 vs1_3 vs2_4 vsrc_5
  have h6 : Keeps a vs1_3 := by
    unfold vs1_3
    dsimp only
    apply keeps_foldl
    · intro x7 x8 h9
      split
      · apply State.setGroup_keeps
        exact h9
      · split
        · split
          · apply State.claimFail_keeps
            exact h9
          · apply State.setGroup_keeps
            exact h9
        · exact h9
    · exact h1'
  clear_value vs1_3
  have h10 : Keeps a vs2_4 := by
    unfold vs2_4
    apply State.endAdopt_keeps
    exact h6
  clear_value vs2_4
  split
  · apply State.foreign_keeps
    exact h1'
  · split
    · apply State.fin_keeps
      exact h1'
    · split
      · apply State.done_keeps
        exact h10
      · refine keeps_mk ?_ rfl
        exact h10

end Sys2Proof.Machine
end

