-- ==== Sys2Proof/Laws/Keeps5.lean ====
section
/-! SUPPORT. Every operation keeps what `Keeps` says, part 5: one lemma per operation, in the order of their use. -/

namespace Sys2Proof.Machine

theorem lseQueryBody_keeps {a : State} (p0 : Ctx) {s1 : State} (h1' : Keeps a s1) :
    Keeps a (lseQueryBody p0 s1) := by
  unfold lseQueryBody
  extract_lets vi_1 vg_2
  split
  · apply State.fin_keeps
    exact h1'
  · split
    · apply State.foreign_keeps
      exact h1'
    · apply State.done_keeps
      exact h1'

theorem lseWarmTaskBody_keeps {a : State} (p0 : Ctx) {s1 : State} (h1' : Keeps a s1) :
    Keeps a (lseWarmTaskBody p0 s1) := by
  unfold lseWarmTaskBody
  extract_lets vt_1 va_2
  split
  · apply State.fin_keeps
    exact h1'
  · split
    · apply State.foreign_keeps
      exact h1'
    · split
      · apply State.fin_keeps
        exact h1'
      · apply State.done_keeps
        apply State.setTaskEntry_keeps
        exact h1'

theorem cdyLogReadBody_keeps {a : State} (p0 : Ctx) {s1 : State} (h1' : Keeps a s1) :
    Keeps a (cdyLogReadBody p0 s1) := by
  unfold cdyLogReadBody
  extract_lets vn_1
  dsimp only
  apply State.cdyCheck_keeps
  · exact h1'
  · apply State.cdyHand_keeps
    apply State.draw_keeps
    exact h1'

theorem cdySnapshotBody_keeps {a : State} (p0 : Ctx) {s1 : State} (h1' : Keeps a s1) :
    Keeps a (cdySnapshotBody p0 s1) := by
  unfold cdySnapshotBody
  apply State.cdyCheck_keeps
  · exact h1'
  · apply State.cdyHand_keeps
    exact h1'

theorem State.cdyJournal_keeps {a : State} {s0 : State} (p1 : Ctx) (p2 : CfgEdit) (h0' : Keeps a s0) :
    Keeps a (State.cdyJournal s0 p1 p2) := by
  unfold State.cdyJournal
  split
  · apply State.fin_keeps
    exact h0'
  · split
    · apply State.fin_keeps
      exact h0'
    · split
      · apply State.cdyHand_keeps
        exact h0'
      · apply State.journalAdd_keeps
        exact h0'

theorem cdyViewSetBody_keeps {a : State} (p0 : Ctx) {s1 : State} (h1' : Keeps a s1) :
    Keeps a (cdyViewSetBody p0 s1) := by
  unfold cdyViewSetBody
  extract_lets vk_1 vg_2
  apply State.cdyCheck_keeps
  · exact h1'
  · apply State.cdyJournal_keeps
    exact h1'

theorem cdyPublishBody_keeps {a : State} (p0 : Ctx) {s1 : State} (h1' : Keeps a s1) :
    Keeps a (cdyPublishBody p0 s1) := by
  unfold cdyPublishBody
  extract_lets vbase_1
  apply State.cdyCheck_keeps
  · exact h1'
  · apply State.cdyJournal_keeps
    exact h1'

theorem cdyCommitBody_keeps {a : State} (p0 : Ctx) {s1 : State} (h1' : Keeps a s1) :
    Keeps a (cdyCommitBody p0 s1) := by
  unfold cdyCommitBody
  apply State.cdyCheck_keeps
  · exact h1'
  · apply State.cdyHand_keeps
    exact h1'

theorem cdyHarmonicsBody_keeps {a : State} (p0 : Ctx) {s1 : State} (h1' : Keeps a s1) :
    Keeps a (cdyHarmonicsBody p0 s1) := by
  unfold cdyHarmonicsBody
  extract_lets vk_1
  apply State.cdyCheck_keeps
  · exact h1'
  · apply State.cdyHand_keeps
    exact h1'

theorem cdyParamLoadBody_keeps {a : State} (p0 : Bool) (p1 : Ctx) {s2 : State} (h2' : Keeps a s2) :
    Keeps a (cdyParamLoadBody p0 p1 s2) := by
  unfold cdyParamLoadBody
  apply State.cdyCheck_keeps
  · exact h2'
  · apply State.cdyHand_keeps
    exact h2'

theorem cdyParamReadBody_keeps {a : State} (p0 : Ctx) {s1 : State} (h1' : Keeps a s1) :
    Keeps a (cdyParamReadBody p0 s1) := by
  unfold cdyParamReadBody
  apply State.cdyCheck_keeps
  · exact h1'
  · apply State.cdyHand_keeps
    exact h1'

theorem cdyPilotStatusBody_keeps {a : State} (p0 : Ctx) {s1 : State} (h1' : Keeps a s1) :
    Keeps a (cdyPilotStatusBody p0 s1) := by
  unfold cdyPilotStatusBody
  extract_lets vi_1
  dsimp only
  apply State.cdyCheck_keeps
  · exact h1'
  · apply State.cdyHand_keeps
    exact h1'

theorem cdyCalBody_keeps {a : State} (p0 : Ctx) {s1 : State} (h1' : Keeps a s1) :
    Keeps a (cdyCalBody p0 s1) := by
  unfold cdyCalBody
  extract_lets vi_1 vn_2 vforced_3
  apply State.cdyCheck_keeps
  · exact h1'
  · split
    · apply State.fin_keeps
      exact h1'
    · apply State.cdyHand_keeps
      exact h1'

theorem ptReadBody_keeps {a : State} (p0 : Ctx) {s1 : State} (h1' : Keeps a s1) :
    Keeps a (ptReadBody p0 s1) := by
  unfold ptReadBody
  extract_lets vfirst_1 vn_2 vbytes_3
  split
  · apply State.fin_keeps
    exact h1'
  · apply State.done_keeps
    apply State.store_keeps
    exact h1'

theorem canRateDetectBody_keeps {a : State} (p0 : Ctx) {s1 : State} (h1' : Keeps a s1) :
    Keeps a (canRateDetectBody p0 s1) := by
  unfold canRateDetectBody
  extract_lets vch_1 vdwell_2 vsrc_3
  dsimp only
  split
  · apply State.fin_keeps
    exact h1'
  · split
    · apply State.foreign_keeps
      exact h1'
    · split
      · apply State.fin_keeps
        exact h1'
      · split
        · apply State.fin_keeps
          exact h1'
        · split
          · apply State.fin_keeps
            exact h1'
          · apply State.setCan_keeps
            exact h1'

theorem keyDeriveBody_keeps {a : State} (p0 : Ctx) {s1 : State} (h1' : Keeps a s1) :
    Keeps a (keyDeriveBody p0 s1) := by
  unfold keyDeriveBody
  extract_lets vsub_1 vusage_2 vlen_3 vparent_4 vg_5 vlabel_6 vmake_7
  have h8 : ∀ y0, Keeps a (vmake_7 y0) := by
    unfold vmake_7
    intro x9
    split
    · apply State.fin_keeps
      exact h1'
    · split
      apply State.keyDone_keeps
      refine keeps_of_snd (by assumption) ?_
      apply State.newHandle_keeps
      exact h1'
  split
  · apply State.fin_keeps
    exact h1'
  · split
    · split
      · apply State.foreign_keeps
        exact h1'
      · split
        · apply State.fin_keeps
          exact h1'
        · split
          · apply State.fin_keeps
            exact h1'
          · split
            · split
              · apply State.fin_keeps
                exact h1'
              · apply h8
            · apply State.fin_keeps
              exact h1'
    · split
      · apply State.foreign_keeps
        exact h1'
      · split
        · apply State.fin_keeps
          exact h1'
        · apply h8

theorem keyQueryBody_keeps {a : State} (p0 : Ctx) {s1 : State} (h1' : Keeps a s1) :
    Keeps a (keyQueryBody p0 s1) := by
  unfold keyQueryBody
  extract_lets vn_1
  dsimp only
  split
  · apply State.foreign_keeps
    exact h1'
  · split
    · apply State.fin_keeps
      exact h1'
    · split
      · split
        · apply State.keyDone_keeps
          apply State.draw_keeps
          apply State.draw_keeps
          exact h1'
        · apply State.keyDone_keeps
          exact h1'
      · split
        · apply State.keyDone_keeps
          exact h1'
        · split
          · apply State.keyDone_keeps
            exact h1'
          · apply State.keyDone_keeps
            apply State.draw_keeps
            exact h1'

theorem keyEncryptBody_keeps {a : State} (p0 : Ctx) {s1 : State} (h1' : Keeps a s1) :
    Keeps a (keyEncryptBody p0 s1) := by
  unfold keyEncryptBody
  extract_lets vn_1 vlen_2
  dsimp only
  split
  · apply State.fin_keeps
    exact h1'
  · split
    · apply State.foreign_keeps
      exact h1'
    · split
      · apply State.fin_keeps
        exact h1'
      · split
        · apply State.fin_keeps
          exact h1'
        · split
          · apply State.keyDone_keeps
            apply State.store_keeps
            apply State.random_keeps
            exact h1'
          · apply State.fin_keeps
            exact h1'

theorem keyDecryptBody_keeps {a : State} (p0 : Ctx) {s1 : State} (h1' : Keeps a s1) :
    Keeps a (keyDecryptBody p0 s1) := by
  unfold keyDecryptBody
  extract_lets vn_1 vlen_2 vb_3
  split
  · apply State.fin_keeps
    exact h1'
  · split
    · apply State.foreign_keeps
      exact h1'
    · split
      · apply State.fin_keeps
        exact h1'
      · split
        · apply State.fin_keeps
          exact h1'
        · split
          · apply State.fin_keeps
            exact h1'
          · apply State.keyDone_keeps
            apply State.store_keeps
            exact h1'

theorem keyWrapBody_keeps {a : State} (p0 : Ctx) {s1 : State} (h1' : Keeps a s1) :
    Keeps a (keyWrapBody p0 s1) := by
  unfold keyWrapBody
  extract_lets vn_1 vlen_2
  split
  · apply State.fin_keeps
    exact h1'
  · split
    · apply State.foreign_keeps
      exact h1'
    · split
      · apply State.fin_keeps
        exact h1'
      · split
        · apply State.fin_keeps
          exact h1'
        · apply State.keyDone_keeps
          apply State.store_keeps
          exact h1'

theorem keyUnwrapBody_keeps {a : State} (p0 : Ctx) {s1 : State} (h1' : Keeps a s1) :
    Keeps a (keyUnwrapBody p0 s1) := by
  unfold keyUnwrapBody
  extract_lets vn_1 vlen_2
  split
  · apply State.fin_keeps
    exact h1'
  · split
    · apply State.foreign_keeps
      exact h1'
    · split
      · apply State.fin_keeps
        exact h1'
      · split
        · apply State.fin_keeps
          exact h1'
        · split
          · apply State.fin_keeps
            exact h1'
          · apply State.keyDone_keeps
            apply State.store_keeps
            exact h1'

theorem keyPublicBody_keeps {a : State} (p0 : Ctx) {s1 : State} (h1' : Keeps a s1) :
    Keeps a (keyPublicBody p0 s1) := by
  unfold keyPublicBody
  split
  · apply State.fin_keeps
    exact h1'
  · split
    · apply State.fin_keeps
      exact h1'
    · split
      · apply State.fin_keeps
        exact h1'
      · split
        apply State.keyDone_keeps
        refine keeps_of_snd (by assumption) ?_
        apply State.newHandle_keeps
        exact h1'

theorem keyVerifyBody_keeps {a : State} (p0 : Ctx) {s1 : State} (h1' : Keeps a s1) :
    Keeps a (keyVerifyBody p0 s1) := by
  unfold keyVerifyBody
  extract_lets vn_1
  split
  · apply State.fin_keeps
    exact h1'
  · split
    · apply State.foreign_keeps
      exact h1'
    · split
      · apply State.fin_keeps
        exact h1'
      · split
        · split
          · apply State.keyDone_keeps
            exact h1'
          · apply State.fin_keeps
            exact h1'
        · apply State.fin_keeps
          exact h1'

theorem State.installSeed_keeps {a : State} {s0 : State} (p1 : ℕ) (p2 : ℕ) (p3 : ℕ) (p4 : List Byte) (h0' : Keeps a s0) :
    Keeps a (State.installSeed s0 p1 p2 p3 p4) := by
  unfold State.installSeed
  extract_lets vs1_1 vsrc_2 vs2_3
  have h4 : Keeps a vs1_1 := by
    unfold vs1_1
    apply keeps_foldl
    · intro x5 x6 h7
      apply State.setHandle_keeps
      exact h7
    · exact h0'
  clear_value vs1_1
  have h8 : Keeps a vs2_3 := by
    unfold vs2_3
    refine keeps_mk ?_ rfl
    exact h4
  clear_value vs2_3
  split
  · exact h8
  · apply State.assign_keeps
    exact h8

theorem keySeedBody_keeps {a : State} (p0 : Ctx) {s1 : State} (h1' : Keeps a s1) :
    Keeps a (keySeedBody p0 s1) := by
  unfold keySeedBody
  extract_lets vsub_1 vg_2 ve_3 vpath_4
  dsimp only
  split
  · apply State.fin_keeps
    exact h1'
  · split
    · apply State.foreign_keeps
      exact h1'
    · split
      · apply State.fin_keeps
        exact h1'
      · split
        · apply State.fin_keeps
          exact h1'
        · split
          · apply State.fin_keeps
            exact h1'
          · apply State.keyDone_keeps
            apply State.installSeed_keeps
            exact h1'

theorem keyRandomBody_keeps {a : State} (p0 : Ctx) {s1 : State} (h1' : Keeps a s1) :
    Keeps a (keyRandomBody p0 s1) := by
  unfold keyRandomBody
  extract_lets vlen_1
  split
  · apply State.fin_keeps
    exact h1'
  · split
    · apply State.fin_keeps
      exact h1'
    · split
      · apply State.fin_keeps
        exact h1'
      · split
        apply State.keyDone_keeps
        apply State.store_keeps
        refine keeps_of_snd (by assumption) ?_
        apply State.random_keeps
        exact h1'

theorem keyCertBody_keeps {a : State} (p0 : Ctx) {s1 : State} (h1' : Keeps a s1) :
    Keeps a (keyCertBody p0 s1) := by
  unfold keyCertBody
  split
  · apply State.fin_keeps
    exact h1'
  · split
    · apply State.fin_keeps
      exact h1'
    · apply State.keyDone_keeps
      apply State.store_keeps
      exact h1'

theorem updTake_keeps {a : State} (c : Ctx) (n : ℕ) :
    ∀ (b i : ℕ) (done : List ℕ) {s : State}, Keeps a s → Keeps a (updTake c b n i done s) := by
  induction n with
  | zero =>
    intro b i done s h
    exact State.onSess_keeps _ _ h
  | succ k ih =>
    intro b i done s h
    unfold updTake
    split
    · exact h
    · dsimp only
      split
      · exact ih _ _ _ (State.forward_keeps _ _ (State.onSess_keeps _ _ h))
      · have h1 := State.raiseSrc_keeps Pg.upd 0 (State.bump_keeps Pg.upd Rg.UPD_CHUNK_FAILS h)
        apply State.fin_keeps
        split
        · exact h1
        · exact State.onSess_keeps _ _ h1

theorem updChunkBody_keeps {a : State} (p0 : Ctx) {s1 : State} (h1' : Keeps a s1) :
    Keeps a (updChunkBody p0 s1) := by
  unfold updChunkBody
  extract_lets vi_1 vn_2 va_3
  split
  · apply State.fin_keeps
    exact h1'
  · split
    · apply State.foreign_keeps
      exact h1'
    · split
      · apply State.fin_keeps
        exact h1'
      · split
        · apply State.fin_keeps
          exact h1'
        · split
          · apply State.fin_keeps
            exact h1'
          · split
            · apply State.fin_keeps
              exact h1'
            · split
              · apply State.fin_keeps
                apply State.raiseSrc_keeps
                apply State.onSess_keeps
                exact h1'
              · apply updTake_keeps
                exact h1'

theorem updFinishBody_keeps {a : State} (p0 : Ctx) {s1 : State} (h1' : Keeps a s1) :
    Keeps a (updFinishBody p0 s1) := by
  unfold updFinishBody
  dsimp only
  split
  · apply State.foreign_keeps
    exact h1'
  · split
    · apply State.fin_keeps
      exact h1'
    · split
      · apply State.fin_keeps
        exact h1'
      · split
        · apply State.fin_keeps
          exact h1'
        · split
          · apply State.fin_keeps
            exact h1'
          · split
            · apply State.done_keeps
              apply State.setSess_keeps
              apply State.markSlot_keeps
              apply State.onSess_keeps
              exact h1'
            · apply State.finishFailed_keeps
              apply State.markSlot_keeps
              apply State.onSess_keeps
              exact h1'
            · apply State.passFinish_keeps
              apply State.markSlot_keeps
              apply State.onSess_keeps
              exact h1'

theorem State.confirmed_keeps {a : State} {s0 : State} (p1 : ℕ) (h0' : Keeps a s0) :
    Keeps a (State.confirmed s0 p1) := by
  unfold State.confirmed
  extract_lets vsrc_1 vsrc_2 vsrc_3
  refine keeps_mk ?_ rfl
  exact h0'

theorem updConfirmBody_keeps {a : State} (p0 p1 : Bool) (p2 : Ctx) {s2 : State} (h2' : Keeps a s2) :
    Keeps a (updConfirmBody p0 p1 p2 s2) := by
  unfold updConfirmBody
  extract_lets need x1 s1
  split
  · exact State.foreign_keeps _ h2'
  · split
    · exact State.fin_keeps _ _ _ _ _ h2'
    · split
      · exact State.fin_keeps _ _ _ _ _ h2'
      · split
        · exact State.fin_keeps _ _ _ _ _ (State.raiseSrc_keeps _ _ h2')
        · rename_i hn
          have h1 : Keeps a s1 := by
            unfold s1
            refine Keeps.step h2' rfl rfl (fun x => x) (fun x => x) (Nat.le_max_left _ _) (fun x => ?_)
            show max s2.upd.rollback need ≤ 64
            omega
          split
          · exact h1
          · exact State.done_keeps _ _ _ _ (State.confirmed_keeps _ h1)

theorem updAbortBody_keeps {a : State} (p0 : Ctx) {s1 : State} (h1' : Keeps a s1) :
    Keeps a (updAbortBody p0 s1) := by
  unfold updAbortBody
  split
  · apply State.foreign_keeps
    exact h1'
  · split
    · apply State.fin_keeps
      exact h1'
    · split
      · apply State.done_keeps
        apply State.endCmds_keeps
        apply State.setSess_keeps
        exact h1'
      · apply State.done_keeps
        apply State.setSess_keeps
        exact h1'
      · apply State.fin_keeps
        exact h1'

theorem ops00_keeps {a : State} : ∀ e ∈ ops00, ∀ c s, Keeps a s → Keeps a (e.2 c s) := by
  unfold ops00
  simp only [List.forall_mem_cons, List.not_mem_nil, false_imp_iff, implies_true, and_true]
  exact ⟨fun c _ h => nopBody_keeps c h,
    fun c _ h => queueCreateBody_keeps c h,
    fun c _ h => queueDestroyBody_keeps c h,
    fun c _ h => queueQueryBody_keeps c h⟩

theorem ops01_keeps {a : State} : ∀ e ∈ ops01, ∀ c s, Keeps a s → Keeps a (e.2 c s) := by
  unfold ops01
  simp only [List.forall_mem_cons, List.not_mem_nil, false_imp_iff, implies_true, and_true]
  exact ⟨fun c _ h => sysRestartBody_keeps c h,
    fun c _ h => sysEnterRunBody_keeps c h,
    fun c _ h => sysEnterCommissionBody_keeps c h,
    fun c _ h => sysEnterSafeBody_keeps c h,
    fun c _ h => cfgSaveBody_keeps c h⟩

theorem ops02_keeps {a : State} : ∀ e ∈ ops02, ∀ c s, Keeps a s → Keeps a (e.2 c s) := by
  unfold ops02
  simp only [List.forall_mem_cons, List.not_mem_nil, false_imp_iff, implies_true, and_true]
  exact ⟨fun c _ h => gloveSetBody_keeps c h,
    fun c _ h => gloveQblockBody_keeps c h,
    fun c _ h => gloveReclaimBody_keeps c h⟩

theorem ops03_keeps {a : State} (fails : Bool) : ∀ e ∈ ops03 fails, ∀ c s, Keeps a s → Keeps a (e.2 c s) := by
  unfold ops03
  simp only [List.forall_mem_cons, List.not_mem_nil, false_imp_iff, implies_true, and_true]
  exact ⟨fun c _ h => loopWriteBody_keeps c h,
    fun c _ h => loopReadBody_keeps c h,
    fun c _ h => loopStartBody_keeps fails c h,
    fun c _ h => loopStopBody_keeps c h,
    fun c _ h => loopHandoverBody_keeps c h,
    fun c _ h => loopQueryBody_keeps c h,
    fun c _ h => loopClearBody_keeps c h⟩

theorem ops04_keeps {a : State} : ∀ e ∈ ops04, ∀ c s, Keeps a s → Keeps a (e.2 c s) := by
  unfold ops04
  simp only [List.forall_mem_cons, List.not_mem_nil, false_imp_iff, implies_true, and_true]
  exact ⟨fun c _ h => taskWriteBody_keeps c h,
    fun c _ h => taskReadBody_keeps c h,
    fun c _ h => taskStartBody_keeps c h,
    fun c _ h => taskStopBody_keeps c h,
    fun c _ h => taskHandoverBody_keeps c h,
    fun c _ h => taskQueryBody_keeps c h⟩

theorem ops05_keeps {a : State} : ∀ e ∈ ops05, ∀ c s, Keeps a s → Keeps a (e.2 c s) := by
  unfold ops05
  simp only [List.forall_mem_cons, List.not_mem_nil, false_imp_iff, implies_true, and_true]
  exact ⟨fun c _ h => chSelftestBody_keeps c h,
    fun c _ h => chFenceBody_keeps c h,
    fun c _ h => lseClaimBody_keeps c h,
    fun c _ h => lseReleaseBody_keeps c h,
    fun c _ h => lseUnadoptBody_keeps c h,
    fun c _ h => lseQueryBody_keeps c h,
    fun c _ h => lseWarmTaskBody_keeps c h⟩

theorem ops06_keeps {a : State} (fails : Bool) : ∀ e ∈ ops06 fails, ∀ c s, Keeps a s → Keeps a (e.2 c s) := by
  unfold ops06
  simp only [List.forall_mem_cons, List.not_mem_nil, false_imp_iff, implies_true, and_true]
  exact ⟨fun c _ h => cdyIdentBody_keeps c h,
    fun c _ h => cdyLogReadBody_keeps c h,
    fun c _ h => cdySnapshotBody_keeps c h,
    fun c _ h => cdyViewSetBody_keeps c h,
    fun c _ h => cdyPublishBody_keeps c h,
    fun c _ h => cdyCommitBody_keeps c h,
    fun c _ h => cdyHarmonicsBody_keeps c h,
    fun c _ h => cdyParamLoadBody_keeps fails c h,
    fun c _ h => cdyParamReadBody_keeps c h,
    fun c _ h => cdyPilotStatusBody_keeps c h,
    fun c _ h => cdyCalBody_keeps c h,
    fun c _ h => cdyImageLoadBody_keeps fails c h⟩

theorem ops07_keeps {a : State} : ∀ e ∈ ops07, ∀ c s, Keeps a s → Keeps a (e.2 c s) := by
  unfold ops07
  simp only [List.forall_mem_cons, List.not_mem_nil, false_imp_iff, implies_true, and_true]
  exact ⟨fun c _ h => ptReadBody_keeps c h,
    fun c _ h => ptWriteBody_keeps c h⟩

theorem ops08_keeps {a : State} : ∀ e ∈ ops08, ∀ c s, Keeps a s → Keeps a (e.2 c s) := by
  unfold ops08
  simp only [List.forall_mem_cons, List.not_mem_nil, false_imp_iff, implies_true, and_true]
  exact fun c _ h => canRateDetectBody_keeps c h

theorem ops09_keeps {a : State} (fails : Bool) : ∀ e ∈ ops09 fails, ∀ c s, Keeps a s → Keeps a (e.2 c s) := by
  unfold ops09
  simp only [List.forall_mem_cons, List.not_mem_nil, false_imp_iff, implies_true, and_true]
  exact ⟨fun c _ h => keyDeriveBody_keeps c h,
    fun c _ h => keyDestroyBody_keeps c h,
    fun c _ h => keyQueryBody_keeps c h,
    fun c _ h => keyMacBody_keeps c h,
    fun c _ h => keyEncryptBody_keeps c h,
    fun c _ h => keyDecryptBody_keeps c h,
    fun c _ h => keyWrapBody_keeps c h,
    fun c _ h => keyUnwrapBody_keeps c h,
    fun c _ h => keyPublicBody_keeps c h,
    fun c _ h => keyVerifyBody_keeps c h,
    fun c _ h => keyAttestBody_keeps c h,
    fun c _ h => keySeedBody_keeps c h,
    fun c _ h => keyRandomBody_keeps c h,
    fun c _ h => keyCertBody_keeps c h,
    fun c _ h => lcsProvisionBody_keeps fails false c h,
    fun c _ h => lcsCertStoreBody_keeps c h,
    fun c _ h => lcsTransitionBody_keeps fails false c h⟩

theorem ops0A_keeps {a : State} (fails : Bool) : ∀ e ∈ ops0A fails, ∀ c s, Keeps a s → Keeps a (e.2 c s) := by
  unfold ops0A
  simp only [List.forall_mem_cons, List.not_mem_nil, false_imp_iff, implies_true, and_true]
  exact ⟨fun c _ h => updBeginBody_keeps c h,
    fun c _ h => updChunkBody_keeps c h,
    fun c _ h => updFinishBody_keeps c h,
    fun c _ h => updActivateBody_keeps c h,
    fun c _ h => updConfirmBody_keeps fails false c h,
    fun c _ h => updAbortBody_keeps c h⟩

theorem ops0B_keeps {a : State} : ∀ e ∈ ops0B, ∀ c s, Keeps a s → Keeps a (e.2 c s) := by
  unfold ops0B
  simp only [List.forall_mem_cons, List.not_mem_nil, false_imp_iff, implies_true, and_true]
  exact fun c _ h => fltSaveBody_keeps c h

theorem ops0C_keeps {a : State} : ∀ e ∈ ops0C, ∀ c s, Keeps a s → Keeps a (e.2 c s) := by
  unfold ops0C
  simp only [List.forall_mem_cons, List.not_mem_nil, false_imp_iff, implies_true, and_true]
  exact fun c _ h => vbmReadBody_keeps c h

theorem cmdTable_keeps {a : State} (fails : Bool) : ∀ e ∈ cmdTable fails, ∀ c s, Keeps a s → Keeps a (e.2 c s) := by
  unfold cmdTable
  simp only [List.forall_mem_append]
  exact ⟨⟨⟨⟨⟨⟨⟨⟨⟨⟨⟨⟨ops00_keeps, ops01_keeps⟩, ops02_keeps⟩, ops03_keeps fails⟩, ops04_keeps⟩, ops05_keeps⟩, ops06_keeps fails⟩, ops07_keeps⟩, ops08_keeps⟩, ops09_keeps fails⟩, ops0A_keeps fails⟩, ops0B_keeps⟩, ops0C_keeps⟩

theorem cmdByOp_keeps {a : State} (p0 : Bool) (p1 : ℕ) (p2 : Ctx) {s3 : State} (h3' : Keeps a s3) :
    Keeps a (cmdByOp p0 p1 p2 s3) := by
  unfold cmdByOp
  cases h : (cmdTable p0).find? (fun e => e.1 == p1) with
  | none => exact noOpBody_keeps p2 h3'
  | some e => exact cmdTable_keeps p0 e (List.mem_of_find?_eq_some h) p2 s3 h3'

theorem State.takeEntry_keeps {a : State} {s0 : State} (q : ℕ) (h0' : Keeps a s0) {c : Ctx} {t : State}
    (h : s0.takeEntry q = some (c, t)) : Keeps a t := by
  unfold State.takeEntry at h
  dsimp only at h
  split at h
  · cases h
    exact State.alloc_keeps _ _ _ _ _ _ _ (State.consume_keeps _ h0')
  · cases h

theorem State.submit_keeps {a : State} {s0 : State} (p1 : ℕ) (p2 p3 : Bool) (h0' : Keeps a s0) :
    Keeps a (s0.submit p1 p2 p3) := by
  unfold State.submit
  split
  · exact State.takeSpoilt_keeps _ h0'
  · split
    · rename_i h
      exact cmdByOp_keeps _ _ _ (State.takeEntry_keeps _ h0' h)
    · split
      · exact State.ringTried_keeps _ h0'
      · exact h0'

theorem State.startupAgain_keeps {a : State} {s0 : State} (h0' : Keeps a s0) :
    Keeps a (State.startupAgain s0) := by
  unfold State.startupAgain
  split
  · apply State.powerCycle_keeps
    exact h0'
  · exact h0'

theorem State.tempMeasure_keeps {a : State} {s0 : State} (p1 : ℕ) (h0' : Keeps a s0) :
    Keeps a (State.tempMeasure s0 p1) := by
  unfold State.tempMeasure
  extract_lets vold_1 vnew_2 vs1_3 vs2_4
  have h5 : Keeps a vs1_3 := by
    unfold vs1_3
    apply State.setReg_keeps
    exact h0'
  clear_value vs1_3
  have h6 : Keeps a vs2_4 := by
    unfold vs2_4
    split
    · apply State.raiseSrc_keeps
      exact h5
    · exact h5
  clear_value vs2_4
  split
  · apply State.raiseSrc_keeps
    exact h6
  · exact h6

theorem State.resetEnd_keeps {a : State} {s0 : State} (p1 : Bool) (h0' : Keeps a s0) :
    Keeps a (State.resetEnd s0 p1) := by
  unfold State.resetEnd
  extract_lets vsrc_1
  split
  · refine keeps_mk ?_ rfl
    exact h0'
  · exact h0'

theorem State.unmail_keeps {a : State} {s0 : State} (p1 : ℕ) (h0' : Keeps a s0) :
    Keeps a (State.unmail s0 p1) := by
  unfold State.unmail
  extract_lets vsrc_1
  refine keeps_mk ?_ rfl
  exact h0'

theorem State.cdyDeliver_keeps {a : State} {s0 : State} (p1 : ℕ) (p2 : Bool) (h0' : Keeps a s0) :
    Keeps a (State.cdyDeliver s0 p1 p2) := by
  unfold State.cdyDeliver
  extract_lets vs1_1
  have h2 : Keeps a vs1_1 := by
    unfold vs1_1
    apply State.unmail_keeps
    exact h0'
  clear_value vs1_1
  split
  · exact h0'
  · split
    · split
      · apply State.complete_keeps
        exact h2
      · split
        · split
          apply State.complete_keeps
          apply State.raiseSrc_keeps
          apply State.store_keeps
          refine keeps_of_snd (by assumption) ?_
          apply State.freeBytes_keeps
          exact h2
        · split
          · apply State.complete_keeps
            apply State.store_keeps
            exact h2
          · apply State.complete_keeps
            apply State.store_keeps
            exact h2
    · exact h2

theorem State.onVendor_keeps {a : State} {s0 : State} {p1 : State → State} (h0' : Keeps a s0) (h1' : ∀ y0 (_ : Keeps a y0), Keeps a (p1 y0)) :
    Keeps a (State.onVendor s0 p1) := by
  unfold State.onVendor
  split
  · split
    · apply State.emit_keeps
      exact h0'
    · apply h1'
      exact h0'
  · exact h0'

theorem State.bellSeen_keeps {a : State} {s0 : State} (p1 : ℕ) (p2 : ℕ) (h0' : Keeps a s0) :
    Keeps a (State.bellSeen s0 p1 p2) := by
  unfold State.bellSeen
  split
  · apply State.queueChecked_keeps
    exact h0'
  · apply State.violation_keeps
    exact h0'

theorem State.onRead_keeps {a : State} {s0 : State} (p1 : Requester) (p2 : ℕ) (p3 : ℕ) {p4 : ℕ → State → State} (h0' : Keeps a s0) (h4' : ∀ y0 y1 (_ : Keeps a y1), Keeps a (p4 y0 y1)) :
    Keeps a (State.onRead s0 p1 p2 p3 p4) := by
  unfold State.onRead
  split
  · split
    · exact h0'
    · split
      · apply h4'
        exact h0'
      · apply State.violation_keeps
        exact h0'
  · exact h0'

theorem State.slotParity_keeps {a : State} {s0 : State} (p1 : ℕ) (h0' : Keeps a s0) :
    Keeps a (State.slotParity s0 p1) := by
  unfold State.slotParity
  extract_lets vsrc_1 vs1_2 vsrc_3
  have h4 : Keeps a vs1_2 := by
    unfold vs1_2
    apply State.raiseSrc_keeps
    apply State.setSlot_keeps
    exact h0'
  clear_value vs1_2
  split
  · apply State.complete_keeps
    apply State.unhook_keeps
    exact h4
  · apply State.setSlot_keeps
    exact h4

theorem State.pollRead_keeps {a : State} {s0 : State} (p1 : ℕ) (p2 : ℕ) (p3 : Bool) (h0' : Keeps a s0) :
    Keeps a (State.pollRead s0 p1 p2 p3) := by
  unfold State.pollRead
  split
  · exact h0'
  · split
    · apply State.slotParity_keeps
      exact h0'
    · split
      · apply State.freeSlot_keeps
        exact h0'
      · exact h0'

theorem State.tickLatch_keeps {a : State} {s0 : State} (h0' : Keeps a s0) :
    Keeps a (State.tickLatch s0) := by
  unfold State.tickLatch
  apply State.setReg_keeps
  exact h0'

theorem State.cycleLatch_keeps {a : State} {s0 : State} (h0' : Keeps a s0) :
    Keeps a (State.cycleLatch s0) := by
  unfold State.cycleLatch
  apply State.setReg_keeps
  exact h0'

theorem State.cdyLatch_keeps {a : State} {s0 : State} (p1 : ℕ) (p2 : ℕ) (h0' : Keeps a s0) :
    Keeps a (State.cdyLatch s0 p1 p2) := by
  unfold State.cdyLatch
  extract_lets vg_1 vw_2 vsrc_3
  split
  · refine keeps_mk ?_ rfl
    exact h0'
  · exact h0'

theorem State.canDiscard_keeps {a : State} {s0 : State} (p1 : ℕ) (p2 : ℕ) (h0' : Keeps a s0) :
    Keeps a (State.canDiscard s0 p1 p2) := by
  unfold State.canDiscard
  extract_lets vx_1 vn_2 ve_3 vy_4 vr_5 vone_6 vf_7
  split
  · apply State.setReg_keeps
    apply State.setCan_keeps
    exact h0'
  · split
    · apply State.setCan_keeps
      exact h0'
    · apply State.setCan_keeps
      exact h0'

theorem State.canRamSeen_keeps {a : State} {s0 : State} (p1 : ℕ) (p2 : ℕ) (p3 : ℕ) (h0' : Keeps a s0) :
    Keeps a (State.canRamSeen s0 p1 p2 p3) := by
  unfold State.canRamSeen
  split
  · exact h0'
  · split
    · apply State.raiseSrc_keeps
      apply State.canDiscard_keeps
      exact h0'
    · exact h0'

theorem State.nowLatch_keeps {a : State} {s0 : State} (p1 : ℕ) (p2 : ℕ) (h0' : Keeps a s0) :
    Keeps a (State.nowLatch s0 p1 p2) := by
  unfold State.nowLatch
  extract_lets vt_1 vp_2
  apply State.setBreg_keeps
  apply State.setBreg_keeps
  apply State.setBreg_keeps
  exact h0'

theorem State.readEffect_keeps {a : State} {s0 : State} (p1 : Requester) (p2 : ℕ) (h0' : Keeps a s0) :
    Keeps a (State.readEffect s0 p1 p2) := by
  unfold State.readEffect
  extract_lets vp_1 vo_2
  split
  · exact h0'
  · split
    · apply State.whenUp_keeps
      · exact h0'
      · intro x3 h4
        split
        · exact h4
        · apply State.bellSeen_keeps
          exact h4
    · apply State.onRead_keeps
      · exact h0'
      · intro x5 x6 h7
        split
        · apply State.pollRead_keeps
          exact h7
        · split
          · apply State.tickLatch_keeps
            exact h7
          · split
            · apply State.cycleLatch_keeps
              exact h7
            · split
              · apply State.cdyLatch_keeps
                exact h7
              · split
                · apply State.canRamSeen_keeps
                  exact h7
                · split
                  · apply State.nowLatch_keeps
                    exact h7
                  · exact h7

theorem State.usbReadWords_keeps {a : State} (n : ℕ) :
    ∀ (off : ℕ) (acc : List Byte) {s : State}, Keeps a s → Keeps a (State.usbReadWords s off n acc) := by
  induction n with
  | zero =>
    intro off acc s h
    exact State.emit_keeps _ h
  | succ k ih =>
    intro off acc s h
    unfold State.usbReadWords
    dsimp only
    apply ih
    split
    · exact State.readEffect_keeps _ _ h
    · exact h

theorem State.caddyUp_keeps {a : State} {s0 : State} (p1 : ℕ) (p2 : Bool) (h0' : Keeps a s0) :
    Keeps a (State.caddyUp s0 p1 p2) := by
  unfold State.caddyUp
  extract_lets vsrc_1 vs1_2
  have h3 : Keeps a vs1_2 := by
    unfold vs1_2
    split
    · refine keeps_mk ?_ rfl
      exact h0'
    · exact h0'
  clear_value vs1_2
  dsimp only
  apply State.onCaddy_keeps
  exact h3

theorem State.xinMeasure_keeps {a : State} {s0 : State} (p1 : ℤ) (h0' : Keeps a s0) :
    Keeps a (State.xinMeasure s0 p1) := by
  unfold State.xinMeasure
  extract_lets vold_1 vn_2 vsrc_3 vs1_4
  have h5 : Keeps a vs1_4 := by
    unfold vs1_4
    apply State.setReg_keeps
    refine keeps_mk ?_ rfl
    exact h0'
  clear_value vs1_4
  split
  · split
    · apply State.raiseSrc_keeps
      exact h5
    · exact h5
  · exact h0'

theorem State.memWrite_keeps {a : State} {s0 : State} (p1 : Requester) (p2 : ℕ) (p3 : List Byte) (h0' : Keeps a s0) :
    Keeps a (State.memWrite s0 p1 p2 p3) := by
  unfold State.memWrite
  split
  · exact h0'
  · split
    · exact h0'
    · split
      · exact h0'
      · split
        · apply State.violation_keeps
          exact h0'
        · split
          · split
            · apply State.store_keeps
              exact h0'
            · apply State.violation_keeps
              exact h0'
          · split
            · split
              · apply State.store_keeps
                exact h0'
              · exact h0'
            · exact h0'

theorem State.sevSpoilt_keeps {a : State} {s0 : State} (p1 : ℕ) (h0' : Keeps a s0) :
    Keeps a (State.sevSpoilt s0 p1) := by
  unfold State.sevSpoilt
  extract_lets vsrc_1
  apply State.raiseSrc_keeps
  refine keeps_mk ?_ rfl
  exact h0'

theorem State.usbReset_keeps {a : State} {s0 : State} (p1 : Bool) (p2 : Bool) (h0' : Keeps a s0) :
    Keeps a (State.usbReset s0 p1 p2) := by
  unfold State.usbReset
  extract_lets vsrc_1 vs1_2 vs2_3
  have h4 : Keeps a vs1_2 := by
    unfold vs1_2
    refine keeps_mk ?_ rfl
    exact h0'
  clear_value vs1_2
  have h5 : Keeps a vs2_3 := by
    unfold vs2_3
    apply State.pulse_keeps
    apply State.bump_keeps
    exact h4
  clear_value vs2_3
  split
  · split
    · apply State.bump_keeps
      exact h5
    · exact h5
  · exact h0'

theorem State.pciErr_keeps {a : State} {s0 : State} (p1 : Bool) (h0' : Keeps a s0) :
    Keeps a (State.pciErr s0 p1) := by
  unfold State.pciErr
  extract_lets vsrc_1
  split
  · split
    · apply State.raiseSrc_keeps
      apply State.bump_keeps
      refine keeps_mk ?_ rfl
      exact h0'
    · apply State.bump_keeps
      refine keeps_mk ?_ rfl
      exact h0'
  · exact h0'

theorem State.kickAll_keeps {a : State} {s0 : State} (h0' : Keeps a s0) :
    Keeps a (State.kickAll s0) := by
  unfold State.kickAll
  split
  · apply keeps_foldl
    · intro x1 x2 h3
      apply State.kick_keeps
      exact h3
    · apply State.kick_keeps
      exact h0'
  · exact h0'

theorem State.usbStandard_keeps {a : State} {s0 : State} (p1 : UsbStd) (h0' : Keeps a s0) :
    Keeps a (State.usbStandard s0 p1) := by
  unfold State.usbStandard
  extract_lets vsrc_1
  split
  · split
    · split
      · refine keeps_mk ?_ rfl
        exact h0'
      · exact h0'
    · split
      · exact h0'
      · split
        · refine keeps_mk ?_ rfl
          exact h0'
        · split
          · refine keeps_mk ?_ rfl
            exact h0'
          · apply State.emit_keeps
            exact h0'
    · refine keeps_mk ?_ rfl
      exact h0'
    · split
      · apply State.emit_keeps
        exact h0'
      · split
        · apply State.emit_keeps
          exact h0'
        · apply State.emit_keeps
          exact h0'
    · apply State.emit_keeps
      exact h0'
    · apply State.emit_keeps
      exact h0'
  · exact h0'

theorem State.canHeads_keeps {a : State} (c q : ℕ) (n : ℕ) :
    ∀ {s : State}, Keeps a s → Keeps a (State.canHeads c q n s) := by
  induction n with
  | zero => exact fun h => h
  | succ k ih =>
    intro s h
    unfold State.canHeads
    split
    · split
      · exact h
      · dsimp only
        apply ih
        split
        · exact State.violation_keeps _ (State.canTxEnd_keeps _ _ _ h)
        · exact State.canTxEnd_keeps _ _ _ h
    · exact State.ringTried_keeps _ h

theorem State.canHead_keeps {a : State} {s0 : State} (p1 : ℕ) (p2 : ℕ) (h0' : Keeps a s0) :
    Keeps a (State.canHead s0 p1 p2) := by
  unfold State.canHead
  apply State.canHeads_keeps
  exact h0'

theorem State.canBufCheck_keeps {a : State} {s0 : State} (p1 : ℕ) (h0' : Keeps a s0) :
    Keeps a (State.canBufCheck s0 p1) := by
  unfold State.canBufCheck
  extract_lets vx_1 vbad_2 vy_3
  split
  · exact h0'
  · apply State.raiseSrc_keeps
    apply State.setCan_keeps
    exact h0'

theorem State.canArbitrate_keeps {a : State} {s0 : State} (p1 : ℕ) (h0' : Keeps a s0) :
    Keeps a (State.canArbitrate s0 p1) := by
  unfold State.canArbitrate
  extract_lets vs1_1
  have h2 : Keeps a vs1_1 := by
    unfold vs1_1
    apply keeps_foldl
    · intro x3 x4 h5
      apply State.canHead_keeps
      exact h5
    · apply State.canBufCheck_keeps
      exact h0'
  clear_value vs1_1
  dsimp only
  split
  · split
    · exact h2
    · split
      · exact h2
      · apply State.setCan_keeps
        split
        · split
          · apply State.violation_keeps
            exact h2
          · exact h2
        · split
          · apply State.violation_keeps
            exact h2
          · exact h2
  · exact h0'

theorem State.resetRelease_keeps {a : State} {s0 : State} (h0' : Keeps a s0) :
    Keeps a (State.resetRelease s0) := by
  unfold State.resetRelease
  extract_lets vsrc_1 vs1_2 vsrc_3
  have h4 : Keeps a vs1_2 := by
    unfold vs1_2
    refine keeps_mk ?_ rfl
    exact h0'
  clear_value vs1_2
  split
  · split
    · exact h4
    · refine keeps_mk ?_ rfl
      exact h4
  · exact h0'

theorem State.unitTested_keeps {a : State} {s0 : State} (p1 : Bool) (p2 : ℕ) (p3 : Bool) (p4 : Bool) (h0' : Keeps a s0) :
    Keeps a (State.unitTested s0 p1 p2 p3 p4) := by
  unfold State.unitTested
  extract_lets vsrc_1
  dsimp only
  split
  · exact h0'
  · apply State.fenceMany_keeps
    refine keeps_mk ?_ rfl
    exact h0'

theorem State.deliverEvent_keeps {a : State} {s0 : State} (p1 : ℕ) (h0' : Keeps a s0) :
    Keeps a (State.deliverEvent s0 p1) := by
  unfold State.deliverEvent
  extract_lets vsrc_1 vq_2 vs1_3
  have h4 : Keeps a vs1_3 := by
    unfold vs1_3
    split
    · split
      · split
        · split
          · refine keeps_mk ?_ rfl
            exact h0'
          · exact h0'
        · exact h0'
      · refine keeps_mk ?_ rfl
        exact h0'
    · split
      · split
        · refine keeps_mk ?_ rfl
          exact h0'
        · exact h0'
      · exact h0'
  clear_value vs1_3
  apply State.usbFlush_keeps
  exact h4

theorem State.inputPoint_keeps {a : State} {s0 : State} (p1 : ℕ) (p2 : ℕ) (p3 : ℕ) (p4 : ℕ) (p5 : ℕ) (p6 : Word) (p7 : ℕ) (h0' : Keeps a s0) :
    Keeps a (State.inputPoint s0 p1 p2 p3 p4 p5 p6 p7) := by
  unfold State.inputPoint
  extract_lets vc_1
  split
  · apply State.writePoint_keeps
    exact h0'
  · exact h0'

theorem State.pinPoints_keeps {a : State} {s0 : State} (p1 : Option ℕ) (h0' : Keeps a s0) :
    Keeps a (State.pinPoints s0 p1) := by
  unfold State.pinPoints
  dsimp only
  apply keeps_foldl
  · intro x1 x2 h3
    split
    · exact h3
    · apply State.inputPoint_keeps
      exact h3
  · exact h0'

theorem State.ownerWrite_keeps {a : State} {s0 : State} (p1 : ℕ) (p2 : ℕ) (p3 : Word) (h0' : Keeps a s0) :
    Keeps a (State.ownerWrite s0 p1 p2 p3) := by
  unfold State.ownerWrite
  extract_lets vold_1 vs1_2 vs2_3
  have h4 : Keeps a vs1_2 := by
    unfold vs1_2
    apply State.setReg_keeps
    apply State.setReg_keeps
    exact h0'
  clear_value vs1_2
  have h5 : Keeps a vs2_3 := by
    unfold vs2_3
    split
    · apply State.canFlush_keeps
      apply State.canAbortDetect_keeps
      exact h4
    · exact h4
  clear_value vs2_3
  split
  · exact h0'
  · split
    · exact h4
    · apply State.assign_keeps
      apply State.assign_keeps
      exact h5

theorem State.headWrite_keeps {a : State} {s0 : State} (p1 : ℕ) (p2 : ℕ) (p3 : ℕ) (p4 : Word) (h0' : Keeps a s0) :
    Keeps a (State.headWrite s0 p1 p2 p3 p4) := by
  unfold State.headWrite
  split
  · apply State.runReq_keeps
    exact h0'
  · split
    · apply State.setReg_keeps
      exact h0'
    · split
      · apply State.setReg_keeps
        exact h0'
      · split
        · apply State.ownerWrite_keeps
          exact h0'
        · split
          · apply State.setReg_keeps
            exact h0'
          · exact h0'

theorem State.capture_keeps {a : State} {s0 : State} (p1 : ℕ) (p2 : Word) (h0' : Keeps a s0) :
    Keeps a (State.capture s0 p1 p2) := by
  unfold State.capture
  extract_lets vp_1
  dsimp only
  split
  · apply keeps_foldl
    · intro x2 x3 h4
      apply State.setReg_keeps
      apply State.setReg_keeps
      apply State.setReg_keeps
      apply State.setReg_keeps
      exact h4
    · exact h0'
  · exact h0'

theorem State.ep1Spoilt_keeps {a : State} {s0 : State} (h0' : Keeps a s0) :
    Keeps a (State.ep1Spoilt s0) := by
  unfold State.ep1Spoilt
  extract_lets vsrc_1
  dsimp only
  split
  · exact h0'
  · split
    · exact h0'
    · apply State.raiseSrc_keeps
      refine keeps_mk ?_ rfl
      exact h0'

end Sys2Proof.Machine
end

