-- ==== Sys2Proof/Laws/Keeps6.lean ====
section
/-! SUPPORT. Every operation keeps what `Keeps` says, part 6: one lemma per operation, in the order of their use. -/

namespace Sys2Proof.Machine

theorem State.ep1Ack_keeps {a : State} {s0 : State} (h0' : Keeps a s0) :
    Keeps a (State.ep1Ack s0) := by
  unfold State.ep1Ack
  extract_lets vsrc_1
  dsimp only
  split
  · split
    · exact h0'
    · split
      · exact h0'
      · apply State.usbFlush_keeps
        apply State.emit_keeps
        refine keeps_mk ?_ rfl
        exact h0'
  · exact h0'

theorem State.setCoreGlove_keeps {a : State} {s0 : State} (p1 : ℕ) (p2 : ℕ) (h0' : Keeps a s0) :
    Keeps a (State.setCoreGlove s0 p1 p2) := by
  unfold State.setCoreGlove
  refine keeps_mk ?_ rfl
  exact h0'

theorem State.swapTask_keeps {a : State} {s0 : State} (p1 : ℕ) (p2 : ℕ) (h0' : Keeps a s0) :
    Keeps a (State.swapTask s0 p1 p2) := by
  unfold State.swapTask
  extract_lets x slot e w s1 s2
  have h1 : Keeps a s1 := by
    unfold s1
    apply State.setTaskEntry_keeps
    apply State.setTask_keeps
    exact h0'
  clear_value s1
  have h2 : Keeps a s2 := by
    unfold s2
    apply State.storeWork_keeps
    apply State.storeWork_keeps
    exact h1
  clear_value s2 slot
  split
  · cases slot with
    | some n => exact State.complete_keeps _ _ _ _ _ h2
    | none => exact h2
  · apply State.complete_keeps
    apply State.setTask_keeps
    exact h0'

theorem State.usbClose_keeps {a : State} {s0 : State} (h0' : Keeps a s0) :
    Keeps a (State.usbClose s0) := by
  unfold State.usbClose
  extract_lets vsrc_1
  refine keeps_mk ?_ rfl
  exact h0'

theorem State.usbSessionClose_keeps {a : State} {s0 : State} (h0' : Keeps a s0) :
    Keeps a (State.usbSessionClose s0) := by
  unfold State.usbSessionClose
  apply State.onVendor_keeps
  · exact h0'
  · intro x1 h2
    apply State.usbClose_keeps
    exact h2

theorem State.storeStep_keeps {a : State} {s0 : State} (p1 : ℕ) (p2 : DqEntry) (p3 : Word) (h0' : Keeps a s0) :
    Keeps a (State.storeStep s0 p1 p2 p3) := by
  unfold State.storeStep
  extract_lets vx_1 vsh_2 vr_3 vl0_4 vl_5 vr1_6
  split
  · apply State.putRole_keeps
    exact h0'
  · exact h0'

theorem State.pwmPeriod_keeps {a : State} {s0 : State} (p1 : ℕ) (h0' : Keeps a s0) :
    Keeps a (State.pwmPeriod s0 p1) := by
  unfold State.pwmPeriod
  extract_lets vper_1
  dsimp only
  apply keeps_foldl
  · intro x2 x3 h4
    refine keeps_mk ?_ rfl
    exact h4
  · exact h0'

theorem State.struck_keeps {a : State} {s0 : State} (p1 : Strike) (h0' : Keeps a s0) :
    Keeps a (State.struck s0 p1) := by
  unfold State.struck
  dsimp only
  split
  · apply State.setSlot_keeps
    exact h0'
  · apply State.setQueue_keeps
    exact h0'
  · apply State.setCan_keeps
    exact h0'

theorem State.supply_keeps {a : State} {s0 : State} (p1 : Supply) (p2 : ℕ) (h0' : Keeps a s0) :
    Keeps a (State.supply s0 p1 p2) := by
  unfold State.supply
  extract_lets vtemp_1 vsrc_2 vs1_3
  have h4 : Keeps a vtemp_1 := by
    unfold vtemp_1
    apply State.setReg_keeps
    exact h0'
  clear_value vtemp_1
  have h5 : Keeps a vs1_3 := by
    unfold vs1_3
    refine keeps_mk ?_ rfl
    exact h0'
  clear_value vs1_3
  split
  · split
    · apply State.raiseSrc_keeps
      exact h4
    · exact h4
    · apply State.raiseSrc_keeps
      exact h4
    · apply State.tempMeasure_keeps
      exact h0'
    · apply State.raiseSrc_keeps
      exact h0'
    · split
      · apply State.raiseSrc_keeps
        exact h5
      · exact h5
    · refine keeps_mk ?_ rfl
      exact h0'
    · apply State.setReg_keeps
      exact h0'
    · apply State.setReg_keeps
      exact h0'
    · split
      · apply State.setReg_keeps
        exact h0'
      · exact h0'
  · exact h0'

theorem State.sealedLost_keeps {a : State} {s0 : State} (h0' : Keeps a s0) :
    Keeps a (State.sealedLost s0) := by
  unfold State.sealedLost
  apply State.raiseSrc_keeps
  apply State.destroyKeys_keeps
  exact h0'

theorem State.resumeReclaim_keeps {a : State} {s0 : State} (h0' : Keeps a s0) :
    Keeps a (State.resumeReclaim s0) := by
  unfold State.resumeReclaim
  extract_lets vs1_1 vsrc_2
  have h3 : Keeps a vs1_1 := by
    unfold vs1_1
    apply keeps_foldl
    · intro x4 x5 h6
      apply State.assign_keeps
      apply State.setGlove_keeps
      exact h6
    · exact h0'
  clear_value vs1_1
  refine keeps_mk ?_ rfl
  exact h3

theorem State.enterTarget_keeps {a : State} {s0 : State} (p1 : Bool) (h0' : Keeps a s0) :
    Keeps a (State.enterTarget s0 p1) := by
  unfold State.enterTarget
  extract_lets vs1_1 vsrc_2
  have h3 : Keeps a vs1_1 := by
    unfold vs1_1
    apply State.enterQuiet_keeps
    exact h0'
  clear_value vs1_1
  split
  · apply State.enterQuiet_keeps
    exact h0'
  · split
    · apply State.enterRun_keeps
      exact h0'
    · refine keeps_mk ?_ rfl
      exact h3

theorem State.unforce_keeps {a : State} {s0 : State} (h0' : Keeps a s0) :
    Keeps a (State.unforce s0) := by
  unfold State.unforce
  dsimp only
  apply keeps_foldl
  · intro x1 x2 h3
    split
    · apply State.setPoint_keeps
      exact h3
    · exact h3
  · exact h0'

theorem State.reloadHats_keeps {a : State} {s0 : State} (h0' : Keeps a s0) :
    Keeps a (State.reloadHats s0) := by
  unfold State.reloadHats
  extract_lets vc_1 vs1_2 vhat_3 vs2_4 vdio_5 vsrc_6
  have h7 : Keeps a vs1_2 := by
    unfold vs1_2
    apply keeps_foldl
    · intro x8 x9 h10
      apply State.setReg_keeps
      exact h10
    · exact h0'
  clear_value vs1_2
  have h11 : Keeps a vs2_4 := by
    unfold vs2_4
    apply keeps_foldl
    · intro x12 x13 h14
      apply State.setReg_keeps
      exact h14
    · exact h7
  clear_value vs2_4
  refine keeps_mk ?_ rfl
  exact h11

theorem State.reload_keeps {a : State} {s0 : State} (h0' : Keeps a s0) : Keeps a s0.reload := by
  unfold State.reload
  split
  · exact h0'
  · extract_lets c put m1 m2 s1 s2 table x4
    have h1 : Keeps a s1 := by
      unfold s1
      exact Keeps.step h0' rfl rfl (fun x => wf_putTable_if (wf_putTable_if x _ _ _) _ _ _) (fun x => x) (Nat.le_refl _)
        (fun x => x)
    clear_value s1
    have h2 : Keeps a s2 := by
      unfold s2
      exact State.reloadHats_keeps h1
    clear_value s2
    exact keeps_mk h2 rfl

theorem State.restartLoops_keeps {a : State} {s0 : State} (p1 : Bool) (h0' : Keeps a s0) :
    Keeps a (State.restartLoops s0 p1) := by
  unfold State.restartLoops
  extract_lets vinteg_1 vsrc_2 vsrc_3 vsrc_4 vs1_5
  have h6 : Keeps a vs1_5 := by
    unfold vs1_5
    split
    · exact h0'
    · refine keeps_mk ?_ rfl
      exact h0'
  clear_value vs1_5
  dsimp only
  apply keeps_foldl
  · intro x7 x8 h9
    split
    · split
      · exact h9
      · split
        · split
          · apply State.makeRole_keeps
            apply State.makeRole_keeps
            exact h9
          · apply State.makeRole_keeps
            exact h9
        · split
          · apply State.makeRole_keeps
            exact h9
          · exact h9
    · exact h9
  · exact h6

theorem State.restart_keeps {a : State} {s0 : State} (p1 : Bool) (h0' : Keeps a s0) :
    Keeps a (State.restart s0 p1) := by
  unfold State.restart
  extract_lets vs1_1 vs2_2 vsrc_3 vs3_4 vs4_5 vsrc_6
  have h7 : Keeps a vs1_1 := by
    unfold vs1_1
    apply State.unforce_keeps
    apply State.stopAll_keeps
    exact h0'
  clear_value vs1_1
  have h8 : Keeps a vs2_2 := by
    unfold vs2_2
    apply keeps_foldl
    · intro x9 x10 h11
      apply State.setReg_keeps
      exact h11
    · apply State.reload_keeps
      exact h7
  clear_value vs2_2
  have h12 : Keeps a vs3_4 := by
    unfold vs3_4
    refine keeps_mk ?_ rfl
    exact h8
  clear_value vs3_4
  have h13 : Keeps a vs4_5 := by
    unfold vs4_5
    apply State.restartLoops_keeps
    apply State.restartTasks_keeps
    exact h12
  clear_value vs4_5
  refine keeps_mk ?_ rfl
  exact h13

theorem State.startupEnd_keeps {a : State} {s0 : State} (p1 : Bool) (h0' : Keeps a s0) :
    Keeps a (State.startupEnd s0 p1) := by
  unfold State.startupEnd
  extract_lets vs0_1 vs1_2 vw_3 vwarm_4 vs2_5 vs3_6 vsrc_7 vsrc_8
  have h9 : Keeps a vs0_1 := by
    unfold vs0_1
    apply State.lcsResume_keeps
    split
    · apply State.sealedLost_keeps
      exact h0'
    · exact h0'
  clear_value vs0_1
  have h10 : Keeps a vs1_2 := by
    unfold vs1_2
    apply State.evalRetain_keeps
    apply State.resumeReclaim_keeps
    exact h9
  clear_value vs1_2
  have h11 : Keeps a vs2_5 := by
    unfold vs2_5
    split
    · apply State.raiseSrc_keeps
      exact h10
    · exact h10
  clear_value vs2_5
  have h12 : Keeps a vs3_6 := by
    unfold vs3_6
    apply State.enterTarget_keeps
    apply State.restart_keeps
    exact h11
  clear_value vs3_6
  split
  · refine keeps_mk ?_ rfl
    exact h12
  · exact h0'

theorem State.vioChange_keeps {a : State} {s0 : State} (p1 : ℕ) (p2 : Bool) (h0' : Keeps a s0) :
    Keeps a (State.vioChange s0 p1 p2) := by
  unfold State.vioChange
  extract_lets vsrc_1
  split
  · refine keeps_mk ?_ rfl
    exact h0'
  · split
    · apply State.raiseSrc_keeps
      refine keeps_mk ?_ rfl
      exact h0'
    · exact h0'

theorem State.fpRefuse_keeps {a : State} {s0 : State} (p1 : ℕ) (p2 : ℕ) (p3 : TxEntry) (p4 : ℕ) (h0' : Keeps a s0) :
    Keeps a (State.fpRefuse s0 p1 p2 p3 p4) := by
  unfold State.fpRefuse
  extract_lets vg_1 vpair_2 vs1_3 vx_4
  have h5 : Keeps a vs1_3 := by
    unfold vs1_3
    apply State.consume_keeps
    exact h0'
  clear_value vs1_3
  apply State.txDone_keeps
  apply State.setFp_keeps
  exact h5

theorem State.fpHold_keeps {a : State} {s0 : State} (p1 : ℕ) (p2 : ℕ) (h0' : Keeps a s0) :
    Keeps a (State.fpHold s0 p1 p2) := by
  unfold State.fpHold
  extract_lets vx_1
  apply State.setFp_keeps
  exact h0'

theorem State.fpStart_keeps {a : State} {s0 : State} (p1 : ℕ) (p2 : ℕ) (p3 : TxEntry) (p4 : Bool) (p5 : Bool) (h0' : Keeps a s0) :
    Keeps a (State.fpStart s0 p1 p2 p3 p4 p5) := by
  unfold State.fpStart
  extract_lets vg_1 vfl_2 vbody_3 vs1_4 vx_5 vs2_6
  have h7 : Keeps a vs1_4 := by
    unfold vs1_4
    apply State.consume_keeps
    exact h0'
  clear_value vs1_4
  have h8 : Keeps a vs2_6 := by
    unfold vs2_6
    apply State.setFp_keeps
    exact h7
  clear_value vs2_6
  split
  · apply State.emit_keeps
    exact h8
  · apply State.violation_keeps
    exact h8

theorem State.fpJudged_keeps {a : State} {s0 : State} (p1 : ℕ) (p2 : ℕ) (p3 : TxEntry) (p4 : Launch) (h0' : Keeps a s0) :
    Keeps a (State.fpJudged s0 p1 p2 p3 p4) := by
  unfold State.fpJudged
  extract_lets vs1_1
  have h2 : Keeps a vs1_1 := by
    unfold vs1_1
    apply State.countLaunch_keeps
    exact h0'
  clear_value vs1_1
  split
  · apply State.fpRefuse_keeps
    exact h2
  · apply State.fpHold_keeps
    exact h2
  · apply State.fpStart_keeps
    exact h2
  · apply State.fpRefuse_keeps
    exact h2
  · apply State.fpStart_keeps
    exact h2

theorem State.launchDue_keeps {a : State} {s0 : State} (p1 : ℕ) (h0' : Keeps a s0) :
    Keeps a (State.launchDue s0 p1) := by
  unfold State.launchDue
  extract_lets vsrc_1 vp_2 vx_3 ve_4
  split
  · split
    · apply State.fpJudged_keeps
      exact h0'
    · apply State.fpStart_keeps
      exact h0'
  · exact h0'

theorem State.viewMoved_keeps {a : State} {s0 : State} (p1 : CfgRec) (p2 : CfgEdit) (h0' : Keeps a s0) :
    Keeps a (State.viewMoved s0 p1 p2) := by
  unfold State.viewMoved
  dsimp only
  split
  · split
    · exact h0'
    · apply State.assign_keeps
      apply State.assign_keeps
      exact h0'
  · exact h0'

theorem State.journalDone_keeps {a : State} {s0 : State} (p1 : Bool) (h0' : Keeps a s0) :
    Keeps a (State.journalDone s0 p1) := by
  unfold State.journalDone
  extract_lets vold_1 vsrc_2
  dsimp only
  split
  · exact h0'
  · split
    · split
      · apply State.viewMoved_keeps
        refine keeps_mk ?_ rfl
        exact h0'
      · refine keeps_mk ?_ rfl
        exact h0'
    · split
      · apply State.complete_keeps
        split
        · apply State.viewMoved_keeps
          refine keeps_mk ?_ rfl
          exact h0'
        · refine keeps_mk ?_ rfl
          exact h0'
      · split
        · apply State.complete_keeps
          split
          · apply State.viewMoved_keeps
            refine keeps_mk ?_ rfl
            exact h0'
          · refine keeps_mk ?_ rfl
            exact h0'
        · apply State.complete_keeps
          split
          · apply State.viewMoved_keeps
            refine keeps_mk ?_ rfl
            exact h0'
          · refine keeps_mk ?_ rfl
            exact h0'

theorem State.goOn_keeps {a : State} {s0 : State} (p1 : ℕ) (h0' : Keeps a s0) :
    Keeps a (State.goOn s0 p1) := by
  unfold State.goOn
  split
  · exact h0'
  · apply State.kick_keeps
    exact h0'

theorem State.ptbStarting_keeps {a : State} {s0 : State} (p1 : List ℕ) (h0' : Keeps a s0) :
    Keeps a (State.ptbStarting s0 p1) := by
  unfold State.ptbStarting
  extract_lets vm_1 vabove_2 vsrc_3 vs1_4 vsrc_5 vs2_6 vs3_7
  have h8 : Keeps a vs1_4 := by
    unfold vs1_4
    refine keeps_mk ?_ rfl
    exact h0'
  clear_value vs1_4
  have h9 : Keeps a vs2_6 := by
    unfold vs2_6
    refine keeps_mk ?_ rfl
    exact h8
  clear_value vs2_6
  have h10 : Keeps a vs3_7 := by
    unfold vs3_7
    split
    · exact h9
    · apply State.raiseSrc_keeps
      exact h9
  clear_value vs3_7
  split
  · exact h10
  · apply State.raiseSrc_keeps
    exact h10

theorem State.lseStarting_keeps {a : State} {s0 : State} (p1 : List ℕ) (h0' : Keeps a s0) :
    Keeps a (State.lseStarting s0 p1) := by
  unfold State.lseStarting
  extract_lets vbase_1 vkeys_2 vrows_3 vsrc_4 vs1_5
  have h6 : Keeps a vs1_5 := by
    unfold vs1_5
    refine keeps_mk ?_ rfl
    exact h0'
  clear_value vs1_5
  split
  · exact h6
  · apply State.raiseSrc_keeps
    exact h6

theorem State.ainStarting_keeps {a : State} {s0 : State} (h0' : Keeps a s0) :
    Keeps a (State.ainStarting s0) := by
  unfold State.ainStarting
  extract_lets vsrc_1 vs1_2
  have h3 : Keeps a vs1_2 := by
    unfold vs1_2
    refine keeps_mk ?_ rfl
    exact h0'
  clear_value vs1_2
  apply keeps_foldl
  · intro x4 x5 h6
    split
    · apply State.setReg_keeps
      exact h6
    · exact h6
  · exact h3

theorem State.pinStarting_keeps {a : State} {s0 : State} (h0' : Keeps a s0) :
    Keeps a (State.pinStarting s0) := by
  unfold State.pinStarting
  extract_lets vwaves_1 vsrc_2 vs1_3 vs2_4
  have h5 : Keeps a vs1_3 := by
    unfold vs1_3
    refine keeps_mk ?_ rfl
    exact h0'
  clear_value vs1_3
  have h6 : Keeps a vs2_4 := by
    unfold vs2_4
    apply keeps_foldl
    · intro x7 x8 h9
      apply State.setReg_keeps
      exact h9
    · exact h5
  clear_value vs2_4
  dsimp only
  apply keeps_foldl
  · intro x10 x11 h12
    apply State.setReg_keeps
    exact h12
  · exact h6

theorem State.kettleRestart_keeps {a : State} {s0 : State} (p1 : ℕ) (h0' : Keeps a s0) :
    Keeps a (State.kettleRestart s0 p1) := by
  unfold State.kettleRestart
  dsimp only
  apply keeps_foldl
  · intro x1 x2 h3
    apply keeps_foldl
    · intro x4 x5 h6
      split
      · apply State.makeTaskRole_keeps
        split
        · apply State.coldCommit_keeps
          exact h6
        · exact h6
      · exact h6
    · exact h3
  · exact h0'

theorem State.startedHook_keeps {a : State} {s0 : State} (p1 : ℕ) (p2 : List ℕ) (h0' : Keeps a s0) :
    Keeps a (State.startedHook s0 p1 p2) := by
  unfold State.startedHook
  extract_lets vk_1
  split
  · apply State.ptbStarting_keeps
    exact h0'
  · apply State.tpiStarting_keeps
    exact h0'
  · apply State.lseStarting_keeps
    exact h0'
  · apply State.ainStarting_keeps
    exact h0'
  · apply State.pinStarting_keeps
    exact h0'
  · apply State.aoutStarting_keeps
    exact h0'
  · apply State.dioStarting_keeps
    exact h0'
  · apply State.tmbStarting_keeps
    exact h0'
  · apply State.rsStarting_keeps
    exact h0'
  · apply State.kettleRestart_keeps
    exact h0'
  · apply State.usbAttach_keeps
    exact h0'
  · exact h0'

theorem State.pageStart_keeps {a : State} {s0 : State} (p1 : ℕ) (p2 : List ℕ) (h0' : Keeps a s0) :
    Keeps a (State.pageStart s0 p1 p2) := by
  unfold State.pageStart
  split
  · apply State.goOn_keeps
    apply State.startedHook_keeps
    apply State.setCur_keeps
    exact h0'
  · exact h0'

theorem State.startPlaced_keeps {a : State} {s0 : State} (p1 : ℕ) (p2 : ℕ) (p3 : List Bool) (h0' : Keeps a s0) :
    Keeps a (State.startPlaced s0 p1 p2 p3).1 := by
  unfold State.startPlaced
  extract_lets vsrc_1
  dsimp only
  split
  · split
    · dsimp only
      apply State.setLoop_keeps
      exact h0'
    · split
      · dsimp only
        apply State.startShadow_keeps
        exact h0'
      · dsimp only
        exact h0'
  · dsimp only
    exact h0'

theorem State.rest_keeps {a : State} {s0 : State} (h0' : Keeps a s0) :
    Keeps a (State.rest s0) := by
  unfold State.rest
  extract_lets vsrc_1 vsrc_2 vsrc_3
  refine Keeps.step (s := s0) ?_ ?_ ?_ ?_ ?_ ?_ ?_
  · exact h0'
  · rfl
  · rfl
  · intro x4
    rfl
  · intro x5
    rfl
  · rfl
  · intro x6
    assumption

theorem State.bellCtrl_keeps {a : State} {s0 : State} (p1 : ℕ) (p2 : ℕ) (p3 : Word) (p4 : Bool) (h0' : Keeps a s0) :
    Keeps a (State.bellCtrl s0 p1 p2 p3 p4) := by
  unfold State.bellCtrl
  extract_lets vs1_1 vx_2
  have h3 : Keeps a vs1_1 := by
    unfold vs1_1
    apply State.bellChecked_keeps
    exact h0'
  clear_value vs1_1
  split
  · apply State.violation_keeps
    exact h0'
  · split
    · exact h0'
    · apply State.checkQueue_keeps
      apply State.setQueue_keeps
      exact h3

theorem State.releaseTask_keeps {a : State} {s0 : State} (p1 : ℕ) (p2 : ℕ) (p3 : Bool) (p4 : Sparse LoopCtl) (h0' : Keeps a s0) :
    Keeps a (State.releaseTask s0 p1 p2 p3 p4) := by
  unfold State.releaseTask
  extract_lets vx_1 vr_2 vother_3 vcp_4 vsrc_5 vr1_6 vs1_7
  have h8 : Keeps a vs1_7 := by
    unfold vs1_7
    apply State.setTask_keeps
    exact h0'
  clear_value vs1_7
  split
  · apply State.storeWork_keeps
    exact h8
  · exact h8

theorem State.tasksRelease_keeps {a : State} {s0 : State} (p1 : ℕ) (p2 : List (ℕ × Sparse LoopCtl)) (p3 : List (ℕ × Bool)) (h0' : Keeps a s0) :
    Keeps a (State.tasksRelease s0 p1 p2 p3) := by
  unfold State.tasksRelease
  apply keeps_foldl
  · intro x1 x2 h3
    split
    · apply State.releaseTask_keeps
      exact h3
    · exact h3
  · exact h0'

theorem State.sevDefaults_keeps {a : State} {s0 : State} (p1 : Word) (h0' : Keeps a s0) :
    Keeps a (State.sevDefaults s0 p1) := by
  unfold State.sevDefaults
  extract_lets vsrc_1
  split
  · refine keeps_mk ?_ rfl
    exact h0'
  · exact h0'

theorem State.resyncTask_keeps {a : State} {s0 : State} (p1 : ℕ) (h0' : Keeps a s0) :
    Keeps a (State.resyncTask s0 p1) := by
  unfold State.resyncTask
  extract_lets vx_1 vsrc_2 vsrc_3
  split
  · apply State.storeWork_keeps
    apply State.setTask_keeps
    exact h0'
  · exact h0'

theorem State.putReg_keeps {a : State} {s0 : State} (p1 : ℕ) (p2 : ℕ) (p3 : Word) (h0' : Keeps a s0) :
    Keeps a (State.putReg s0 p1 p2 p3) := by
  unfold State.putReg
  extract_lets vold_1 vput_2
  have h3 : ∀ y0, Keeps a (vput_2 y0) := by
    unfold vput_2
    intro x4
    apply State.setReg_keeps
    exact h0'
  split
  · exact h0'
  · split
    · apply State.setReg_keeps
      exact h0'
    · split
      · split
        · apply h3
        · apply State.bump_keeps
          exact h0'
      · split
        · apply h3
        · exact h0'

theorem State.putBank_keeps {a : State} {s0 : State} (p1 : ℕ) (p2 : ℕ) (p3 : ℕ) (p4 : Word) (h0' : Keeps a s0) :
    Keeps a (State.putBank s0 p1 p2 p3 p4) := by
  unfold State.putBank
  split
  · split
    · exact h0'
    · apply State.setBreg_keeps
      exact h0'
  · exact h0'

theorem State.rtcCtrl_keeps {a : State} {s0 : State} (p1 : Word) (h0' : Keeps a s0) :
    Keeps a (State.rtcCtrl s0 p1) := by
  unfold State.rtcCtrl
  extract_lets vsrc_1
  split
  · refine keeps_mk ?_ rfl
    exact h0'
  · exact h0'

theorem State.nudgeWrite_keeps {a : State} {s0 : State} (p1 : Word) (h0' : Keeps a s0) :
    Keeps a (State.nudgeWrite s0 p1) := by
  unfold State.nudgeWrite
  extract_lets vk_1 vsrc_2 vsrc_3
  have h4 : Keeps a vsrc_2 := by
    unfold vsrc_2
    apply State.setReg_keeps
    exact h0'
  clear_value vsrc_2
  split
  · exact h0'
  · refine keeps_mk ?_ rfl
    exact h4

theorem State.rateWrite_keeps {a : State} {s0 : State} (p1 : ℕ) (p2 : Word) (h0' : Keeps a s0) :
    Keeps a (State.rateWrite s0 p1 p2) := by
  unfold State.rateWrite
  extract_lets vr_1
  split
  · apply State.setRate_keeps
    exact h0'
  · exact h0'

theorem State.tmbWrite_keeps {a : State} {s0 : State} (p1 : ℕ) (p2 : ℕ) (p3 : Word) (h0' : Keeps a s0) :
    Keeps a (State.tmbWrite s0 p1 p2 p3) := by
  unfold State.tmbWrite
  extract_lets vp_1
  split
  · exact h0'
  · split
    · apply State.setReg_keeps
      exact h0'
    · split
      · apply State.offsetSample_keeps
        exact h0'
      · split
        · apply State.rateWrite_keeps
          exact h0'
        · split
          · apply State.capture_keeps
            exact h0'
          · apply State.putReg_keeps
            exact h0'

theorem State.fpCfgWrite_keeps {a : State} {s0 : State} (p1 : ℕ) (p2 : Word) (h0' : Keeps a s0) :
    Keeps a (State.fpCfgWrite s0 p1 p2) := by
  unfold State.fpCfgWrite
  extract_lets vs1_1
  have h2 : Keeps a vs1_1 := by
    unfold vs1_1
    apply State.fpIdleEnd_keeps
    apply State.putReg_keeps
    exact h0'
  clear_value vs1_1
  split
  · apply State.raiseSrc_keeps
    exact h2
  · exact h2

theorem State.mdioWrite_keeps {a : State} {s0 : State} (p1 : ℕ) (p2 : Word) (h0' : Keeps a s0) :
    Keeps a (State.mdioWrite s0 p1 p2) := by
  unfold State.mdioWrite
  extract_lets vx_1 vs1_2 vop_3
  have h4 : Keeps a vs1_2 := by
    unfold vs1_2
    apply State.setReg_keeps
    exact h0'
  clear_value vs1_2
  split
  · exact h0'
  · split
    · apply State.emit_keeps
      apply State.setFp_keeps
      exact h4
    · exact h4

theorem State.eeeWrite_keeps {a : State} {s0 : State} (p1 : ℕ) (p2 : Word) (h0' : Keeps a s0) :
    Keeps a (State.eeeWrite s0 p1 p2) := by
  unfold State.eeeWrite
  extract_lets vs1_1
  have h2 : Keeps a vs1_1 := by
    unfold vs1_1
    apply State.putReg_keeps
    exact h0'
  clear_value vs1_1
  split
  · exact h2
  · apply State.fpWake_keeps
    exact h2

theorem State.canRamWrite_keeps {a : State} {s0 : State} (p1 : ℕ) (p2 : ℕ) (p3 : ℕ) (p4 : Word) (h0' : Keeps a s0) :
    Keeps a (State.canRamWrite s0 p1 p2 p3 p4) := by
  unfold State.canRamWrite
  extract_lets vbank_1
  split
  · exact h0'
  · split
    · apply State.bump_keeps
      exact h0'
    · apply State.setCan_keeps
      exact h0'

theorem State.canRecoverWrite_keeps {a : State} {s0 : State} (p1 : ℕ) (p2 : Word) (h0' : Keeps a s0) :
    Keeps a (State.canRecoverWrite s0 p1 p2) := by
  unfold State.canRecoverWrite
  extract_lets vx_1
  split
  · apply State.setCan_keeps
    exact h0'
  · exact h0'

theorem State.canTxReq_keeps {a : State} {s0 : State} (p1 : ℕ) (p2 : ℕ) (p3 : Word) (h0' : Keeps a s0) :
    Keeps a (State.canTxReq s0 p1 p2 p3) := by
  unfold State.canTxReq
  extract_lets vx_1 vl_2 vnew_3
  apply State.setCan_keeps
  exact h0'

theorem State.canTxCancel_keeps {a : State} {s0 : State} (p1 : ℕ) (p2 : ℕ) (p3 : Word) (h0' : Keeps a s0) :
    Keeps a (State.canTxCancel s0 p1 p2 p3) := by
  unfold State.canTxCancel
  extract_lets vx_1
  apply State.setCan_keeps
  exact h0'

theorem State.canAck_keeps {a : State} {s0 : State} (p1 : ℕ) (p2 : Bool) (p3 : Word) (h0' : Keeps a s0) :
    Keeps a (State.canAck s0 p1 p2 p3) := by
  unfold State.canAck
  extract_lets vx_1 vf_2 vk_3
  split
  · apply State.setCan_keeps
    exact h0'
  · exact h0'

theorem State.canWrite_keeps {a : State} {s0 : State} (p1 : ℕ) (p2 : ℕ) (p3 : ℕ) (p4 : Word) (h0' : Keeps a s0) :
    Keeps a (State.canWrite s0 p1 p2 p3 p4) := by
  unfold State.canWrite
  split
  · apply State.canRecoverWrite_keeps
    exact h0'
  · split
    · apply State.putBank_keeps
      exact h0'
    · split
      · apply State.canTxReq_keeps
        exact h0'
      · split
        · apply State.canTxCancel_keeps
          exact h0'
        · split
          · apply State.canAck_keeps
            exact h0'
          · apply State.putReg_keeps
            exact h0'

theorem State.partnerNew_keeps {a : State} {s0 : State} (h0' : Keeps a s0) :
    Keeps a (State.partnerNew s0) := by
  unfold State.partnerNew
  extract_lets vsrc_1
  refine keeps_mk ?_ rfl
  exact h0'

theorem State.lseCtrlWrite_keeps {a : State} {s0 : State} (p1 : Word) (h0' : Keeps a s0) :
    Keeps a (State.lseCtrlWrite s0 p1) := by
  unfold State.lseCtrlWrite
  extract_lets vs1_1
  have h2 : Keeps a vs1_1 := by
    unfold vs1_1
    apply State.putReg_keeps
    exact h0'
  clear_value vs1_1
  split
  · exact h2
  · apply State.partnerNew_keeps
    exact h2

theorem State.blockWrite_keeps {a : State} {s0 : State} (p1 : ℕ) (p2 : ℕ) (p3 : ℕ) (p4 : ℕ) (p5 : Word) (h0' : Keeps a s0) :
    Keeps a (State.blockWrite s0 p1 p2 p3 p4 p5) := by
  unfold State.blockWrite
  extract_lets vk_1 vsrc_2 vsrc_3
  split
  · split
    · split
      · apply State.policyWrite_keeps
        exact h0'
      · exact h0'
    · split
      · apply State.resetWrite_keeps
        exact h0'
      · apply State.putReg_keeps
        exact h0'
  · split
    · refine keeps_mk ?_ rfl
      exact h0'
    · apply State.putReg_keeps
      exact h0'
  · split
    · apply State.putBank_keeps
      exact h0'
    · split
      · apply State.sevWrite_keeps
        exact h0'
      · split
        · apply State.sevDefaults_keeps
          exact h0'
        · apply State.putReg_keeps
          exact h0'
  · apply State.putBank_keeps
    exact h0'
  · split
    · apply State.rtcCtrl_keeps
      exact h0'
    · split
      · apply State.nudgeWrite_keeps
        exact h0'
      · apply State.putReg_keeps
        exact h0'
  · apply State.tmbWrite_keeps
    exact h0'
  · split
    · apply State.fpCfgWrite_keeps
      exact h0'
    · split
      · apply State.mdioWrite_keeps
        exact h0'
      · split
        · apply State.eeeWrite_keeps
          exact h0'
        · apply State.putReg_keeps
          exact h0'
  · split
    · apply State.canRamWrite_keeps
      exact h0'
    · apply State.canWrite_keeps
      exact h0'
  · split
    · apply State.pinLoad_keeps
      exact h0'
    · apply State.putReg_keeps
      exact h0'
  · split
    · apply State.lseCtrlWrite_keeps
      exact h0'
    · apply State.putReg_keeps
      exact h0'
  · split
    · apply State.vfGlove_keeps
      exact h0'
    · apply State.putReg_keeps
      exact h0'
  · apply State.putReg_keeps
    exact h0'
  · apply State.putReg_keeps
    exact h0'
  · apply State.putReg_keeps
    exact h0'
  · apply State.putReg_keeps
    exact h0'
  · apply State.putReg_keeps
    exact h0'
  · apply State.putReg_keeps
    exact h0'
  · apply State.putReg_keeps
    exact h0'
  · apply State.putReg_keeps
    exact h0'
  · apply State.putReg_keeps
    exact h0'
  · apply State.putReg_keeps
    exact h0'
  · apply State.putReg_keeps
    exact h0'
  · apply State.putReg_keeps
    exact h0'
  · apply State.putReg_keeps
    exact h0'
  · apply State.putReg_keeps
    exact h0'
  · apply State.putReg_keeps
    exact h0'
  · apply State.putReg_keeps
    exact h0'
  · apply State.putReg_keeps
    exact h0'
  · apply State.putReg_keeps
    exact h0'
  · exact h0'

theorem State.regStore_keeps {a : State} {s0 : State} (p1 : ℕ) (p2 : ℕ) (p3 : ℕ) (p4 : ℕ) (p5 : Word) (h0' : Keeps a s0) :
    Keeps a (State.regStore s0 p1 p2 p3 p4 p5) := by
  unfold State.regStore
  split
  · apply State.headWrite_keeps
    exact h0'
  · apply State.blockWrite_keeps
    exact h0'

theorem State.windowWrite_keeps {a : State} {s0 : State} (p1 : Requester) (p2 : ℕ) (p3 : Word) (h0' : Keeps a s0) :
    Keeps a (State.windowWrite s0 p1 p2 p3) := by
  unfold State.windowWrite
  extract_lets vp_1 vo_2 vq_3
  split
  · apply State.issue_keeps
    · exact h0'
    · intro x4 x5 h6
      apply cmdByOp_keeps
      exact h6
  · split
    · apply State.onBell_keeps
      · exact h0'
      · intro x7 x8 h9
        split
        · apply State.bellIndex_keeps
          exact h9
        · apply State.bellCtrl_keeps
          exact h9
        · apply State.bellSeen_keeps
          exact h9
    · apply State.onWrite_keeps
      · exact h0'
      · intro x10 x11 h12
        apply State.regStore_keeps
        exact h12

theorem State.dropRole_keeps {a : State} {s0 : State} (p1 : ℕ) (p2 : Bool) (h0' : Keeps a s0) :
    Keeps a (State.dropRole s0 p1 p2) := by
  unfold State.dropRole
  extract_lets vx_1 vy_2
  split
  · apply State.setLoop_keeps
    exact h0'
  · apply State.setLoop_keeps
    exact h0'

theorem State.stopNow_keeps {a : State} {s0 : State} (p1 : ℕ) (h0' : Keeps a s0) :
    Keeps a (State.stopNow s0 p1) := by
  unfold State.stopNow
  extract_lets vsrc_1 vs0_2
  have h3 : Keeps a vs0_2 := by
    unfold vs0_2
    apply State.setLoop_keeps
    exact h0'
  clear_value vs0_2
  dsimp only
  split
  · exact h0'
  · split
    · split
      · apply State.complete_keeps
        exact h3
      · apply State.complete_keeps
        split
        · split
          · split
            · apply State.dropRole_keeps
              apply State.dropRole_keeps
              exact h3
            · apply State.writerNone_keeps
              apply State.dropRole_keeps
              apply State.dropRole_keeps
              exact h3
          · split
            · apply State.dropRole_keeps
              exact h3
            · apply State.writerNone_keeps
              apply State.dropRole_keeps
              exact h3
        · split
          · split
            · apply State.dropRole_keeps
              exact h3
            · apply State.writerNone_keeps
              apply State.dropRole_keeps
              exact h3
          · split
            · exact h3
            · apply State.writerNone_keeps
              exact h3
    · split
      · apply State.complete_keeps
        exact h3
      · split
        · split
          · split
            · apply State.dropRole_keeps
              apply State.dropRole_keeps
              exact h3
            · apply State.writerNone_keeps
              apply State.dropRole_keeps
              apply State.dropRole_keeps
              exact h3
          · split
            · apply State.dropRole_keeps
              exact h3
            · apply State.writerNone_keeps
              apply State.dropRole_keeps
              exact h3
        · split
          · split
            · apply State.dropRole_keeps
              exact h3
            · apply State.writerNone_keeps
              apply State.dropRole_keeps
              exact h3
          · split
            · exact h3
            · apply State.writerNone_keeps
              exact h3

theorem State.resyncLoop_keeps {a : State} {s0 : State} (p1 : ℕ) (h0' : Keeps a s0) :
    Keeps a (State.resyncLoop s0 p1) := by
  unfold State.resyncLoop
  extract_lets vx_1 vsrc_2
  split
  · apply State.putRole_keeps
    apply State.setLoop_keeps
    exact h0'
  · exact h0'

theorem State.countLate_keeps {a : State} {s0 : State} (p1 : ℕ) (h0' : Keeps a s0) :
    Keeps a (State.countLate s0 p1) := by
  unfold State.countLate
  apply State.raiseSrc_keeps
  apply State.bump_keeps
  apply State.bump_keeps
  exact h0'

theorem State.latePeriod_keeps {a : State} {s0 : State} (p1 : ℕ) (p2 : List Bool) (h0' : Keeps a s0) :
    Keeps a (State.latePeriod s0 p1 p2) := by
  unfold State.latePeriod
  extract_lets vx_1 vs1_2 vs2_3
  have h4 : Keeps a vs1_2 := by
    unfold vs1_2
    apply State.setLoop_keeps
    exact h0'
  clear_value vs1_2
  have h5 : Keeps a vs2_3 := by
    unfold vs2_3
    apply keeps_foldl
    · intro x6 x7 h8
      apply State.putRole_keeps
      exact h8
    · exact h4
  clear_value vs2_3
  apply keeps_foldl
  · intro x9 x10 h11
    apply State.countLate_keeps
    exact h11
  · exact h5

theorem State.publishLoop_keeps {a : State} {s0 : State} (p1 : ℕ) (p2 : ℕ) (p3 : Role) (h0' : Keeps a s0) :
    Keeps a (State.publishLoop s0 p1 p2 p3) := by
  unfold State.publishLoop
  extract_lets vd_1 vw_2 vq_3 vs1_4 vs2_5 vsrc_6
  have h7 : Keeps a vs1_4 := by
    unfold vs1_4
    apply State.writePoint_keeps
    exact h0'
  clear_value vs1_4
  have h8 : Keeps a vs2_5 := by
    unfold vs2_5
    split
    · apply State.writePoint_keeps
      exact h7
    · exact h7
  clear_value vs2_5
  apply State.setLoop_keeps
  exact h8

theorem State.publishPeriod_keeps {a : State} {s0 : State} (p1 : ℕ) (p2 : ℕ) (p3 : Bool) (h0' : Keeps a s0) :
    Keeps a (State.publishPeriod s0 p1 p2 p3).1 := by
  unfold State.publishPeriod
  extract_lets vx_1 vo_2 vh_3 vsame_4 vsrc_5
  dsimp only
  split
  · dsimp only
    exact h0'
  · split
    · split
      · dsimp only
        apply State.mismatch_keeps
        apply State.setLoop_keeps
        exact h0'
      · dsimp only
        apply State.publishLoop_keeps
        apply State.setLoop_keeps
        exact h0'
    · dsimp only
      apply State.publishLoop_keeps
      apply State.setLoop_keeps
      exact h0'

theorem State.swapLoop_keeps {a : State} {s0 : State} (p1 : ℕ) (p2 : ℕ) (h0' : Keeps a s0) :
    Keeps a (State.swapLoop s0 p1 p2) := by
  unfold State.swapLoop
  extract_lets x slot ad w w1 s1
  have h1 : Keeps a s1 := by
    unfold s1
    apply State.store_keeps
    apply State.setLoop_keeps
    exact h0'
  clear_value s1 slot
  cases slot with
  | some n =>
    dsimp only
    split
    · apply State.complete_keeps
      apply State.setLoop_keeps
      exact h0'
    · exact State.complete_keeps _ _ _ _ _ h1
  | none => simpa using h1

theorem State.checkRoles_keeps {a : State} {s0 : State} (p1 : ℕ) (p2 : ℕ) (p3 : List Bool) (p4 : Bool) (h0' : Keeps a s0) :
    Keeps a (State.checkRoles s0 p1 p2 p3 p4).1 := by
  unfold State.checkRoles
  extract_lets vx_1 vfresh_2 vs1_3 vjoint_4 vp_5 vready_6 vs2_7
  have h8 : Keeps a vs1_3 := by
    unfold vs1_3
    apply State.setLoop_keeps
    exact h0'
  clear_value vs1_3
  have h9 : Keeps a vp_5.1 := by
    unfold vp_5
    split
    · apply State.publishPeriod_keeps
      exact h8
    · dsimp only
      apply State.setLoop_keeps
      exact h8
  have h10 : Keeps a vs2_7 := by
    unfold vs2_7
    split
    · apply State.swapLoop_keeps
      exact h9
    · exact h9
  clear_value vs2_7
  split
  · dsimp only
    apply State.latePeriod_keeps
    exact h0'
  · dsimp only
    exact h10

theorem State.checkLoop_keeps {a : State} {s0 : State} (p1 : ℕ) (p2 : ℕ) (h0' : Keeps a s0) :
    Keeps a (State.checkLoop s0 p1 p2).1 := by
  unfold State.checkLoop
  extract_lets vx_1 vo_2 vh_3 vod_4 vhd_5 vjoint_6 vs0_7 vs1_8 va_9 vswapped_10 vb_11
  have h12 : Keeps a vs0_7 := by
    unfold vs0_7
    split
    · apply State.clearNow_keeps
      exact h0'
    · exact h0'
  clear_value vs0_7
  have h13 : Keeps a vs1_8 := by
    unfold vs1_8
    split
    · apply State.resyncLoop_keeps
      exact h12
    · exact h12
  clear_value vs1_8
  have h14 : Keeps a va_9.1 := by
    unfold va_9
    split
    · apply State.checkRoles_keeps
      exact h13
    · dsimp only
      exact h13
  have h15 : Keeps a vb_11.1 := by
    unfold vb_11
    split
    · apply State.checkRoles_keeps
      exact h14
    · dsimp only
      exact h14
  split
  · dsimp only
    exact h12
  · split
    · apply State.checkRoles_keeps
      exact h13
    · apply State.startPlaced_keeps
      exact h15

theorem State.loopsCheck_keeps {a : State} {s0 : State} (p1 : ℕ) (h0' : Keeps a s0) :
    Keeps a (State.loopsCheck s0 p1).1 := by
  unfold State.loopsCheck
  extract_lets vs1_1
  have h2 : Keeps a vs1_1 := by
    unfold vs1_1
    apply keeps_foldl
    · intro x3 x4 h5
      apply State.stopNow_keeps
      exact h5
    · exact h0'
  clear_value vs1_1
  dsimp only
  apply keeps_foldl_fst
  · intro x6 x7 h8
    dsimp only
    apply State.checkLoop_keeps
    exact h8
  · dsimp only
    exact h2

theorem State.beTake_keeps {a : State} {s0 : State} (p1 : Bool) (p2 : ℕ) (h0' : Keeps a s0) :
    Keeps a (State.beTake s0 p1 p2) := by
  unfold State.beTake
  extract_lets ve_1 vg_2 vpair_3 vedge_4 vbody_5 vt_6 vs1_7 vl_8 vs2_9
  have h10 : Keeps a vs1_7 := by
    unfold vs1_7
    apply State.consume_keeps
    exact h0'
  clear_value vs1_7
  have h11 : Keeps a vs2_9 := by
    unfold vs2_9
    apply keeps_foldl
    · intro x12 x13 h14
      split
      · apply State.onPort_keeps
        exact h14
      · apply State.bump_keeps
        exact h14
    · exact h10
  clear_value vs2_9
  split
  · apply State.txDone_keeps
    exact h10
  · split
    · apply State.txDone_keeps
      apply State.violation_keeps
      exact h10
    · split
      · split
        · apply State.txDone_keeps
          exact h11
        · apply State.txDone_keeps
          apply State.bump_keeps
          exact h11
      · split
        · exact h11
        · apply State.txDone_keeps
          exact h11

theorem State.beReady_keeps {a : State} {s0 : State} (p1 : Bool) (h0' : Keeps a s0) :
    Keeps a (State.beReady s0 p1) := by
  unfold State.beReady
  split
  · split
    · split
      · apply State.beTake_keeps
        exact h0'
      · exact h0'
    · split
      · apply keeps_foldl
        · intro x1 x2 h3
          apply State.ringTried_keeps
          exact h3
        · exact h0'
      · exact h0'
  · exact h0'

theorem State.canReference_keeps {a : State} {s0 : State} (p1 : ℕ) (p2 : CanFrame) (p3 : ℕ) (h0' : Keeps a s0) :
    Keeps a (State.canReference s0 p1 p2 p3) := by
  unfold State.canReference
  split
  · apply State.canReceive_keeps
    exact h0'
  · exact h0'

theorem State.trialOver_keeps {a : State} {s0 : State} (h0' : Keeps a s0) :
    Keeps a (State.trialOver s0) := by
  unfold State.trialOver
  split
  · apply State.moduleReset_keeps
    exact h0'
  · exact h0'

theorem State.appendOne_keeps {a : State} {s0 : State} (p1 : ℕ) (p2 : List DqEntry) (h0' : Keeps a s0) :
    Keeps a (State.appendOne s0 p1 p2).1 := by
  unfold State.appendOne
  extract_lets vr_1
  have h2 : Keeps a vr_1.1 := by
    unfold vr_1
    dsimp only
    apply keeps_foldl_fst
    · intro x3 x4 h5
      split
      · dsimp only
        exact h5
      · dsimp only
        apply State.growDeque_keeps
        exact h5
    · dsimp only
      exact h0'
  dsimp only
  exact h2

theorem State.appendAll_keeps {a : State} (c : ℕ) (n : ℕ) :
    ∀ {s : State} (es : List DqEntry), Keeps a s → Keeps a (State.appendAll c n s es) := by
  induction n with
  | zero => exact fun _ h => h
  | succ k ih =>
    intro s es h
    unfold State.appendAll
    split
    · exact State.cupsTake_keeps _ h
    · exact ih _ (State.appendOne_keeps _ _ (State.cupCycle_keeps _ h))

theorem State.restoreLate_keeps {a : State} {s0 : State} (p1 : ℕ) (p2 : List (ℕ × Bool)) (h0' : Keeps a s0) :
    Keeps a (State.restoreLate s0 p1 p2).1 := by
  unfold State.restoreLate
  apply keeps_foldl_fst
  · intro x1 x2 h3
    apply keeps_foldl_fst
    · intro x4 x5 h6
      apply State.restoreLoop_keeps
      exact h6
    · exact h3
  · dsimp only
    exact h0'

theorem State.holdover_keeps {a : State} {s0 : State} (p1 : ℕ) (h0' : Keeps a s0) :
    Keeps a (State.holdover s0 p1) := by
  unfold State.holdover
  extract_lets vt_1
  split
  · exact h0'
  · apply State.raiseSrc_keeps
    apply State.setRate_keeps
    apply State.setTmb_keeps
    exact h0'

end Sys2Proof.Machine
end

