-- ==== Sys2Proof/Laws/Keeps7.lean ====
section
/-! SUPPORT. Every operation keeps what `Keeps` says, part 7: one lemma per operation, in the order of their use. -/

namespace Sys2Proof.Machine

theorem State.usbWake_keeps {a : State} {s0 : State} (h0' : Keeps a s0) :
    Keeps a (State.usbWake s0) := by
  unfold State.usbWake
  extract_lets vsrc_1
  split
  · apply State.emit_keeps
    refine keeps_mk ?_ rfl
    exact h0'
  · exact h0'

theorem State.rsDown_keeps {a : State} {s0 : State} (p1 : Bool) (p2 : LinkDown) (p3 : ℕ) (h0' : Keeps a s0) :
    Keeps a (State.rsDown s0 p1 p2 p3) := by
  unfold State.rsDown
  extract_lets vp_1 vst_2 vs1_3 vs2_4
  have h5 : Keeps a vs1_3 := by
    unfold vs1_3
    split
    · apply State.onPort_keeps
      exact h0'
    · exact h0'
  clear_value vs1_3
  have h6 : Keeps a vs2_4 := by
    unfold vs2_4
    split
    · apply State.raiseSrc_keeps
      apply State.bumpBy_keeps
      exact h5
    · exact h5
  clear_value vs2_4
  split
  · apply State.rsNarrow_keeps
    apply State.rsFall_keeps
    apply State.raiseSrc_keeps
    apply State.bump_keeps
    exact h6
  · exact h5

theorem State.rsDark_keeps {a : State} {s0 : State} (p1 : Bool) (h0' : Keeps a s0) :
    Keeps a (State.rsDark s0 p1) := by
  unfold State.rsDark
  extract_lets vst_1
  split
  · apply State.rsFall_keeps
    exact h0'
  · apply State.rsDown_keeps
    exact h0'

theorem State.hatstandGone_keeps {a : State} {s0 : State} (h0' : Keeps a s0) :
    Keeps a (State.hatstandGone s0) := by
  unfold State.hatstandGone
  extract_lets vsrc_1
  split
  · apply State.raiseSrc_keeps
    refine keeps_mk ?_ rfl
    exact h0'
  · exact h0'

theorem State.cdyPostTo_keeps {a : State} {s0 : State} (p1 : EvEntry) (p2 : ℕ) (h0' : Keeps a s0) :
    Keeps a (State.cdyPostTo s0 p1 p2) := by
  unfold State.cdyPostTo
  extract_lets vx_1
  split
  · split
    · apply State.post_keeps
      exact h0'
    · apply State.dropEntry_keeps
      exact h0'
  · exact h0'

theorem State.cdyPost_keeps {a : State} {s0 : State} (h0' : Keeps a s0) :
    Keeps a (State.cdyPost s0) := by
  unfold State.cdyPost
  extract_lets vsrc_1 vs1_2
  have h3 : Keeps a vs1_2 := by
    unfold vs1_2
    refine keeps_mk ?_ rfl
    exact h0'
  clear_value vs1_2
  split
  · apply keeps_foldl
    · intro x4 x5 h6
      apply keeps_foldl
      · intro x7 x8 h9
        apply State.cdyPostTo_keeps
        exact h9
      · exact h6
    · exact h3
  · exact h3

theorem State.canTrigger_keeps {a : State} {s0 : State} (p1 : ℕ) (p2 : ℕ) (h0' : Keeps a s0) :
    Keeps a (State.canTrigger s0 p1 p2) := by
  unfold State.canTrigger
  extract_lets vx_1
  split
  · apply State.setCan_keeps
    exact h0'
  · exact h0'

theorem State.startTaskShadow_keeps {a : State} {s0 : State} (p1 : ℕ) (p2 : ℕ) (p3 : ℕ) (h0' : Keeps a s0) :
    Keeps a (State.startTaskShadow s0 p1 p2 p3).1 := by
  unfold State.startTaskShadow
  extract_lets vb_1 vo_2 vsame_3 vnow_4 vr_5
  dsimp only
  apply State.seatTask_keeps
  exact h0'

theorem State.startPlacedTask_keeps {a : State} {s0 : State} (p1 : ℕ) (p2 : ℕ) (p3 : List Bool) (h0' : Keeps a s0) :
    Keeps a (State.startPlacedTask s0 p1 p2 p3).1 := by
  unfold State.startPlacedTask
  dsimp only
  split
  · split
    · dsimp only
      apply State.startTaskShadow_keeps
      exact h0'
    · dsimp only
      exact h0'
  · dsimp only
    exact h0'

theorem State.nandDone_keeps {a : State} {s0 : State} (p1 : Bool) (h0' : Keeps a s0) :
    Keeps a (State.nandDone s0 p1) := by
  unfold State.nandDone
  extract_lets vpick_1 vs1_2 vgo_3
  have h4 : Keeps a vs1_2 := by
    unfold vs1_2
    apply State.raiseSrc_keeps
    exact h0'
  clear_value vs1_2
  have h5 : ∀ y0 y1 y2, Keeps a (vgo_3 y0 y1 y2) := by
    unfold vgo_3
    intro x6 x7 x8
    extract_lets vs2_9 vs3_10 vs1_11 vs2_12 vs1_13 vst_14 vws_15
    have h16 : Keeps a vs2_9 := by
      unfold vs2_9
      apply State.onSess_keeps
      exact h4
    clear_value vs2_9
    have h17 : Keeps a vs3_10 := by
      unfold vs3_10
      split
      · apply State.setSess_keeps
        exact h16
      · exact h16
    clear_value vs3_10
    have h18 : Keeps a vs1_11 := by
      unfold vs1_11
      apply State.onSlot_keeps
      exact h0'
    clear_value vs1_11
    have h19 : Keeps a vs2_12 := by
      unfold vs2_12
      apply State.onSess_keeps
      exact h18
    clear_value vs2_12
    have h20 : Keeps a vs1_13 := by
      unfold vs1_13
      apply State.onSlot_keeps
      exact h0'
    clear_value vs1_13
    split
    · split
      · split
        · apply State.complete_keeps
          exact h17
        · exact h17
      · apply State.settle_keeps
        apply State.onSess_keeps
        exact h4
    · split
      · split
        · apply State.complete_keeps
          exact h19
        · exact h19
      · apply State.settle_keeps
        apply State.onSess_keeps
        exact h20
  split
  · apply h5
  · split
    · apply h5
    · exact h0'

theorem State.rsFec_keeps {a : State} {s0 : State} (p1 : Bool) (p2 : Fec) (h0' : Keeps a s0) :
    Keeps a (State.rsFec s0 p1 p2) := by
  unfold State.rsFec
  extract_lets vp_1 vs1_2
  have h3 : Keeps a vs1_2 := by
    unfold vs1_2
    apply State.bumpBy_keeps
    exact h0'
  clear_value vs1_2
  split
  · exact h3
  · apply State.raiseSrc_keeps
    apply State.bumpBy_keeps
    exact h3

theorem State.riserReceive_keeps {a : State} {s0 : State} (p1 : Bool) (p2 : List Byte) (p3 : List Byte) (p4 : Fec) (p5 : ℕ) (h0' : Keeps a s0) :
    Keeps a (State.riserReceive s0 p1 p2 p3 p4 p5) := by
  unfold State.riserReceive
  extract_lets vp_1 vs0_2 vgood_3 vs1_4 vs2_5
  have h6 : Keeps a vs0_2 := by
    unfold vs0_2
    apply State.rsFec_keeps
    exact h0'
  clear_value vs0_2
  have h7 : Keeps a vs1_4 := by
    unfold vs1_4
    apply State.bump_keeps
    exact h6
  clear_value vs1_4
  have h8 : Keeps a vs2_5 := by
    unfold vs2_5
    split
    · exact h7
    · split
      · apply State.bump_keeps
        exact h7
      · apply State.bump_keeps
        exact h7
  clear_value vs2_5
  split
  · split
    · apply State.raiseSrc_keeps
      apply State.bump_keeps
      exact h6
    · apply State.rsTake_keeps
      exact h8
  · exact h0'

theorem State.handed_keeps {a : State} {s0 : State} (p1 : Ctx) (p2 : CdySt → CdySt) (h0' : Keeps a s0) :
    Keeps a (State.handed s0 p1 p2) := by
  unfold State.handed
  dsimp only
  apply State.onCaddy_keeps
  exact h0'

theorem State.restoreTask_keeps {a : State} {s0 : State} (p1 : ℕ) (p2 : ℕ) (p3 : List (ℕ × Bool)) (p4 : ℕ) (h0' : Keeps a s0) :
    Keeps a (State.restoreTask s0 p1 p2 p3 p4).1 := by
  unfold State.restoreTask
  extract_lets vx_1 vd_2 vnamed_3 vtwin_4 vup_5 vsource_6 vgo1_7 vs1_8 vr_9
  have h10 : Keeps a vs1_8 := by
    unfold vs1_8
    apply State.setTask_keeps
    exact h0'
  clear_value vs1_8
  have h11 : Keeps a vr_9.1 := by
    unfold vr_9
    apply State.startTaskShadow_keeps
    split
    · apply State.storeWork_keeps
      exact h10
    · exact h10
  split
  · split
    · dsimp only
      apply State.setTask_keeps
      exact h0'
    · dsimp only
      exact h11
  · dsimp only
    apply State.setTask_keeps
    exact h0'

theorem State.restoreTasks_keeps {a : State} {s0 : State} (p1 : ℕ) (p2 : ℕ) (p3 : List (ℕ × Bool)) (h0' : Keeps a s0) :
    Keeps a (State.restoreTasks s0 p1 p2 p3).1 := by
  unfold State.restoreTasks
  apply keeps_foldl_fst
  · intro x1 x2 h3
    apply State.restoreTask_keeps
    exact h3
  · dsimp only
    exact h0'

theorem State.restoreTasksLate_keeps {a : State} {s0 : State} (p1 : ℕ) (p2 : List (ℕ × Bool)) (h0' : Keeps a s0) :
    Keeps a (State.restoreTasksLate s0 p1 p2).1 := by
  unfold State.restoreTasksLate
  apply keeps_foldl_fst
  · intro x1 x2 h3
    apply keeps_foldl_fst
    · intro x4 x5 h6
      apply State.restoreTask_keeps
      exact h6
    · exact h3
  · dsimp only
    exact h0'

theorem State.readmit_keeps {a : State} {s0 : State} (p1 : ℕ) (p2 : List (ℕ × Bool) × List (ℕ × Bool)) (h0' : Keeps a s0) :
    Keeps a (State.readmit s0 p1 p2).1 := by
  unfold State.readmit
  extract_lets vl_1 vt_2
  have h3 : Keeps a vl_1.1 := by
    unfold vl_1
    apply State.restoreLate_keeps
    exact h0'
  have h4 : Keeps a vt_2.1 := by
    unfold vt_2
    apply State.restoreTasksLate_keeps
    exact h3
  dsimp only
  apply keeps_foldl_fst
  · intro x5 x6 h7
    split
    · dsimp only
      split
      · apply State.setMode_keeps
        apply State.restoreTasks_keeps
        apply State.restoreLoops_keeps
        refine keeps_mk ?_ rfl
        exact h7
      · apply State.restoreTasks_keeps
        apply State.restoreLoops_keeps
        refine keeps_mk ?_ rfl
        exact h7
    · exact h7
  · dsimp only
    exact h4

theorem State.beatLost_keeps {a : State} {s0 : State} (p1 : ℕ) (h0' : Keeps a s0) :
    Keeps a (State.beatLost s0 p1) := by
  unfold State.beatLost
  split
  · apply State.raiseSrc_keeps
    apply State.fence_keeps
    exact h0'
  · exact h0'

theorem State.chooseSlot_keeps {a : State} {s0 : State} (p1 : ℕ) (p2 : Bool) (p3 : ℕ) (h0' : Keeps a s0) :
    Keeps a (State.chooseSlot s0 p1 p2 p3) := by
  unfold State.chooseSlot
  extract_lets vsrc_1
  refine keeps_mk ?_ rfl
  exact h0'

theorem State.kettleBusy_keeps {a : State} {s0 : State} (p1 : ℕ) (p2 : ℕ) (h0' : Keeps a s0) :
    Keeps a (State.kettleBusy s0 p1 p2) := by
  unfold State.kettleBusy
  extract_lets vb_1 vb1_2 vsrc_3
  refine keeps_mk ?_ rfl
  exact h0'

theorem State.lcStep_keeps {a : State} {s0 : State} (p1 : LcOp) (h0' : Keeps a s0) :
    Keeps a (State.lcStep s0 p1) := by
  unfold State.lcStep
  extract_lets vx_1 vrest_2 vsrc_3 vs1_4
  have h5 : Keeps a vs1_4 := by
    unfold vs1_4
    refine keeps_mk ?_ rfl
    exact h0'
  clear_value vs1_4
  split
  · apply State.setSlot_keeps
    exact h5
  · split
    · split
      · apply State.lcIssue_keeps
        refine keeps_mk ?_ rfl
        exact h0'
      · exact h0'
    · exact h0'

theorem State.lcAdvance_keeps {a : State} {s0 : State} (h0' : Keeps a s0) :
    Keeps a (State.lcAdvance s0) := by
  unfold State.lcAdvance
  apply keeps_repeat
  · intro x1 h2
    apply keeps_foldl
    · intro x3 x4 h5
      apply State.lcStep_keeps
      exact h5
    · exact h2
  · exact h0'

theorem State.rebuildRecord_keeps {a : State} {s0 : State} (h0' : Keeps a s0) :
    Keeps a (State.rebuildRecord s0) := by
  unfold State.rebuildRecord
  extract_lets va_1 vsrc_2
  split
  · exact h0'
  · apply State.raiseSrc_keeps
    refine keeps_mk ?_ rfl
    exact h0'

theorem State.pinSees_keeps {a : State} {s0 : State} (p1 : ℕ) (p2 : Bool) (p3 : Bool) (h0' : Keeps a s0) :
    Keeps a (State.pinSees s0 p1 p2 p3) := by
  unfold State.pinSees
  extract_lets vraw_1 vr1_2 vo_3 vsrc_4
  refine keeps_mk ?_ rfl
  exact h0'

theorem State.tclk_keeps {a : State} {s0 : State} (h0' : Keeps a s0) : Keeps a s0.tclk := by
  unfold State.tclk
  refine keeps_mk h0' ?_
  split <;> rfl

theorem State.stepEnd_keeps {a : State} {s0 : State} (p1 : ℕ) (p2 : ℕ) (p3 : DqEntry) (p4 : Upset) (h0' : Keeps a s0) :
    Keeps a (State.stepEnd s0 p1 p2 p3 p4) := by
  unfold State.stepEnd
  extract_lets vsram_1 vs1_2
  have h3 : Keeps a vs1_2 := by
    unfold vs1_2
    split
    · apply State.raiseSrc_keeps
      apply State.bump_keeps
      exact h0'
    · exact h0'
  clear_value vs1_2
  split
  · apply State.cupFree_keeps
    apply State.storeStep_keeps
    exact h0'
  · apply State.cupFree_keeps
    apply State.storeStep_keeps
    exact h0'
  · apply State.cupFree_keeps
    apply State.storeStep_keeps
    exact h3
  · apply State.cupFree_keeps
    apply State.raiseSrc_keeps
    exact h0'
  · apply State.cupFree_keeps
    apply State.raiseSrc_keeps
    exact h0'
  · apply State.cupFree_keeps
    apply State.raiseSrc_keeps
    exact h0'
  · apply State.cupRetry_keeps
    apply State.raiseSrc_keeps
    exact h0'
  · apply State.cupRetry_keeps
    apply State.raiseSrc_keeps
    exact h0'
  · exact h0'

theorem State.cupDone_keeps {a : State} {s0 : State} (p1 : ℕ) (p2 : ℕ) (p3 : Upset) (p4 : ℕ) (h0' : Keeps a s0) :
    Keeps a (State.cupDone s0 p1 p2 p3 p4) := by
  unfold State.cupDone
  split
  · exact h0'
  · apply State.stepEnd_keeps
    apply State.bumpBy_keeps
    exact h0'

theorem State.shuntOpen_keeps {a : State} {s0 : State} (p1 : ℕ) (h0' : Keeps a s0) :
    Keeps a (State.shuntOpen s0 p1) := by
  unfold State.shuntOpen
  split
  · apply State.raiseSrc_keeps
    apply State.setReg_keeps
    exact h0'
  · exact h0'

theorem access32_keeps {a : State} (p0 : ℕ) (p1 : ℕ) (p2 : DWord) {p3 : State → ℕ → Word → State} {s4 : State} (h3' : ∀ y0 (_ : Keeps a y0) y1 y2, Keeps a (p3 y0 y1 y2)) (h4' : Keeps a s4) :
    Keeps a (access32 p0 p1 p2 p3 s4) := by
  unfold access32
  extract_lets vlo_1 vhi_2
  split
  · apply h3'
    exact h4'
  · split
    · apply h3'
      apply h3'
      exact h4'
    · exact h4'

theorem State.msixEmit_keeps {a : State} {s0 : State} (p1 : ℕ) (p2 : ℕ) (h0' : Keeps a s0) :
    Keeps a (State.msixEmit s0 p1 p2) := by
  unfold State.msixEmit
  apply State.emit_keeps
  exact h0'

theorem State.msixSend_keeps {a : State} {s0 : State} (p1 : ℕ) (p2 : ℕ) (h0' : Keeps a s0) :
    Keeps a (State.msixSend s0 p1 p2) := by
  unfold State.msixSend
  extract_lets vsrc_1
  split
  · split
    · split
      · apply State.msixEmit_keeps
        refine keeps_mk ?_ rfl
        exact h0'
      · exact h0'
    · split
      · apply State.msixEmit_keeps
        refine keeps_mk ?_ rfl
        exact h0'
      · exact h0'
  · exact h0'

theorem State.dropEdges_keeps {a : State} {s0 : State} (p1 : ℕ) (h0' : Keeps a s0) :
    Keeps a (State.dropEdges s0 p1) := by
  unfold State.dropEdges
  extract_lets vsrc_1
  refine keeps_mk ?_ rfl
  exact h0'

theorem State.msixMask_keeps {a : State} {s0 : State} (p1 : ℕ) (p2 : ℕ) (p3 : Bool) (h0' : Keeps a s0) :
    Keeps a (State.msixMask s0 p1 p2 p3) := by
  unfold State.msixMask
  extract_lets vrest_1 vsrc_2 vs1_3
  have h4 : Keeps a vs1_3 := by
    unfold vs1_3
    refine keeps_mk ?_ rfl
    exact h0'
  clear_value vs1_3
  split
  · refine keeps_mk ?_ rfl
    exact h0'
  · split
    · apply State.dropEdges_keeps
      exact h4
    · exact h4

theorem State.bar4Write_keeps {a : State} {s0 : State} (p1 : ℕ) (p2 : ℕ) (p3 : Word) (h0' : Keeps a s0) :
    Keeps a (State.bar4Write s0 p1 p2 p3) := by
  unfold State.bar4Write
  extract_lets vv_1 vk_2 vx_3 vsrc_4
  split
  · exact h0'
  · split
    · apply State.msixSend_keeps
      apply State.msixMask_keeps
      exact h0'
    · refine keeps_mk ?_ rfl
      exact h0'

theorem State.writeAt_keeps {a : State} {s0 : State} (p1 : Requester) (p2 : ℕ) (p3 : ℕ) (p4 : DWord) (h0' : Keeps a s0) :
    Keeps a (State.writeAt s0 p1 p2 p3 p4) := by
  unfold State.writeAt
  split
  · apply access32_keeps
    · intro x1 h2 x3 x4
      apply State.windowWrite_keeps
      exact h2
    · exact h0'
  · split
    · split
      · apply access32_keeps
        · intro x5 h6 x7 x8
          apply State.cleWrite_keeps
          exact h6
        · exact h0'
      · apply State.memWrite_keeps
        exact h0'
    · split
      · split
        · apply access32_keeps
          · intro x9 h10 x11 x12
            apply State.bar4Write_keeps
            exact h10
          · exact h0'
        · exact h0'
      · apply State.memWrite_keeps
        exact h0'

theorem State.readWord_keeps {a : State} {s0 : State} (p1 : Requester) (p2 : ℕ) (h0' : Keeps a s0) :
    Keeps a (State.readWord s0 p1 p2).2 := by
  unfold State.readWord
  dsimp only
  apply State.readEffect_keeps
  exact h0'

theorem State.windowRead_keeps {a : State} {s0 : State} (p1 : Requester) (p2 : ℕ) (p3 : ℕ) (h0' : Keeps a s0) :
    Keeps a (State.windowRead s0 p1 p2 p3).2 := by
  unfold State.windowRead
  split
  · dsimp only
    exact h0'
  · split
    · split
      split
      dsimp only
      refine keeps_of_snd (by assumption) ?_
      apply State.readWord_keeps
      refine keeps_of_snd (by assumption) ?_
      apply State.readWord_keeps
      exact h0'
    · split
      dsimp only
      refine keeps_of_snd (by assumption) ?_
      apply State.readWord_keeps
      exact h0'

theorem State.claimRead_keeps {a : State} {s0 : State} (p1 : ℕ) (h0' : Keeps a s0) :
    Keeps a (State.claimRead s0 p1) := by
  unfold State.claimRead
  extract_lets vsrc_1
  split
  · split
    · exact h0'
    · refine keeps_mk ?_ rfl
      exact h0'
  · exact h0'

theorem State.cleRead_keeps {a : State} {s0 : State} (p1 : ℕ) (p2 : ℕ) (h0' : Keeps a s0) :
    Keeps a (State.cleRead s0 p1 p2).2 := by
  unfold State.cleRead
  split
  · dsimp only
    apply State.violation_keeps
    exact h0'
  · split
    · dsimp only
      exact h0'
    · split
      · dsimp only
        apply State.claimRead_keeps
        exact h0'
      · split
        · dsimp only
          exact h0'
        · dsimp only
          exact h0'

theorem State.memRead_keeps {a : State} {s0 : State} (p1 : Requester) (p2 : ℕ) (p3 : ℕ) (h0' : Keeps a s0) :
    Keeps a (State.memRead s0 p1 p2 p3).2 := by
  unfold State.memRead
  extract_lets vzero_1
  split
  · dsimp only
    exact h0'
  · split
    · dsimp only
      exact h0'
    · split
      · dsimp only
        apply State.violation_keeps
        exact h0'
      · split
        · split
          · dsimp only
            exact h0'
          · dsimp only
            apply State.violation_keeps
            exact h0'
        · split
          · split
            · dsimp only
              exact h0'
            · split
              · dsimp only
                exact h0'
              · dsimp only
                exact h0'
          · dsimp only
            exact h0'

theorem State.readAt_keeps {a : State} {s0 : State} (p1 : Requester) (p2 : ℕ) (p3 : ℕ) (h0' : Keeps a s0) :
    Keeps a (State.readAt s0 p1 p2 p3).2 := by
  unfold State.readAt
  split
  · dsimp only
    exact h0'
  · split
    · apply State.windowRead_keeps
      exact h0'
    · split
      · split
        · split
          · split
            dsimp only
            refine keeps_of_snd (by assumption) ?_
            apply State.cleRead_keeps
            exact h0'
          · dsimp only
            exact h0'
        · apply State.memRead_keeps
          exact h0'
      · split
        · dsimp only
          exact h0'
        · apply State.memRead_keeps
          exact h0'

theorem State.access_keeps {a : State} {s0 : State} (p1 : Requester) (p2 : ℕ) (p3 : ℕ) (p4 : Option DWord) (h0' : Keeps a s0) :
    Keeps a (State.access s0 p1 p2 p3 p4) := by
  unfold State.access
  split
  · apply State.writeAt_keeps
    exact h0'
  · split
    apply State.emit_keeps
    refine keeps_of_snd (by assumption) ?_
    apply State.readAt_keeps
    exact h0'

theorem State.gloveEcc_keeps {a : State} {s0 : State} (h0' : Keeps a s0) :
    Keeps a (State.gloveEcc s0) := by
  unfold State.gloveEcc
  apply State.whenUp_keeps
  · exact h0'
  · intro x1 h2
    apply State.raiseSrc_keeps
    exact h2

theorem State.ainStopped_keeps {a : State} {s0 : State} (h0' : Keeps a s0) :
    Keeps a (State.ainStopped s0) := by
  unfold State.ainStopped
  apply keeps_foldl
  · intro x1 x2 h3
    apply State.inputPoint_keeps
    exact h3
  · exact h0'

theorem State.dioPoints_keeps {a : State} {s0 : State} (p1 : ℕ) (h0' : Keeps a s0) :
    Keeps a (State.dioPoints s0 p1) := by
  unfold State.dioPoints
  apply keeps_foldl
  · intro x1 x2 h3
    split
    · apply State.inputPoint_keeps
      exact h3
    · exact h3
  · exact h0'

theorem State.pageStop_keeps {a : State} {s0 : State} (p1 : ℕ) (h0' : Keeps a s0) :
    Keeps a (State.pageStop s0 p1) := by
  unfold State.pageStop
  extract_lets vs1_1
  have h2 : Keeps a vs1_1 := by
    unfold vs1_1
    apply State.setCur_keeps
    exact h0'
  clear_value vs1_1
  split
  · apply State.goOn_keeps
    split
    · apply State.ainStopped_keeps
      exact h2
    · split
      · apply State.pinPoints_keeps
        exact h2
      · split
        · apply State.dioPoints_keeps
          exact h2
        · exact h2
  · exact h0'

theorem State.slotChecked_keeps {a : State} {s0 : State} (p1 : ℕ) (h0' : Keeps a s0) :
    Keeps a (State.slotChecked s0 p1) := by
  unfold State.slotChecked
  split
  · apply State.raiseSrc_keeps
    apply State.setSlot_keeps
    exact h0'
  · exact h0'

theorem State.postHeld_keeps {a : State} {s0 : State} (p1 : ℕ) (h0' : Keeps a s0) :
    Keeps a (State.postHeld s0 p1) := by
  unfold State.postHeld
  extract_lets vfirst_1
  split
  · apply State.postSlot_keeps
    apply State.slotChecked_keeps
    exact h0'
  · exact h0'

theorem State.confirmResume_keeps {a : State} {s0 : State} (h0' : Keeps a s0) :
    Keeps a (State.confirmResume s0) := by
  unfold State.confirmResume
  extract_lets vs1_1
  have h2 : Keeps a vs1_1 := by
    unfold vs1_1
    apply State.confirmed_keeps
    exact h0'
  clear_value vs1_1
  split
  · apply keeps_foldl
    · intro x3 x4 h5
      apply State.complete_keeps
      exact h5
    · exact h2
  · exact h0'

theorem State.unfinished_keeps {a : State} {s0 : State} (h0' : Keeps a s0) :
    Keeps a (State.unfinished s0) := by
  unfold State.unfinished
  split
  · apply State.confirmResume_keeps
    apply State.lcsResume_keeps
    exact h0'
  · exact h0'

theorem State.fieldTick_keeps {a : State} {s0 : State} (h0' : Keeps a s0) :
    Keeps a (State.fieldTick s0) := by
  unfold State.fieldTick
  extract_lets vs1_1
  have h2 : Keeps a vs1_1 := by
    unfold vs1_1
    split
    · apply State.pinPoints_keeps
      exact h0'
    · exact h0'
  clear_value vs1_1
  split
  · apply State.dioPoints_keeps
    exact h2
  · exact h2

theorem State.takeImage_keeps {a : State} {s0 : State} (p1 : ℕ) (h0' : Keeps a s0) :
    Keeps a (State.takeImage s0 p1) := by
  unfold State.takeImage
  extract_lets vsrc_1
  apply State.lcImage_keeps
  refine keeps_mk ?_ rfl
  exact h0'

theorem State.dropTaskRole_keeps {a : State} {s0 : State} (p1 : ℕ) (p2 : Bool) (h0' : Keeps a s0) :
    Keeps a (State.dropTaskRole s0 p1 p2) := by
  unfold State.dropTaskRole
  extract_lets vx_1 vy_2
  split
  · apply State.setTask_keeps
    exact h0'
  · apply State.setTask_keeps
    exact h0'

theorem State.stopTaskNow_keeps {a : State} {s0 : State} (p1 : ℕ) (h0' : Keeps a s0) :
    Keeps a (State.stopTaskNow s0 p1) := by
  unfold State.stopTaskNow
  extract_lets vsrc_1 vs0_2
  have h3 : Keeps a vs0_2 := by
    unfold vs0_2
    apply State.setTask_keeps
    exact h0'
  clear_value vs0_2
  dsimp only
  split
  · exact h0'
  · split
    · split
      · apply State.complete_keeps
        exact h3
      · apply State.complete_keeps
        split
        · split
          · split
            · apply State.dropTaskRole_keeps
              apply State.dropTaskRole_keeps
              exact h3
            · apply State.writerNone_keeps
              apply State.dropTaskRole_keeps
              apply State.dropTaskRole_keeps
              exact h3
          · split
            · apply State.dropTaskRole_keeps
              exact h3
            · apply State.writerNone_keeps
              apply State.dropTaskRole_keeps
              exact h3
        · split
          · split
            · apply State.dropTaskRole_keeps
              exact h3
            · apply State.writerNone_keeps
              apply State.dropTaskRole_keeps
              exact h3
          · split
            · exact h3
            · apply State.writerNone_keeps
              exact h3
    · split
      · apply State.complete_keeps
        exact h3
      · split
        · split
          · split
            · apply State.dropTaskRole_keeps
              apply State.dropTaskRole_keeps
              exact h3
            · apply State.writerNone_keeps
              apply State.dropTaskRole_keeps
              apply State.dropTaskRole_keeps
              exact h3
          · split
            · apply State.dropTaskRole_keeps
              exact h3
            · apply State.writerNone_keeps
              apply State.dropTaskRole_keeps
              exact h3
        · split
          · split
            · apply State.dropTaskRole_keeps
              exact h3
            · apply State.writerNone_keeps
              apply State.dropTaskRole_keeps
              exact h3
          · split
            · exact h3
            · apply State.writerNone_keeps
              exact h3

theorem State.lateTask_keeps {a : State} {s0 : State} (p1 : ℕ) (p2 : List Bool) (h0' : Keeps a s0) :
    Keeps a (State.lateTask s0 p1 p2) := by
  unfold State.lateTask
  extract_lets vx_1 vs1_2
  have h3 : Keeps a vs1_2 := by
    unfold vs1_2
    apply State.setTask_keeps
    exact h0'
  clear_value vs1_2
  apply keeps_foldl
  · intro x4 x5 h6
    apply State.raiseSrc_keeps
    apply State.bump_keeps
    exact h6
  · exact h3

theorem State.commitTask_keeps {a : State} {s0 : State} (p1 : ℕ) (p2 : TaskRole) (h0' : Keeps a s0) :
    Keeps a (State.commitTask s0 p1 p2) := by
  unfold State.commitTask
  extract_lets vk_1 vs1_2 vsrc_3
  have h4 : Keeps a vs1_2 := by
    unfold vs1_2
    split
    · apply State.bump_keeps
      exact h0'
    · exact h0'
  clear_value vs1_2
  split
  · exact h0'
  · split
    · apply State.commitBegin_keeps
      exact h0'
    · refine keeps_mk ?_ rfl
      exact h4

theorem State.lcAsk_keeps {a : State} {s0 : State} (p1 : ℕ) (p2 : TaskRole) (p3 : ℕ) (p4 : ℕ) (h0' : Keeps a s0) :
    Keeps a (State.lcAsk s0 p1 p2 p3 p4) := by
  unfold State.lcAsk
  extract_lets vinst_1 vword_2 vl_3 vg_4 vmine_5 va_6 vw_7 vw1_8 vs1_9 vo_10 vwas_11 vsrc_12 vs2_13
  have h14 : Keeps a vs1_9 := by
    unfold vs1_9
    split
    · apply State.store_keeps
      apply State.store_keeps
      exact h0'
    · exact h0'
  clear_value vs1_9
  have h15 : Keeps a vs2_13 := by
    unfold vs2_13
    apply State.setLc_keeps
    refine keeps_mk ?_ rfl
    exact h14
  clear_value vs2_13
  apply State.lcStep_keeps
  apply State.lcIssue_keeps
  exact h15

theorem State.publishTask_keeps {a : State} {s0 : State} (p1 : ℕ) (p2 : TaskRole) (p3 : Bool) (h0' : Keeps a s0) :
    Keeps a (State.publishTask s0 p1 p2 p3) := by
  unfold State.publishTask
  extract_lets vs1_1
  have h2 : Keeps a vs1_1 := by
    unfold vs1_1
    apply keeps_foldl
    · intro x3 x4 h5
      apply State.writePoint_keeps
      exact h5
    · exact h0'
  clear_value vs1_1
  split
  · apply State.commitTask_keeps
    apply keeps_foldl
    · intro x6 x7 h8
      apply State.lcAsk_keeps
      exact h8
    · exact h2
  · exact h2

theorem State.publishCycle_keeps {a : State} {s0 : State} (p1 : ℕ) (p2 : Bool) (h0' : Keeps a s0) :
    Keeps a (State.publishCycle s0 p1 p2).1 := by
  unfold State.publishCycle
  extract_lets vx_1 vo_2 vh_3
  dsimp only
  split
  · dsimp only
    exact h0'
  · split
    · split
      · dsimp only
        apply State.mismatch_keeps
        apply State.setTask_keeps
        exact h0'
      · dsimp only
        apply State.publishTask_keeps
        apply State.setTask_keeps
        exact h0'
    · dsimp only
      apply State.publishTask_keeps
      apply State.setTask_keeps
      exact h0'

theorem State.checkTaskRoles_keeps {a : State} {s0 : State} (p1 : ℕ) (p2 : ℕ) (p3 : List Bool) (p4 : Bool) (h0' : Keeps a s0) :
    Keeps a (State.checkTaskRoles s0 p1 p2 p3 p4).1 := by
  unfold State.checkTaskRoles
  extract_lets vx_1 vfresh_2 vs1_3 vp_4 vready_5 vs2_6
  have h7 : Keeps a vs1_3 := by
    unfold vs1_3
    apply State.setTask_keeps
    exact h0'
  clear_value vs1_3
  have h8 : Keeps a vp_4.1 := by
    unfold vp_4
    split
    · apply State.publishCycle_keeps
      exact h7
    · dsimp only
      apply State.setTask_keeps
      exact h7
  have h9 : Keeps a vs2_6 := by
    unfold vs2_6
    split
    · apply State.swapTask_keeps
      exact h8
    · exact h8
  clear_value vs2_6
  split
  · dsimp only
    apply State.lateTask_keeps
    exact h0'
  · dsimp only
    exact h9

theorem State.checkTask_keeps {a : State} {s0 : State} (p1 : ℕ) (p2 : ℕ) (h0' : Keeps a s0) :
    Keeps a (State.checkTask s0 p1 p2).1 := by
  unfold State.checkTask
  extract_lets vx_1 vod_2 vhd_3 vs1_4 va_5 vswapped_6 vb_7
  have h8 : Keeps a vs1_4 := by
    unfold vs1_4
    split
    · apply State.resyncTask_keeps
      exact h0'
    · exact h0'
  clear_value vs1_4
  have h9 : Keeps a va_5.1 := by
    unfold va_5
    split
    · apply State.checkTaskRoles_keeps
      exact h8
    · dsimp only
      exact h8
  have h10 : Keeps a vb_7.1 := by
    unfold vb_7
    split
    · apply State.checkTaskRoles_keeps
      exact h9
    · dsimp only
      exact h9
  split
  · dsimp only
    exact h0'
  · split
    · apply State.checkTaskRoles_keeps
      exact h8
    · apply State.startPlacedTask_keeps
      exact h10

theorem State.tasksCheck_keeps {a : State} {s0 : State} (p1 : ℕ) (h0' : Keeps a s0) :
    Keeps a (State.tasksCheck s0 p1).1 := by
  unfold State.tasksCheck
  extract_lets vs1_1
  have h2 : Keeps a vs1_1 := by
    unfold vs1_1
    apply keeps_foldl
    · intro x3 x4 h5
      apply State.stopTaskNow_keeps
      exact h5
    · exact h0'
  clear_value vs1_1
  dsimp only
  apply keeps_foldl_fst
  · intro x6 x7 h8
    dsimp only
    apply State.checkTask_keeps
    exact h8
  · dsimp only
    exact h2

theorem State.loopsRelease_keeps {a : State} {s0 : State} (p1 : ℕ) (p2 : List (ℕ × Bool)) (h0' : Keeps a s0) :
    Keeps a (State.loopsRelease s0 p1 p2) := by
  unfold State.loopsRelease
  extract_lets vgo_1 vs2_2
  have h3 : Keeps a vs2_2 := by
    unfold vs2_2
    apply keeps_foldl
    · intro x4 x5 h6
      apply State.releaseRole_keeps
      exact h6
    · exact h0'
  clear_value vs2_2
  dsimp only
  apply keeps_foldl
  · intro x7 x8 h9
    apply State.appendAll_keeps
    exact h9
  · exact h3

theorem State.boundary_keeps {a : State} {s0 : State} (p1 : ℕ) (h0' : Keeps a s0) :
    Keeps a (State.boundary s0 p1) := by
  unfold State.boundary
  extract_lets vs1_1 vlcs_2
  have h3 : Keeps a vs1_1 := by
    unfold vs1_1
    apply State.takeImage_keeps
    exact h0'
  clear_value vs1_1
  dsimp only
  split
  · apply State.tasksCheck_keeps
    apply State.loopsCheck_keeps
    apply State.fieldTick_keeps
    exact h3
  · split
    · split
      · apply State.safeOff_keeps
        apply State.lcAdvance_keeps
        apply State.tasksRelease_keeps
        apply State.loopsRelease_keeps
        apply State.readmit_keeps
        apply State.tasksCheck_keeps
        apply State.loopsCheck_keeps
        apply State.fieldTick_keeps
        exact h3
      · apply State.lcAdvance_keeps
        apply State.tasksRelease_keeps
        apply State.loopsRelease_keeps
        apply State.readmit_keeps
        apply State.tasksCheck_keeps
        apply State.loopsCheck_keeps
        apply State.fieldTick_keeps
        exact h3
    · apply State.lcAdvance_keeps
      apply State.readmit_keeps
      apply State.tasksCheck_keeps
      apply State.loopsCheck_keeps
      apply State.fieldTick_keeps
      exact h3

theorem State.kettleOccupancy_keeps {a : State} {s0 : State} (p1 : ℕ) (h0' : Keeps a s0) :
    Keeps a (State.kettleOccupancy s0 p1) := by
  unfold State.kettleOccupancy
  extract_lets vfrac_1 vms_2 vsec_3 vs1_4
  have h5 : ∀ y0 (_ : Keeps a y0) y1, Keeps a (vms_2 y0 y1) := by
    unfold vms_2
    intro x6 h7 x8
    extract_lets vf_9 vsrc_10 vb_11
    have h12 : Keeps a vb_11 := by
      unfold vb_11
      refine keeps_mk ?_ rfl
      exact h7
    clear_value vb_11
    split
    · apply State.setReg_keeps
      exact h12
    · exact h12
  have h13 : ∀ y0 (_ : Keeps a y0) y1, Keeps a (vsec_3 y0 y1) := by
    unfold vsec_3
    intro x14 h15 x16
    extract_lets vf_17 vsrc_18
    apply State.setReg_keeps
    refine keeps_mk ?_ rfl
    exact h15
  have h19 : Keeps a vs1_4 := by
    unfold vs1_4
    split
    · apply keeps_foldl
      · intro x20 x21 h22
        apply h5
        exact h22
      · exact h0'
    · exact h0'
  clear_value vs1_4
  split
  · apply keeps_foldl
    · intro x23 x24 h25
      apply h13
      exact h25
    · exact h19
  · exact h19

theorem State.occupancy_keeps {a : State} {s0 : State} (p1 : ℕ) (h0' : Keeps a s0) :
    Keeps a (State.occupancy s0 p1) := by
  unfold State.occupancy
  extract_lets vfrac_1 vms_2 vsec_3 vs1_4
  have h5 : ∀ y0 (_ : Keeps a y0) y1, Keeps a (vms_2 y0 y1) := by
    unfold vms_2
    intro x6 h7 x8
    extract_lets vf_9 vsrc_10 vb_11
    have h12 : Keeps a vb_11 := by
      unfold vb_11
      refine keeps_mk ?_ rfl
      exact h7
    clear_value vb_11
    split
    · apply State.setReg_keeps
      exact h12
    · exact h12
  have h13 : ∀ y0 (_ : Keeps a y0) y1, Keeps a (vsec_3 y0 y1) := by
    unfold vsec_3
    intro x14 h15 x16
    extract_lets vf_17 vsrc_18
    apply State.setReg_keeps
    refine keeps_mk ?_ rfl
    exact h15
  have h19 : Keeps a vs1_4 := by
    unfold vs1_4
    split
    · apply keeps_foldl
      · intro x20 x21 h22
        apply h5
        exact h22
      · exact h0'
    · exact h0'
  clear_value vs1_4
  split
  · apply keeps_foldl
    · intro x23 x24 h25
      apply h13
      exact h25
    · exact h19
  · exact h19

theorem State.tickBoundary_keeps {a : State} {s0 : State} (p1 : List Strike) (h0' : Keeps a s0) :
    Keeps a (State.tickBoundary s0 p1) := by
  unfold State.tickBoundary
  extract_lets vk_1 vs0_2 vsrc_3 vs1_4 vs2_5 vsrc_6
  have h7 : Keeps a vs0_2 := by
    unfold vs0_2
    apply keeps_foldl
    · intro x8 x9 h10
      apply State.struck_keeps
      exact h10
    · apply State.unfinished_keeps
      exact h0'
  clear_value vs0_2
  have h11 : Keeps a vs1_4 := by
    unfold vs1_4
    refine keeps_mk ?_ rfl
    exact h7
  clear_value vs1_4
  have h12 : Keeps a vs2_5 := by
    unfold vs2_5
    apply State.boundary_keeps
    apply State.kettleOccupancy_keeps
    apply State.occupancy_keeps
    exact h11
  clear_value vs2_5
  split
  · split
    · apply State.fieldTick_keeps
      exact h11
    · refine keeps_mk ?_ rfl
      exact h12
  · exact h0'

theorem State.reachEnd_keeps {a : State} {s0 : State} (p1 : ℕ) (p2 : ℕ) (p3 : Bool) (h0' : Keeps a s0) :
    Keeps a (State.reachEnd s0 p1 p2 p3) := by
  unfold State.reachEnd
  extract_lets vx_1 vr_2 vleft_3 vs1_4
  have h5 : Keeps a vs1_4 := by
    unfold vs1_4
    apply State.setTask_keeps
    exact h0'
  clear_value vs1_4
  split
  · apply State.setReg_keeps
    exact h5
  · exact h5

theorem State.runCall_keeps {a : State} {s0 : State} (p1 : TaskRole) (p2 : Word) (h0' : Keeps a s0) :
    Keeps a (State.runCall s0 p1 p2).1 := by
  unfold State.runCall
  extract_lets vl_1 ve_2 vw_3 ven_4 vnext_5 vg_6 vbe_7 vrun_8 vbase_9
  dsimp only
  split
  · dsimp only
    exact h0'
  · split
    · dsimp only
      split
      · split
        · apply State.violation_keeps
          exact h0'
        · exact h0'
      · split
        · apply State.violation_keeps
          exact h0'
        · exact h0'
    · dsimp only
      split
      · split
        · apply State.violation_keeps
          exact h0'
        · exact h0'
      · split
        · apply State.violation_keeps
          exact h0'
        · exact h0'

theorem State.runEntry_keeps {a : State} {s0 : State} (p1 : ℕ) (p2 : ℕ) (p3 : Bool) (p4 : Word) (h0' : Keeps a s0) :
    Keeps a (State.runEntry s0 p1 p2 p3 p4) := by
  unfold State.runEntry
  extract_lets vr_1 vs1_2 vo_3 vs2_4 vw_5 vn_6
  have h7 : Keeps a vs1_2 := by
    unfold vs1_2
    apply State.kettleBusy_keeps
    exact h0'
  clear_value vs1_2
  have h8 : Keeps a vo_3.1 := by
    unfold vo_3
    apply State.runCall_keeps
    exact h7
  have h9 : Keeps a vs2_4 := by
    unfold vs2_4
    apply State.setTask_keeps
    exact h8
  clear_value vs2_4
  split
  · apply State.reachEnd_keeps
    exact h7
  · apply State.store_keeps
    exact h9

theorem State.kettleCall_keeps {a : State} {s0 : State} (p1 : ℕ) (p2 : Upset) (h0' : Keeps a s0) :
    Keeps a (State.kettleCall s0 p1 p2) := by
  unfold State.kettleCall
  extract_lets vp_1
  split
  · split
    · exact h0'
    · split
      · apply State.runEntry_keeps
        exact h0'
      · apply State.runEntry_keeps
        exact h0'
      · apply State.runEntry_keeps
        apply State.raiseSrc_keeps
        apply State.bump_keeps
        exact h0'
      · apply State.raiseSrc_keeps
        exact h0'
      · apply State.raiseSrc_keeps
        exact h0'
      · apply State.raiseSrc_keeps
        exact h0'
      · apply State.raiseSrc_keeps
        exact h0'
      · exact h0'
      · exact h0'
  · exact h0'

theorem State.commitDone_keeps {a : State} {s0 : State} (p1 : ℕ) (p2 : Bool) (h0' : Keeps a s0) :
    Keeps a (State.commitDone s0 p1 p2) := by
  unfold State.commitDone
  extract_lets vsrc_1 vs1_2
  have h3 : Keeps a vs1_2 := by
    unfold vs1_2
    refine keeps_mk ?_ rfl
    exact h0'
  clear_value vs1_2
  dsimp only
  split
  · exact h0'
  · split
    · split
      · apply State.slotDone_keeps
        exact h3
      · apply State.raiseSrc_keeps
        exact h3
    · apply State.commitBegin_keeps
      refine keeps_mk ?_ rfl
      split
      · apply State.slotDone_keeps
        exact h3
      · apply State.raiseSrc_keeps
        exact h3

theorem State.commitIntegrators_keeps {a : State} {s0 : State} (p1 : Bool) (h0' : Keeps a s0) :
    Keeps a (State.commitIntegrators s0 p1) := by
  unfold State.commitIntegrators
  extract_lets vown_1 vb_2 vtoOne_3 vsrc_4 vs1_5 vsrc_6
  have h7 : Keeps a vs1_5 := by
    unfold vs1_5
    refine keeps_mk ?_ rfl
    exact h0'
  clear_value vs1_5
  split
  · refine keeps_mk ?_ rfl
    exact h7
  · apply State.raiseSrc_keeps
    exact h7

theorem State.integratorTick_keeps {a : State} {s0 : State} (p1 : Bool) (h0' : Keeps a s0) :
    Keeps a (State.integratorTick s0 p1) := by
  unfold State.integratorTick
  split
  · apply State.commitIntegrators_keeps
    exact h0'
  · exact h0'

theorem State.heartbeat_keeps {a : State} {s0 : State} (h0' : Keeps a s0) :
    Keeps a (State.heartbeat s0) := by
  unfold State.heartbeat
  extract_lets vl_1 vsrc_2 vkhz_3 vgap_4 vold_5 vs1_6 vsrc_7
  have h8 : Keeps a vs1_6 := by
    unfold vs1_6
    split
    · apply State.setReg_keeps
      exact h0'
    · exact h0'
  clear_value vs1_6
  split
  · split
    · refine keeps_mk ?_ rfl
      exact h0'
    · refine keeps_mk ?_ rfl
      exact h8
  · exact h0'

theorem State.takeover_keeps {a : State} {s0 : State} (p1 : ℕ) (h0' : Keeps a s0) :
    Keeps a (State.takeover s0 p1) := by
  unfold State.takeover
  extract_lets vbefore_1 vs1_2 vs2_3
  have h4 : Keeps a vs1_2 := by
    unfold vs1_2
    apply keeps_foldl
    · intro x5 x6 h7
      apply State.fence_keeps
      exact h7
    · exact h0'
  clear_value vs1_2
  have h8 : Keeps a vs2_3 := by
    unfold vs2_3
    apply State.bump_keeps
    apply State.raiseSrc_keeps
    exact h4
  clear_value vs2_3
  split
  · split
    · exact h8
    · apply State.raiseSrc_keeps
      exact h8
  · exact h0'

theorem State.groupSend_keeps {a : State} {s0 : State} (p1 : Bool) (p2 : Bool) (p3 : ℕ) (h0' : Keeps a s0) :
    Keeps a (State.groupSend s0 p1 p2 p3) := by
  unfold State.groupSend
  extract_lets vg_1
  dsimp only
  split
  · exact h0'
  · split
    · split
      · split
        · apply State.complete_keeps
          apply State.groupTx_keeps
          apply State.setGroup_keeps
          exact h0'
        · apply State.groupTx_keeps
          apply State.setGroup_keeps
          exact h0'
      · exact h0'
    · split
      · split
        · apply State.groupTx_keeps
          apply State.setGroup_keeps
          exact h0'
        · apply State.claimTx_keeps
          exact h0'
        · exact h0'
      · exact h0'

end Sys2Proof.Machine
end

