-- ==== Sys2Proof/Laws/Keeps8.lean ====
section
/-! SUPPORT. Every operation keeps what `Keeps` says, part 8: one lemma per operation, in the order of their use. -/

namespace Sys2Proof.Machine

theorem State.leaseSend_keeps {a : State} {s0 : State} (h0' : Keeps a s0) :
    Keeps a (State.leaseSend s0) := by
  unfold State.leaseSend
  extract_lets vok_1 vlive_2 vs1_3 vsrc_4 vs2_5 vsrc_6
  have h7 : Keeps a vs1_3 := by
    unfold vs1_3
    apply keeps_foldl
    · intro x8 x9 h10
      apply State.groupSend_keeps
      exact h10
    · exact h0'
  clear_value vs1_3
  have h11 : Keeps a vs2_5 := by
    unfold vs2_5
    refine keeps_mk ?_ rfl
    exact h7
  clear_value vs2_5
  split
  · split
    · apply State.complete_keeps
      refine keeps_mk ?_ rfl
      exact h11
    · exact h11
  · exact h11

theorem State.rcMeasure_keeps {a : State} {s0 : State} (p1 : ℕ) (h0' : Keeps a s0) :
    Keeps a (State.rcMeasure s0 p1) := by
  unfold State.rcMeasure
  extract_lets vs1_1
  have h2 : Keeps a vs1_1 := by
    unfold vs1_1
    apply State.setReg_keeps
    exact h0'
  clear_value vs1_1
  split
  · split
    · apply State.raiseSrc_keeps
      exact h2
    · exact h2
  · exact h0'

theorem State.tamperNow_keeps {a : State} {s0 : State} (h0' : Keeps a s0) :
    Keeps a (State.tamperNow s0) := by
  unfold State.tamperNow
  extract_lets vs1_1 vs2_2 vsrc_3
  have h4 : Keeps a vs1_1 := by
    unfold vs1_1
    apply State.raiseSrc_keeps
    apply State.bump_keeps
    apply State.lcsResume_keeps
    exact h0'
  clear_value vs1_1
  have h5 : Keeps a vs2_2 := by
    unfold vs2_2
    apply State.destroyKeys_keeps
    exact h4
  clear_value vs2_2
  refine keeps_mk ?_ rfl
  exact h5

theorem State.vinUp_keeps {a : State} {s0 : State} (h0' : Keeps a s0) :
    Keeps a (State.vinUp s0) := by
  unfold State.vinUp
  extract_lets vs0_1 vs1_2 vsrc_3
  have h4 : Keeps a vs0_1 := by
    unfold vs0_1
    apply State.powerCycle_keeps
    exact h0'
  clear_value vs0_1
  have h5 : Keeps a vs1_2 := by
    unfold vs1_2
    split
    · apply State.raiseSrc_keeps
      exact h4
    · exact h4
  clear_value vs1_2
  split
  · split
    · apply State.tamperNow_keeps
      refine keeps_mk ?_ rfl
      exact h5
    · exact h5
  · exact h0'

theorem State.confirmAtStart_keeps {a : State} {s0 : State} (h0' : Keeps a s0) :
    Keeps a (State.confirmAtStart s0) := by
  unfold State.confirmAtStart
  split
  · apply State.confirmed_keeps
    exact h0'
  · exact h0'

theorem State.selectSlot_keeps {a : State} {s0 : State} (h0' : Keeps a s0) :
    Keeps a (State.selectSlot s0) := by
  unfold State.selectSlot
  extract_lets vs0_1 vr_2 vback_3 vsrc_4
  have h5 : Keeps a vs0_1 := by
    unfold vs0_1
    apply State.rebuildRecord_keeps
    apply State.confirmAtStart_keeps
    exact h0'
  clear_value vs0_1
  have h6 : ∀ y0 (_ : Keeps a y0), Keeps a (vback_3 y0) := by
    unfold vback_3
    intro x7 h8
    extract_lets vsrc_9
    apply State.raiseSrc_keeps
    refine keeps_mk ?_ rfl
    exact h8
  split
  · split
    · apply State.enterRecovery_keeps
      exact h0'
    · split
      · apply State.enterRecovery_keeps
        exact h5
      · split
        · split
          · apply State.chooseSlot_keeps
            apply h6
            exact h5
          · split
            · apply State.chooseSlot_keeps
              refine keeps_mk ?_ rfl
              exact h5
            · apply State.chooseSlot_keeps
              apply h6
              exact h5
        · apply State.chooseSlot_keeps
          exact h5
  · exact h0'

theorem State.pfwAssert_keeps {a : State} {s0 : State} (h0' : Keeps a s0) :
    Keeps a (State.pfwAssert s0) := by
  unfold State.pfwAssert
  extract_lets vsrc_1
  split
  · split
    · refine keeps_mk ?_ rfl
      exact h0'
    · exact h0'
  · split
    · split
      · refine keeps_mk ?_ rfl
        exact h0'
      · apply State.seqBegin_keeps
        exact h0'
    · refine keeps_mk ?_ rfl
      exact h0'
    · exact h0'

theorem State.seqEnd_keeps {a : State} {s0 : State} (p1 : Bool) (h0' : Keeps a s0) :
    Keeps a (State.seqEnd s0 p1) := by
  unfold State.seqEnd
  extract_lets vsrc_1 va_2 vs1_3 vsrc_4 vsrc_5 vsrc_6
  have h7 : Keeps a va_2 := by
    unfold va_2
    refine keeps_mk ?_ rfl
    exact h0'
  clear_value va_2
  have h8 : Keeps a vs1_3 := by
    unfold vs1_3
    split
    · exact h0'
    · apply State.commitIntegrators_keeps
      apply keeps_foldl
      · intro x9 x10 h11
        apply State.commitDone_keeps
        exact h11
      · exact h7
  clear_value vs1_3
  dsimp only
  split
  · split
    · exact h0'
    · refine keeps_mk ?_ rfl
      exact h8
  · exact h0'

theorem State.seqRestart_keeps {a : State} {s0 : State} (h0' : Keeps a s0) :
    Keeps a (State.seqRestart s0) := by
  unfold State.seqRestart
  split
  · apply State.powerCycle_keeps
    exact h0'
  · exact h0'

theorem State.resetAssert_keeps {a : State} {s0 : State} (h0' : Keeps a s0) :
    Keeps a (State.resetAssert s0) := by
  unfold State.resetAssert
  extract_lets vsrc_1 vs1_2
  have h3 : Keeps a vs1_2 := by
    unfold vs1_2
    refine keeps_mk ?_ rfl
    exact h0'
  clear_value vs1_2
  split
  · exact h3
  · apply State.powerCycle_keeps
    exact h3

theorem State.rootLost_keeps {a : State} {s0 : State} (h0' : Keeps a s0) :
    Keeps a (State.rootLost s0) := by
  unfold State.rootLost
  extract_lets vsrc_1 vsrc_2 vs1_3 vs2_4
  have h5 : Keeps a vs1_3 := by
    unfold vs1_3
    refine keeps_mk ?_ rfl
    exact h0'
  clear_value vs1_3
  have h6 : Keeps a vs2_4 := by
    unfold vs2_4
    apply State.raiseSrc_keeps
    apply State.bump_keeps
    exact h5
  clear_value vs2_4
  split
  · apply State.rsDark_keeps
    apply State.rsDark_keeps
    exact h6
  · exact h0'

theorem State.vbatOn_keeps {a : State} {s0 : State} (h0' : Keeps a s0) :
    Keeps a (State.vbatOn s0) := by
  unfold State.vbatOn
  refine keeps_mk ?_ rfl
  exact h0'

theorem State.tamperIn_keeps {a : State} {s0 : State} (p1 : Bool) (h0' : Keeps a s0) :
    Keeps a (State.tamperIn s0 p1) := by
  unfold State.tamperIn
  extract_lets vsrc_1
  split
  · apply State.tamperNow_keeps
    exact h0'
  · split
    · refine keeps_mk ?_ rfl
      exact h0'
    · exact h0'

theorem State.tamperEvent_keeps {a : State} {s0 : State} (p1 : Bool) (p2 : Bool) (h0' : Keeps a s0) :
    Keeps a (State.tamperEvent s0 p1 p2) := by
  unfold State.tamperEvent
  extract_lets vsrc_1 vs1_2
  have h3 : Keeps a vs1_2 := by
    unfold vs1_2
    split
    · refine keeps_mk ?_ rfl
      exact h0'
    · exact h0'
  clear_value vs1_2
  split
  · refine keeps_mk ?_ rfl
    exact h0'
  · apply State.tamperIn_keeps
    exact h3

theorem State.csealMove_keeps {a : State} {s0 : State} (p1 : Bool) (h0' : Keeps a s0) :
    Keeps a (State.csealMove s0 p1) := by
  unfold State.csealMove
  extract_lets vsrc_1
  split
  · exact h0'
  · refine keeps_mk ?_ rfl
    exact h0'

theorem State.xtalGone_keeps {a : State} {s0 : State} (h0' : Keeps a s0) :
    Keeps a (State.xtalGone s0) := by
  unfold State.xtalGone
  extract_lets vsrc_1
  split
  · apply State.raiseSrc_keeps
    refine keeps_mk ?_ rfl
    exact h0'
  · exact h0'

theorem State.caddyDown_keeps {a : State} {s0 : State} (p1 : Bool) (p2 : Bool) (h0' : Keeps a s0) :
    Keeps a (State.caddyDown s0 p1 p2) := by
  unfold State.caddyDown
  extract_lets vsrc_1 vs1_2
  have h3 : Keeps a vs1_2 := by
    unfold vs1_2
    split
    · refine keeps_mk ?_ rfl
      exact h0'
    · exact h0'
  clear_value vs1_2
  apply State.onCaddy_keeps
  exact h3

theorem State.rsEmit_keeps {a : State} {s0 : State} (p1 : Bool) (p2 : Bool) (p3 : RFrame) (h0' : Keeps a s0) :
    Keeps a (State.rsEmit s0 p1 p2 p3) := by
  unfold State.rsEmit
  extract_lets vs1_1 vs2_2 vs3_3 vsrc_4
  have h5 : Keeps a vs1_1 := by
    unfold vs1_1
    apply State.rsOut_keeps
    exact h0'
  clear_value vs1_1
  have h6 : Keeps a vs2_2 := by
    unfold vs2_2
    split
    · exact h5
    · apply State.txDone_keeps
      exact h5
  clear_value vs2_2
  have h7 : Keeps a vs3_3 := by
    unfold vs3_3
    apply State.bump_keeps
    exact h6
  clear_value vs3_3
  split
  · refine keeps_mk ?_ rfl
    exact h7
  · exact h6

theorem State.rsNext_keeps {a : State} {s0 : State} (p1 : Bool) (p2 : ℕ) (h0' : Keeps a s0) :
    ∀ t, s0.rsNext p1 p2 = some t → Keeps a t := by
  intro t h
  unfold State.rsNext at h
  dsimp only at h
  split at h
  · cases h
    exact State.rsEmit_keeps _ _ _ (State.setRsPort_keeps _ _ h0')
  · cases h
    exact State.rsEmit_keeps _ _ _ (State.setRsPort_keeps _ _ h0')
  · cases h

theorem keeps_getD {a : State} {o : Option State} {s : State} (h : ∀ t, o = some t → Keeps a t) (k : Keeps a s) :
    Keeps a (o.getD s) := by
  cases o with
  | none => exact k
  | some t => exact h t rfl

theorem State.beNext_keeps {a : State} {s0 : State} (p1 : Bool) (h0' : Keeps a s0) : Keeps a (s0.beNext p1) := by
  unfold State.beNext
  extract_lets takeT takeL b
  have hT : ∀ x, Keeps a x → ∀ t, takeT x = some t → Keeps a t := by
    intro x hx t h
    unfold takeT at h
    dsimp only at h
    split at h
    · cases h
      exact State.rsEmit_keeps _ _ _ (State.setRsPort_keeps _ _ hx)
    · cases h
  have hL : ∀ x, Keeps a x → ∀ t, takeL x = some t → Keeps a t := by
    intro x hx t h
    unfold takeL at h
    dsimp only at h
    split at h
    · cases h
      exact State.rsEmit_keeps _ _ _ (State.setRsPort_keeps _ _ hx)
    · cases h
  have hb : Keeps a b := State.beReady_keeps _ h0'
  split
  · exact keeps_getD (hL _ hb) (keeps_getD (hT _ hb) hb)
  · split
    · rename_i h
      exact hT _ h0' _ h
    · exact keeps_getD (hL _ hb) hb

theorem State.riserTransmit_keeps {a : State} {s0 : State} (p1 : Bool) (h0' : Keeps a s0) : Keeps a (s0.riserTransmit p1) := by
  unfold State.riserTransmit
  split
  · dsimp only
    split
    · rename_i h
      split at h
      · exact State.rsNext_keeps _ _ h0' _ h
      · cases h
    · split
      · rename_i h
        exact State.rsNext_keeps _ _ h0' _ h
      · split
        · rename_i h
          exact State.rsNext_keeps _ _ h0' _ h
        · split
          · exact h0'
          · exact State.beNext_keeps _ h0'
  · exact h0'

theorem State.riserSpoil_keeps {a : State} {s0 : State} (p1 : Bool) (h0' : Keeps a s0) :
    Keeps a (State.riserSpoil s0 p1) := by
  unfold State.riserSpoil
  split
  · apply State.spoilTransit_keeps
    exact h0'
  · exact h0'

theorem State.announce_keeps {a : State} {s0 : State} (h0' : Keeps a s0) :
    Keeps a (State.announce s0) := by
  unfold State.announce
  apply State.ringSend_keeps
  exact h0'

theorem State.mapExpire_keeps {a : State} {s0 : State} (p1 : Bool) (p2 : ℕ) (h0' : Keeps a s0) :
    Keeps a (State.mapExpire s0 p1 p2) := by
  unfold State.mapExpire
  apply State.onPort_keeps
  exact h0'

theorem State.rsTrain_keeps {a : State} {s0 : State} (p1 : Bool) (p2 : Bool) (h0' : Keeps a s0) :
    Keeps a (State.rsTrain s0 p1 p2) := by
  unfold State.rsTrain
  extract_lets vs1_1
  have h2 : Keeps a vs1_1 := by
    unfold vs1_1
    apply State.onPort_keeps
    exact h0'
  clear_value vs1_1
  split
  · apply State.onPort_keeps
    exact h2
  · exact h2

theorem State.rsTrained_keeps {a : State} {s0 : State} (p1 : Bool) (h0' : Keeps a s0) :
    Keeps a (State.rsTrained s0 p1) := by
  unfold State.rsTrained
  split
  · apply State.onPort_keeps
    exact h0'
  · exact h0'

theorem State.authEnter_keeps {a : State} {s0 : State} (p1 : Bool) (h0' : Keeps a s0) :
    Keeps a (State.authEnter s0 p1) := by
  unfold State.authEnter
  extract_lets vs1_1
  have h2 : Keeps a vs1_1 := by
    unfold vs1_1
    apply State.onPort_keeps
    exact h0'
  clear_value vs1_1
  split
  · apply State.authFail_keeps
    exact h2
  · apply State.authSend_keeps
    exact h2

theorem State.rsAligned_keeps {a : State} {s0 : State} (p1 : Bool) (p2 : ℕ) (h0' : Keeps a s0) :
    Keeps a (State.rsAligned s0 p1 p2) := by
  unfold State.rsAligned
  extract_lets vx_1
  split
  · apply State.authEnter_keeps
    apply State.setRsPort_keeps
    exact h0'
  · exact h0'

theorem State.rsRetry_keeps {a : State} {s0 : State} (p1 : Bool) (h0' : Keeps a s0) :
    Keeps a (State.rsRetry s0 p1) := by
  unfold State.rsRetry
  split
  · apply State.authEnter_keeps
    exact h0'
  · exact h0'

theorem State.rsLost_keeps {a : State} {s0 : State} (p1 : Bool) (p2 : LinkDown) (p3 : ℕ) (p4 : Fec) (p5 : Bool) (p6 : Option (List Byte × List Byte)) (h0' : Keeps a s0) :
    Keeps a (State.rsLost s0 p1 p2 p3 p4 p5 p6) := by
  unfold State.rsLost
  extract_lets vp_1 vs0_2 vs1_3 vs2_4
  have h5 : Keeps a vs0_2 := by
    unfold vs0_2
    apply State.rsFec_keeps
    exact h0'
  clear_value vs0_2
  have h6 : Keeps a vs1_3 := by
    unfold vs1_3
    split
    · exact h5
    · apply State.rsTake_keeps
      apply State.bump_keeps
      apply State.bump_keeps
      exact h5
  clear_value vs1_3
  have h7 : Keeps a vs2_4 := by
    unfold vs2_4
    split
    · apply State.bump_keeps
      apply State.emit_keeps
      exact h6
    · exact h6
  clear_value vs2_4
  split
  · apply State.rsDown_keeps
    exact h7
  · apply State.rsDown_keeps
    exact h0'

theorem State.fpTake_keeps {a : State} {s0 : State} (p1 : ℕ) (p2 : ℕ) (h0' : Keeps a s0) :
    Keeps a (State.fpTake s0 p1 p2).1 := by
  unfold State.fpTake
  extract_lets ve_1 vl_2
  split
  · dsimp only
    apply State.fpRefuse_keeps
    exact h0'
  · split
    · dsimp only
      apply State.fpStart_keeps
      exact h0'
    · split
      · dsimp only
        apply State.fpJudged_keeps
        exact h0'
      · dsimp only
        apply State.fpStart_keeps
        exact h0'

theorem State.fpTakeFrom_keeps {a : State} (p : ℕ) (l : List ℕ) :
    ∀ {s : State}, Keeps a s → Keeps a (State.fpTakeFrom p l s) := by
  induction l with
  | nil => exact fun h => h
  | cons q t ih =>
    intro s h
    unfold State.fpTakeFrom
    split
    · dsimp only
      split
      · exact State.fpTake_keeps _ _ h
      · exact ih (State.fpTake_keeps _ _ h)
    · exact ih (State.ringTried_keeps _ h)

theorem State.fpTransmit_keeps {a : State} {s0 : State} (p1 : ℕ) (h0' : Keeps a s0) :
    Keeps a (State.fpTransmit s0 p1) := by
  unfold State.fpTransmit
  extract_lets vx_1 vg_2 vs1_3
  have h4 : Keeps a vs1_3 := by
    unfold vs1_3
    apply State.setFp_keeps
    exact h0'
  clear_value vs1_3
  split
  · exact h0'
  · split
    · split
      · exact h0'
      · split
        · apply State.bump_keeps
          apply State.emit_keeps
          apply State.setFp_keeps
          exact h0'
        · apply State.fpTakeFrom_keeps
          exact h0'
    · split
      · apply State.fpRefuse_keeps
        exact h4
      · exact h4

theorem State.fpLpi_keeps {a : State} {s0 : State} (p1 : ℕ) (h0' : Keeps a s0) :
    Keeps a (State.fpLpi s0 p1) := by
  unfold State.fpLpi
  extract_lets vx_1
  split
  · apply State.bump_keeps
    apply State.setFp_keeps
    exact h0'
  · exact h0'

theorem State.mdioEnd_keeps {a : State} {s0 : State} (p1 : ℕ) (p2 : ℕ) (h0' : Keeps a s0) :
    Keeps a (State.mdioEnd s0 p1 p2) := by
  unfold State.mdioEnd
  extract_lets vx_1 vop_2 vread_3
  split
  · apply State.setFp_keeps
    exact h0'
  · exact h0'

theorem State.canSent_keeps {a : State} {s0 : State} (p1 : ℕ) (h0' : Keeps a s0) :
    Keeps a (State.canSent s0 p1) := by
  unfold State.canSent
  extract_lets vx_1 vs1_2
  have h3 : Keeps a vs1_2 := by
    unfold vs1_2
    apply State.setCan_keeps
    exact h0'
  clear_value vs1_2
  dsimp only
  split
  · split
    · exact h0'
    · split
      · apply State.canAccept_keeps
        split
        · apply State.canRefIn_keeps
          split
          · apply State.setCan_keeps
            apply State.bump_keeps
            exact h3
          · apply State.bump_keeps
            exact h3
          · apply State.canCycle_keeps
            apply State.setCan_keeps
            apply State.bump_keeps
            exact h3
          · apply State.canMark_keeps
            apply State.setCan_keeps
            apply State.bump_keeps
            exact h3
          · apply State.canTxEnd_keeps
            apply State.bump_keeps
            exact h3
        · split
          · apply State.setCan_keeps
            apply State.bump_keeps
            exact h3
          · apply State.bump_keeps
            exact h3
          · apply State.canCycle_keeps
            apply State.setCan_keeps
            apply State.bump_keeps
            exact h3
          · apply State.canMark_keeps
            apply State.setCan_keeps
            apply State.bump_keeps
            exact h3
          · apply State.canTxEnd_keeps
            apply State.bump_keeps
            exact h3
      · split
        · apply State.setCan_keeps
          apply State.bump_keeps
          apply State.emit_keeps
          exact h3
        · apply State.bump_keeps
          apply State.emit_keeps
          exact h3
        · apply State.canCycle_keeps
          apply State.setCan_keeps
          apply State.bump_keeps
          apply State.emit_keeps
          exact h3
        · apply State.canMark_keeps
          apply State.setCan_keeps
          apply State.bump_keeps
          apply State.emit_keeps
          exact h3
        · apply State.canTxEnd_keeps
          apply State.bump_keeps
          apply State.emit_keeps
          exact h3
  · exact h0'

theorem State.canUnheard_keeps {a : State} {s0 : State} (p1 : ℕ) (p2 : CanDetect) (p3 : Bool) (h0' : Keeps a s0) :
    Keeps a (State.canUnheard s0 p1 p2 p3) := by
  unfold State.canUnheard
  extract_lets vsrc_1
  split
  · apply State.canHeard_keeps
    exact h0'
  · apply State.setCan_keeps
    exact h0'

theorem State.canUnoffer_keeps {a : State} {s0 : State} (p1 : ℕ) (h0' : Keeps a s0) :
    Keeps a (State.canUnoffer s0 p1) := by
  unfold State.canUnoffer
  extract_lets vx_1
  split
  · exact h0'
  · apply State.canFail_keeps
    apply State.setCan_keeps
    exact h0'

theorem State.canCounters_keeps {a : State} {s0 : State} (p1 : ℕ) (p2 : ℕ) (p3 : ℕ) (h0' : Keeps a s0) :
    Keeps a (State.canCounters s0 p1 p2 p3) := by
  unfold State.canCounters
  extract_lets vx_1 voff_2 vy_3 vs1_4 vs2_5 vsrc_6
  have h7 : Keeps a vs1_4 := by
    unfold vs1_4
    apply State.setCan_keeps
    exact h0'
  clear_value vs1_4
  have h8 : Keeps a vs2_5 := by
    unfold vs2_5
    split
    · apply State.raiseSrc_keeps
      exact h7
    · exact h7
  clear_value vs2_5
  split
  · apply State.raiseSrc_keeps
    apply State.bump_keeps
    apply State.setCan_keeps
    exact h8
  · exact h8

theorem State.canError_keeps {a : State} {s0 : State} (p1 : ℕ) (p2 : ℕ) (p3 : Bool) (p4 : ℕ) (p5 : Bool) (p6 : Bool) (h0' : Keeps a s0) :
    Keeps a (State.canError s0 p1 p2 p3 p4 p5 p6) := by
  unfold State.canError
  extract_lets vx_1 vs1_2 vs2_3 vn_4
  have h5 : Keeps a vs1_2 := by
    unfold vs1_2
    apply State.bump_keeps
    apply State.setCan_keeps
    exact h0'
  clear_value vs1_2
  have h6 : Keeps a vs2_3 := by
    unfold vs2_3
    apply State.canUnoffer_keeps
    exact h5
  clear_value vs2_3
  split
  · split
    · split
      · apply State.canUnheard_keeps
        exact h0'
      · exact h0'
    · exact h0'
  · split
    · apply State.canUnoffer_keeps
      exact h0'
    · split
      · split
        · exact h0'
        · apply State.raiseSrc_keeps
          apply State.bump_keeps
          exact h0'
      · split
        · exact h6
        · apply State.canCounters_keeps
          exact h6

theorem State.canRecovered_keeps {a : State} {s0 : State} (p1 : ℕ) (h0' : Keeps a s0) :
    Keeps a (State.canRecovered s0 p1) := by
  unfold State.canRecovered
  extract_lets vx_1
  split
  · apply State.setCan_keeps
    exact h0'
  · exact h0'

theorem State.canBoundary_keeps {a : State} {s0 : State} (p1 : ℕ) (h0' : Keeps a s0) :
    Keeps a (State.canBoundary s0 p1) := by
  unfold State.canBoundary
  extract_lets vs1_1 vx_2
  have h3 : Keeps a vs1_1 := by
    unfold vs1_1
    split
    · apply State.bump_keeps
      exact h0'
    · exact h0'
  clear_value vs1_1
  split
  · apply State.setCan_keeps
    exact h3
  · exact h0'

theorem State.canSyncLost_keeps {a : State} {s0 : State} (p1 : ℕ) (h0' : Keeps a s0) :
    Keeps a (State.canSyncLost s0 p1) := by
  unfold State.canSyncLost
  extract_lets vx_1
  split
  · apply State.raiseSrc_keeps
    apply State.setCan_keeps
    exact h0'
  · exact h0'

theorem State.ainUse_keeps {a : State} {s0 : State} (p1 : ℕ) (p2 : ℤ) (p3 : ℕ) (h0' : Keeps a s0) :
    Keeps a (State.ainUse s0 p1 p2 p3) := by
  unfold State.ainUse
  extract_lets vs1_1
  have h2 : Keeps a vs1_1 := by
    unfold vs1_1
    apply State.setReg_keeps
    exact h0'
  clear_value vs1_1
  apply State.inputPoint_keeps
  exact h2

theorem State.ainConvert_keeps {a : State} {s0 : State} (p1 : ℕ) (p2 : ℤ) (h0' : Keeps a s0) :
    Keeps a (State.ainConvert s0 p1 p2) := by
  unfold State.ainConvert
  extract_lets vk_1 vf_2 vtry_3 vforced_4 vclamped_5 vv_6 vcode_7 vabove_8 vs1_9 vlim_10 vsrc_11 vs2_12 vs2_13 vs3_14
  have h15 : Keeps a vs1_9 := by
    unfold vs1_9
    refine keeps_mk ?_ rfl
    exact h0'
  clear_value vs1_9
  have h16 : Keeps a vs2_12 := by
    unfold vs2_12
    split
    · exact h15
    · apply State.raiseSrc_keeps
      apply State.setReg_keeps
      refine keeps_mk ?_ rfl
      exact h15
  clear_value vs2_12
  have h17 : Keeps a vs2_13 := by
    unfold vs2_13
    refine keeps_mk ?_ rfl
    exact h15
  clear_value vs2_13
  have h18 : Keeps a vs3_14 := by
    unfold vs3_14
    split
    · apply State.setReg_keeps
      exact h17
    · exact h17
  clear_value vs3_14
  split
  · apply State.bump_keeps
    refine keeps_mk ?_ rfl
    exact h0'
  · split
    · exact h0'
    · split
      · apply State.ainUse_keeps
        exact h16
      · apply State.ainUse_keeps
        exact h18

theorem State.ainSlot_keeps {a : State} {s0 : State} (p1 : ℕ) (p2 : ℤ) (h0' : Keeps a s0) :
    Keeps a (State.ainSlot s0 p1 p2) := by
  unfold State.ainSlot
  extract_lets vk_1 vsrc_2
  split
  · apply State.ainConvert_keeps
    refine keeps_mk ?_ rfl
    exact h0'
  · exact h0'

theorem State.shuntRetry_keeps {a : State} {s0 : State} (p1 : ℕ) (h0' : Keeps a s0) :
    Keeps a (State.shuntRetry s0 p1) := by
  unfold State.shuntRetry
  extract_lets vsrc_1
  split
  · refine keeps_mk ?_ rfl
    exact h0'
  · exact h0'

theorem State.whenPin_keeps {a : State} {s0 : State} {p1 : State → State} (h0' : Keeps a s0) (h1' : ∀ y0 (_ : Keeps a y0), Keeps a (p1 y0)) :
    Keeps a (State.whenPin s0 p1) := by
  unfold State.whenPin
  split
  · apply h1'
    exact h0'
  · exact h0'

theorem State.setPin_keeps {a : State} {s0 : State} (p1 : ℕ) (p2 : Word) (p3 : ℕ) (h0' : Keeps a s0) :
    Keeps a (State.setPin s0 p1 p2 p3) := by
  unfold State.setPin
  apply State.setReg_keeps
  apply State.setReg_keeps
  exact h0'

theorem State.pinResult_keeps {a : State} {s0 : State} (p1 : ℕ) (p2 : List (ℕ × ℕ)) (h0' : Keeps a s0) :
    Keeps a (State.pinResult s0 p1 p2) := by
  unfold State.pinResult
  extract_lets vm_1 vsrc_2 vs1_3
  have h4 : Keeps a vs1_3 := by
    unfold vs1_3
    refine keeps_mk ?_ rfl
    exact h0'
  clear_value vs1_3
  dsimp only
  split
  · split
    · exact h0'
    · split
      · exact h4
      · apply State.setPin_keeps
        exact h4
  · exact h0'

theorem State.pinUpdate_keeps {a : State} {s0 : State} (p1 : ℕ) (p2 : List (Bool × ℕ)) (h0' : Keeps a s0) :
    Keeps a (State.pinUpdate s0 p1 p2) := by
  unfold State.pinUpdate
  extract_lets vr_1 vsrc_2
  split
  · apply State.pinResult_keeps
    refine keeps_mk ?_ rfl
    exact h0'
  · exact h0'

theorem State.pinLate_keeps {a : State} {s0 : State} (p1 : ℕ) (h0' : Keeps a s0) :
    Keeps a (State.pinLate s0 p1) := by
  unfold State.pinLate
  extract_lets vs1_1 vsrc_2
  have h3 : Keeps a vs1_1 := by
    unfold vs1_1
    apply State.setPin_keeps
    exact h0'
  clear_value vs1_1
  split
  · apply State.raiseSrc_keeps
    refine keeps_mk ?_ rfl
    exact h3
  · exact h0'

theorem State.pinIdx_keeps {a : State} {s0 : State} (p1 : ℕ) (h0' : Keeps a s0) :
    Keeps a (State.pinIdx s0 p1) := by
  unfold State.pinIdx
  extract_lets vn_1 vo_2 vs1_3 vc_4 ve_5
  have h6 : Keeps a vs1_3 := by
    unfold vs1_3
    apply State.setReg_keeps
    exact h0'
  clear_value vs1_3
  split
  · split
    · apply State.setReg_keeps
      apply State.setReg_keeps
      exact h6
    · apply State.raiseSrc_keeps
      apply State.setReg_keeps
      apply State.setReg_keeps
      exact h6
  · exact h6

theorem State.dioLevel_keeps {a : State} {s0 : State} (p1 : ℕ) (p2 : Bool) (h0' : Keeps a s0) :
    Keeps a (State.dioLevel s0 p1 p2) := by
  unfold State.dioLevel
  extract_lets vsrc_1
  refine keeps_mk ?_ rfl
  exact h0'

theorem State.msixStep_keeps {a : State} {s0 : State} (p1 : ℕ) (p2 : ℕ) (p3 : Option Bool) (h0' : Keeps a s0) :
    Keeps a (State.msixStep s0 p1 p2 p3) := by
  unfold State.msixStep
  split
  · split
    · apply State.msixSend_keeps
      apply State.msixMask_keeps
      exact h0'
    · apply State.msixSend_keeps
      exact h0'
  · exact h0'

theorem State.pciReset_keeps {a : State} {s0 : State} (p1 : Option ℕ) (h0' : Keeps a s0) :
    Keeps a (State.pciReset s0 p1) := by
  unfold State.pciReset
  split
  · split
    · apply State.fnReset_keeps
      exact h0'
    · exact h0'
  · apply State.pciDown_keeps
    exact h0'

theorem State.usbNonce_keeps {a : State} {s0 : State} (h0' : Keeps a s0) :
    Keeps a (State.usbNonce s0) := by
  unfold State.usbNonce
  dsimp only
  apply State.onVendor_keeps
  · exact h0'
  · intro x1 h2
    split
    · apply State.emit_keeps
      refine keeps_mk ?_ rfl
      apply State.random_keeps
      exact h2
    · apply State.emit_keeps
      exact h2

theorem State.usbOpen_keeps {a : State} {s0 : State} (p1 : ℕ) (p2 : List Byte) (h0' : Keeps a s0) :
    Keeps a (State.usbOpen s0 p1 p2) := by
  unfold State.usbOpen
  dsimp only
  apply State.onVendor_keeps
  · exact h0'
  · intro x1 h2
    split
    · split
      · apply State.usbFlush_keeps
        refine keeps_mk ?_ rfl
        exact h2
      · apply State.raiseSrc_keeps
        apply State.bump_keeps
        refine keeps_mk ?_ rfl
        exact h2
    · split
      · apply State.usbFlush_keeps
        refine keeps_mk ?_ rfl
        exact h2
      · apply State.raiseSrc_keeps
        apply State.bump_keeps
        refine keeps_mk ?_ rfl
        exact h2

theorem State.usbWriteWords_keeps {a : State} (ws : List Word) :
    ∀ {s : State} (off : ℕ), Keeps a s → Keeps a (State.usbWriteWords s off ws) := by
  induction ws with
  | nil => exact fun _ h => h
  | cons w t ih =>
    intro s off h
    unfold State.usbWriteWords
    dsimp only
    apply ih
    split
    · exact State.windowWrite_keeps _ _ _ h
    · exact h

theorem State.usbSubmit_keeps {a : State} {s0 : State} (p1 : List Byte) (p2 : Bool) (h0' : Keeps a s0) :
    Keeps a (State.usbSubmit s0 p1 p2) := by
  unfold State.usbSubmit
  extract_lets vn_1 vop_2 vargs_3
  dsimp only
  split
  · exact h0'
  · split
    · exact h0'
    · split
      · split
        · apply State.violation_keeps
          apply State.complete_keeps
          apply State.alloc_keeps
          exact h0'
        · exact h0'
      · split
        · apply cmdByOp_keeps
          apply State.alloc_keeps
          exact h0'
        · exact h0'

theorem State.usbResume_keeps {a : State} {s0 : State} (h0' : Keeps a s0) :
    Keeps a (State.usbResume s0) := by
  unfold State.usbResume
  extract_lets vdone_1 vpre_2 vw_3 vs1_4 vsrc_5
  have h6 : Keeps a vs1_4 := by
    unfold vs1_4
    apply State.setReg_keeps
    exact h0'
  clear_value vs1_4
  split
  · refine keeps_mk ?_ rfl
    exact h6
  · exact h0'

theorem State.rngFail_keeps {a : State} {s0 : State} (h0' : Keeps a s0) :
    Keeps a (State.rngFail s0) := by
  unfold State.rngFail
  extract_lets vsrc_1
  split
  · apply State.raiseSrc_keeps
    apply State.bump_keeps
    refine keeps_mk ?_ rfl
    exact h0'
  · exact h0'

theorem State.resend_keeps {a : State} {s0 : State} (p1 : ℕ) (h0' : Keeps a s0) :
    Keeps a (State.resend s0 p1) := by
  unfold State.resend
  extract_lets vlate_1 vgo_2
  have h3 : ∀ y0 y1 y2 y3, Keeps a (vgo_2 y0 y1 y2 y3) := by
    unfold vgo_2
    intro x4 x5 x6 x7
    extract_lets vs1_8 vstuck_9 vs2_10 vs3_11
    have h12 : Keeps a vs1_8 := by
      unfold vs1_8
      apply State.onSess_keeps
      exact h0'
    clear_value vs1_8
    have h13 : Keeps a vs2_10 := by
      unfold vs2_10
      apply State.onSess_keeps
      exact h12
    clear_value vs2_10
    have h14 : Keeps a vs3_11 := by
      unfold vs3_11
      apply keeps_foldl
      · intro x15 x16 h17
        split
        · apply State.complete_keeps
          apply State.raiseSrc_keeps
          exact h17
        · exact h17
      · exact h13
    clear_value vs3_11
    split
    · apply State.onSess_keeps
      apply State.sendChunk_keeps
      exact h0'
    · split
      · apply State.settle_keeps
        exact h14
      · apply State.settle_keeps
        exact h12
  split
  · split
    · apply h3
    · split
      · apply h3
      · exact h0'
  · exact h0'

theorem State.loaderAnnounce_keeps {a : State} {s0 : State} (h0' : Keeps a s0) :
    Keeps a (State.loaderAnnounce s0) := by
  unfold State.loaderAnnounce
  extract_lets vdata_1 vs1_2 vask_3
  have h4 : Keeps a vs1_2 := by
    unfold vs1_2
    apply State.loaderSend_keeps
    exact h0'
  clear_value vs1_2
  have h5 : ∀ y0 (_ : Keeps a y0) y1, Keeps a (vask_3 y0 y1) := by
    unfold vask_3
    intro x6 h7 x8
    split
    · apply State.relayNext_keeps
      exact h7
    · exact h7
  apply h5
  apply h5
  exact h4

theorem State.dfuBlock_keeps {a : State} {s0 : State} (p1 : List Byte) (h0' : Keeps a s0) :
    Keeps a (State.dfuBlock s0 p1) := by
  unfold State.dfuBlock
  extract_lets vu_1 vh_2 vd_3 vwhy_4 vs1_5 vs2_6 vimg_7 vh_8
  have h9 : Keeps a vs1_5 := by
    unfold vs1_5
    refine keeps_mk ?_ rfl
    exact h0'
  clear_value vs1_5
  have h10 : Keeps a vs2_6 := by
    unfold vs2_6
    split
    · apply State.raiseSrc_keeps
      apply State.bump_keeps
      exact h9
    · exact h9
  clear_value vs2_6
  split
  · exact h0'
  · split
    · split
      · refine keeps_mk ?_ rfl
        exact h0'
      · refine keeps_mk ?_ rfl
        exact h0'
    · split
      · exact h10
      · apply State.onSlot_keeps
        exact h10

theorem State.loaderMark_keeps {a : State} {s0 : State} (p1 : ℕ) (h0' : Keeps a s0) :
    Keeps a (State.loaderMark s0 p1) := by
  unfold State.loaderMark
  extract_lets vother_1 vs1_2 vr_3 vr1_4 vsrc_5
  have h6 : Keeps a vs1_2 := by
    unfold vs1_2
    apply State.onSlot_keeps
    exact h0'
  clear_value vs1_2
  refine keeps_mk ?_ rfl
  exact h6

theorem State.loaderReset_keeps {a : State} {s0 : State} (h0' : Keeps a s0) :
    Keeps a (State.loaderReset s0) := by
  unfold State.loaderReset
  split
  · split
    · apply State.powerCycle_keeps
      apply State.loaderMark_keeps
      exact h0'
    · exact h0'
  · exact h0'

theorem State.selftestEnd_keeps {a : State} {s0 : State} (p1 : ℕ) (p2 : ℕ) (h0' : Keeps a s0) :
    Keeps a (State.selftestEnd s0 p1 p2) := by
  unfold State.selftestEnd
  extract_lets vhits_1 vw_2 vsrc_3 vs1_4 vsrc_5
  have h6 : Keeps a vs1_4 := by
    unfold vs1_4
    refine keeps_mk ?_ rfl
    exact h0'
  clear_value vs1_4
  split
  · exact h0'
  · split
    · apply State.complete_keeps
      split
      · refine keeps_mk ?_ rfl
        exact h6
      · exact h6
    · apply State.complete_keeps
      apply State.raiseSrc_keeps
      exact h6

theorem State.restartDone_keeps {a : State} {s0 : State} (p1 : List ℕ) (h0' : Keeps a s0) :
    Keeps a (State.restartDone s0 p1) := by
  unfold State.restartDone
  extract_lets vtested_1 vhit_2 vbad_3 vsrc_4 vsrc_5 vs1_6 vsrc_7 vs2_8 vs3_9 vv_10
  have h11 : Keeps a vs1_6 := by
    unfold vs1_6
    apply keeps_foldl
    · intro x12 x13 h14
      apply State.fence_keeps
      exact h14
    · refine keeps_mk ?_ rfl
      exact h0'
  clear_value vs1_6
  have h15 : Keeps a vs2_8 := by
    unfold vs2_8
    refine keeps_mk ?_ rfl
    exact h11
  clear_value vs2_8
  have h16 : Keeps a vs3_9 := by
    unfold vs3_9
    split
    · exact h15
    · apply State.raiseSrc_keeps
      exact h15
  clear_value vs3_9
  dsimp only
  split
  · exact h0'
  · split
    · split
      · apply State.complete_keeps
        exact h16
      · apply State.complete_keeps
        apply State.enterTarget_keeps
        apply State.restart_keeps
        exact h16
    · exact h0'

theorem State.reclaimFilled_keeps {a : State} {s0 : State} (p1 : ℕ) (h0' : Keeps a s0) :
    Keeps a (State.reclaimFilled s0 p1) := by
  unfold State.reclaimFilled
  extract_lets vg_1 vs1_2 vs2_3 vsrc_4 vsrc_5 vs3_6
  have h7 : Keeps a vs1_2 := by
    unfold vs1_2
    apply State.setGlove_keeps
    refine Keeps.step (s := s0) ?_ ?_ ?_ ?_ ?_ ?_ ?_
    · exact h0'
    · rfl
    · rfl
    · intro x8
      exact Memory.wf_zeroRange ‹_› _ _
    · intro x9
      assumption
    · rfl
    · intro x10
      assumption
  clear_value vs1_2
  have h11 : Keeps a vs2_3 := by
    unfold vs2_3
    split
    · exact h7
    · apply State.assign_keeps
      exact h7
  clear_value vs2_3
  have h12 : Keeps a vs3_6 := by
    unfold vs3_6
    refine keeps_mk ?_ rfl
    exact h11
  clear_value vs3_6
  split
  · exact h0'
  · split
    · exact h12
    · apply State.complete_keeps
      exact h12

theorem State.cdyTimeout_keeps {a : State} {s0 : State} (p1 : ℕ) (h0' : Keeps a s0) :
    Keeps a (State.cdyTimeout s0 p1) := by
  unfold State.cdyTimeout
  extract_lets vcal_1 vsrc_2 vsrc_3 vs1_4
  have h5 : Keeps a vs1_4 := by
    unfold vs1_4
    refine keeps_mk ?_ rfl
    exact h0'
  clear_value vs1_4
  split
  · apply State.complete_keeps
    apply State.unmail_keeps
    split
    · exact h5
    · apply State.raiseSrc_keeps
      exact h5
  · exact h0'

theorem State.pinCount_keeps {a : State} {s0 : State} (p1 : ℕ) (p2 : ℤ) (h0' : Keeps a s0) :
    Keeps a (State.pinCount s0 p1 p2) := by
  unfold State.pinCount
  apply State.setReg_keeps
  exact h0'

theorem State.pinMove_keeps {a : State} {s0 : State} (p1 : ℕ) (p2 : Bool) (p3 : Bool) (h0' : Keeps a s0) :
    Keeps a (State.pinMove s0 p1 p2 p3) := by
  unfold State.pinMove
  extract_lets vhi_1 vflip_2 vother_3 vhi1_4 vsrc_5 vs1_6 vev_7 va_8 vb_9 vup_10 vone_11
  have h12 : Keeps a vs1_6 := by
    unfold vs1_6
    refine keeps_mk ?_ rfl
    exact h0'
  clear_value vs1_6
  have h13 : ∀ y0 (_ : Keeps a y0) y1, Keeps a (vone_11 y0 y1) := by
    unfold vone_11
    intro x14 h15 x16
    extract_lets vc_17 vrise_18 vsel_19
    split
    · apply State.pinCount_keeps
      exact h15
    · exact h15
  split
  · exact h0'
  · split
    · split
      · apply State.raiseSrc_keeps
        apply State.bump_keeps
        exact h12
      · apply State.pinCount_keeps
        exact h12
    · split
      · apply h13
        apply h13
        exact h12
      · apply h13
        exact h12

theorem State.pinFilter_keeps {a : State} {s0 : State} (p1 : ℕ) (p2 : Bool) (p3 : Bool) (p4 : ℕ) (h0' : Keeps a s0) :
    Keeps a (State.pinFilter s0 p1 p2 p3 p4) := by
  unfold State.pinFilter
  extract_lets vo_1 va_2 vb_3
  split
  · apply State.pinMove_keeps
    exact h0'
  · split
    · apply State.pinMove_keeps
      exact h0'
    · exact h0'

theorem State.readback_keeps {a : State} {s0 : State} (p1 : ℕ) (h0' : Keeps a s0) :
    Keeps a (State.readback s0 p1) := by
  unfold State.readback
  split
  · apply State.raiseSrc_keeps
    exact h0'
  · exact h0'

theorem State.pciUp_keeps {a : State} {s0 : State} (p1 : ℕ) (p2 : ℕ) (p3 : ℕ) (p4 : List ℕ) (p5 : List ℕ) (h0' : Keeps a s0) :
    Keeps a (State.pciUp s0 p1 p2 p3 p4 p5) := by
  unfold State.pciUp
  extract_lets vc_1 vn_2 vs0_3 von_4 vfresh_5 vsrc_6 vs1_7
  have h8 : Keeps a vs0_3 := by
    unfold vs0_3
    apply keeps_foldl
    · intro x9 x10 h11
      apply State.fnReset_keeps
      exact h11
    · exact h0'
  clear_value vs0_3
  have h12 : Keeps a vs1_7 := by
    unfold vs1_7
    refine keeps_mk ?_ rfl
    exact h8
  clear_value vs1_7
  split
  · apply keeps_foldl
    · intro x13 x14 h15
      apply State.dropEdges_keeps
      exact h15
    · exact h12
  · exact h0'

theorem State.usbSuspended_keeps {a : State} {s0 : State} (h0' : Keeps a s0) :
    Keeps a (State.usbSuspended s0) := by
  unfold State.usbSuspended
  extract_lets vsrc_1
  split
  · refine keeps_mk ?_ rfl
    exact h0'
  · exact h0'

theorem State.rngRecover_keeps {a : State} {s0 : State} (h0' : Keeps a s0) :
    Keeps a (State.rngRecover s0) := by
  unfold State.rngRecover
  extract_lets vsrc_1
  refine keeps_mk ?_ rfl
  exact h0'

theorem State.outer_keeps {a : State} {s0 : State} (h0' : Keeps a s0) :
    Keeps a (State.outer s0) := by
  unfold State.outer
  extract_lets vsrc_1
  have h2 : Keeps a vsrc_1 := by
    unfold vsrc_1
    apply State.rest_keeps
    exact h0'
  clear_value vsrc_1
  refine keeps_mk ?_ rfl
  exact h2

theorem idleStep_keeps {a : State} {s0 : State} (h0' : Keeps a s0) :
    Keeps a (idleStep s0) := by
  unfold idleStep
  extract_lets vs1_1
  have h2 : Keeps a vs1_1 := by
    unfold vs1_1
    split
    · apply State.tclk_keeps
      exact h0'
    · exact h0'
  clear_value vs1_1
  refine keeps_mk ?_ rfl
  exact h2

theorem State.taken_keeps {a : State} {s0 : State} (p1 : Requester) (p2 : ℕ) (p3 : ℕ) (p4 : ℕ) (h0' : Keeps a s0) :
    Keeps a (State.taken s0 p1 p2 p3 p4) := by
  unfold State.taken
  extract_lets vs1_1
  have h2 : Keeps a vs1_1 := by
    unfold vs1_1
    apply State.alloc_keeps
    exact h0'
  clear_value vs1_1
  apply State.setBreg_keeps
  exact h2

end Sys2Proof.Machine
end

