-- ==== Sys2Proof/Laws/KeepsExec.lean ====
section
/-! SUPPORT. What every command keeps: its effect, before the end of the command settles it, comes from the state it is given
with everything kept that `Keeps` names. -/

namespace Sys2Proof.Machine

theorem execAddrClashClear_keeps (s : State) :
    ∃ u, execAddrClashClear s = finish s u ∧ Keeps s u := by
  refine ⟨_, rfl, ?_⟩
  have h0 := Keeps.refl s
  dsimp only
  apply State.whenRs_keeps
  · exact h0
  · intro x1 h2
    refine keeps_mk ?_ rfl
    exact h2

theorem execAinConversion_keeps (p0 : ℕ) (p1 : ℤ) (s : State) :
    ∃ u, execAinConversion p0 p1 s = finish s u ∧ Keeps s u := by
  refine ⟨_, rfl, ?_⟩
  have h0 := Keeps.refl s
  split
  · apply State.ainSlot_keeps
    exact h0
  · exact h0

theorem execAinShuntOpen_keeps (p0 : ℕ) (s : State) :
    ∃ u, execAinShuntOpen p0 s = finish s u ∧ Keeps s u := by
  refine ⟨_, rfl, ?_⟩
  have h0 := Keeps.refl s
  apply State.shuntOpen_keeps
  exact h0

theorem execAinShuntRetry_keeps (p0 : ℕ) (s : State) :
    ∃ u, execAinShuntRetry p0 s = finish s u ∧ Keeps s u := by
  refine ⟨_, rfl, ?_⟩
  have h0 := Keeps.refl s
  apply State.shuntRetry_keeps
  exact h0

theorem execAoutReadbackFault_keeps (p0 : ℕ) (s : State) :
    ∃ u, execAoutReadbackFault p0 s = finish s u ∧ Keeps s u := by
  refine ⟨_, rfl, ?_⟩
  have h0 := Keeps.refl s
  apply State.whenUp_keeps
  · exact h0
  · intro x1 h2
    apply State.readback_keeps
    exact h2

theorem execCaddyAnswerTimeout_keeps (p0 : ℕ) (s : State) :
    ∃ u, execCaddyAnswerTimeout p0 s = finish s u ∧ Keeps s u := by
  refine ⟨_, rfl, ?_⟩
  have h0 := Keeps.refl s
  apply State.whenUp_keeps
  · exact h0
  · intro x1 h2
    apply State.cdyTimeout_keeps
    exact h2

theorem execCaddyAnswer_keeps (p0 : ℕ) (p1 : Bool) (s : State) :
    ∃ u, execCaddyAnswer p0 p1 s = finish s u ∧ Keeps s u := by
  refine ⟨_, rfl, ?_⟩
  have h0 := Keeps.refl s
  apply State.whenUp_keeps
  · exact h0
  · intro x1 h2
    apply State.cdyDeliver_keeps
    exact h2

theorem execCaddyPointPublish_keeps (s : State) :
    ∃ u, execCaddyPointPublish s = finish s u ∧ Keeps s u := by
  refine ⟨_, rfl, ?_⟩
  have h0 := Keeps.refl s
  apply State.whenUp_keeps
  · exact h0
  · intro x1 h2
    apply State.cdyPublishPoints_keeps
    exact h2

theorem execCaddySample_keeps (p0 : List (ℕ × BitVec 1250)) (p1 : List ℕ) (s : State) : ∃ u, execCaddySample p0 p1 s = finish s u ∧ Keeps s u := by
  refine ⟨_, rfl, ?_⟩
  have h0 := Keeps.refl s
  apply State.onCaddy_keeps
  exact h0

theorem execCaddyStart_keeps (p0 : ℕ) (p1 : Bool) (s : State) :
    ∃ u, execCaddyStart p0 p1 s = finish s u ∧ Keeps s u := by
  refine ⟨_, rfl, ?_⟩
  have h0 := Keeps.refl s
  apply State.caddyUp_keeps
  exact h0

theorem execCanArbitration_keeps (p0 : ℕ) (p1 : Bool) (s : State) :
    ∃ u, execCanArbitration p0 p1 s = finish s u ∧ Keeps s u := by
  refine ⟨_, rfl, ?_⟩
  have h0 := Keeps.refl s
  apply State.canArbitrate_keeps
  split
  · apply State.canSpoil_keeps
    exact h0
  · exact h0

theorem execCanErrorFrame_keeps (p0 : ℕ) (p1 : ℕ) (p2 : Bool) (p3 : ℕ) (p4 : Bool) (p5 : Bool) (s : State) :
    ∃ u, execCanErrorFrame p0 p1 p2 p3 p4 p5 s = finish s u ∧ Keeps s u := by
  refine ⟨_, rfl, ?_⟩
  have h0 := Keeps.refl s
  apply State.whenUp_keeps
  · exact h0
  · intro x1 h2
    apply State.canError_keeps
    exact h2

theorem execCanFrameRx_keeps (p0 : ℕ) (p1 : CanFrame) (p2 : ℕ) (p3 : Bool) (p4 : List ℕ) (p5 : List NodeInput) (s : State) :
    ∃ u, execCanFrameRx p0 p1 p2 p3 p4 p5 s = finish s u ∧ Keeps s u := by
  refine ⟨_, rfl, ?_⟩
  have h0 := Keeps.refl s
  apply State.canReceive_keeps
  exact h0

theorem execCanRateDetect_keeps (p0 : Requester) (s : State) :
    ∃ u, execCanRateDetect p0 s = finish s u ∧ Keeps s u := by
  refine ⟨_, rfl, ?_⟩
  have h0 := Keeps.refl s
  apply State.issue_keeps
  · exact h0
  · intro x1 x2 h3
    apply canRateDetectBody_keeps
    exact h3

theorem execCanRateDwellEnd_keeps (p0 : ℕ) (p1 : Bool) (s : State) :
    ∃ u, execCanRateDwellEnd p0 p1 s = finish s u ∧ Keeps s u := by
  refine ⟨_, rfl, ?_⟩
  have h0 := Keeps.refl s
  apply State.whenUp_keeps
  · exact h0
  · intro x1 h2
    apply State.canDwell_keeps
    exact h2

theorem execCanRecover_keeps (p0 : Requester) (p1 : ℕ) (p2 : Word) (s : State) :
    ∃ u, execCanRecover p0 p1 p2 s = finish s u ∧ Keeps s u := by
  refine ⟨_, rfl, ?_⟩
  have h0 := Keeps.refl s
  apply State.onWrite_keeps
  · exact h0
  · intro x1 x2 h3
    apply State.canRecoverWrite_keeps
    exact h3

theorem execCanRecoveryDone_keeps (p0 : ℕ) (s : State) :
    ∃ u, execCanRecoveryDone p0 s = finish s u ∧ Keeps s u := by
  refine ⟨_, rfl, ?_⟩
  have h0 := Keeps.refl s
  apply State.canRecovered_keeps
  exact h0

theorem execCanRxfAckWrite_keeps (p0 : Requester) (p1 : ℕ) (p2 : ℕ) (p3 : Word) (s : State) :
    ∃ u, execCanRxfAckWrite p0 p1 p2 p3 s = finish s u ∧ Keeps s u := by
  refine ⟨_, rfl, ?_⟩
  have h0 := Keeps.refl s
  apply State.onWrite_keeps
  · exact h0
  · intro x1 x2 h3
    apply State.canAck_keeps
    exact h3

theorem execCanTtCycleBoundary_keeps (p0 : ℕ) (s : State) :
    ∃ u, execCanTtCycleBoundary p0 s = finish s u ∧ Keeps s u := by
  refine ⟨_, rfl, ?_⟩
  have h0 := Keeps.refl s
  apply State.canBoundary_keeps
  exact h0

theorem execCanTtReferenceRx_keeps (p0 : ℕ) (p1 : CanFrame) (p2 : ℕ) (s : State) :
    ∃ u, execCanTtReferenceRx p0 p1 p2 s = finish s u ∧ Keeps s u := by
  refine ⟨_, rfl, ?_⟩
  have h0 := Keeps.refl s
  apply State.canReference_keeps
  exact h0

theorem execCanTtSyncLost_keeps (p0 : ℕ) (s : State) :
    ∃ u, execCanTtSyncLost p0 s = finish s u ∧ Keeps s u := by
  refine ⟨_, rfl, ?_⟩
  have h0 := Keeps.refl s
  apply State.canSyncLost_keeps
  exact h0

theorem execCanTtTrigger_keeps (p0 : ℕ) (p1 : ℕ) (s : State) :
    ∃ u, execCanTtTrigger p0 p1 s = finish s u ∧ Keeps s u := by
  refine ⟨_, rfl, ?_⟩
  have h0 := Keeps.refl s
  apply State.canTrigger_keeps
  exact h0

theorem execCanTxDone_keeps (p0 : ℕ) (s : State) :
    ∃ u, execCanTxDone p0 s = finish s u ∧ Keeps s u := by
  refine ⟨_, rfl, ?_⟩
  have h0 := Keeps.refl s
  apply State.whenUp_keeps
  · exact h0
  · intro x1 h2
    apply State.canSent_keeps
    exact h2

theorem execCanTxcancelWrite_keeps (p0 : Requester) (p1 : ℕ) (p2 : ℕ) (p3 : Word) (s : State) :
    ∃ u, execCanTxcancelWrite p0 p1 p2 p3 s = finish s u ∧ Keeps s u := by
  refine ⟨_, rfl, ?_⟩
  have h0 := Keeps.refl s
  apply State.onWrite_keeps
  · exact h0
  · intro x1 x2 h3
    apply State.canTxCancel_keeps
    exact h3

theorem execCanTxreqWrite_keeps (p0 : Requester) (p1 : ℕ) (p2 : ℕ) (p3 : Word) (s : State) :
    ∃ u, execCanTxreqWrite p0 p1 p2 p3 s = finish s u ∧ Keeps s u := by
  refine ⟨_, rfl, ?_⟩
  have h0 := Keeps.refl s
  apply State.onWrite_keeps
  · exact h0
  · intro x1 x2 h3
    apply State.canTxReq_keeps
    exact h3

theorem execCdyCalMeasure_keeps (p0 : Requester) (s : State) :
    ∃ u, execCdyCalMeasure p0 s = finish s u ∧ Keeps s u := by
  refine ⟨_, rfl, ?_⟩
  have h0 := Keeps.refl s
  apply State.issue_keeps
  · exact h0
  · intro x1 x2 h3
    apply cdyCalBody_keeps
    exact h3

theorem execCdyCommit_keeps (p0 : Requester) (s : State) :
    ∃ u, execCdyCommit p0 s = finish s u ∧ Keeps s u := by
  refine ⟨_, rfl, ?_⟩
  have h0 := Keeps.refl s
  apply State.issue_keeps
  · exact h0
  · intro x1 x2 h3
    apply cdyCommitBody_keeps
    exact h3

theorem execCdyEventPost_keeps (s : State) :
    ∃ u, execCdyEventPost s = finish s u ∧ Keeps s u := by
  refine ⟨_, rfl, ?_⟩
  have h0 := Keeps.refl s
  apply State.whenUp_keeps
  · exact h0
  · intro x1 h2
    apply State.cdyPost_keeps
    exact h2

theorem execCdyHarmonics_keeps (p0 : Requester) (s : State) :
    ∃ u, execCdyHarmonics p0 s = finish s u ∧ Keeps s u := by
  refine ⟨_, rfl, ?_⟩
  have h0 := Keeps.refl s
  apply State.issue_keeps
  · exact h0
  · intro x1 x2 h3
    apply cdyHarmonicsBody_keeps
    exact h3

theorem execCdyIdent_keeps (p0 : Requester) (s : State) :
    ∃ u, execCdyIdent p0 s = finish s u ∧ Keeps s u := by
  refine ⟨_, rfl, ?_⟩
  have h0 := Keeps.refl s
  apply State.issue_keeps
  · exact h0
  · intro x1 x2 h3
    apply cdyIdentBody_keeps
    exact h3

theorem execCdyImageLoad_keeps (p0 : Requester) (p1 : Bool) (s : State) :
    ∃ u, execCdyImageLoad p0 p1 s = finish s u ∧ Keeps s u := by
  refine ⟨_, rfl, ?_⟩
  have h0 := Keeps.refl s
  apply State.issue_keeps
  · exact h0
  · intro x1 x2 h3
    apply cdyImageLoadBody_keeps
    exact h3

theorem execCdyLogRead_keeps (p0 : Requester) (s : State) :
    ∃ u, execCdyLogRead p0 s = finish s u ∧ Keeps s u := by
  refine ⟨_, rfl, ?_⟩
  have h0 := Keeps.refl s
  apply State.issue_keeps
  · exact h0
  · intro x1 x2 h3
    apply cdyLogReadBody_keeps
    exact h3

theorem execCdyParamLoad_keeps (p0 : Requester) (p1 : Bool) (s : State) :
    ∃ u, execCdyParamLoad p0 p1 s = finish s u ∧ Keeps s u := by
  refine ⟨_, rfl, ?_⟩
  have h0 := Keeps.refl s
  apply State.issue_keeps
  · exact h0
  · intro x1 x2 h3
    apply cdyParamLoadBody_keeps
    exact h3

theorem execCdyParamRead_keeps (p0 : Requester) (s : State) :
    ∃ u, execCdyParamRead p0 s = finish s u ∧ Keeps s u := by
  refine ⟨_, rfl, ?_⟩
  have h0 := Keeps.refl s
  apply State.issue_keeps
  · exact h0
  · intro x1 x2 h3
    apply cdyParamReadBody_keeps
    exact h3

theorem execCdyPilotStatus_keeps (p0 : Requester) (s : State) :
    ∃ u, execCdyPilotStatus p0 s = finish s u ∧ Keeps s u := by
  refine ⟨_, rfl, ?_⟩
  have h0 := Keeps.refl s
  apply State.issue_keeps
  · exact h0
  · intro x1 x2 h3
    apply cdyPilotStatusBody_keeps
    exact h3

theorem execCdyPublish_keeps (p0 : Requester) (s : State) :
    ∃ u, execCdyPublish p0 s = finish s u ∧ Keeps s u := by
  refine ⟨_, rfl, ?_⟩
  have h0 := Keeps.refl s
  apply State.issue_keeps
  · exact h0
  · intro x1 x2 h3
    apply cdyPublishBody_keeps
    exact h3

theorem execCdySnapshot_keeps (p0 : Requester) (s : State) :
    ∃ u, execCdySnapshot p0 s = finish s u ∧ Keeps s u := by
  refine ⟨_, rfl, ?_⟩
  have h0 := Keeps.refl s
  apply State.issue_keeps
  · exact h0
  · intro x1 x2 h3
    apply cdySnapshotBody_keeps
    exact h3

theorem execCdyViewSet_keeps (p0 : Requester) (s : State) :
    ∃ u, execCdyViewSet p0 s = finish s u ∧ Keeps s u := by
  refine ⟨_, rfl, ?_⟩
  have h0 := Keeps.refl s
  apply State.issue_keeps
  · exact h0
  · intro x1 x2 h3
    apply cdyViewSetBody_keeps
    exact h3

theorem execCesTickLoRead_keeps (p0 : Requester) (s : State) :
    ∃ u, execCesTickLoRead p0 s = finish s u ∧ Keeps s u := by
  refine ⟨_, rfl, ?_⟩
  have h0 := Keeps.refl s
  apply State.onRead_keeps
  · exact h0
  · intro x1 x2 h3
    apply State.tickLatch_keeps
    exact h3

theorem execCfgSave_keeps (p0 : Requester) (s : State) :
    ∃ u, execCfgSave p0 s = finish s u ∧ Keeps s u := by
  refine ⟨_, rfl, ?_⟩
  have h0 := Keeps.refl s
  apply State.issue_keeps
  · exact h0
  · intro x1 x2 h3
    apply cfgSaveBody_keeps
    exact h3

theorem execChFence_keeps (p0 : Requester) (s : State) :
    ∃ u, execChFence p0 s = finish s u ∧ Keeps s u := by
  refine ⟨_, rfl, ?_⟩
  have h0 := Keeps.refl s
  apply State.issue_keeps
  · exact h0
  · intro x1 x2 h3
    apply chFenceBody_keeps
    exact h3

theorem execChSelftestDone_keeps (p0 : ℕ) (p1 : ℕ) (s : State) :
    ∃ u, execChSelftestDone p0 p1 s = finish s u ∧ Keeps s u := by
  refine ⟨_, rfl, ?_⟩
  have h0 := Keeps.refl s
  apply State.whenUp_keeps
  · exact h0
  · intro x1 h2
    apply State.selftestEnd_keeps
    exact h2

theorem execChSelftest_keeps (p0 : Requester) (s : State) :
    ∃ u, execChSelftest p0 s = finish s u ∧ Keeps s u := by
  refine ⟨_, rfl, ?_⟩
  have h0 := Keeps.refl s
  apply State.issue_keeps
  · exact h0
  · intro x1 x2 h3
    apply chSelftestBody_keeps
    exact h3

theorem execChannelHbLost_keeps (p0 : ℕ) (s : State) :
    ∃ u, execChannelHbLost p0 s = finish s u ∧ Keeps s u := by
  refine ⟨_, rfl, ?_⟩
  have h0 := Keeps.refl s
  apply State.beatLost_keeps
  exact h0

theorem execCleClaimRead_keeps (p0 : ℕ) (s : State) :
    ∃ u, execCleClaimRead p0 s = finish s u ∧ Keeps s u := by
  refine ⟨_, rfl, ?_⟩
  have h0 := Keeps.refl s
  apply State.whenUp_keeps
  · exact h0
  · intro x1 h2
    apply State.claimRead_keeps
    exact h2

theorem execClkFallback_keeps (s : State) :
    ∃ u, execClkFallback s = finish s u ∧ Keeps s u := by
  refine ⟨_, rfl, ?_⟩
  have h0 := Keeps.refl s
  apply State.onCaddy_keeps
  exact h0

theorem execClkRoot_keeps (s : State) :
    ∃ u, execClkRoot s = finish s u ∧ Keeps s u := by
  refine ⟨_, rfl, ?_⟩
  have h0 := Keeps.refl s
  apply State.whenUp_keeps
  · exact h0
  · intro x1 h2
    apply State.onCaddy_keeps
    exact h2

theorem execClkXinMeasure_keeps (p0 : ℤ) (s : State) :
    ∃ u, execClkXinMeasure p0 s = finish s u ∧ Keeps s u := by
  refine ⟨_, rfl, ?_⟩
  have h0 := Keeps.refl s
  apply State.xinMeasure_keeps
  exact h0

theorem execCmdPollStatRead_keeps (p0 : Requester) (p1 : Bool) (s : State) :
    ∃ u, execCmdPollStatRead p0 p1 s = finish s u ∧ Keeps s u := by
  refine ⟨_, rfl, ?_⟩
  have h0 := Keeps.refl s
  apply State.onRead_keeps
  · exact h0
  · intro x1 x2 h3
    apply State.pollRead_keeps
    exact h3

theorem execCmd_keeps (p0 : List Byte) (p1 : Bool) (s : State) :
    ∃ u, execCmd p0 p1 s = finish s u ∧ Keeps s u := by
  refine ⟨_, rfl, ?_⟩
  have h0 := Keeps.refl s
  apply State.onVendor_keeps
  · exact h0
  · intro x1 h2
    apply State.usbSubmit_keeps
    exact h2

theorem execCompletionPosted_keeps (p0 : ℕ) (s : State) :
    ∃ u, execCompletionPosted p0 s = finish s u ∧ Keeps s u := by
  refine ⟨_, rfl, ?_⟩
  have h0 := Keeps.refl s
  apply State.whenUp_keeps
  · exact h0
  · intro x1 h2
    apply State.postHeld_keeps
    exact h2

theorem execConfigJournalDone_keeps (p0 : Bool) (s : State) :
    ∃ u, execConfigJournalDone p0 s = finish s u ∧ Keeps s u := by
  refine ⟨_, rfl, ?_⟩
  have h0 := Keeps.refl s
  apply State.whenUp_keeps
  · exact h0
  · intro x1 h2
    apply State.journalDone_keeps
    exact h2

theorem execCoreGloveWrite_keeps (p0 : ℕ) (p1 : ℕ) (p2 : Bool) (s : State) :
    ∃ u, execCoreGloveWrite p0 p1 p2 s = finish s u ∧ Keeps s u := by
  refine ⟨_, rfl, ?_⟩
  have h0 := Keeps.refl s
  apply State.whenUp_keeps
  · exact h0
  · intro x1 h2
    split
    · apply State.setCoreGlove_keeps
      exact h2
    · exact h2

theorem execCsealChange_keeps (p0 : Bool) (s : State) :
    ∃ u, execCsealChange p0 s = finish s u ∧ Keeps s u := by
  refine ⟨_, rfl, ?_⟩
  have h0 := Keeps.refl s
  apply State.csealMove_keeps
  exact h0

theorem execCupStepDone_keeps (p0 : ℕ) (p1 : ℕ) (p2 : Upset) (p3 : ℕ) (s : State) :
    ∃ u, execCupStepDone p0 p1 p2 p3 s = finish s u ∧ Keeps s u := by
  refine ⟨_, rfl, ?_⟩
  have h0 := Keeps.refl s
  apply State.whenUp_keeps
  · exact h0
  · intro x1 h2
    apply State.cupDone_keeps
    exact h2

theorem execDataLoss_keeps (p0 : ℕ) (p1 : ℕ) (s : State) :
    ∃ u, execDataLoss p0 p1 s = finish s u ∧ Keeps s u := by
  refine ⟨_, rfl, ?_⟩
  have h0 := Keeps.refl s
  apply State.onCaddy_keeps
  exact h0

theorem execDbCtrlWrite_keeps (p0 : Requester) (p1 : ℕ) (p2 : Word) (p3 : Bool) (s : State) :
    ∃ u, execDbCtrlWrite p0 p1 p2 p3 s = finish s u ∧ Keeps s u := by
  refine ⟨_, rfl, ?_⟩
  have h0 := Keeps.refl s
  apply State.onBell_keeps
  · exact h0
  · intro x1 x2 h3
    apply State.bellCtrl_keeps
    exact h3

theorem execDbIndexWrite_keeps (p0 : Requester) (p1 : ℕ) (p2 : Word) (p3 : Bool) (s : State) :
    ∃ u, execDbIndexWrite p0 p1 p2 p3 s = finish s u ∧ Keeps s u := by
  refine ⟨_, rfl, ?_⟩
  have h0 := Keeps.refl s
  apply State.onBell_keeps
  · exact h0
  · intro x1 x2 h3
    apply State.bellIndex_keeps
    exact h3

theorem execDfuDnload_keeps (p0 : List Byte) (s : State) :
    ∃ u, execDfuDnload p0 s = finish s u ∧ Keeps s u := by
  refine ⟨_, rfl, ?_⟩
  have h0 := Keeps.refl s
  apply State.whenLoader_keeps
  · exact h0
  · intro x1 h2
    apply State.dfuBlock_keeps
    exact h2

theorem execDioInputDebounced_keeps (p0 : ℕ) (p1 : Bool) (s : State) :
    ∃ u, execDioInputDebounced p0 p1 s = finish s u ∧ Keeps s u := by
  refine ⟨_, rfl, ?_⟩
  have h0 := Keeps.refl s
  apply State.whenUp_keeps
  · exact h0
  · intro x1 h2
    apply State.dioLevel_keeps
    exact h2

theorem execDioPwmPeriod_keeps (p0 : ℕ) (s : State) :
    ∃ u, execDioPwmPeriod p0 s = finish s u ∧ Keeps s u := by
  refine ⟨_, rfl, ?_⟩
  have h0 := Keeps.refl s
  apply State.whenUp_keeps
  · exact h0
  · intro x1 h2
    apply State.pwmPeriod_keeps
    exact h2

theorem execEp1PacketAck_keeps (p0 : Bool) (s : State) :
    ∃ u, execEp1PacketAck p0 s = finish s u ∧ Keeps s u := by
  refine ⟨_, rfl, ?_⟩
  have h0 := Keeps.refl s
  split
  · apply State.whenUp_keeps
    · exact h0
    · intro x1 h2
      apply State.ep1Spoilt_keeps
      exact h2
  · apply State.ep1Ack_keeps
    exact h0

theorem execFallbackMeasure_keeps (p0 : ℤ) (s : State) :
    ∃ u, execFallbackMeasure p0 s = finish s u ∧ Keeps s u := by
  refine ⟨_, rfl, ?_⟩
  have h0 := Keeps.refl s
  apply State.onCaddy_keeps
  exact h0

theorem execFltCtrlDefaults_keeps (p0 : Requester) (p1 : Word) (s : State) :
    ∃ u, execFltCtrlDefaults p0 p1 s = finish s u ∧ Keeps s u := by
  refine ⟨_, rfl, ?_⟩
  have h0 := Keeps.refl s
  apply State.onWrite_keeps
  · exact h0
  · intro x1 x2 h3
    apply State.sevDefaults_keeps
    exact h3

theorem execFltSave_keeps (p0 : Requester) (s : State) :
    ∃ u, execFltSave p0 s = finish s u ∧ Keeps s u := by
  refine ⟨_, rfl, ?_⟩
  have h0 := Keeps.refl s
  apply State.issue_keeps
  · exact h0
  · intro x1 x2 h3
    apply fltSaveBody_keeps
    exact h3

theorem execFltSevWrite_keeps (p0 : Requester) (p1 : Word) (p2 : Bool) (s : State) :
    ∃ u, execFltSevWrite p0 p1 p2 s = finish s u ∧ Keeps s u := by
  refine ⟨_, rfl, ?_⟩
  have h0 := Keeps.refl s
  dsimp only
  apply State.onWrite_keeps
  · exact h0
  · intro x1 x2 h3
    apply State.sevWrite_keeps
    split
    · apply State.sevSpoilt_keeps
      exact h3
    · exact h3

theorem execFpFrameRx_keeps (p0 : ℕ) (p1 : List Byte) (p2 : Bool) (p3 : ℕ) (p4 : Bool) (p5 : List NodeInput) (s : State) :
    ∃ u, execFpFrameRx p0 p1 p2 p3 p4 p5 s = finish s u ∧ Keeps s u := by
  refine ⟨_, rfl, ?_⟩
  have h0 := Keeps.refl s
  apply State.fpFrame_keeps
  exact h0

theorem execFpFrameTx_keeps (p0 : ℕ) (s : State) :
    ∃ u, execFpFrameTx p0 s = finish s u ∧ Keeps s u := by
  refine ⟨_, rfl, ?_⟩
  have h0 := Keeps.refl s
  apply State.fpTransmit_keeps
  exact h0

theorem execFpLinkChange_keeps (p0 : ℕ) (p1 : Bool) (p2 : ℕ) (p3 : Bool) (p4 : Bool) (s : State) :
    ∃ u, execFpLinkChange p0 p1 p2 p3 p4 s = finish s u ∧ Keeps s u := by
  refine ⟨_, rfl, ?_⟩
  have h0 := Keeps.refl s
  apply State.whenUp_keeps
  · exact h0
  · intro x1 h2
    apply State.fpLink_keeps
    exact h2

theorem execFpTxDone_keeps (p0 : ℕ) (p1 : Bool) (s : State) :
    ∃ u, execFpTxDone p0 p1 s = finish s u ∧ Keeps s u := by
  refine ⟨_, rfl, ?_⟩
  have h0 := Keeps.refl s
  apply State.whenUp_keeps
  · exact h0
  · intro x1 h2
    apply State.fpTxDone_keeps
    exact h2

theorem execGloveQblock_keeps (p0 : Requester) (s : State) :
    ∃ u, execGloveQblock p0 s = finish s u ∧ Keeps s u := by
  refine ⟨_, rfl, ?_⟩
  have h0 := Keeps.refl s
  apply State.issue_keeps
  · exact h0
  · intro x1 x2 h3
    apply gloveQblockBody_keeps
    exact h3

theorem execGloveReclaim_keeps (p0 : Requester) (s : State) :
    ∃ u, execGloveReclaim p0 s = finish s u ∧ Keeps s u := by
  refine ⟨_, rfl, ?_⟩
  have h0 := Keeps.refl s
  apply State.issue_keeps
  · exact h0
  · intro x1 x2 h3
    apply gloveReclaimBody_keeps
    exact h3

theorem execGloveSet_keeps (p0 : Requester) (s : State) :
    ∃ u, execGloveSet p0 s = finish s u ∧ Keeps s u := by
  refine ⟨_, rfl, ?_⟩
  have h0 := Keeps.refl s
  apply State.issue_keeps
  · exact h0
  · intro x1 x2 h3
    apply gloveSetBody_keeps
    exact h3

theorem execHatstandActs_keeps (s : State) :
    ∃ u, execHatstandActs s = finish s u ∧ Keeps s u := by
  refine ⟨_, rfl, ?_⟩
  have h0 := Keeps.refl s
  apply State.hatstandAct_keeps
  exact h0

theorem execHatstandBeat_keeps (s : State) :
    ∃ u, execHatstandBeat s = finish s u ∧ Keeps s u := by
  refine ⟨_, rfl, ?_⟩
  have h0 := Keeps.refl s
  apply State.hatstandBeat_keeps
  exact h0

theorem execHatstandLost_keeps (s : State) :
    ∃ u, execHatstandLost s = finish s u ∧ Keeps s u := by
  refine ⟨_, rfl, ?_⟩
  have h0 := Keeps.refl s
  apply State.hatstandGone_keeps
  exact h0

theorem execHeartbeat_keeps (s : State) :
    ∃ u, execHeartbeat s = finish s u ∧ Keeps s u := by
  refine ⟨_, rfl, ?_⟩
  have h0 := Keeps.refl s
  apply State.heartbeat_keeps
  exact h0

theorem execHstRcMeasure_keeps (p0 : ℕ) (s : State) :
    ∃ u, execHstRcMeasure p0 s = finish s u ∧ Keeps s u := by
  refine ⟨_, rfl, ?_⟩
  have h0 := Keeps.refl s
  apply State.rcMeasure_keeps
  exact h0

theorem execImageLoaded_keeps (p0 : Bool) (s : State) :
    ∃ u, execImageLoaded p0 s = finish s u ∧ Keeps s u := by
  refine ⟨_, rfl, ?_⟩
  have h0 := Keeps.refl s
  apply State.kickAll_keeps
  apply State.imageIn_keeps
  exact h0

theorem execInternalResetEnd_keeps (p0 : Bool) (s : State) :
    ∃ u, execInternalResetEnd p0 s = finish s u ∧ Keeps s u := by
  refine ⟨_, rfl, ?_⟩
  have h0 := Keeps.refl s
  apply State.resetEnd_keeps
  exact h0

theorem execKettleCallEntry_keeps (p0 : ℕ) (p1 : Upset) (s : State) :
    ∃ u, execKettleCallEntry p0 p1 s = finish s u ∧ Keeps s u := by
  refine ⟨_, rfl, ?_⟩
  have h0 := Keeps.refl s
  apply State.whenUp_keeps
  · exact h0
  · intro x1 h2
    apply State.kettleCall_keeps
    exact h2

theorem execKettleCommitDone_keeps (p0 : ℕ) (p1 : Bool) (s : State) :
    ∃ u, execKettleCommitDone p0 p1 s = finish s u ∧ Keeps s u := by
  refine ⟨_, rfl, ?_⟩
  have h0 := Keeps.refl s
  apply State.whenUp_keeps
  · exact h0
  · intro x1 h2
    apply State.commitDone_keeps
    exact h2

theorem execKettleOverrun_keeps (p0 : ℕ) (p1 : Bool) (s : State) :
    ∃ u, execKettleOverrun p0 p1 s = finish s u ∧ Keeps s u := by
  refine ⟨_, rfl, ?_⟩
  have h0 := Keeps.refl s
  apply State.whenUp_keeps
  · exact h0
  · intro x1 h2
    split
    · apply State.raiseSrc_keeps
      exact h2
    · exact h2

theorem execKeyAttest_keeps (p0 : Requester) (s : State) :
    ∃ u, execKeyAttest p0 s = finish s u ∧ Keeps s u := by
  refine ⟨_, rfl, ?_⟩
  have h0 := Keeps.refl s
  apply State.issue_keeps
  · exact h0
  · intro x1 x2 h3
    apply keyAttestBody_keeps
    exact h3

theorem execKeyDecrypt_keeps (p0 : Requester) (s : State) :
    ∃ u, execKeyDecrypt p0 s = finish s u ∧ Keeps s u := by
  refine ⟨_, rfl, ?_⟩
  have h0 := Keeps.refl s
  apply State.issue_keeps
  · exact h0
  · intro x1 x2 h3
    apply keyDecryptBody_keeps
    exact h3

theorem execKeyDerive_keeps (p0 : Requester) (s : State) :
    ∃ u, execKeyDerive p0 s = finish s u ∧ Keeps s u := by
  refine ⟨_, rfl, ?_⟩
  have h0 := Keeps.refl s
  apply State.issue_keeps
  · exact h0
  · intro x1 x2 h3
    apply keyDeriveBody_keeps
    exact h3

theorem execKeyDestroy_keeps (p0 : Requester) (s : State) :
    ∃ u, execKeyDestroy p0 s = finish s u ∧ Keeps s u := by
  refine ⟨_, rfl, ?_⟩
  have h0 := Keeps.refl s
  apply State.issue_keeps
  · exact h0
  · intro x1 x2 h3
    apply keyDestroyBody_keeps
    exact h3

theorem execKeyEncrypt_keeps (p0 : Requester) (s : State) :
    ∃ u, execKeyEncrypt p0 s = finish s u ∧ Keeps s u := by
  refine ⟨_, rfl, ?_⟩
  have h0 := Keeps.refl s
  apply State.issue_keeps
  · exact h0
  · intro x1 x2 h3
    apply keyEncryptBody_keeps
    exact h3

theorem execKeyEndorseCert_keeps (p0 : Requester) (s : State) :
    ∃ u, execKeyEndorseCert p0 s = finish s u ∧ Keeps s u := by
  refine ⟨_, rfl, ?_⟩
  have h0 := Keeps.refl s
  apply State.issue_keeps
  · exact h0
  · intro x1 x2 h3
    apply keyCertBody_keeps
    exact h3

theorem execKeyMac_keeps (p0 : Requester) (s : State) :
    ∃ u, execKeyMac p0 s = finish s u ∧ Keeps s u := by
  refine ⟨_, rfl, ?_⟩
  have h0 := Keeps.refl s
  apply State.issue_keeps
  · exact h0
  · intro x1 x2 h3
    apply keyMacBody_keeps
    exact h3

theorem execKeyPublic_keeps (p0 : Requester) (s : State) :
    ∃ u, execKeyPublic p0 s = finish s u ∧ Keeps s u := by
  refine ⟨_, rfl, ?_⟩
  have h0 := Keeps.refl s
  apply State.issue_keeps
  · exact h0
  · intro x1 x2 h3
    apply keyPublicBody_keeps
    exact h3

theorem execKeyQuery_keeps (p0 : Requester) (s : State) :
    ∃ u, execKeyQuery p0 s = finish s u ∧ Keeps s u := by
  refine ⟨_, rfl, ?_⟩
  have h0 := Keeps.refl s
  apply State.issue_keeps
  · exact h0
  · intro x1 x2 h3
    apply keyQueryBody_keeps
    exact h3

theorem execKeyRandom_keeps (p0 : Requester) (s : State) :
    ∃ u, execKeyRandom p0 s = finish s u ∧ Keeps s u := by
  refine ⟨_, rfl, ?_⟩
  have h0 := Keeps.refl s
  apply State.issue_keeps
  · exact h0
  · intro x1 x2 h3
    apply keyRandomBody_keeps
    exact h3

theorem execKeySeed_keeps (p0 : Requester) (s : State) :
    ∃ u, execKeySeed p0 s = finish s u ∧ Keeps s u := by
  refine ⟨_, rfl, ?_⟩
  have h0 := Keeps.refl s
  apply State.issue_keeps
  · exact h0
  · intro x1 x2 h3
    apply keySeedBody_keeps
    exact h3

theorem execKeyUnwrap_keeps (p0 : Requester) (s : State) :
    ∃ u, execKeyUnwrap p0 s = finish s u ∧ Keeps s u := by
  refine ⟨_, rfl, ?_⟩
  have h0 := Keeps.refl s
  apply State.issue_keeps
  · exact h0
  · intro x1 x2 h3
    apply keyUnwrapBody_keeps
    exact h3

theorem execKeyVerify_keeps (p0 : Requester) (s : State) :
    ∃ u, execKeyVerify p0 s = finish s u ∧ Keeps s u := by
  refine ⟨_, rfl, ?_⟩
  have h0 := Keeps.refl s
  apply State.issue_keeps
  · exact h0
  · intro x1 x2 h3
    apply keyVerifyBody_keeps
    exact h3

theorem execKeyWrap_keeps (p0 : Requester) (s : State) :
    ∃ u, execKeyWrap p0 s = finish s u ∧ Keeps s u := by
  refine ⟨_, rfl, ?_⟩
  have h0 := Keeps.refl s
  apply State.issue_keeps
  · exact h0
  · intro x1 x2 h3
    apply keyWrapBody_keeps
    exact h3

theorem execLaunchDue_keeps (p0 : ℕ) (s : State) :
    ∃ u, execLaunchDue p0 s = finish s u ∧ Keeps s u := by
  refine ⟨_, rfl, ?_⟩
  have h0 := Keeps.refl s
  apply State.launchDue_keeps
  exact h0

theorem execLcsCertStore_keeps (p0 : Requester) (s : State) :
    ∃ u, execLcsCertStore p0 s = finish s u ∧ Keeps s u := by
  refine ⟨_, rfl, ?_⟩
  have h0 := Keeps.refl s
  apply State.issue_keeps
  · exact h0
  · intro x1 x2 h3
    apply lcsCertStoreBody_keeps
    exact h3

theorem execLcsProvision_keeps (p0 : Requester) (p1 : Bool) (p2 : Bool) (s : State) :
    ∃ u, execLcsProvision p0 p1 p2 s = finish s u ∧ Keeps s u := by
  refine ⟨_, rfl, ?_⟩
  have h0 := Keeps.refl s
  apply State.issue_keeps
  · exact h0
  · intro x1 x2 h3
    apply lcsProvisionBody_keeps
    exact h3

theorem execLcsTransition_keeps (p0 : Requester) (p1 : Bool) (p2 : Bool) (s : State) :
    ∃ u, execLcsTransition p0 p1 p2 s = finish s u ∧ Keeps s u := by
  refine ⟨_, rfl, ?_⟩
  have h0 := Keeps.refl s
  apply State.issue_keeps
  · exact h0
  · intro x1 x2 h3
    apply lcsTransitionBody_keeps
    exact h3

theorem execLeaseAnswerRx_keeps (p0 : Bool) (p1 : ℕ) (p2 : ℕ) (p3 : ℕ) (p4 : List Byte) (s : State) :
    ∃ u, execLeaseAnswerRx p0 p1 p2 p3 p4 s = finish s u ∧ Keeps s u := by
  refine ⟨_, rfl, ?_⟩
  have h0 := Keeps.refl s
  apply State.whenUp_keeps
  · exact h0
  · intro x1 h2
    apply State.leaseAnswer_keeps
    exact h2

theorem execLeaseSendInstant_keeps (s : State) :
    ∃ u, execLeaseSendInstant s = finish s u ∧ Keeps s u := by
  refine ⟨_, rfl, ?_⟩
  have h0 := Keeps.refl s
  apply State.whenUp_keeps
  · exact h0
  · intro x1 h2
    apply State.leaseSend_keeps
    exact h2

theorem execLoopClearFlags_keeps (p0 : Requester) (s : State) :
    ∃ u, execLoopClearFlags p0 s = finish s u ∧ Keeps s u := by
  refine ⟨_, rfl, ?_⟩
  have h0 := Keeps.refl s
  apply State.issue_keeps
  · exact h0
  · intro x1 x2 h3
    apply loopClearBody_keeps
    exact h3

theorem execLoopHandover_keeps (p0 : Requester) (s : State) :
    ∃ u, execLoopHandover p0 s = finish s u ∧ Keeps s u := by
  refine ⟨_, rfl, ?_⟩
  have h0 := Keeps.refl s
  apply State.issue_keeps
  · exact h0
  · intro x1 x2 h3
    apply loopHandoverBody_keeps
    exact h3

theorem execLoopIntegratorCommit_keeps (p0 : Bool) (s : State) :
    ∃ u, execLoopIntegratorCommit p0 s = finish s u ∧ Keeps s u := by
  refine ⟨_, rfl, ?_⟩
  have h0 := Keeps.refl s
  apply State.integratorTick_keeps
  exact h0

theorem execLoopQuery_keeps (p0 : Requester) (s : State) :
    ∃ u, execLoopQuery p0 s = finish s u ∧ Keeps s u := by
  refine ⟨_, rfl, ?_⟩
  have h0 := Keeps.refl s
  apply State.issue_keeps
  · exact h0
  · intro x1 x2 h3
    apply loopQueryBody_keeps
    exact h3

theorem execLoopRead_keeps (p0 : Requester) (s : State) :
    ∃ u, execLoopRead p0 s = finish s u ∧ Keeps s u := by
  refine ⟨_, rfl, ?_⟩
  have h0 := Keeps.refl s
  apply State.issue_keeps
  · exact h0
  · intro x1 x2 h3
    apply loopReadBody_keeps
    exact h3

theorem execLoopStart_keeps (p0 : Requester) (p1 : Bool) (s : State) :
    ∃ u, execLoopStart p0 p1 s = finish s u ∧ Keeps s u := by
  refine ⟨_, rfl, ?_⟩
  have h0 := Keeps.refl s
  apply State.issue_keeps
  · exact h0
  · intro x1 x2 h3
    apply loopStartBody_keeps
    exact h3

theorem execLoopStop_keeps (p0 : Requester) (s : State) :
    ∃ u, execLoopStop p0 s = finish s u ∧ Keeps s u := by
  refine ⟨_, rfl, ?_⟩
  have h0 := Keeps.refl s
  apply State.issue_keeps
  · exact h0
  · intro x1 x2 h3
    apply loopStopBody_keeps
    exact h3

theorem execLoopWrite_keeps (p0 : Requester) (s : State) :
    ∃ u, execLoopWrite p0 s = finish s u ∧ Keeps s u := by
  refine ⟨_, rfl, ?_⟩
  have h0 := Keeps.refl s
  apply State.issue_keeps
  · exact h0
  · intro x1 x2 h3
    apply loopWriteBody_keeps
    exact h3

theorem execLpiEntry_keeps (p0 : ℕ) (s : State) :
    ∃ u, execLpiEntry p0 s = finish s u ∧ Keeps s u := by
  refine ⟨_, rfl, ?_⟩
  have h0 := Keeps.refl s
  apply State.fpLpi_keeps
  exact h0

theorem execLpiRxChange_keeps (p0 : ℕ) (p1 : Bool) (s : State) :
    ∃ u, execLpiRxChange p0 p1 s = finish s u ∧ Keeps s u := by
  refine ⟨_, rfl, ?_⟩
  have h0 := Keeps.refl s
  dsimp only
  apply State.whenUp_keeps
  · exact h0
  · intro x1 h2
    apply State.setFp_keeps
    exact h2

theorem execLpiWake_keeps (p0 : ℕ) (s : State) :
    ∃ u, execLpiWake p0 s = finish s u ∧ Keeps s u := by
  refine ⟨_, rfl, ?_⟩
  have h0 := Keeps.refl s
  apply State.whenUp_keeps
  · exact h0
  · intro x1 h2
    apply State.fpWake_keeps
    exact h2

theorem execLseClaim_keeps (p0 : Requester) (s : State) :
    ∃ u, execLseClaim p0 s = finish s u ∧ Keeps s u := by
  refine ⟨_, rfl, ?_⟩
  have h0 := Keeps.refl s
  apply State.issue_keeps
  · exact h0
  · intro x1 x2 h3
    apply lseClaimBody_keeps
    exact h3

theorem execLseQuery_keeps (p0 : Requester) (s : State) :
    ∃ u, execLseQuery p0 s = finish s u ∧ Keeps s u := by
  refine ⟨_, rfl, ?_⟩
  have h0 := Keeps.refl s
  apply State.issue_keeps
  · exact h0
  · intro x1 x2 h3
    apply lseQueryBody_keeps
    exact h3

theorem execLseRelease_keeps (p0 : Requester) (s : State) :
    ∃ u, execLseRelease p0 s = finish s u ∧ Keeps s u := by
  refine ⟨_, rfl, ?_⟩
  have h0 := Keeps.refl s
  apply State.issue_keeps
  · exact h0
  · intro x1 x2 h3
    apply lseReleaseBody_keeps
    exact h3

theorem execLseUnadopt_keeps (p0 : Requester) (s : State) :
    ∃ u, execLseUnadopt p0 s = finish s u ∧ Keeps s u := by
  refine ⟨_, rfl, ?_⟩
  have h0 := Keeps.refl s
  apply State.issue_keeps
  · exact h0
  · intro x1 x2 h3
    apply lseUnadoptBody_keeps
    exact h3

theorem execLseWarmTask_keeps (p0 : Requester) (s : State) :
    ∃ u, execLseWarmTask p0 s = finish s u ∧ Keeps s u := by
  refine ⟨_, rfl, ?_⟩
  have h0 := Keeps.refl s
  apply State.issue_keeps
  · exact h0
  · intro x1 x2 h3
    apply lseWarmTaskBody_keeps
    exact h3

theorem execMdioDone_keeps (p0 : ℕ) (p1 : ℕ) (s : State) :
    ∃ u, execMdioDone p0 p1 s = finish s u ∧ Keeps s u := by
  refine ⟨_, rfl, ?_⟩
  have h0 := Keeps.refl s
  apply State.whenUp_keeps
  · exact h0
  · intro x1 h2
    apply State.mdioEnd_keeps
    exact h2

theorem execMdioStart_keeps (p0 : Requester) (p1 : ℕ) (p2 : Word) (s : State) :
    ∃ u, execMdioStart p0 p1 p2 s = finish s u ∧ Keeps s u := by
  refine ⟨_, rfl, ?_⟩
  have h0 := Keeps.refl s
  apply State.onWrite_keeps
  · exact h0
  · intro x1 x2 h3
    apply State.mdioWrite_keeps
    exact h3

theorem execMsixMessage_keeps (p0 : ℕ) (p1 : ℕ) (p2 : Option Bool) (s : State) :
    ∃ u, execMsixMessage p0 p1 p2 s = finish s u ∧ Keeps s u := by
  refine ⟨_, rfl, ?_⟩
  have h0 := Keeps.refl s
  apply State.whenUp_keeps
  · exact h0
  · intro x1 h2
    apply State.msixStep_keeps
    exact h2

theorem execNop_keeps (p0 : Requester) (s : State) :
    ∃ u, execNop p0 s = finish s u ∧ Keeps s u := by
  refine ⟨_, rfl, ?_⟩
  have h0 := Keeps.refl s
  apply State.issue_keeps
  · exact h0
  · intro x1 x2 h3
    apply nopBody_keeps
    exact h3

theorem execOutputOverload_keeps (p0 : ℕ) (s : State) :
    ∃ u, execOutputOverload p0 s = finish s u ∧ Keeps s u := by
  refine ⟨_, rfl, ?_⟩
  have h0 := Keeps.refl s
  apply State.whenUp_keeps
  · exact h0
  · intro x1 h2
    apply State.overload_keeps
    exact h2

theorem execOvr_keeps (p0 : ℕ) (p1 : ℕ) (s : State) :
    ∃ u, execOvr p0 p1 s = finish s u ∧ Keeps s u := by
  refine ⟨_, rfl, ?_⟩
  have h0 := Keeps.refl s
  apply State.onCaddy_keeps
  exact h0

theorem execPageEventDelivery_keeps (p0 : ℕ) (s : State) :
    ∃ u, execPageEventDelivery p0 s = finish s u ∧ Keeps s u := by
  refine ⟨_, rfl, ?_⟩
  have h0 := Keeps.refl s
  apply State.whenUp_keeps
  · exact h0
  · intro x1 h2
    apply State.deliverEvent_keeps
    exact h2

theorem execPageStarted_keeps (p0 : ℕ) (p1 : List ℕ) (s : State) :
    ∃ u, execPageStarted p0 p1 s = finish s u ∧ Keeps s u := by
  refine ⟨_, rfl, ?_⟩
  have h0 := Keeps.refl s
  apply State.pageStart_keeps
  exact h0

theorem execPageStopped_keeps (p0 : ℕ) (s : State) :
    ∃ u, execPageStopped p0 s = finish s u ∧ Keeps s u := by
  refine ⟨_, rfl, ?_⟩
  have h0 := Keeps.refl s
  apply State.pageStop_keeps
  exact h0

theorem execPciError_keeps (p0 : Bool) (s : State) :
    ∃ u, execPciError p0 s = finish s u ∧ Keeps s u := by
  refine ⟨_, rfl, ?_⟩
  have h0 := Keeps.refl s
  apply State.pciErr_keeps
  exact h0

theorem execPciFunctionReset_keeps (p0 : Option ℕ) (s : State) :
    ∃ u, execPciFunctionReset p0 s = finish s u ∧ Keeps s u := by
  refine ⟨_, rfl, ?_⟩
  have h0 := Keeps.refl s
  apply State.whenUp_keeps
  · exact h0
  · intro x1 h2
    apply State.pciReset_keeps
    exact h2

theorem execPciLinkUp_keeps (p0 : ℕ) (p1 : ℕ) (p2 : ℕ) (p3 : List ℕ) (p4 : List ℕ) (s : State) :
    ∃ u, execPciLinkUp p0 p1 p2 p3 p4 s = finish s u ∧ Keeps s u := by
  refine ⟨_, rfl, ?_⟩
  have h0 := Keeps.refl s
  apply State.pciUp_keeps
  exact h0

theorem execPciVfGloveWrite_keeps (p0 : Requester) (p1 : ℕ) (p2 : Word) (s : State) :
    ∃ u, execPciVfGloveWrite p0 p1 p2 s = finish s u ∧ Keeps s u := by
  refine ⟨_, rfl, ?_⟩
  have h0 := Keeps.refl s
  apply State.onWrite_keeps
  · exact h0
  · intro x1 x2 h3
    apply State.vfGlove_keeps
    exact h3

theorem execPfwCommitDone_keeps (p0 : Bool) (s : State) :
    ∃ u, execPfwCommitDone p0 s = finish s u ∧ Keeps s u := by
  refine ⟨_, rfl, ?_⟩
  have h0 := Keeps.refl s
  apply State.seqEnd_keeps
  exact h0

theorem execPfw_keeps (s : State) :
    ∃ u, execPfw s = finish s u ∧ Keeps s u := by
  refine ⟨_, rfl, ?_⟩
  have h0 := Keeps.refl s
  apply State.pfwAssert_keeps
  exact h0

theorem execPgOwnerWrite_keeps (p0 : Requester) (p1 : ℕ) (p2 : Word) (s : State) :
    ∃ u, execPgOwnerWrite p0 p1 p2 s = finish s u ∧ Keeps s u := by
  refine ⟨_, rfl, ?_⟩
  have h0 := Keeps.refl s
  apply State.onWrite_keeps
  · exact h0
  · intro x1 x2 h3
    apply State.ownerWrite_keeps
    exact h3

theorem execPgRunWrite_keeps (p0 : Requester) (p1 : ℕ) (p2 : ℕ) (s : State) :
    ∃ u, execPgRunWrite p0 p1 p2 s = finish s u ∧ Keeps s u := by
  refine ⟨_, rfl, ?_⟩
  have h0 := Keeps.refl s
  apply State.onWrite_keeps
  · exact h0
  · intro x1 x2 h3
    apply State.runReq_keeps
    exact h3

theorem execPilotDriver_keeps (p0 : ℕ) (p1 : Bool) (s : State) :
    ∃ u, execPilotDriver p0 p1 s = finish s u ∧ Keeps s u := by
  refine ⟨_, rfl, ?_⟩
  have h0 := Keeps.refl s
  apply State.onCaddy_keeps
  exact h0

theorem execPilotStale_keeps (p0 : ℕ) (s : State) :
    ∃ u, execPilotStale p0 s = finish s u ∧ Keeps s u := by
  refine ⟨_, rfl, ?_⟩
  have h0 := Keeps.refl s
  apply State.onCaddy_keeps
  exact h0

theorem execPinEdge_keeps (p0 : ℕ) (p1 : Bool) (p2 : Bool) (p3 : ℕ) (s : State) :
    ∃ u, execPinEdge p0 p1 p2 p3 s = finish s u ∧ Keeps s u := by
  refine ⟨_, rfl, ?_⟩
  have h0 := Keeps.refl s
  apply State.whenUp_keeps
  · exact h0
  · intro x1 h2
    apply State.whenPin_keeps
    · apply State.pinSees_keeps
      exact h2
    · intro x3 h4
      apply State.pinFilter_keeps
      exact h4

theorem execPinIndex_keeps (p0 : ℕ) (s : State) :
    ∃ u, execPinIndex p0 s = finish s u ∧ Keeps s u := by
  refine ⟨_, rfl, ?_⟩
  have h0 := Keeps.refl s
  apply State.whenPin_keeps
  · exact h0
  · intro x1 h2
    apply State.pinIdx_keeps
    exact h2

theorem execPinResultUpdate_keeps (p0 : ℕ) (p1 : List (Bool × ℕ)) (s : State) : ∃ u, execPinResultUpdate p0 p1 s = finish s u ∧ Keeps s u := by
  refine ⟨_, rfl, ?_⟩
  have h0 := Keeps.refl s
  apply State.whenPin_keeps
  · exact h0
  · intro x1 h2
    apply State.pinUpdate_keeps
    exact h2

theorem execPinTimeout_keeps (p0 : ℕ) (s : State) :
    ∃ u, execPinTimeout p0 s = finish s u ∧ Keeps s u := by
  refine ⟨_, rfl, ?_⟩
  have h0 := Keeps.refl s
  apply State.whenPin_keeps
  · exact h0
  · intro x1 h2
    apply State.pinLate_keeps
    exact h2

theorem execPinValWrite_keeps (p0 : Requester) (p1 : ℕ) (p2 : Word) (s : State) :
    ∃ u, execPinValWrite p0 p1 p2 s = finish s u ∧ Keeps s u := by
  refine ⟨_, rfl, ?_⟩
  have h0 := Keeps.refl s
  apply State.onWrite_keeps
  · exact h0
  · intro x1 x2 h3
    apply State.pinLoad_keeps
    exact h3

theorem execPowerRestart_keeps (s : State) :
    ∃ u, execPowerRestart s = finish s u ∧ Keeps s u := by
  refine ⟨_, rfl, ?_⟩
  have h0 := Keeps.refl s
  apply State.seqRestart_keeps
  exact h0

theorem execPtRead_keeps (p0 : Requester) (s : State) :
    ∃ u, execPtRead p0 s = finish s u ∧ Keeps s u := by
  refine ⟨_, rfl, ?_⟩
  have h0 := Keeps.refl s
  apply State.issue_keeps
  · exact h0
  · intro x1 x2 h3
    apply ptReadBody_keeps
    exact h3

theorem execPtWrite_keeps (p0 : Requester) (s : State) :
    ∃ u, execPtWrite p0 s = finish s u ∧ Keeps s u := by
  refine ⟨_, rfl, ?_⟩
  have h0 := Keeps.refl s
  apply State.issue_keeps
  · exact h0
  · intro x1 x2 h3
    apply ptWriteBody_keeps
    exact h3

theorem execPulseEnd_keeps (p0 : ℕ) (s : State) :
    ∃ u, execPulseEnd p0 s = finish s u ∧ Keeps s u := by
  refine ⟨_, rfl, ?_⟩
  have h0 := Keeps.refl s
  apply State.onCaddy_keeps
  exact h0

theorem execPulseStart_keeps (p0 : ℕ) (s : State) :
    ∃ u, execPulseStart p0 s = finish s u ∧ Keeps s u := by
  refine ⟨_, rfl, ?_⟩
  have h0 := Keeps.refl s
  apply State.onCaddy_keeps
  exact h0

theorem execQueueCreate_keeps (p0 : Requester) (s : State) :
    ∃ u, execQueueCreate p0 s = finish s u ∧ Keeps s u := by
  refine ⟨_, rfl, ?_⟩
  have h0 := Keeps.refl s
  apply State.issue_keeps
  · exact h0
  · intro x1 x2 h3
    apply queueCreateBody_keeps
    exact h3

theorem execQueueDestroy_keeps (p0 : Requester) (s : State) :
    ∃ u, execQueueDestroy p0 s = finish s u ∧ Keeps s u := by
  refine ⟨_, rfl, ?_⟩
  have h0 := Keeps.refl s
  apply State.issue_keeps
  · exact h0
  · intro x1 x2 h3
    apply queueDestroyBody_keeps
    exact h3

theorem execQueueQuery_keeps (p0 : Requester) (s : State) :
    ∃ u, execQueueQuery p0 s = finish s u ∧ Keeps s u := by
  refine ⟨_, rfl, ?_⟩
  have h0 := Keeps.refl s
  apply State.issue_keeps
  · exact h0
  · intro x1 x2 h3
    apply queueQueryBody_keeps
    exact h3

theorem execReclaimZeroFillDone_keeps (p0 : ℕ) (s : State) :
    ∃ u, execReclaimZeroFillDone p0 s = finish s u ∧ Keeps s u := by
  refine ⟨_, rfl, ?_⟩
  have h0 := Keeps.refl s
  apply State.whenUp_keeps
  · exact h0
  · intro x1 h2
    apply State.reclaimFilled_keeps
    exact h2

theorem execRecoveryAnnounce_keeps (s : State) :
    ∃ u, execRecoveryAnnounce s = finish s u ∧ Keeps s u := by
  refine ⟨_, rfl, ?_⟩
  have h0 := Keeps.refl s
  apply State.whenLoader_keeps
  · exact h0
  · intro x1 h2
    apply State.loaderAnnounce_keeps
    exact h2

theorem execRecoveryComplete_keeps (s : State) :
    ∃ u, execRecoveryComplete s = finish s u ∧ Keeps s u := by
  refine ⟨_, rfl, ?_⟩
  have h0 := Keeps.refl s
  apply State.loaderReset_keeps
  exact h0

theorem execRecoveryFp0Alternate_keeps (s : State) :
    ∃ u, execRecoveryFp0Alternate s = finish s u ∧ Keeps s u := by
  refine ⟨_, rfl, ?_⟩
  have h0 := Keeps.refl s
  dsimp only
  apply State.whenLoader_keeps
  · exact h0
  · intro x1 h2
    refine keeps_mk ?_ rfl
    exact h2

theorem execRegRead_keeps (p0 : ℕ) (p1 : ℕ) (s : State) :
    ∃ u, execRegRead p0 p1 s = finish s u ∧ Keeps s u := by
  refine ⟨_, rfl, ?_⟩
  have h0 := Keeps.refl s
  apply State.onVendor_keeps
  · exact h0
  · intro x1 h2
    apply State.usbReadWords_keeps
    exact h2

theorem execRegWrite_keeps (p0 : ℕ) (p1 : List Word) (s : State) :
    ∃ u, execRegWrite p0 p1 s = finish s u ∧ Keeps s u := by
  refine ⟨_, rfl, ?_⟩
  have h0 := Keeps.refl s
  apply State.onVendor_keeps
  · exact h0
  · intro x1 h2
    apply State.usbWriteWords_keeps
    exact h2

theorem execRegisterWrite_keeps (p0 : Requester) (p1 : ℕ) (p2 : ℕ) (p3 : Option DWord) (p4 : Bool) (s : State) :
    ∃ u, execRegisterWrite p0 p1 p2 p3 p4 s = finish s u ∧ Keeps s u := by
  refine ⟨_, rfl, ?_⟩
  have h0 := Keeps.refl s
  apply State.access_keeps
  split
  · apply State.gloveEcc_keeps
    exact h0
  · exact h0

theorem execRelayAckRx_keeps (p0 : Bool) (p1 : List Byte) (s : State) :
    ∃ u, execRelayAckRx p0 p1 s = finish s u ∧ Keeps s u := by
  refine ⟨_, rfl, ?_⟩
  have h0 := Keeps.refl s
  split
  · apply State.ackRx_keeps
    exact h0
  · exact h0

theorem execRelayFinishRx_keeps (p0 : Bool) (p1 : List Byte) (s : State) :
    ∃ u, execRelayFinishRx p0 p1 s = finish s u ∧ Keeps s u := by
  refine ⟨_, rfl, ?_⟩
  have h0 := Keeps.refl s
  split
  · apply State.finishRx_keeps
    exact h0
  · exact h0

theorem execRelayReportRx_keeps (p0 : ℕ) (p1 : List Byte) (s : State) :
    ∃ u, execRelayReportRx p0 p1 s = finish s u ∧ Keeps s u := by
  refine ⟨_, rfl, ?_⟩
  have h0 := Keeps.refl s
  split
  · apply State.reportRx_keeps
    exact h0
  · exact h0

theorem execRelayReportTimeout_keeps (s : State) :
    ∃ u, execRelayReportTimeout s = finish s u ∧ Keeps s u := by
  refine ⟨_, rfl, ?_⟩
  have h0 := Keeps.refl s
  apply State.whenUp_keeps
  · exact h0
  · intro x1 h2
    apply State.reportTimeout_keeps
    exact h2

theorem execRelayResend_keeps (p0 : ℕ) (s : State) :
    ∃ u, execRelayResend p0 s = finish s u ∧ Keeps s u := by
  refine ⟨_, rfl, ?_⟩
  have h0 := Keeps.refl s
  apply State.resend_keeps
  exact h0

theorem execRelayUnitRx_keeps (p0 : Bool) (p1 : List Byte) (s : State) :
    ∃ u, execRelayUnitRx p0 p1 s = finish s u ∧ Keeps s u := by
  refine ⟨_, rfl, ?_⟩
  have h0 := Keeps.refl s
  split
  · apply State.unitRx_keeps
    exact h0
  · exact h0

theorem execRelayWriteRx_keeps (p0 : List Byte) (s : State) :
    ∃ u, execRelayWriteRx p0 s = finish s u ∧ Keeps s u := by
  refine ⟨_, rfl, ?_⟩
  have h0 := Keeps.refl s
  apply State.whenUp_keeps
  · exact h0
  · intro x1 h2
    split
    · exact h2
    · apply State.relayIn_keeps
      exact h2

theorem execResetNAssert_keeps (s : State) :
    ∃ u, execResetNAssert s = finish s u ∧ Keeps s u := by
  refine ⟨_, rfl, ?_⟩
  have h0 := Keeps.refl s
  apply State.resetAssert_keeps
  exact h0

theorem execResetNRelease_keeps (s : State) :
    ∃ u, execResetNRelease s = finish s u ∧ Keeps s u := by
  refine ⟨_, rfl, ?_⟩
  have h0 := Keeps.refl s
  apply State.resetRelease_keeps
  exact h0

theorem execRingMapExpiry_keeps (p0 : Bool) (p1 : ℕ) (s : State) :
    ∃ u, execRingMapExpiry p0 p1 s = finish s u ∧ Keeps s u := by
  refine ⟨_, rfl, ?_⟩
  have h0 := Keeps.refl s
  apply State.whenRs_keeps
  · exact h0
  · intro x1 h2
    apply State.mapExpire_keeps
    exact h2

theorem execRingState_keeps (s : State) :
    ∃ u, execRingState s = finish s u ∧ Keeps s u := by
  refine ⟨_, rfl, ?_⟩
  have h0 := Keeps.refl s
  apply State.onVendor_keeps
  · exact h0
  · intro x1 h2
    apply State.emit_keeps
    exact h2

theorem execRiserAligned_keeps (p0 : Bool) (p1 : ℕ) (s : State) :
    ∃ u, execRiserAligned p0 p1 s = finish s u ∧ Keeps s u := by
  refine ⟨_, rfl, ?_⟩
  have h0 := Keeps.refl s
  apply State.whenRs_keeps
  · exact h0
  · intro x1 h2
    apply State.rsAligned_keeps
    exact h2

theorem execRiserAnnounceSend_keeps (s : State) :
    ∃ u, execRiserAnnounceSend s = finish s u ∧ Keeps s u := by
  refine ⟨_, rfl, ?_⟩
  have h0 := Keeps.refl s
  apply State.whenRs_keeps
  · exact h0
  · intro x1 h2
    apply State.announce_keeps
    exact h2

theorem execRiserAuthRetry_keeps (p0 : Bool) (s : State) :
    ∃ u, execRiserAuthRetry p0 s = finish s u ∧ Keeps s u := by
  refine ⟨_, rfl, ?_⟩
  have h0 := Keeps.refl s
  apply State.whenRs_keeps
  · exact h0
  · intro x1 h2
    apply State.rsRetry_keeps
    exact h2

theorem execRiserBringupTimeout_keeps (p0 : Bool) (p1 : ℕ) (s : State) :
    ∃ u, execRiserBringupTimeout p0 p1 s = finish s u ∧ Keeps s u := by
  refine ⟨_, rfl, ?_⟩
  have h0 := Keeps.refl s
  apply State.whenRs_keeps
  · exact h0
  · intro x1 h2
    apply State.rsTimeout_keeps
    exact h2

theorem execRiserChallengeRx_keeps (p0 : Bool) (p1 : List Byte) (s : State) :
    ∃ u, execRiserChallengeRx p0 p1 s = finish s u ∧ Keeps s u := by
  refine ⟨_, rfl, ?_⟩
  have h0 := Keeps.refl s
  apply State.whenRs_keeps
  · exact h0
  · intro x1 h2
    apply State.challengeRx_keeps
    exact h2

theorem execRiserFrameRx_keeps (p0 : Bool) (p1 : List Byte) (p2 : List Byte) (p3 : Fec) (p4 : ℕ) (s : State) :
    ∃ u, execRiserFrameRx p0 p1 p2 p3 p4 s = finish s u ∧ Keeps s u := by
  refine ⟨_, rfl, ?_⟩
  have h0 := Keeps.refl s
  apply State.whenRs_keeps
  · exact h0
  · intro x1 h2
    apply State.riserReceive_keeps
    exact h2

theorem execRiserFrameTx_keeps (p0 : Bool) (p1 : Bool) (s : State) :
    ∃ u, execRiserFrameTx p0 p1 s = finish s u ∧ Keeps s u := by
  refine ⟨_, rfl, ?_⟩
  have h0 := Keeps.refl s
  apply State.whenRs_keeps
  · exact h0
  · intro x1 h2
    apply State.riserTransmit_keeps
    split
    · apply State.riserSpoil_keeps
      exact h2
    · exact h2

theorem execRiserHelloSend_keeps (s : State) :
    ∃ u, execRiserHelloSend s = finish s u ∧ Keeps s u := by
  refine ⟨_, rfl, ?_⟩
  have h0 := Keeps.refl s
  apply State.whenRs_keeps
  · exact h0
  · intro x1 h2
    apply State.helloSend_keeps
    exact h2

theorem execRiserLinkDown_keeps (p0 : Bool) (p1 : LinkDown) (p2 : ℕ) (p3 : Fec) (p4 : Bool) (p5 : Option (List Byte × List Byte)) (s : State) : ∃ u, execRiserLinkDown p0 p1 p2 p3 p4 p5 s = finish s u ∧ Keeps s u := by
  refine ⟨_, rfl, ?_⟩
  have h0 := Keeps.refl s
  apply State.whenRs_keeps
  · exact h0
  · intro x1 h2
    apply State.rsLost_keeps
    exact h2

theorem execRiserResponseRx_keeps (p0 : Bool) (p1 : List Byte) (s : State) :
    ∃ u, execRiserResponseRx p0 p1 s = finish s u ∧ Keeps s u := by
  refine ⟨_, rfl, ?_⟩
  have h0 := Keeps.refl s
  apply State.whenRs_keeps
  · exact h0
  · intro x1 h2
    apply State.responseRx_keeps
    exact h2

theorem execRiserTrainingDone_keeps (p0 : Bool) (s : State) :
    ∃ u, execRiserTrainingDone p0 s = finish s u ∧ Keeps s u := by
  refine ⟨_, rfl, ?_⟩
  have h0 := Keeps.refl s
  apply State.whenRs_keeps
  · exact h0
  · intro x1 h2
    apply State.rsTrained_keeps
    exact h2

theorem execRiserTrainingStart_keeps (p0 : Bool) (p1 : Bool) (s : State) :
    ∃ u, execRiserTrainingStart p0 p1 s = finish s u ∧ Keeps s u := by
  refine ⟨_, rfl, ?_⟩
  have h0 := Keeps.refl s
  apply State.whenRs_keeps
  · exact h0
  · intro x1 h2
    apply State.rsTrain_keeps
    exact h2

theorem execRngHealthFail_keeps (s : State) :
    ∃ u, execRngHealthFail s = finish s u ∧ Keeps s u := by
  refine ⟨_, rfl, ?_⟩
  have h0 := Keeps.refl s
  apply State.rngFail_keeps
  exact h0

theorem execRngHealthRecover_keeps (s : State) :
    ∃ u, execRngHealthRecover s = finish s u ∧ Keeps s u := by
  refine ⟨_, rfl, ?_⟩
  have h0 := Keeps.refl s
  apply State.whenUp_keeps
  · exact h0
  · intro x1 h2
    apply State.rngRecover_keeps
    exact h2

theorem execRootRelock_keeps (s : State) :
    ∃ u, execRootRelock s = finish s u ∧ Keeps s u := by
  refine ⟨_, rfl, ?_⟩
  have h0 := Keeps.refl s
  apply State.rootBack_keeps
  exact h0

theorem execRootUnlock_keeps (s : State) :
    ∃ u, execRootUnlock s = finish s u ∧ Keeps s u := by
  refine ⟨_, rfl, ?_⟩
  have h0 := Keeps.refl s
  apply State.rootLost_keeps
  exact h0

theorem execRtcLoadApplied_keeps (s : State) :
    ∃ u, execRtcLoadApplied s = finish s u ∧ Keeps s u := by
  refine ⟨_, rfl, ?_⟩
  have h0 := Keeps.refl s
  refine keeps_mk ?_ rfl
  exact h0

theorem execRtcLoad_keeps (p0 : Requester) (p1 : Word) (s : State) :
    ∃ u, execRtcLoad p0 p1 s = finish s u ∧ Keeps s u := by
  refine ⟨_, rfl, ?_⟩
  have h0 := Keeps.refl s
  apply State.onWrite_keeps
  · exact h0
  · intro x1 x2 h3
    apply State.rtcCtrl_keeps
    exact h3

theorem execRtcNudgeApplied_keeps (s : State) :
    ∃ u, execRtcNudgeApplied s = finish s u ∧ Keeps s u := by
  refine ⟨_, rfl, ?_⟩
  have h0 := Keeps.refl s
  refine keeps_mk ?_ rfl
  exact h0

theorem execRtcNudgeWrite_keeps (p0 : Requester) (p1 : Word) (s : State) :
    ∃ u, execRtcNudgeWrite p0 p1 s = finish s u ∧ Keeps s u := by
  refine ⟨_, rfl, ?_⟩
  have h0 := Keeps.refl s
  apply State.onWrite_keeps
  · exact h0
  · intro x1 x2 h3
    apply State.nudgeWrite_keeps
    exact h3

theorem execRtcSecondCarry_keeps (s : State) :
    ∃ u, execRtcSecondCarry s = finish s u ∧ Keeps s u := by
  refine ⟨_, rfl, ?_⟩
  have h0 := Keeps.refl s
  refine keeps_mk ?_ rfl
  exact h0

theorem execSealChange_keeps (p0 : Bool) (s : State) :
    ∃ u, execSealChange p0 s = finish s u ∧ Keeps s u := by
  refine ⟨_, rfl, ?_⟩
  have h0 := Keeps.refl s
  apply State.onCaddy_keeps
  exact h0

theorem execSessionClose_keeps (s : State) :
    ∃ u, execSessionClose s = finish s u ∧ Keeps s u := by
  refine ⟨_, rfl, ?_⟩
  have h0 := Keeps.refl s
  apply State.usbSessionClose_keeps
  exact h0

theorem execSessionNonce_keeps (s : State) :
    ∃ u, execSessionNonce s = finish s u ∧ Keeps s u := by
  refine ⟨_, rfl, ?_⟩
  have h0 := Keeps.refl s
  apply State.usbNonce_keeps
  exact h0

theorem execSessionOpen_keeps (p0 : ℕ) (p1 : List Byte) (s : State) :
    ∃ u, execSessionOpen p0 p1 s = finish s u ∧ Keeps s u := by
  refine ⟨_, rfl, ?_⟩
  have h0 := Keeps.refl s
  apply State.usbOpen_keeps
  exact h0

theorem execSlotSelection_keeps (s : State) :
    ∃ u, execSlotSelection s = finish s u ∧ Keeps s u := by
  refine ⟨_, rfl, ?_⟩
  have h0 := Keeps.refl s
  apply State.selectSlot_keeps
  exact h0

theorem execSlotTimeoutFree_keeps (p0 : ℕ) (s : State) :
    ∃ u, execSlotTimeoutFree p0 s = finish s u ∧ Keeps s u := by
  refine ⟨_, rfl, ?_⟩
  have h0 := Keeps.refl s
  apply State.whenUp_keeps
  · exact h0
  · intro x1 h2
    apply State.slotTimeout_keeps
    exact h2

theorem execStartupComplete_keeps (p0 : Bool) (s : State) :
    ∃ u, execStartupComplete p0 s = finish s u ∧ Keeps s u := by
  refine ⟨_, rfl, ?_⟩
  have h0 := Keeps.refl s
  apply State.startupEnd_keeps
  exact h0

theorem execStartupRetry_keeps (s : State) :
    ∃ u, execStartupRetry s = finish s u ∧ Keeps s u := by
  refine ⟨_, rfl, ?_⟩
  have h0 := Keeps.refl s
  apply State.startupAgain_keeps
  exact h0

theorem execStartupSelftest_keeps (p0 : List ℕ) (p1 : Bool) (s : State) :
    ∃ u, execStartupSelftest p0 p1 s = finish s u ∧ Keeps s u := by
  refine ⟨_, rfl, ?_⟩
  have h0 := Keeps.refl s
  apply State.selftested_keeps
  exact h0

theorem execSteepIntervalEnd_keeps (p0 : ℕ) (s : State) :
    ∃ u, execSteepIntervalEnd p0 s = finish s u ∧ Keeps s u := by
  refine ⟨_, rfl, ?_⟩
  have h0 := Keeps.refl s
  apply State.onCaddy_keeps
  exact h0

theorem execStepTimeout_keeps (p0 : ℕ) (p1 : ℕ) (p2 : ℕ) (s : State) :
    ∃ u, execStepTimeout p0 p1 p2 s = finish s u ∧ Keeps s u := by
  refine ⟨_, rfl, ?_⟩
  have h0 := Keeps.refl s
  apply State.whenUp_keeps
  · exact h0
  · intro x1 h2
    apply State.cupTimeout_keeps
    exact h2

theorem execSubmissionEntryRead_keeps (p0 : ℕ) (p1 : Bool) (p2 : Bool) (s : State) :
    ∃ u, execSubmissionEntryRead p0 p1 p2 s = finish s u ∧ Keeps s u := by
  refine ⟨_, rfl, ?_⟩
  have h0 := Keeps.refl s
  apply State.submit_keeps
  exact h0

theorem execSummaryWrite_keeps (p0 : ℕ) (p1 : ℕ) (s : State) :
    ∃ u, execSummaryWrite p0 p1 s = finish s u ∧ Keeps s u := by
  refine ⟨_, rfl, ?_⟩
  have h0 := Keeps.refl s
  apply State.onCaddy_keeps
  exact h0

theorem execSupervisorTakeover_keeps (p0 : ℕ) (s : State) :
    ∃ u, execSupervisorTakeover p0 s = finish s u ∧ Keeps s u := by
  refine ⟨_, rfl, ?_⟩
  have h0 := Keeps.refl s
  apply State.takeover_keeps
  exact h0

theorem execSupplyEvent_keeps (p0 : Supply) (p1 : ℕ) (s : State) :
    ∃ u, execSupplyEvent p0 p1 s = finish s u ∧ Keeps s u := by
  refine ⟨_, rfl, ?_⟩
  have h0 := Keeps.refl s
  apply State.supply_keeps
  exact h0

theorem execSysEnterCommission_keeps (p0 : Requester) (s : State) :
    ∃ u, execSysEnterCommission p0 s = finish s u ∧ Keeps s u := by
  refine ⟨_, rfl, ?_⟩
  have h0 := Keeps.refl s
  apply State.issue_keeps
  · exact h0
  · intro x1 x2 h3
    apply sysEnterCommissionBody_keeps
    exact h3

theorem execSysEnterRun_keeps (p0 : Requester) (s : State) :
    ∃ u, execSysEnterRun p0 s = finish s u ∧ Keeps s u := by
  refine ⟨_, rfl, ?_⟩
  have h0 := Keeps.refl s
  apply State.issue_keeps
  · exact h0
  · intro x1 x2 h3
    apply sysEnterRunBody_keeps
    exact h3

theorem execSysEnterSafe_keeps (p0 : Requester) (s : State) :
    ∃ u, execSysEnterSafe p0 s = finish s u ∧ Keeps s u := by
  refine ⟨_, rfl, ?_⟩
  have h0 := Keeps.refl s
  apply State.issue_keeps
  · exact h0
  · intro x1 x2 h3
    apply sysEnterSafeBody_keeps
    exact h3

theorem execSysResetWrite_keeps (p0 : Requester) (p1 : Word) (s : State) :
    ∃ u, execSysResetWrite p0 p1 s = finish s u ∧ Keeps s u := by
  refine ⟨_, rfl, ?_⟩
  have h0 := Keeps.refl s
  apply State.onWrite_keeps
  · exact h0
  · intro x1 x2 h3
    apply State.resetWrite_keeps
    exact h3

theorem execSysRestartDone_keeps (p0 : List ℕ) (s : State) :
    ∃ u, execSysRestartDone p0 s = finish s u ∧ Keeps s u := by
  refine ⟨_, rfl, ?_⟩
  have h0 := Keeps.refl s
  apply State.restartDone_keeps
  exact h0

theorem execSysRestartPolicyWrite_keeps (p0 : Requester) (p1 : Word) (s : State) :
    ∃ u, execSysRestartPolicyWrite p0 p1 s = finish s u ∧ Keeps s u := by
  refine ⟨_, rfl, ?_⟩
  have h0 := Keeps.refl s
  apply State.onWrite_keeps
  · exact h0
  · intro x1 x2 h3
    split
    · apply State.policyWrite_keeps
      exact h3
    · exact h3

theorem execSysRestart_keeps (p0 : Requester) (s : State) :
    ∃ u, execSysRestart p0 s = finish s u ∧ Keeps s u := by
  refine ⟨_, rfl, ?_⟩
  have h0 := Keeps.refl s
  apply State.issue_keeps
  · exact h0
  · intro x1 x2 h3
    apply sysRestartBody_keeps
    exact h3

theorem execTamper_keeps (p0 : Bool) (p1 : Bool) (s : State) :
    ∃ u, execTamper p0 p1 s = finish s u ∧ Keeps s u := by
  refine ⟨_, rfl, ?_⟩
  have h0 := Keeps.refl s
  apply State.tamperEvent_keeps
  exact h0

theorem execTaskHandover_keeps (p0 : Requester) (s : State) :
    ∃ u, execTaskHandover p0 s = finish s u ∧ Keeps s u := by
  refine ⟨_, rfl, ?_⟩
  have h0 := Keeps.refl s
  apply State.issue_keeps
  · exact h0
  · intro x1 x2 h3
    apply taskHandoverBody_keeps
    exact h3

theorem execTaskQuery_keeps (p0 : Requester) (s : State) :
    ∃ u, execTaskQuery p0 s = finish s u ∧ Keeps s u := by
  refine ⟨_, rfl, ?_⟩
  have h0 := Keeps.refl s
  apply State.issue_keeps
  · exact h0
  · intro x1 x2 h3
    apply taskQueryBody_keeps
    exact h3

theorem execTaskRead_keeps (p0 : Requester) (s : State) :
    ∃ u, execTaskRead p0 s = finish s u ∧ Keeps s u := by
  refine ⟨_, rfl, ?_⟩
  have h0 := Keeps.refl s
  apply State.issue_keeps
  · exact h0
  · intro x1 x2 h3
    apply taskReadBody_keeps
    exact h3

theorem execTaskStart_keeps (p0 : Requester) (s : State) :
    ∃ u, execTaskStart p0 s = finish s u ∧ Keeps s u := by
  refine ⟨_, rfl, ?_⟩
  have h0 := Keeps.refl s
  apply State.issue_keeps
  · exact h0
  · intro x1 x2 h3
    apply taskStartBody_keeps
    exact h3

theorem execTaskStop_keeps (p0 : Requester) (s : State) :
    ∃ u, execTaskStop p0 s = finish s u ∧ Keeps s u := by
  refine ⟨_, rfl, ?_⟩
  have h0 := Keeps.refl s
  apply State.issue_keeps
  · exact h0
  · intro x1 x2 h3
    apply taskStopBody_keeps
    exact h3

theorem execTaskWrite_keeps (p0 : Requester) (s : State) :
    ∃ u, execTaskWrite p0 s = finish s u ∧ Keeps s u := by
  refine ⟨_, rfl, ?_⟩
  have h0 := Keeps.refl s
  apply State.issue_keeps
  · exact h0
  · intro x1 x2 h3
    apply taskWriteBody_keeps
    exact h3

theorem execTickBoundary_keeps (p0 : List Strike) (s : State) :
    ∃ u, execTickBoundary p0 s = finish s u ∧ Keeps s u := by
  refine ⟨_, rfl, ?_⟩
  have h0 := Keeps.refl s
  apply State.tickBoundary_keeps
  exact h0

theorem execTimeHoldover_keeps (s : State) :
    ∃ u, execTimeHoldover s = finish s u ∧ Keeps s u := by
  refine ⟨_, rfl, ?_⟩
  have h0 := Keeps.refl s
  apply State.onCaddy_keeps
  exact h0

theorem execTmb3Copy_keeps (s : State) :
    ∃ u, execTmb3Copy s = finish s u ∧ Keeps s u := by
  refine ⟨_, rfl, ?_⟩
  have h0 := Keeps.refl s
  apply State.whenUp_keeps
  · exact h0
  · intro x1 h2
    apply State.onCaddy_keeps
    exact h2

theorem execTmbCapture_keeps (p0 : Requester) (p1 : ℕ) (p2 : Word) (s : State) :
    ∃ u, execTmbCapture p0 p1 p2 s = finish s u ∧ Keeps s u := by
  refine ⟨_, rfl, ?_⟩
  have h0 := Keeps.refl s
  apply State.onWrite_keeps
  · exact h0
  · intro x1 x2 h3
    apply State.capture_keeps
    exact h3

theorem execTmbHoldover_keeps (p0 : ℕ) (s : State) :
    ∃ u, execTmbHoldover p0 s = finish s u ∧ Keeps s u := by
  refine ⟨_, rfl, ?_⟩
  have h0 := Keeps.refl s
  apply State.holdover_keeps
  exact h0

theorem execTmbNowNsRead_keeps (p0 : Requester) (p1 : ℕ) (s : State) :
    ∃ u, execTmbNowNsRead p0 p1 s = finish s u ∧ Keeps s u := by
  refine ⟨_, rfl, ?_⟩
  have h0 := Keeps.refl s
  apply State.onRead_keeps
  · exact h0
  · intro x1 x2 h3
    apply State.nowLatch_keeps
    exact h3

theorem execTmbOffsetSample_keeps (p0 : Requester) (p1 : ℕ) (p2 : Word) (s : State) :
    ∃ u, execTmbOffsetSample p0 p1 p2 s = finish s u ∧ Keeps s u := by
  refine ⟨_, rfl, ?_⟩
  have h0 := Keeps.refl s
  apply State.onWrite_keeps
  · exact h0
  · intro x1 x2 h3
    apply State.offsetSample_keeps
    exact h3

theorem execTpiCycleBoundary_keeps (p0 : Ecc) (p1 : List ℕ) (s : State) :
    ∃ u, execTpiCycleBoundary p0 p1 s = finish s u ∧ Keeps s u := by
  refine ⟨_, rfl, ?_⟩
  have h0 := Keeps.refl s
  apply State.whenUp_keeps
  · exact h0
  · intro x1 h2
    apply State.tpiBoundary_keeps
    apply State.pointCheck_keeps
    exact h2

theorem execTpiCycleLoRead_keeps (p0 : Requester) (s : State) :
    ∃ u, execTpiCycleLoRead p0 s = finish s u ∧ Keeps s u := by
  refine ⟨_, rfl, ?_⟩
  have h0 := Keeps.refl s
  apply State.onRead_keeps
  · exact h0
  · intro x1 x2 h3
    apply State.cycleLatch_keeps
    exact h3

theorem execTpiFrameRx_keeps (p0 : Bool) (p1 : List Byte) (s : State) :
    ∃ u, execTpiFrameRx p0 p1 s = finish s u ∧ Keeps s u := by
  refine ⟨_, rfl, ?_⟩
  have h0 := Keeps.refl s
  apply State.whenUp_keeps
  · exact h0
  · intro x1 h2
    apply State.tpiReceive_keeps
    exact h2

theorem execTrialLimit_keeps (s : State) :
    ∃ u, execTrialLimit s = finish s u ∧ Keeps s u := by
  refine ⟨_, rfl, ?_⟩
  have h0 := Keeps.refl s
  apply State.trialOver_keeps
  exact h0

theorem execUnassignedOpcode_keeps (p0 : Requester) (p1 : ℕ) (s : State) :
    ∃ u, execUnassignedOpcode p0 p1 s = finish s u ∧ Keeps s u := by
  refine ⟨_, rfl, ?_⟩
  have h0 := Keeps.refl s
  apply State.issue_keeps
  · exact h0
  · intro x1 x2 h3
    apply cmdByOp_keeps
    exact h3

theorem execUnitTestDone_keeps (p0 : Bool) (p1 : ℕ) (p2 : Bool) (p3 : Bool) (s : State) :
    ∃ u, execUnitTestDone p0 p1 p2 p3 s = finish s u ∧ Keeps s u := by
  refine ⟨_, rfl, ?_⟩
  have h0 := Keeps.refl s
  apply State.whenUp_keeps
  · exact h0
  · intro x1 h2
    apply State.unitTested_keeps
    exact h2

theorem execUpdAbort_keeps (p0 : Requester) (s : State) :
    ∃ u, execUpdAbort p0 s = finish s u ∧ Keeps s u := by
  refine ⟨_, rfl, ?_⟩
  have h0 := Keeps.refl s
  apply State.issue_keeps
  · exact h0
  · intro x1 x2 h3
    apply updAbortBody_keeps
    exact h3

theorem execUpdActivate_keeps (p0 : Requester) (s : State) :
    ∃ u, execUpdActivate p0 s = finish s u ∧ Keeps s u := by
  refine ⟨_, rfl, ?_⟩
  have h0 := Keeps.refl s
  apply State.issue_keeps
  · exact h0
  · intro x1 x2 h3
    apply updActivateBody_keeps
    exact h3

theorem execUpdBegin_keeps (p0 : Requester) (s : State) :
    ∃ u, execUpdBegin p0 s = finish s u ∧ Keeps s u := by
  refine ⟨_, rfl, ?_⟩
  have h0 := Keeps.refl s
  apply State.issue_keeps
  · exact h0
  · intro x1 x2 h3
    apply updBeginBody_keeps
    exact h3

theorem execUpdChunk_keeps (p0 : Requester) (s : State) :
    ∃ u, execUpdChunk p0 s = finish s u ∧ Keeps s u := by
  refine ⟨_, rfl, ?_⟩
  have h0 := Keeps.refl s
  apply State.issue_keeps
  · exact h0
  · intro x1 x2 h3
    apply updChunkBody_keeps
    exact h3

theorem execUpdConfirm_keeps (p0 : Requester) (p1 : Bool) (p2 : Bool) (s : State) :
    ∃ u, execUpdConfirm p0 p1 p2 s = finish s u ∧ Keeps s u := by
  refine ⟨_, rfl, ?_⟩
  have h0 := Keeps.refl s
  apply State.issue_keeps
  · exact h0
  · intro x1 x2 h3
    apply updConfirmBody_keeps
    exact h3

theorem execUpdFinish_keeps (p0 : Requester) (s : State) :
    ∃ u, execUpdFinish p0 s = finish s u ∧ Keeps s u := by
  refine ⟨_, rfl, ?_⟩
  have h0 := Keeps.refl s
  apply State.issue_keeps
  · exact h0
  · intro x1 x2 h3
    apply updFinishBody_keeps
    exact h3

theorem execUpdWriteDone_keeps (p0 : Bool) (s : State) :
    ∃ u, execUpdWriteDone p0 s = finish s u ∧ Keeps s u := by
  refine ⟨_, rfl, ?_⟩
  have h0 := Keeps.refl s
  apply State.whenUp_keeps
  · exact h0
  · intro x1 h2
    apply State.nandDone_keeps
    exact h2

theorem execUsbBusReset_keeps (p0 : Bool) (p1 : Bool) (s : State) :
    ∃ u, execUsbBusReset p0 p1 s = finish s u ∧ Keeps s u := by
  refine ⟨_, rfl, ?_⟩
  have h0 := Keeps.refl s
  apply State.usbReset_keeps
  exact h0

theorem execUsbHostResume_keeps (s : State) :
    ∃ u, execUsbHostResume s = finish s u ∧ Keeps s u := by
  refine ⟨_, rfl, ?_⟩
  have h0 := Keeps.refl s
  apply State.usbResume_keeps
  exact h0

theorem execUsbPllLockChange_keeps (p0 : Bool) (s : State) :
    ∃ u, execUsbPllLockChange p0 s = finish s u ∧ Keeps s u := by
  refine ⟨_, rfl, ?_⟩
  have h0 := Keeps.refl s
  apply State.usbPll_keeps
  exact h0

theorem execUsbRemoteWakeup_keeps (s : State) :
    ∃ u, execUsbRemoteWakeup s = finish s u ∧ Keeps s u := by
  refine ⟨_, rfl, ?_⟩
  have h0 := Keeps.refl s
  apply State.usbWake_keeps
  exact h0

theorem execUsbStandardRequest_keeps (p0 : UsbStd) (s : State) :
    ∃ u, execUsbStandardRequest p0 s = finish s u ∧ Keeps s u := by
  refine ⟨_, rfl, ?_⟩
  have h0 := Keeps.refl s
  apply State.usbStandard_keeps
  exact h0

theorem execUsbSuspend_keeps (s : State) :
    ∃ u, execUsbSuspend s = finish s u ∧ Keeps s u := by
  refine ⟨_, rfl, ?_⟩
  have h0 := Keeps.refl s
  apply State.usbSuspended_keeps
  exact h0

theorem execUsbVbusChange_keeps (p0 : Bool) (s : State) :
    ∃ u, execUsbVbusChange p0 s = finish s u ∧ Keeps s u := by
  refine ⟨_, rfl, ?_⟩
  have h0 := Keeps.refl s
  apply State.usbVbus_keeps
  exact h0

theorem execVbatDomainPowerOn_keeps (s : State) :
    ∃ u, execVbatDomainPowerOn s = finish s u ∧ Keeps s u := by
  refine ⟨_, rfl, ?_⟩
  have h0 := Keeps.refl s
  apply State.vbatOn_keeps
  exact h0

theorem execVbmRead_keeps (p0 : Requester) (s : State) :
    ∃ u, execVbmRead p0 s = finish s u ∧ Keeps s u := by
  refine ⟨_, rfl, ?_⟩
  have h0 := Keeps.refl s
  apply State.issue_keeps
  · exact h0
  · intro x1 x2 h3
    apply vbmReadBody_keeps
    exact h3

theorem execVinDark_keeps (s : State) :
    ∃ u, execVinDark s = finish s u ∧ Keeps s u := by
  refine ⟨_, rfl, ?_⟩
  have h0 := Keeps.refl s
  apply State.dark_keeps
  exact h0

theorem execVinGood_keeps (s : State) :
    ∃ u, execVinGood s = finish s u ∧ Keeps s u := by
  refine ⟨_, rfl, ?_⟩
  have h0 := Keeps.refl s
  apply State.vinUp_keeps
  exact h0

theorem execVioBankChange_keeps (p0 : ℕ) (p1 : Bool) (s : State) :
    ∃ u, execVioBankChange p0 p1 s = finish s u ∧ Keeps s u := by
  refine ⟨_, rfl, ?_⟩
  have h0 := Keeps.refl s
  apply State.vioChange_keeps
  exact h0

theorem execVmetTrip_keeps (p0 : Bool) (p1 : Bool) (s : State) :
    ∃ u, execVmetTrip p0 p1 s = finish s u ∧ Keeps s u := by
  refine ⟨_, rfl, ?_⟩
  have h0 := Keeps.refl s
  apply State.caddyDown_keeps
  exact h0

theorem execVrefMeasure_keeps (p0 : ℕ) (s : State) :
    ∃ u, execVrefMeasure p0 s = finish s u ∧ Keeps s u := by
  refine ⟨_, rfl, ?_⟩
  have h0 := Keeps.refl s
  apply State.onCaddy_keeps
  exact h0

theorem execWindowBoundary_keeps (p0 : Bool) (s : State) :
    ∃ u, execWindowBoundary p0 s = finish s u ∧ Keeps s u := by
  refine ⟨_, rfl, ?_⟩
  have h0 := Keeps.refl s
  apply State.onCaddy_keeps
  exact h0

theorem execXtalResume_keeps (s : State) :
    ∃ u, execXtalResume s = finish s u ∧ Keeps s u := by
  refine ⟨_, rfl, ?_⟩
  have h0 := Keeps.refl s
  extract_lets vsrc_1
  refine keeps_mk ?_ rfl
  exact h0

theorem execXtalStop_keeps (s : State) :
    ∃ u, execXtalStop s = finish s u ∧ Keeps s u := by
  refine ⟨_, rfl, ?_⟩
  have h0 := Keeps.refl s
  apply State.xtalGone_keeps
  exact h0

/-- Every command answers the end of an effect that keeps what `Keeps` names. -/
theorem exec_keeps (c : Instr) (s : State) : ∃ u, exec c s = finish s u ∧ Keeps s u := by
  cases c with
  | registerWrite r addr size value ecc => exact execRegisterWrite_keeps r addr size value ecc s
  | pgRunWrite r page req => exact execPgRunWrite_keeps r page req s
  | pageStarted page spoilt => exact execPageStarted_keeps page spoilt s
  | pageStopped page => exact execPageStopped_keeps page s
  | pgOwnerWrite r page value => exact execPgOwnerWrite_keeps r page value s
  | pageEventDelivery event => exact execPageEventDelivery_keeps event s
  | sysResetWrite r value => exact execSysResetWrite_keeps r value s
  | sysRestartPolicyWrite r value => exact execSysRestartPolicyWrite_keeps r value s
  | sysRestart r => exact execSysRestart_keeps r s
  | sysEnterRun r => exact execSysEnterRun_keeps r s
  | sysEnterCommission r => exact execSysEnterCommission_keeps r s
  | sysEnterSafe r => exact execSysEnterSafe_keeps r s
  | cfgSave r => exact execCfgSave_keeps r s
  | nop r => exact execNop_keeps r s
  | queueCreate r => exact execQueueCreate_keeps r s
  | queueDestroy r => exact execQueueDestroy_keeps r s
  | queueQuery r => exact execQueueQuery_keeps r s
  | cmdPollStatRead r parity => exact execCmdPollStatRead_keeps r parity s
  | slotTimeoutFree slot => exact execSlotTimeoutFree_keeps slot s
  | completionPosted slot => exact execCompletionPosted_keeps slot s
  | submissionEntryRead queue fails ecc => exact execSubmissionEntryRead_keeps queue fails ecc s
  | dbIndexWrite r queue value ecc => exact execDbIndexWrite_keeps r queue value ecc s
  | dbCtrlWrite r queue value ecc => exact execDbCtrlWrite_keeps r queue value ecc s
  | gloveSet r => exact execGloveSet_keeps r s
  | gloveQblock r => exact execGloveQblock_keeps r s
  | gloveReclaim r => exact execGloveReclaim_keeps r s
  | loopWrite r => exact execLoopWrite_keeps r s
  | loopRead r => exact execLoopRead_keeps r s
  | loopStart r ecc => exact execLoopStart_keeps r ecc s
  | loopStop r => exact execLoopStop_keeps r s
  | loopHandover r => exact execLoopHandover_keeps r s
  | loopQuery r => exact execLoopQuery_keeps r s
  | loopClearFlags r => exact execLoopClearFlags_keeps r s
  | tickBoundary strikes => exact execTickBoundary_keeps strikes s
  | unitTestDone task item shadow pass => exact execUnitTestDone_keeps task item shadow pass s
  | cupStepDone ch cup upset stall => exact execCupStepDone_keeps ch cup upset stall s
  | stepTimeout ch cup stall => exact execStepTimeout_keeps ch cup stall s
  | cesTickLoRead r => exact execCesTickLoRead_keeps r s
  | taskWrite r => exact execTaskWrite_keeps r s
  | taskRead r => exact execTaskRead_keeps r s
  | taskStart r => exact execTaskStart_keeps r s
  | taskStop r => exact execTaskStop_keeps r s
  | taskHandover r => exact execTaskHandover_keeps r s
  | taskQuery r => exact execTaskQuery_keeps r s
  | kettleCallEntry ch upset => exact execKettleCallEntry_keeps ch upset s
  | kettleCommitDone task ok => exact execKettleCommitDone_keeps task ok s
  | kettleOverrun task shadow => exact execKettleOverrun_keeps task shadow s
  | loopIntegratorCommit ok => exact execLoopIntegratorCommit_keeps ok s
  | chSelftest r => exact execChSelftest_keeps r s
  | chFence r => exact execChFence_keeps r s
  | heartbeat => exact execHeartbeat_keeps s
  | supervisorTakeover ch => exact execSupervisorTakeover_keeps ch s
  | channelHbLost ch => exact execChannelHbLost_keeps ch s
  | lseClaim r => exact execLseClaim_keeps r s
  | lseRelease r => exact execLseRelease_keeps r s
  | lseUnadopt r => exact execLseUnadopt_keeps r s
  | lseQuery r => exact execLseQuery_keeps r s
  | lseWarmTask r => exact execLseWarmTask_keeps r s
  | relayWriteRx frame => exact execRelayWriteRx_keeps frame s
  | tpiCycleBoundary table spoilt => exact execTpiCycleBoundary_keeps table spoilt s
  | leaseSendInstant => exact execLeaseSendInstant_keeps s
  | leaseAnswerRx can port node vlan pdu => exact execLeaseAnswerRx_keeps can port node vlan pdu s
  | tpiFrameRx west frame => exact execTpiFrameRx_keeps west frame s
  | tpiCycleLoRead r => exact execTpiCycleLoRead_keeps r s
  | ptRead r => exact execPtRead_keeps r s
  | ptWrite r => exact execPtWrite_keeps r s
  | fltSevWrite r value ecc => exact execFltSevWrite_keeps r value ecc s
  | fltCtrlDefaults r value => exact execFltCtrlDefaults_keeps r value s
  | fltSave r => exact execFltSave_keeps r s
  | hatstandActs => exact execHatstandActs_keeps s
  | hatstandBeat => exact execHatstandBeat_keeps s
  | hatstandLost => exact execHatstandLost_keeps s
  | hstRcMeasure khz => exact execHstRcMeasure_keeps khz s
  | vinGood => exact execVinGood_keeps s
  | internalResetEnd recovLow => exact execInternalResetEnd_keeps recovLow s
  | startupSelftest failing spoilt => exact execStartupSelftest_keeps failing spoilt s
  | slotSelection => exact execSlotSelection_keeps s
  | imageLoaded badChunk => exact execImageLoaded_keeps badChunk s
  | startupComplete spoilt => exact execStartupComplete_keeps spoilt s
  | startupRetry => exact execStartupRetry_keeps s
  | pfw => exact execPfw_keeps s
  | pfwCommitDone ok => exact execPfwCommitDone_keeps ok s
  | vinDark => exact execVinDark_keeps s
  | powerRestart => exact execPowerRestart_keeps s
  | resetNAssert => exact execResetNAssert_keeps s
  | resetNRelease => exact execResetNRelease_keeps s
  | rootUnlock => exact execRootUnlock_keeps s
  | rootRelock => exact execRootRelock_keeps s
  | supplyEvent kind value => exact execSupplyEvent_keeps kind value s
  | vioBankChange bank good => exact execVioBankChange_keeps bank good s
  | vbatDomainPowerOn => exact execVbatDomainPowerOn_keeps s
  | tamper vbat closes => exact execTamper_keeps vbat closes s
  | csealChange isOpen => exact execCsealChange_keeps isOpen s
  | vbmRead r => exact execVbmRead_keeps r s
  | xtalStop => exact execXtalStop_keeps s
  | tmbOffsetSample r base value => exact execTmbOffsetSample_keeps r base value s
  | tmbHoldover base => exact execTmbHoldover_keeps base s
  | tmbNowNsRead r base => exact execTmbNowNsRead_keeps r base s
  | tmbCapture r base value => exact execTmbCapture_keeps r base value s
  | rtcLoad r value => exact execRtcLoad_keeps r value s
  | rtcLoadApplied => exact execRtcLoadApplied_keeps s
  | rtcNudgeWrite r value => exact execRtcNudgeWrite_keeps r value s
  | rtcNudgeApplied => exact execRtcNudgeApplied_keeps s
  | rtcSecondCarry => exact execRtcSecondCarry_keeps s
  | launchDue queue => exact execLaunchDue_keeps queue s
  | caddyStart fault isOpen => exact execCaddyStart_keeps fault isOpen s
  | vmetTrip holdUp torn => exact execVmetTrip_keeps holdUp torn s
  | sealChange isOpen => exact execSealChange_keeps isOpen s
  | clkFallback => exact execClkFallback_keeps s
  | clkRoot => exact execClkRoot_keeps s
  | fallbackMeasure ppb => exact execFallbackMeasure_keeps ppb s
  | tmb3Copy => exact execTmb3Copy_keeps s
  | timeHoldover => exact execTimeHoldover_keeps s
  | dataLoss input bitNo => exact execDataLoss_keeps input bitNo s
  | ovr input bitNo => exact execOvr_keeps input bitNo s
  | summaryWrite typ subject => exact execSummaryWrite_keeps typ subject s
  | windowBoundary commitFails => exact execWindowBoundary_keeps commitFails s
  | pulseStart output => exact execPulseStart_keeps output s
  | pulseEnd output => exact execPulseEnd_keeps output s
  | steepIntervalEnd input => exact execSteepIntervalEnd_keeps input s
  | vrefMeasure rho => exact execVrefMeasure_keeps rho s
  | pilotDriver driver fault => exact execPilotDriver_keeps driver fault s
  | pilotStale input => exact execPilotStale_keeps input s
  | caddyPointPublish => exact execCaddyPointPublish_keeps s
  | cdyEventPost => exact execCdyEventPost_keeps s
  | cdyIdent r => exact execCdyIdent_keeps r s
  | cdyLogRead r => exact execCdyLogRead_keeps r s
  | cdySnapshot r => exact execCdySnapshot_keeps r s
  | cdyViewSet r => exact execCdyViewSet_keeps r s
  | cdyPublish r => exact execCdyPublish_keeps r s
  | cdyCommit r => exact execCdyCommit_keeps r s
  | cdyHarmonics r => exact execCdyHarmonics_keeps r s
  | cdyParamLoad r readBackFails => exact execCdyParamLoad_keeps r readBackFails s
  | cdyParamRead r => exact execCdyParamRead_keeps r s
  | cdyPilotStatus r => exact execCdyPilotStatus_keeps r s
  | cdyCalMeasure r => exact execCdyCalMeasure_keeps r s
  | cdyImageLoad r readBackFails => exact execCdyImageLoad_keeps r readBackFails s
  | riserFrameRx west tag frame fec ago => exact execRiserFrameRx_keeps west tag frame fec ago s
  | riserFrameTx west ecc => exact execRiserFrameTx_keeps west ecc s
  | riserHelloSend => exact execRiserHelloSend_keeps s
  | riserAnnounceSend => exact execRiserAnnounceSend_keeps s
  | ringMapExpiry west addr => exact execRingMapExpiry_keeps west addr s
  | riserTrainingStart west present => exact execRiserTrainingStart_keeps west present s
  | riserTrainingDone west => exact execRiserTrainingDone_keeps west s
  | riserAligned west deskew => exact execRiserAligned_keeps west deskew s
  | riserChallengeRx west pdu => exact execRiserChallengeRx_keeps west pdu s
  | riserResponseRx west pdu => exact execRiserResponseRx_keeps west pdu s
  | riserBringupTimeout west badLanes => exact execRiserBringupTimeout_keeps west badLanes s
  | riserAuthRetry west => exact execRiserAuthRetry_keeps west s
  | riserLinkDown west cause badLanes fec cut part => exact execRiserLinkDown_keeps west cause badLanes fec cut part s
  | addrClashClear => exact execAddrClashClear_keeps s
  | fpFrameRx port frame room ago ecc inputs => exact execFpFrameRx_keeps port frame room ago ecc inputs s
  | fpFrameTx port => exact execFpFrameTx_keeps port s
  | fpTxDone port sent => exact execFpTxDone_keeps port sent s
  | fpLinkChange port link rate half cut => exact execFpLinkChange_keeps port link rate half cut s
  | lpiEntry port => exact execLpiEntry_keeps port s
  | mdioStart r port value => exact execMdioStart_keeps r port value s
  | mdioDone port data => exact execMdioDone_keeps port data s
  | canFrameRx ch f ago ecc bad inputs => exact execCanFrameRx_keeps ch f ago ecc bad inputs s
  | canTxreqWrite r ch reg value => exact execCanTxreqWrite_keeps r ch reg value s
  | canTxcancelWrite r ch reg value => exact execCanTxcancelWrite_keeps r ch reg value s
  | canArbitration ch ecc => exact execCanArbitration_keeps ch ecc s
  | canTxDone ch => exact execCanTxDone_keeps ch s
  | canErrorFrame ch lec dataPhase more excepted lostArb => exact execCanErrorFrame_keeps ch lec dataPhase more excepted lostArb s
  | canRxfAckWrite r ch reg value => exact execCanRxfAckWrite_keeps r ch reg value s
  | canRecover r ch value => exact execCanRecover_keeps r ch value s
  | canRecoveryDone ch => exact execCanRecoveryDone_keeps ch s
  | canTtCycleBoundary ch => exact execCanTtCycleBoundary_keeps ch s
  | canTtReferenceRx ch f ago => exact execCanTtReferenceRx_keeps ch f ago s
  | canTtSyncLost ch => exact execCanTtSyncLost_keeps ch s
  | canTtTrigger ch buf => exact execCanTtTrigger_keeps ch buf s
  | canRateDetect r => exact execCanRateDetect_keeps r s
  | canRateDwellEnd ch timeout => exact execCanRateDwellEnd_keeps ch timeout s
  | ainConversion input level => exact execAinConversion_keeps input level s
  | ainShuntOpen input => exact execAinShuntOpen_keeps input s
  | ainShuntRetry input => exact execAinShuntRetry_keeps input s
  | pinResultUpdate input wave => exact execPinResultUpdate_keeps input wave s
  | pinTimeout input => exact execPinTimeout_keeps input s
  | pinIndex index => exact execPinIndex_keeps index s
  | pinValWrite r input value => exact execPinValWrite_keeps r input value s
  | dioInputDebounced pin level => exact execDioInputDebounced_keeps pin level s
  | coreGloveWrite core value privileged => exact execCoreGloveWrite_keeps core value privileged s
  | cleClaimRead core => exact execCleClaimRead_keeps core s
  | msixMessage fn vector setMask => exact execMsixMessage_keeps fn vector setMask s
  | pciFunctionReset fn => exact execPciFunctionReset_keeps fn s
  | pciVfGloveWrite r v value => exact execPciVfGloveWrite_keeps r v value s
  | sessionNonce => exact execSessionNonce_keeps s
  | sessionOpen glove mac => exact execSessionOpen_keeps glove mac s
  | sessionClose => exact execSessionClose_keeps s
  | regRead off len => exact execRegRead_keeps off len s
  | regWrite off words => exact execRegWrite_keeps off words s
  | cmd entry fails => exact execCmd_keeps entry fails s
  | ringState => exact execRingState_keeps s
  | ep1PacketAck ecc => exact execEp1PacketAck_keeps ecc s
  | usbBusReset discards chirp => exact execUsbBusReset_keeps discards chirp s
  | usbRemoteWakeup => exact execUsbRemoteWakeup_keeps s
  | usbHostResume => exact execUsbHostResume_keeps s
  | keyDerive r => exact execKeyDerive_keeps r s
  | keyDestroy r => exact execKeyDestroy_keeps r s
  | keyQuery r => exact execKeyQuery_keeps r s
  | keyMac r => exact execKeyMac_keeps r s
  | keyEncrypt r => exact execKeyEncrypt_keeps r s
  | keyDecrypt r => exact execKeyDecrypt_keeps r s
  | keyWrap r => exact execKeyWrap_keeps r s
  | keyUnwrap r => exact execKeyUnwrap_keeps r s
  | keyPublic r => exact execKeyPublic_keeps r s
  | keyVerify r => exact execKeyVerify_keeps r s
  | keyAttest r => exact execKeyAttest_keeps r s
  | keySeed r => exact execKeySeed_keeps r s
  | keyRandom r => exact execKeyRandom_keeps r s
  | keyEndorseCert r => exact execKeyEndorseCert_keeps r s
  | lcsProvision r fuseFails cut => exact execLcsProvision_keeps r fuseFails cut s
  | lcsCertStore r => exact execLcsCertStore_keeps r s
  | lcsTransition r fuseFails cut => exact execLcsTransition_keeps r fuseFails cut s
  | rngHealthFail => exact execRngHealthFail_keeps s
  | updBegin r => exact execUpdBegin_keeps r s
  | updChunk r => exact execUpdChunk_keeps r s
  | updFinish r => exact execUpdFinish_keeps r s
  | updActivate r => exact execUpdActivate_keeps r s
  | updConfirm r fuseFails cut => exact execUpdConfirm_keeps r fuseFails cut s
  | updAbort r => exact execUpdAbort_keeps r s
  | relayUnitRx west frame => exact execRelayUnitRx_keeps west frame s
  | relayAckRx west frame => exact execRelayAckRx_keeps west frame s
  | relayResend chunk => exact execRelayResend_keeps chunk s
  | relayFinishRx west frame => exact execRelayFinishRx_keeps west frame s
  | relayReportRx src frame => exact execRelayReportRx_keeps src frame s
  | relayReportTimeout => exact execRelayReportTimeout_keeps s
  | trialLimit => exact execTrialLimit_keeps s
  | recoveryAnnounce => exact execRecoveryAnnounce_keeps s
  | recoveryFp0Alternate => exact execRecoveryFp0Alternate_keeps s
  | dfuDnload block => exact execDfuDnload_keeps block s
  | recoveryComplete => exact execRecoveryComplete_keeps s
  | chSelftestDone ch failed => exact execChSelftestDone_keeps ch failed s
  | sysRestartDone failing => exact execSysRestartDone_keeps failing s
  | configJournalDone ok => exact execConfigJournalDone_keeps ok s
  | reclaimZeroFillDone glove => exact execReclaimZeroFillDone_keeps glove s
  | caddyAnswer slot linkFails => exact execCaddyAnswer_keeps slot linkFails s
  | caddyAnswerTimeout slot => exact execCaddyAnswerTimeout_keeps slot s
  | caddySample streams differs => exact execCaddySample_keeps streams differs s
  | pinEdge input level both held => exact execPinEdge_keeps input level both held s
  | outputOverload output => exact execOutputOverload_keeps output s
  | aoutReadbackFault output => exact execAoutReadbackFault_keeps output s
  | dioPwmPeriod bank => exact execDioPwmPeriod_keeps bank s
  | lpiWake port => exact execLpiWake_keeps port s
  | lpiRxChange port on => exact execLpiRxChange_keeps port on s
  | clkXinMeasure tenths => exact execClkXinMeasure_keeps tenths s
  | usbPllLockChange locked => exact execUsbPllLockChange_keeps locked s
  | pciLinkUp width speed numVf msix d3 => exact execPciLinkUp_keeps width speed numVf msix d3 s
  | pciError uncorrectable => exact execPciError_keeps uncorrectable s
  | usbSuspend => exact execUsbSuspend_keeps s
  | usbStandardRequest q => exact execUsbStandardRequest_keeps q s
  | usbVbusChange on => exact execUsbVbusChange_keeps on s
  | rngHealthRecover => exact execRngHealthRecover_keeps s
  | xtalResume => exact execXtalResume_keeps s
  | unassignedOpcode r op => exact execUnassignedOpcode_keeps r op s
  | updWriteDone fails => exact execUpdWriteDone_keeps fails s

end Sys2Proof.Machine
end

