-- ==== Sys2Proof/Laws/PerInstr.lean ====
section
/-! SUPPORT. One law for every command, one lemma per command: spec/opcode_table.json gives no command any bits, so no word
spells it, and it reaches the module through the queue alone. -/

namespace Sys2Proof

/-- No word of the table spells the command. -/
def Laws.SpelledByNoWord.Statement (i : Instr) : Prop := ∀ nbits w : Nat, decodeTableWord nbits w ≠ some i

theorem Laws.SpelledByNoWord.registerWrite (r : Requester) (addr : Nat) (size : Nat) (value : Option DWord) (ecc : Bool) :
    Laws.SpelledByNoWord.Statement (.registerWrite r addr size value ecc) := fun _ _ h => nomatch h
theorem Laws.SpelledByNoWord.pgRunWrite (r : Requester) (page : Nat) (req : Nat) :
    Laws.SpelledByNoWord.Statement (.pgRunWrite r page req) := fun _ _ h => nomatch h
theorem Laws.SpelledByNoWord.pageStarted (page : Nat) (spoilt : List Nat) :
    Laws.SpelledByNoWord.Statement (.pageStarted page spoilt) := fun _ _ h => nomatch h
theorem Laws.SpelledByNoWord.pageStopped (page : Nat) :
    Laws.SpelledByNoWord.Statement (.pageStopped page) := fun _ _ h => nomatch h
theorem Laws.SpelledByNoWord.pgOwnerWrite (r : Requester) (page : Nat) (value : Word) :
    Laws.SpelledByNoWord.Statement (.pgOwnerWrite r page value) := fun _ _ h => nomatch h
theorem Laws.SpelledByNoWord.pageEventDelivery (event : Nat) :
    Laws.SpelledByNoWord.Statement (.pageEventDelivery event) := fun _ _ h => nomatch h
theorem Laws.SpelledByNoWord.sysResetWrite (r : Requester) (value : Word) :
    Laws.SpelledByNoWord.Statement (.sysResetWrite r value) := fun _ _ h => nomatch h
theorem Laws.SpelledByNoWord.sysRestartPolicyWrite (r : Requester) (value : Word) :
    Laws.SpelledByNoWord.Statement (.sysRestartPolicyWrite r value) := fun _ _ h => nomatch h
theorem Laws.SpelledByNoWord.sysRestart (r : Requester) :
    Laws.SpelledByNoWord.Statement (.sysRestart r) := fun _ _ h => nomatch h
theorem Laws.SpelledByNoWord.sysEnterRun (r : Requester) :
    Laws.SpelledByNoWord.Statement (.sysEnterRun r) := fun _ _ h => nomatch h
theorem Laws.SpelledByNoWord.sysEnterCommission (r : Requester) :
    Laws.SpelledByNoWord.Statement (.sysEnterCommission r) := fun _ _ h => nomatch h
theorem Laws.SpelledByNoWord.sysEnterSafe (r : Requester) :
    Laws.SpelledByNoWord.Statement (.sysEnterSafe r) := fun _ _ h => nomatch h
theorem Laws.SpelledByNoWord.cfgSave (r : Requester) :
    Laws.SpelledByNoWord.Statement (.cfgSave r) := fun _ _ h => nomatch h
theorem Laws.SpelledByNoWord.nop (r : Requester) :
    Laws.SpelledByNoWord.Statement (.nop r) := fun _ _ h => nomatch h
theorem Laws.SpelledByNoWord.queueCreate (r : Requester) :
    Laws.SpelledByNoWord.Statement (.queueCreate r) := fun _ _ h => nomatch h
theorem Laws.SpelledByNoWord.queueDestroy (r : Requester) :
    Laws.SpelledByNoWord.Statement (.queueDestroy r) := fun _ _ h => nomatch h
theorem Laws.SpelledByNoWord.queueQuery (r : Requester) :
    Laws.SpelledByNoWord.Statement (.queueQuery r) := fun _ _ h => nomatch h
theorem Laws.SpelledByNoWord.cmdPollStatRead (r : Requester) (parity : Bool) :
    Laws.SpelledByNoWord.Statement (.cmdPollStatRead r parity) := fun _ _ h => nomatch h
theorem Laws.SpelledByNoWord.slotTimeoutFree (slot : Nat) :
    Laws.SpelledByNoWord.Statement (.slotTimeoutFree slot) := fun _ _ h => nomatch h
theorem Laws.SpelledByNoWord.completionPosted (slot : Nat) :
    Laws.SpelledByNoWord.Statement (.completionPosted slot) := fun _ _ h => nomatch h
theorem Laws.SpelledByNoWord.submissionEntryRead (queue : Nat) (fails : Bool) (ecc : Bool) :
    Laws.SpelledByNoWord.Statement (.submissionEntryRead queue fails ecc) := fun _ _ h => nomatch h
theorem Laws.SpelledByNoWord.dbIndexWrite (r : Requester) (queue : Nat) (value : Word) (ecc : Bool) :
    Laws.SpelledByNoWord.Statement (.dbIndexWrite r queue value ecc) := fun _ _ h => nomatch h
theorem Laws.SpelledByNoWord.dbCtrlWrite (r : Requester) (queue : Nat) (value : Word) (ecc : Bool) :
    Laws.SpelledByNoWord.Statement (.dbCtrlWrite r queue value ecc) := fun _ _ h => nomatch h
theorem Laws.SpelledByNoWord.gloveSet (r : Requester) :
    Laws.SpelledByNoWord.Statement (.gloveSet r) := fun _ _ h => nomatch h
theorem Laws.SpelledByNoWord.gloveQblock (r : Requester) :
    Laws.SpelledByNoWord.Statement (.gloveQblock r) := fun _ _ h => nomatch h
theorem Laws.SpelledByNoWord.gloveReclaim (r : Requester) :
    Laws.SpelledByNoWord.Statement (.gloveReclaim r) := fun _ _ h => nomatch h
theorem Laws.SpelledByNoWord.loopWrite (r : Requester) :
    Laws.SpelledByNoWord.Statement (.loopWrite r) := fun _ _ h => nomatch h
theorem Laws.SpelledByNoWord.loopRead (r : Requester) :
    Laws.SpelledByNoWord.Statement (.loopRead r) := fun _ _ h => nomatch h
theorem Laws.SpelledByNoWord.loopStart (r : Requester) (ecc : Bool) :
    Laws.SpelledByNoWord.Statement (.loopStart r ecc) := fun _ _ h => nomatch h
theorem Laws.SpelledByNoWord.loopStop (r : Requester) :
    Laws.SpelledByNoWord.Statement (.loopStop r) := fun _ _ h => nomatch h
theorem Laws.SpelledByNoWord.loopHandover (r : Requester) :
    Laws.SpelledByNoWord.Statement (.loopHandover r) := fun _ _ h => nomatch h
theorem Laws.SpelledByNoWord.loopQuery (r : Requester) :
    Laws.SpelledByNoWord.Statement (.loopQuery r) := fun _ _ h => nomatch h
theorem Laws.SpelledByNoWord.loopClearFlags (r : Requester) :
    Laws.SpelledByNoWord.Statement (.loopClearFlags r) := fun _ _ h => nomatch h
theorem Laws.SpelledByNoWord.tickBoundary (strikes : List Strike) :
    Laws.SpelledByNoWord.Statement (.tickBoundary strikes) := fun _ _ h => nomatch h
theorem Laws.SpelledByNoWord.unitTestDone (task : Bool) (item : Nat) (shadow : Bool) (pass : Bool) :
    Laws.SpelledByNoWord.Statement (.unitTestDone task item shadow pass) := fun _ _ h => nomatch h
theorem Laws.SpelledByNoWord.cupStepDone (ch : Nat) (cup : Nat) (upset : Upset) (stall : Nat) :
    Laws.SpelledByNoWord.Statement (.cupStepDone ch cup upset stall) := fun _ _ h => nomatch h
theorem Laws.SpelledByNoWord.stepTimeout (ch : Nat) (cup : Nat) (stall : Nat) :
    Laws.SpelledByNoWord.Statement (.stepTimeout ch cup stall) := fun _ _ h => nomatch h
theorem Laws.SpelledByNoWord.cesTickLoRead (r : Requester) :
    Laws.SpelledByNoWord.Statement (.cesTickLoRead r) := fun _ _ h => nomatch h
theorem Laws.SpelledByNoWord.taskWrite (r : Requester) :
    Laws.SpelledByNoWord.Statement (.taskWrite r) := fun _ _ h => nomatch h
theorem Laws.SpelledByNoWord.taskRead (r : Requester) :
    Laws.SpelledByNoWord.Statement (.taskRead r) := fun _ _ h => nomatch h
theorem Laws.SpelledByNoWord.taskStart (r : Requester) :
    Laws.SpelledByNoWord.Statement (.taskStart r) := fun _ _ h => nomatch h
theorem Laws.SpelledByNoWord.taskStop (r : Requester) :
    Laws.SpelledByNoWord.Statement (.taskStop r) := fun _ _ h => nomatch h
theorem Laws.SpelledByNoWord.taskHandover (r : Requester) :
    Laws.SpelledByNoWord.Statement (.taskHandover r) := fun _ _ h => nomatch h
theorem Laws.SpelledByNoWord.taskQuery (r : Requester) :
    Laws.SpelledByNoWord.Statement (.taskQuery r) := fun _ _ h => nomatch h
theorem Laws.SpelledByNoWord.kettleCallEntry (ch : Nat) (upset : Upset) :
    Laws.SpelledByNoWord.Statement (.kettleCallEntry ch upset) := fun _ _ h => nomatch h
theorem Laws.SpelledByNoWord.kettleCommitDone (task : Nat) (ok : Bool) :
    Laws.SpelledByNoWord.Statement (.kettleCommitDone task ok) := fun _ _ h => nomatch h
theorem Laws.SpelledByNoWord.kettleOverrun (task : Nat) (shadow : Bool) :
    Laws.SpelledByNoWord.Statement (.kettleOverrun task shadow) := fun _ _ h => nomatch h
theorem Laws.SpelledByNoWord.loopIntegratorCommit (ok : Bool) :
    Laws.SpelledByNoWord.Statement (.loopIntegratorCommit ok) := fun _ _ h => nomatch h
theorem Laws.SpelledByNoWord.chSelftest (r : Requester) :
    Laws.SpelledByNoWord.Statement (.chSelftest r) := fun _ _ h => nomatch h
theorem Laws.SpelledByNoWord.chFence (r : Requester) :
    Laws.SpelledByNoWord.Statement (.chFence r) := fun _ _ h => nomatch h
theorem Laws.SpelledByNoWord.heartbeat :
    Laws.SpelledByNoWord.Statement (.heartbeat) := fun _ _ h => nomatch h
theorem Laws.SpelledByNoWord.supervisorTakeover (ch : Nat) :
    Laws.SpelledByNoWord.Statement (.supervisorTakeover ch) := fun _ _ h => nomatch h
theorem Laws.SpelledByNoWord.channelHbLost (ch : Nat) :
    Laws.SpelledByNoWord.Statement (.channelHbLost ch) := fun _ _ h => nomatch h
theorem Laws.SpelledByNoWord.lseClaim (r : Requester) :
    Laws.SpelledByNoWord.Statement (.lseClaim r) := fun _ _ h => nomatch h
theorem Laws.SpelledByNoWord.lseRelease (r : Requester) :
    Laws.SpelledByNoWord.Statement (.lseRelease r) := fun _ _ h => nomatch h
theorem Laws.SpelledByNoWord.lseUnadopt (r : Requester) :
    Laws.SpelledByNoWord.Statement (.lseUnadopt r) := fun _ _ h => nomatch h
theorem Laws.SpelledByNoWord.lseQuery (r : Requester) :
    Laws.SpelledByNoWord.Statement (.lseQuery r) := fun _ _ h => nomatch h
theorem Laws.SpelledByNoWord.lseWarmTask (r : Requester) :
    Laws.SpelledByNoWord.Statement (.lseWarmTask r) := fun _ _ h => nomatch h
theorem Laws.SpelledByNoWord.relayWriteRx (frame : List Byte) :
    Laws.SpelledByNoWord.Statement (.relayWriteRx frame) := fun _ _ h => nomatch h
theorem Laws.SpelledByNoWord.tpiCycleBoundary (table : Ecc) (spoilt : List Nat) :
    Laws.SpelledByNoWord.Statement (.tpiCycleBoundary table spoilt) := fun _ _ h => nomatch h
theorem Laws.SpelledByNoWord.leaseSendInstant :
    Laws.SpelledByNoWord.Statement (.leaseSendInstant) := fun _ _ h => nomatch h
theorem Laws.SpelledByNoWord.leaseAnswerRx (can : Bool) (port : Nat) (node : Nat) (vlan : Nat) (pdu : List Byte) :
    Laws.SpelledByNoWord.Statement (.leaseAnswerRx can port node vlan pdu) := fun _ _ h => nomatch h
theorem Laws.SpelledByNoWord.tpiFrameRx (west : Bool) (frame : List Byte) :
    Laws.SpelledByNoWord.Statement (.tpiFrameRx west frame) := fun _ _ h => nomatch h
theorem Laws.SpelledByNoWord.tpiCycleLoRead (r : Requester) :
    Laws.SpelledByNoWord.Statement (.tpiCycleLoRead r) := fun _ _ h => nomatch h
theorem Laws.SpelledByNoWord.ptRead (r : Requester) :
    Laws.SpelledByNoWord.Statement (.ptRead r) := fun _ _ h => nomatch h
theorem Laws.SpelledByNoWord.ptWrite (r : Requester) :
    Laws.SpelledByNoWord.Statement (.ptWrite r) := fun _ _ h => nomatch h
theorem Laws.SpelledByNoWord.fltSevWrite (r : Requester) (value : Word) (ecc : Bool) :
    Laws.SpelledByNoWord.Statement (.fltSevWrite r value ecc) := fun _ _ h => nomatch h
theorem Laws.SpelledByNoWord.fltCtrlDefaults (r : Requester) (value : Word) :
    Laws.SpelledByNoWord.Statement (.fltCtrlDefaults r value) := fun _ _ h => nomatch h
theorem Laws.SpelledByNoWord.fltSave (r : Requester) :
    Laws.SpelledByNoWord.Statement (.fltSave r) := fun _ _ h => nomatch h
theorem Laws.SpelledByNoWord.hatstandActs :
    Laws.SpelledByNoWord.Statement (.hatstandActs) := fun _ _ h => nomatch h
theorem Laws.SpelledByNoWord.hatstandBeat :
    Laws.SpelledByNoWord.Statement (.hatstandBeat) := fun _ _ h => nomatch h
theorem Laws.SpelledByNoWord.hatstandLost :
    Laws.SpelledByNoWord.Statement (.hatstandLost) := fun _ _ h => nomatch h
theorem Laws.SpelledByNoWord.hstRcMeasure (khz : Nat) :
    Laws.SpelledByNoWord.Statement (.hstRcMeasure khz) := fun _ _ h => nomatch h
theorem Laws.SpelledByNoWord.vinGood :
    Laws.SpelledByNoWord.Statement (.vinGood) := fun _ _ h => nomatch h
theorem Laws.SpelledByNoWord.internalResetEnd (recovLow : Bool) :
    Laws.SpelledByNoWord.Statement (.internalResetEnd recovLow) := fun _ _ h => nomatch h
theorem Laws.SpelledByNoWord.startupSelftest (failing : List Nat) (spoilt : Bool) :
    Laws.SpelledByNoWord.Statement (.startupSelftest failing spoilt) := fun _ _ h => nomatch h
theorem Laws.SpelledByNoWord.slotSelection :
    Laws.SpelledByNoWord.Statement (.slotSelection) := fun _ _ h => nomatch h
theorem Laws.SpelledByNoWord.imageLoaded (badChunk : Bool) :
    Laws.SpelledByNoWord.Statement (.imageLoaded badChunk) := fun _ _ h => nomatch h
theorem Laws.SpelledByNoWord.startupComplete (spoilt : Bool) :
    Laws.SpelledByNoWord.Statement (.startupComplete spoilt) := fun _ _ h => nomatch h
theorem Laws.SpelledByNoWord.startupRetry :
    Laws.SpelledByNoWord.Statement (.startupRetry) := fun _ _ h => nomatch h
theorem Laws.SpelledByNoWord.pfw :
    Laws.SpelledByNoWord.Statement (.pfw) := fun _ _ h => nomatch h
theorem Laws.SpelledByNoWord.pfwCommitDone (ok : Bool) :
    Laws.SpelledByNoWord.Statement (.pfwCommitDone ok) := fun _ _ h => nomatch h
theorem Laws.SpelledByNoWord.vinDark :
    Laws.SpelledByNoWord.Statement (.vinDark) := fun _ _ h => nomatch h
theorem Laws.SpelledByNoWord.powerRestart :
    Laws.SpelledByNoWord.Statement (.powerRestart) := fun _ _ h => nomatch h
theorem Laws.SpelledByNoWord.resetNAssert :
    Laws.SpelledByNoWord.Statement (.resetNAssert) := fun _ _ h => nomatch h
theorem Laws.SpelledByNoWord.resetNRelease :
    Laws.SpelledByNoWord.Statement (.resetNRelease) := fun _ _ h => nomatch h
theorem Laws.SpelledByNoWord.rootUnlock :
    Laws.SpelledByNoWord.Statement (.rootUnlock) := fun _ _ h => nomatch h
theorem Laws.SpelledByNoWord.rootRelock :
    Laws.SpelledByNoWord.Statement (.rootRelock) := fun _ _ h => nomatch h
theorem Laws.SpelledByNoWord.supplyEvent (kind : Supply) (value : Nat) :
    Laws.SpelledByNoWord.Statement (.supplyEvent kind value) := fun _ _ h => nomatch h
theorem Laws.SpelledByNoWord.vioBankChange (bank : Nat) (good : Bool) :
    Laws.SpelledByNoWord.Statement (.vioBankChange bank good) := fun _ _ h => nomatch h
theorem Laws.SpelledByNoWord.vbatDomainPowerOn :
    Laws.SpelledByNoWord.Statement (.vbatDomainPowerOn) := fun _ _ h => nomatch h
theorem Laws.SpelledByNoWord.tamper (vbat : Bool) (closes : Bool) :
    Laws.SpelledByNoWord.Statement (.tamper vbat closes) := fun _ _ h => nomatch h
theorem Laws.SpelledByNoWord.csealChange (isOpen : Bool) :
    Laws.SpelledByNoWord.Statement (.csealChange isOpen) := fun _ _ h => nomatch h
theorem Laws.SpelledByNoWord.vbmRead (r : Requester) :
    Laws.SpelledByNoWord.Statement (.vbmRead r) := fun _ _ h => nomatch h
theorem Laws.SpelledByNoWord.xtalStop :
    Laws.SpelledByNoWord.Statement (.xtalStop) := fun _ _ h => nomatch h
theorem Laws.SpelledByNoWord.tmbOffsetSample (r : Requester) (base : Nat) (value : Word) :
    Laws.SpelledByNoWord.Statement (.tmbOffsetSample r base value) := fun _ _ h => nomatch h
theorem Laws.SpelledByNoWord.tmbHoldover (base : Nat) :
    Laws.SpelledByNoWord.Statement (.tmbHoldover base) := fun _ _ h => nomatch h
theorem Laws.SpelledByNoWord.tmbNowNsRead (r : Requester) (base : Nat) :
    Laws.SpelledByNoWord.Statement (.tmbNowNsRead r base) := fun _ _ h => nomatch h
theorem Laws.SpelledByNoWord.tmbCapture (r : Requester) (base : Nat) (value : Word) :
    Laws.SpelledByNoWord.Statement (.tmbCapture r base value) := fun _ _ h => nomatch h
theorem Laws.SpelledByNoWord.rtcLoad (r : Requester) (value : Word) :
    Laws.SpelledByNoWord.Statement (.rtcLoad r value) := fun _ _ h => nomatch h
theorem Laws.SpelledByNoWord.rtcLoadApplied :
    Laws.SpelledByNoWord.Statement (.rtcLoadApplied) := fun _ _ h => nomatch h
theorem Laws.SpelledByNoWord.rtcNudgeWrite (r : Requester) (value : Word) :
    Laws.SpelledByNoWord.Statement (.rtcNudgeWrite r value) := fun _ _ h => nomatch h
theorem Laws.SpelledByNoWord.rtcNudgeApplied :
    Laws.SpelledByNoWord.Statement (.rtcNudgeApplied) := fun _ _ h => nomatch h
theorem Laws.SpelledByNoWord.rtcSecondCarry :
    Laws.SpelledByNoWord.Statement (.rtcSecondCarry) := fun _ _ h => nomatch h
theorem Laws.SpelledByNoWord.launchDue (queue : Nat) :
    Laws.SpelledByNoWord.Statement (.launchDue queue) := fun _ _ h => nomatch h
theorem Laws.SpelledByNoWord.caddyStart (fault : Nat) (isOpen : Bool) :
    Laws.SpelledByNoWord.Statement (.caddyStart fault isOpen) := fun _ _ h => nomatch h
theorem Laws.SpelledByNoWord.vmetTrip (holdUp : Bool) (torn : Bool) :
    Laws.SpelledByNoWord.Statement (.vmetTrip holdUp torn) := fun _ _ h => nomatch h
theorem Laws.SpelledByNoWord.sealChange (isOpen : Bool) :
    Laws.SpelledByNoWord.Statement (.sealChange isOpen) := fun _ _ h => nomatch h
theorem Laws.SpelledByNoWord.clkFallback :
    Laws.SpelledByNoWord.Statement (.clkFallback) := fun _ _ h => nomatch h
theorem Laws.SpelledByNoWord.clkRoot :
    Laws.SpelledByNoWord.Statement (.clkRoot) := fun _ _ h => nomatch h
theorem Laws.SpelledByNoWord.fallbackMeasure (ppb : Int) :
    Laws.SpelledByNoWord.Statement (.fallbackMeasure ppb) := fun _ _ h => nomatch h
theorem Laws.SpelledByNoWord.tmb3Copy :
    Laws.SpelledByNoWord.Statement (.tmb3Copy) := fun _ _ h => nomatch h
theorem Laws.SpelledByNoWord.timeHoldover :
    Laws.SpelledByNoWord.Statement (.timeHoldover) := fun _ _ h => nomatch h
theorem Laws.SpelledByNoWord.dataLoss (input : Nat) (bitNo : Nat) :
    Laws.SpelledByNoWord.Statement (.dataLoss input bitNo) := fun _ _ h => nomatch h
theorem Laws.SpelledByNoWord.ovr (input : Nat) (bitNo : Nat) :
    Laws.SpelledByNoWord.Statement (.ovr input bitNo) := fun _ _ h => nomatch h
theorem Laws.SpelledByNoWord.summaryWrite (typ : Nat) (subject : Nat) :
    Laws.SpelledByNoWord.Statement (.summaryWrite typ subject) := fun _ _ h => nomatch h
theorem Laws.SpelledByNoWord.windowBoundary (commitFails : Bool) :
    Laws.SpelledByNoWord.Statement (.windowBoundary commitFails) := fun _ _ h => nomatch h
theorem Laws.SpelledByNoWord.pulseStart (output : Nat) :
    Laws.SpelledByNoWord.Statement (.pulseStart output) := fun _ _ h => nomatch h
theorem Laws.SpelledByNoWord.pulseEnd (output : Nat) :
    Laws.SpelledByNoWord.Statement (.pulseEnd output) := fun _ _ h => nomatch h
theorem Laws.SpelledByNoWord.steepIntervalEnd (input : Nat) :
    Laws.SpelledByNoWord.Statement (.steepIntervalEnd input) := fun _ _ h => nomatch h
theorem Laws.SpelledByNoWord.vrefMeasure (rho : Nat) :
    Laws.SpelledByNoWord.Statement (.vrefMeasure rho) := fun _ _ h => nomatch h
theorem Laws.SpelledByNoWord.pilotDriver (driver : Nat) (fault : Bool) :
    Laws.SpelledByNoWord.Statement (.pilotDriver driver fault) := fun _ _ h => nomatch h
theorem Laws.SpelledByNoWord.pilotStale (input : Nat) :
    Laws.SpelledByNoWord.Statement (.pilotStale input) := fun _ _ h => nomatch h
theorem Laws.SpelledByNoWord.caddyPointPublish :
    Laws.SpelledByNoWord.Statement (.caddyPointPublish) := fun _ _ h => nomatch h
theorem Laws.SpelledByNoWord.cdyEventPost :
    Laws.SpelledByNoWord.Statement (.cdyEventPost) := fun _ _ h => nomatch h
theorem Laws.SpelledByNoWord.cdyIdent (r : Requester) :
    Laws.SpelledByNoWord.Statement (.cdyIdent r) := fun _ _ h => nomatch h
theorem Laws.SpelledByNoWord.cdyLogRead (r : Requester) :
    Laws.SpelledByNoWord.Statement (.cdyLogRead r) := fun _ _ h => nomatch h
theorem Laws.SpelledByNoWord.cdySnapshot (r : Requester) :
    Laws.SpelledByNoWord.Statement (.cdySnapshot r) := fun _ _ h => nomatch h
theorem Laws.SpelledByNoWord.cdyViewSet (r : Requester) :
    Laws.SpelledByNoWord.Statement (.cdyViewSet r) := fun _ _ h => nomatch h
theorem Laws.SpelledByNoWord.cdyPublish (r : Requester) :
    Laws.SpelledByNoWord.Statement (.cdyPublish r) := fun _ _ h => nomatch h
theorem Laws.SpelledByNoWord.cdyCommit (r : Requester) :
    Laws.SpelledByNoWord.Statement (.cdyCommit r) := fun _ _ h => nomatch h
theorem Laws.SpelledByNoWord.cdyHarmonics (r : Requester) :
    Laws.SpelledByNoWord.Statement (.cdyHarmonics r) := fun _ _ h => nomatch h
theorem Laws.SpelledByNoWord.cdyParamLoad (r : Requester) (readBackFails : Bool) :
    Laws.SpelledByNoWord.Statement (.cdyParamLoad r readBackFails) := fun _ _ h => nomatch h
theorem Laws.SpelledByNoWord.cdyParamRead (r : Requester) :
    Laws.SpelledByNoWord.Statement (.cdyParamRead r) := fun _ _ h => nomatch h
theorem Laws.SpelledByNoWord.cdyPilotStatus (r : Requester) :
    Laws.SpelledByNoWord.Statement (.cdyPilotStatus r) := fun _ _ h => nomatch h
theorem Laws.SpelledByNoWord.cdyCalMeasure (r : Requester) :
    Laws.SpelledByNoWord.Statement (.cdyCalMeasure r) := fun _ _ h => nomatch h
theorem Laws.SpelledByNoWord.cdyImageLoad (r : Requester) (readBackFails : Bool) :
    Laws.SpelledByNoWord.Statement (.cdyImageLoad r readBackFails) := fun _ _ h => nomatch h
theorem Laws.SpelledByNoWord.riserFrameRx (west : Bool) (tag : List Byte) (frame : List Byte) (fec : Fec) (ago : Nat) :
    Laws.SpelledByNoWord.Statement (.riserFrameRx west tag frame fec ago) := fun _ _ h => nomatch h
theorem Laws.SpelledByNoWord.riserFrameTx (west : Bool) (ecc : Bool) :
    Laws.SpelledByNoWord.Statement (.riserFrameTx west ecc) := fun _ _ h => nomatch h
theorem Laws.SpelledByNoWord.riserHelloSend :
    Laws.SpelledByNoWord.Statement (.riserHelloSend) := fun _ _ h => nomatch h
theorem Laws.SpelledByNoWord.riserAnnounceSend :
    Laws.SpelledByNoWord.Statement (.riserAnnounceSend) := fun _ _ h => nomatch h
theorem Laws.SpelledByNoWord.ringMapExpiry (west : Bool) (addr : Nat) :
    Laws.SpelledByNoWord.Statement (.ringMapExpiry west addr) := fun _ _ h => nomatch h
theorem Laws.SpelledByNoWord.riserTrainingStart (west : Bool) (present : Bool) :
    Laws.SpelledByNoWord.Statement (.riserTrainingStart west present) := fun _ _ h => nomatch h
theorem Laws.SpelledByNoWord.riserTrainingDone (west : Bool) :
    Laws.SpelledByNoWord.Statement (.riserTrainingDone west) := fun _ _ h => nomatch h
theorem Laws.SpelledByNoWord.riserAligned (west : Bool) (deskew : Nat) :
    Laws.SpelledByNoWord.Statement (.riserAligned west deskew) := fun _ _ h => nomatch h
theorem Laws.SpelledByNoWord.riserChallengeRx (west : Bool) (pdu : List Byte) :
    Laws.SpelledByNoWord.Statement (.riserChallengeRx west pdu) := fun _ _ h => nomatch h
theorem Laws.SpelledByNoWord.riserResponseRx (west : Bool) (pdu : List Byte) :
    Laws.SpelledByNoWord.Statement (.riserResponseRx west pdu) := fun _ _ h => nomatch h
theorem Laws.SpelledByNoWord.riserBringupTimeout (west : Bool) (badLanes : Nat) :
    Laws.SpelledByNoWord.Statement (.riserBringupTimeout west badLanes) := fun _ _ h => nomatch h
theorem Laws.SpelledByNoWord.riserAuthRetry (west : Bool) :
    Laws.SpelledByNoWord.Statement (.riserAuthRetry west) := fun _ _ h => nomatch h
theorem Laws.SpelledByNoWord.riserLinkDown (west : Bool) (cause : LinkDown) (badLanes : Nat) (fec : Fec) (cut : Bool) (part : Option (List Byte × List Byte)) :
    Laws.SpelledByNoWord.Statement (.riserLinkDown west cause badLanes fec cut part) := fun _ _ h => nomatch h
theorem Laws.SpelledByNoWord.addrClashClear :
    Laws.SpelledByNoWord.Statement (.addrClashClear) := fun _ _ h => nomatch h
theorem Laws.SpelledByNoWord.fpFrameRx (port : Nat) (frame : List Byte) (room : Bool) (ago : Nat) (ecc : Bool) (inputs : List NodeInput) :
    Laws.SpelledByNoWord.Statement (.fpFrameRx port frame room ago ecc inputs) := fun _ _ h => nomatch h
theorem Laws.SpelledByNoWord.fpFrameTx (port : Nat) :
    Laws.SpelledByNoWord.Statement (.fpFrameTx port) := fun _ _ h => nomatch h
theorem Laws.SpelledByNoWord.fpTxDone (port : Nat) (sent : Bool) :
    Laws.SpelledByNoWord.Statement (.fpTxDone port sent) := fun _ _ h => nomatch h
theorem Laws.SpelledByNoWord.fpLinkChange (port : Nat) (link : Bool) (rate : Nat) (half : Bool) (cut : Bool) :
    Laws.SpelledByNoWord.Statement (.fpLinkChange port link rate half cut) := fun _ _ h => nomatch h
theorem Laws.SpelledByNoWord.lpiEntry (port : Nat) :
    Laws.SpelledByNoWord.Statement (.lpiEntry port) := fun _ _ h => nomatch h
theorem Laws.SpelledByNoWord.mdioStart (r : Requester) (port : Nat) (value : Word) :
    Laws.SpelledByNoWord.Statement (.mdioStart r port value) := fun _ _ h => nomatch h
theorem Laws.SpelledByNoWord.mdioDone (port : Nat) (data : Nat) :
    Laws.SpelledByNoWord.Statement (.mdioDone port data) := fun _ _ h => nomatch h
theorem Laws.SpelledByNoWord.canFrameRx (ch : Nat) (f : CanFrame) (ago : Nat) (ecc : Bool) (bad : List Nat) (inputs : List NodeInput) :
    Laws.SpelledByNoWord.Statement (.canFrameRx ch f ago ecc bad inputs) := fun _ _ h => nomatch h
theorem Laws.SpelledByNoWord.canTxreqWrite (r : Requester) (ch : Nat) (reg : Nat) (value : Word) :
    Laws.SpelledByNoWord.Statement (.canTxreqWrite r ch reg value) := fun _ _ h => nomatch h
theorem Laws.SpelledByNoWord.canTxcancelWrite (r : Requester) (ch : Nat) (reg : Nat) (value : Word) :
    Laws.SpelledByNoWord.Statement (.canTxcancelWrite r ch reg value) := fun _ _ h => nomatch h
theorem Laws.SpelledByNoWord.canArbitration (ch : Nat) (ecc : Bool) :
    Laws.SpelledByNoWord.Statement (.canArbitration ch ecc) := fun _ _ h => nomatch h
theorem Laws.SpelledByNoWord.canTxDone (ch : Nat) :
    Laws.SpelledByNoWord.Statement (.canTxDone ch) := fun _ _ h => nomatch h
theorem Laws.SpelledByNoWord.canErrorFrame (ch : Nat) (lec : Nat) (dataPhase : Bool) (more : Nat) (excepted : Bool) (lostArb : Bool) :
    Laws.SpelledByNoWord.Statement (.canErrorFrame ch lec dataPhase more excepted lostArb) := fun _ _ h => nomatch h
theorem Laws.SpelledByNoWord.canRxfAckWrite (r : Requester) (ch : Nat) (reg : Nat) (value : Word) :
    Laws.SpelledByNoWord.Statement (.canRxfAckWrite r ch reg value) := fun _ _ h => nomatch h
theorem Laws.SpelledByNoWord.canRecover (r : Requester) (ch : Nat) (value : Word) :
    Laws.SpelledByNoWord.Statement (.canRecover r ch value) := fun _ _ h => nomatch h
theorem Laws.SpelledByNoWord.canRecoveryDone (ch : Nat) :
    Laws.SpelledByNoWord.Statement (.canRecoveryDone ch) := fun _ _ h => nomatch h
theorem Laws.SpelledByNoWord.canTtCycleBoundary (ch : Nat) :
    Laws.SpelledByNoWord.Statement (.canTtCycleBoundary ch) := fun _ _ h => nomatch h
theorem Laws.SpelledByNoWord.canTtReferenceRx (ch : Nat) (f : CanFrame) (ago : Nat) :
    Laws.SpelledByNoWord.Statement (.canTtReferenceRx ch f ago) := fun _ _ h => nomatch h
theorem Laws.SpelledByNoWord.canTtSyncLost (ch : Nat) :
    Laws.SpelledByNoWord.Statement (.canTtSyncLost ch) := fun _ _ h => nomatch h
theorem Laws.SpelledByNoWord.canTtTrigger (ch : Nat) (buf : Nat) :
    Laws.SpelledByNoWord.Statement (.canTtTrigger ch buf) := fun _ _ h => nomatch h
theorem Laws.SpelledByNoWord.canRateDetect (r : Requester) :
    Laws.SpelledByNoWord.Statement (.canRateDetect r) := fun _ _ h => nomatch h
theorem Laws.SpelledByNoWord.canRateDwellEnd (ch : Nat) (timeout : Bool) :
    Laws.SpelledByNoWord.Statement (.canRateDwellEnd ch timeout) := fun _ _ h => nomatch h
theorem Laws.SpelledByNoWord.ainConversion (input : Nat) (level : Int) :
    Laws.SpelledByNoWord.Statement (.ainConversion input level) := fun _ _ h => nomatch h
theorem Laws.SpelledByNoWord.ainShuntOpen (input : Nat) :
    Laws.SpelledByNoWord.Statement (.ainShuntOpen input) := fun _ _ h => nomatch h
theorem Laws.SpelledByNoWord.ainShuntRetry (input : Nat) :
    Laws.SpelledByNoWord.Statement (.ainShuntRetry input) := fun _ _ h => nomatch h
theorem Laws.SpelledByNoWord.pinResultUpdate (input : Nat) (wave : List (Bool × Nat)) :
    Laws.SpelledByNoWord.Statement (.pinResultUpdate input wave) := fun _ _ h => nomatch h
theorem Laws.SpelledByNoWord.pinTimeout (input : Nat) :
    Laws.SpelledByNoWord.Statement (.pinTimeout input) := fun _ _ h => nomatch h
theorem Laws.SpelledByNoWord.pinIndex (index : Nat) :
    Laws.SpelledByNoWord.Statement (.pinIndex index) := fun _ _ h => nomatch h
theorem Laws.SpelledByNoWord.pinValWrite (r : Requester) (input : Nat) (value : Word) :
    Laws.SpelledByNoWord.Statement (.pinValWrite r input value) := fun _ _ h => nomatch h
theorem Laws.SpelledByNoWord.dioInputDebounced (pin : Nat) (level : Bool) :
    Laws.SpelledByNoWord.Statement (.dioInputDebounced pin level) := fun _ _ h => nomatch h
theorem Laws.SpelledByNoWord.coreGloveWrite (core : Nat) (value : Nat) (privileged : Bool) :
    Laws.SpelledByNoWord.Statement (.coreGloveWrite core value privileged) := fun _ _ h => nomatch h
theorem Laws.SpelledByNoWord.cleClaimRead (core : Nat) :
    Laws.SpelledByNoWord.Statement (.cleClaimRead core) := fun _ _ h => nomatch h
theorem Laws.SpelledByNoWord.msixMessage (fn : Nat) (vector : Nat) (setMask : Option Bool) :
    Laws.SpelledByNoWord.Statement (.msixMessage fn vector setMask) := fun _ _ h => nomatch h
theorem Laws.SpelledByNoWord.pciFunctionReset (fn : Option Nat) :
    Laws.SpelledByNoWord.Statement (.pciFunctionReset fn) := fun _ _ h => nomatch h
theorem Laws.SpelledByNoWord.pciVfGloveWrite (r : Requester) (v : Nat) (value : Word) :
    Laws.SpelledByNoWord.Statement (.pciVfGloveWrite r v value) := fun _ _ h => nomatch h
theorem Laws.SpelledByNoWord.sessionNonce :
    Laws.SpelledByNoWord.Statement (.sessionNonce) := fun _ _ h => nomatch h
theorem Laws.SpelledByNoWord.sessionOpen (glove : Nat) (mac : List Byte) :
    Laws.SpelledByNoWord.Statement (.sessionOpen glove mac) := fun _ _ h => nomatch h
theorem Laws.SpelledByNoWord.sessionClose :
    Laws.SpelledByNoWord.Statement (.sessionClose) := fun _ _ h => nomatch h
theorem Laws.SpelledByNoWord.regRead (off : Nat) (len : Nat) :
    Laws.SpelledByNoWord.Statement (.regRead off len) := fun _ _ h => nomatch h
theorem Laws.SpelledByNoWord.regWrite (off : Nat) (words : List Word) :
    Laws.SpelledByNoWord.Statement (.regWrite off words) := fun _ _ h => nomatch h
theorem Laws.SpelledByNoWord.cmd (entry : List Byte) (fails : Bool) :
    Laws.SpelledByNoWord.Statement (.cmd entry fails) := fun _ _ h => nomatch h
theorem Laws.SpelledByNoWord.ringState :
    Laws.SpelledByNoWord.Statement (.ringState) := fun _ _ h => nomatch h
theorem Laws.SpelledByNoWord.ep1PacketAck (ecc : Bool) :
    Laws.SpelledByNoWord.Statement (.ep1PacketAck ecc) := fun _ _ h => nomatch h
theorem Laws.SpelledByNoWord.usbBusReset (discards : Bool) (chirp : Bool) :
    Laws.SpelledByNoWord.Statement (.usbBusReset discards chirp) := fun _ _ h => nomatch h
theorem Laws.SpelledByNoWord.usbRemoteWakeup :
    Laws.SpelledByNoWord.Statement (.usbRemoteWakeup) := fun _ _ h => nomatch h
theorem Laws.SpelledByNoWord.usbHostResume :
    Laws.SpelledByNoWord.Statement (.usbHostResume) := fun _ _ h => nomatch h
theorem Laws.SpelledByNoWord.keyDerive (r : Requester) :
    Laws.SpelledByNoWord.Statement (.keyDerive r) := fun _ _ h => nomatch h
theorem Laws.SpelledByNoWord.keyDestroy (r : Requester) :
    Laws.SpelledByNoWord.Statement (.keyDestroy r) := fun _ _ h => nomatch h
theorem Laws.SpelledByNoWord.keyQuery (r : Requester) :
    Laws.SpelledByNoWord.Statement (.keyQuery r) := fun _ _ h => nomatch h
theorem Laws.SpelledByNoWord.keyMac (r : Requester) :
    Laws.SpelledByNoWord.Statement (.keyMac r) := fun _ _ h => nomatch h
theorem Laws.SpelledByNoWord.keyEncrypt (r : Requester) :
    Laws.SpelledByNoWord.Statement (.keyEncrypt r) := fun _ _ h => nomatch h
theorem Laws.SpelledByNoWord.keyDecrypt (r : Requester) :
    Laws.SpelledByNoWord.Statement (.keyDecrypt r) := fun _ _ h => nomatch h
theorem Laws.SpelledByNoWord.keyWrap (r : Requester) :
    Laws.SpelledByNoWord.Statement (.keyWrap r) := fun _ _ h => nomatch h
theorem Laws.SpelledByNoWord.keyUnwrap (r : Requester) :
    Laws.SpelledByNoWord.Statement (.keyUnwrap r) := fun _ _ h => nomatch h
theorem Laws.SpelledByNoWord.keyPublic (r : Requester) :
    Laws.SpelledByNoWord.Statement (.keyPublic r) := fun _ _ h => nomatch h
theorem Laws.SpelledByNoWord.keyVerify (r : Requester) :
    Laws.SpelledByNoWord.Statement (.keyVerify r) := fun _ _ h => nomatch h
theorem Laws.SpelledByNoWord.keyAttest (r : Requester) :
    Laws.SpelledByNoWord.Statement (.keyAttest r) := fun _ _ h => nomatch h
theorem Laws.SpelledByNoWord.keySeed (r : Requester) :
    Laws.SpelledByNoWord.Statement (.keySeed r) := fun _ _ h => nomatch h
theorem Laws.SpelledByNoWord.keyRandom (r : Requester) :
    Laws.SpelledByNoWord.Statement (.keyRandom r) := fun _ _ h => nomatch h
theorem Laws.SpelledByNoWord.keyEndorseCert (r : Requester) :
    Laws.SpelledByNoWord.Statement (.keyEndorseCert r) := fun _ _ h => nomatch h
theorem Laws.SpelledByNoWord.lcsProvision (r : Requester) (fuseFails : Bool) (cut : Bool) :
    Laws.SpelledByNoWord.Statement (.lcsProvision r fuseFails cut) := fun _ _ h => nomatch h
theorem Laws.SpelledByNoWord.lcsCertStore (r : Requester) :
    Laws.SpelledByNoWord.Statement (.lcsCertStore r) := fun _ _ h => nomatch h
theorem Laws.SpelledByNoWord.lcsTransition (r : Requester) (fuseFails : Bool) (cut : Bool) :
    Laws.SpelledByNoWord.Statement (.lcsTransition r fuseFails cut) := fun _ _ h => nomatch h
theorem Laws.SpelledByNoWord.rngHealthFail :
    Laws.SpelledByNoWord.Statement (.rngHealthFail) := fun _ _ h => nomatch h
theorem Laws.SpelledByNoWord.updBegin (r : Requester) :
    Laws.SpelledByNoWord.Statement (.updBegin r) := fun _ _ h => nomatch h
theorem Laws.SpelledByNoWord.updChunk (r : Requester) :
    Laws.SpelledByNoWord.Statement (.updChunk r) := fun _ _ h => nomatch h
theorem Laws.SpelledByNoWord.updFinish (r : Requester) :
    Laws.SpelledByNoWord.Statement (.updFinish r) := fun _ _ h => nomatch h
theorem Laws.SpelledByNoWord.updActivate (r : Requester) :
    Laws.SpelledByNoWord.Statement (.updActivate r) := fun _ _ h => nomatch h
theorem Laws.SpelledByNoWord.updConfirm (r : Requester) (fuseFails : Bool) (cut : Bool) :
    Laws.SpelledByNoWord.Statement (.updConfirm r fuseFails cut) := fun _ _ h => nomatch h
theorem Laws.SpelledByNoWord.updAbort (r : Requester) :
    Laws.SpelledByNoWord.Statement (.updAbort r) := fun _ _ h => nomatch h
theorem Laws.SpelledByNoWord.relayUnitRx (west : Bool) (frame : List Byte) :
    Laws.SpelledByNoWord.Statement (.relayUnitRx west frame) := fun _ _ h => nomatch h
theorem Laws.SpelledByNoWord.relayAckRx (west : Bool) (frame : List Byte) :
    Laws.SpelledByNoWord.Statement (.relayAckRx west frame) := fun _ _ h => nomatch h
theorem Laws.SpelledByNoWord.relayResend (chunk : Nat) :
    Laws.SpelledByNoWord.Statement (.relayResend chunk) := fun _ _ h => nomatch h
theorem Laws.SpelledByNoWord.relayFinishRx (west : Bool) (frame : List Byte) :
    Laws.SpelledByNoWord.Statement (.relayFinishRx west frame) := fun _ _ h => nomatch h
theorem Laws.SpelledByNoWord.relayReportRx (src : Nat) (frame : List Byte) :
    Laws.SpelledByNoWord.Statement (.relayReportRx src frame) := fun _ _ h => nomatch h
theorem Laws.SpelledByNoWord.relayReportTimeout :
    Laws.SpelledByNoWord.Statement (.relayReportTimeout) := fun _ _ h => nomatch h
theorem Laws.SpelledByNoWord.trialLimit :
    Laws.SpelledByNoWord.Statement (.trialLimit) := fun _ _ h => nomatch h
theorem Laws.SpelledByNoWord.recoveryAnnounce :
    Laws.SpelledByNoWord.Statement (.recoveryAnnounce) := fun _ _ h => nomatch h
theorem Laws.SpelledByNoWord.recoveryFp0Alternate :
    Laws.SpelledByNoWord.Statement (.recoveryFp0Alternate) := fun _ _ h => nomatch h
theorem Laws.SpelledByNoWord.dfuDnload (block : List Byte) :
    Laws.SpelledByNoWord.Statement (.dfuDnload block) := fun _ _ h => nomatch h
theorem Laws.SpelledByNoWord.recoveryComplete :
    Laws.SpelledByNoWord.Statement (.recoveryComplete) := fun _ _ h => nomatch h
theorem Laws.SpelledByNoWord.chSelftestDone (ch : Nat) (failed : Nat) :
    Laws.SpelledByNoWord.Statement (.chSelftestDone ch failed) := fun _ _ h => nomatch h
theorem Laws.SpelledByNoWord.sysRestartDone (failing : List Nat) :
    Laws.SpelledByNoWord.Statement (.sysRestartDone failing) := fun _ _ h => nomatch h
theorem Laws.SpelledByNoWord.configJournalDone (ok : Bool) :
    Laws.SpelledByNoWord.Statement (.configJournalDone ok) := fun _ _ h => nomatch h
theorem Laws.SpelledByNoWord.reclaimZeroFillDone (glove : Nat) :
    Laws.SpelledByNoWord.Statement (.reclaimZeroFillDone glove) := fun _ _ h => nomatch h
theorem Laws.SpelledByNoWord.caddyAnswer (slot : Nat) (linkFails : Bool) :
    Laws.SpelledByNoWord.Statement (.caddyAnswer slot linkFails) := fun _ _ h => nomatch h
theorem Laws.SpelledByNoWord.caddyAnswerTimeout (slot : Nat) :
    Laws.SpelledByNoWord.Statement (.caddyAnswerTimeout slot) := fun _ _ h => nomatch h
theorem Laws.SpelledByNoWord.caddySample (streams : List (Nat × BitVec 1250)) (differs : List Nat) :
    Laws.SpelledByNoWord.Statement (.caddySample streams differs) := fun _ _ h => nomatch h
theorem Laws.SpelledByNoWord.pinEdge (input : Nat) (level : Bool) (both : Bool) (held : Nat) :
    Laws.SpelledByNoWord.Statement (.pinEdge input level both held) := fun _ _ h => nomatch h
theorem Laws.SpelledByNoWord.outputOverload (output : Nat) :
    Laws.SpelledByNoWord.Statement (.outputOverload output) := fun _ _ h => nomatch h
theorem Laws.SpelledByNoWord.aoutReadbackFault (output : Nat) :
    Laws.SpelledByNoWord.Statement (.aoutReadbackFault output) := fun _ _ h => nomatch h
theorem Laws.SpelledByNoWord.dioPwmPeriod (bank : Nat) :
    Laws.SpelledByNoWord.Statement (.dioPwmPeriod bank) := fun _ _ h => nomatch h
theorem Laws.SpelledByNoWord.lpiWake (port : Nat) :
    Laws.SpelledByNoWord.Statement (.lpiWake port) := fun _ _ h => nomatch h
theorem Laws.SpelledByNoWord.lpiRxChange (port : Nat) (on : Bool) :
    Laws.SpelledByNoWord.Statement (.lpiRxChange port on) := fun _ _ h => nomatch h
theorem Laws.SpelledByNoWord.clkXinMeasure (tenths : Int) :
    Laws.SpelledByNoWord.Statement (.clkXinMeasure tenths) := fun _ _ h => nomatch h
theorem Laws.SpelledByNoWord.usbPllLockChange (locked : Bool) :
    Laws.SpelledByNoWord.Statement (.usbPllLockChange locked) := fun _ _ h => nomatch h
theorem Laws.SpelledByNoWord.pciLinkUp (width : Nat) (speed : Nat) (numVf : Nat) (msix : List Nat) (d3 : List Nat) :
    Laws.SpelledByNoWord.Statement (.pciLinkUp width speed numVf msix d3) := fun _ _ h => nomatch h
theorem Laws.SpelledByNoWord.pciError (uncorrectable : Bool) :
    Laws.SpelledByNoWord.Statement (.pciError uncorrectable) := fun _ _ h => nomatch h
theorem Laws.SpelledByNoWord.usbSuspend :
    Laws.SpelledByNoWord.Statement (.usbSuspend) := fun _ _ h => nomatch h
theorem Laws.SpelledByNoWord.usbStandardRequest (q : UsbStd) :
    Laws.SpelledByNoWord.Statement (.usbStandardRequest q) := fun _ _ h => nomatch h
theorem Laws.SpelledByNoWord.usbVbusChange (on : Bool) :
    Laws.SpelledByNoWord.Statement (.usbVbusChange on) := fun _ _ h => nomatch h
theorem Laws.SpelledByNoWord.rngHealthRecover :
    Laws.SpelledByNoWord.Statement (.rngHealthRecover) := fun _ _ h => nomatch h
theorem Laws.SpelledByNoWord.xtalResume :
    Laws.SpelledByNoWord.Statement (.xtalResume) := fun _ _ h => nomatch h
theorem Laws.SpelledByNoWord.unassignedOpcode (r : Requester) (op : Nat) :
    Laws.SpelledByNoWord.Statement (.unassignedOpcode r op) := fun _ _ h => nomatch h
theorem Laws.SpelledByNoWord.updWriteDone (fails : Bool) :
    Laws.SpelledByNoWord.Statement (.updWriteDone fails) := fun _ _ h => nomatch h

end Sys2Proof
end

