-- ==== Sys2Proof/Laws/State.lean ====
section
/-! SUPPORT. One lemma per field and per update of the state: what an update leaves as it is, and what it writes. -/

namespace Sys2Proof.Machine

-- setReg

@[simp] theorem setReg_pending (s : State) (p off : Nat) (v : Word) : (s.setReg p off v).pending = s.pending := by
  unfold State.setReg; rfl
@[simp] theorem setReg_part (s : State) (p off : Nat) (v : Word) : (s.setReg p off v).part = s.part := by
  unfold State.setReg; rfl
@[simp] theorem setReg_mem (s : State) (p off : Nat) (v : Word) : (s.setReg p off v).mem = s.mem := by
  unfold State.setReg; rfl
@[simp] theorem setReg_emitted (s : State) (p off : Nat) (v : Word) : (s.setReg p off v).emitted = s.emitted := by
  unfold State.setReg; rfl
@[simp] theorem setReg_freeCtr (s : State) (p off : Nat) (v : Word) : (s.setReg p off v).freeCtr = s.freeCtr := by
  unfold State.setReg; rfl
@[simp] theorem setReg_sys (s : State) (p off : Nat) (v : Word) : (s.setReg p off v).sys = s.sys := by
  unfold State.setReg; rfl
@[simp] theorem setReg_cmd (s : State) (p off : Nat) (v : Word) : (s.setReg p off v).cmd = s.cmd := by
  unfold State.setReg; rfl
@[simp] theorem setReg_glv (s : State) (p off : Nat) (v : Word) : (s.setReg p off v).glv = s.glv := by
  unfold State.setReg; rfl
@[simp] theorem setReg_coreGlove (s : State) (p off : Nat) (v : Word) : (s.setReg p off v).coreGlove = s.coreGlove := by
  unfold State.setReg; rfl
@[simp] theorem setReg_ces (s : State) (p off : Nat) (v : Word) : (s.setReg p off v).ces = s.ces := by
  unfold State.setReg; rfl
@[simp] theorem setReg_ktl (s : State) (p off : Nat) (v : Word) : (s.setReg p off v).ktl = s.ktl := by
  unfold State.setReg; rfl
@[simp] theorem setReg_ptb (s : State) (p off : Nat) (v : Word) : (s.setReg p off v).ptb = s.ptb := by
  unfold State.setReg; rfl
@[simp] theorem setReg_lse (s : State) (p off : Nat) (v : Word) : (s.setReg p off v).lse = s.lse := by
  unfold State.setReg; rfl
@[simp] theorem setReg_fio (s : State) (p off : Nat) (v : Word) : (s.setReg p off v).fio = s.fio := by
  unfold State.setReg; rfl
@[simp] theorem setReg_flt (s : State) (p off : Nat) (v : Word) : (s.setReg p off v).flt = s.flt := by
  unfold State.setReg; rfl
@[simp] theorem setReg_hst (s : State) (p off : Nat) (v : Word) : (s.setReg p off v).hst = s.hst := by
  unfold State.setReg; rfl
@[simp] theorem setReg_pwr (s : State) (p off : Nat) (v : Word) : (s.setReg p off v).pwr = s.pwr := by
  unfold State.setReg; rfl
@[simp] theorem setReg_clk (s : State) (p off : Nat) (v : Word) : (s.setReg p off v).clk = s.clk := by
  unfold State.setReg; rfl
@[simp] theorem setReg_nv (s : State) (p off : Nat) (v : Word) : (s.setReg p off v).nv = s.nv := by
  unfold State.setReg; rfl
@[simp] theorem setReg_tmb0 (s : State) (p off : Nat) (v : Word) : (s.setReg p off v).tmb0 = s.tmb0 := by
  unfold State.setReg; rfl
@[simp] theorem setReg_tmb1 (s : State) (p off : Nat) (v : Word) : (s.setReg p off v).tmb1 = s.tmb1 := by
  unfold State.setReg; rfl
@[simp] theorem setReg_tmb2 (s : State) (p off : Nat) (v : Word) : (s.setReg p off v).tmb2 = s.tmb2 := by
  unfold State.setReg; rfl
@[simp] theorem setReg_tmb3 (s : State) (p off : Nat) (v : Word) : (s.setReg p off v).tmb3 = s.tmb3 := by
  unfold State.setReg; rfl
@[simp] theorem setReg_rtc (s : State) (p off : Nat) (v : Word) : (s.setReg p off v).rtc = s.rtc := by
  unfold State.setReg; rfl
@[simp] theorem setReg_vbat (s : State) (p off : Nat) (v : Word) : (s.setReg p off v).vbat = s.vbat := by
  unfold State.setReg; rfl
@[simp] theorem setReg_cdy (s : State) (p off : Nat) (v : Word) : (s.setReg p off v).cdy = s.cdy := by
  unfold State.setReg; rfl
@[simp] theorem setReg_link (s : State) (p off : Nat) (v : Word) : (s.setReg p off v).link = s.link := by
  unfold State.setReg; rfl
@[simp] theorem setReg_rs (s : State) (p off : Nat) (v : Word) : (s.setReg p off v).rs = s.rs := by
  unfold State.setReg; rfl
@[simp] theorem setReg_fp (s : State) (p off : Nat) (v : Word) : (s.setReg p off v).fp = s.fp := by
  unfold State.setReg; rfl
@[simp] theorem setReg_can (s : State) (p off : Nat) (v : Word) : (s.setReg p off v).can = s.can := by
  unfold State.setReg; rfl
@[simp] theorem setReg_pci (s : State) (p off : Nat) (v : Word) : (s.setReg p off v).pci = s.pci := by
  unfold State.setReg; rfl
@[simp] theorem setReg_usb (s : State) (p off : Nat) (v : Word) : (s.setReg p off v).usb = s.usb := by
  unfold State.setReg; rfl
@[simp] theorem setReg_key (s : State) (p off : Nat) (v : Word) : (s.setReg p off v).key = s.key := by
  unfold State.setReg; rfl
@[simp] theorem setReg_upd (s : State) (p off : Nat) (v : Word) : (s.setReg p off v).upd = s.upd := by
  unfold State.setReg; rfl

-- setBreg

@[simp] theorem setBreg_pending (s : State) (b p off : Nat) (v : Word) : (s.setBreg b p off v).pending = s.pending := by
  unfold State.setBreg; rfl
@[simp] theorem setBreg_part (s : State) (b p off : Nat) (v : Word) : (s.setBreg b p off v).part = s.part := by
  unfold State.setBreg; rfl
@[simp] theorem setBreg_mem (s : State) (b p off : Nat) (v : Word) : (s.setBreg b p off v).mem = s.mem := by
  unfold State.setBreg; rfl
@[simp] theorem setBreg_emitted (s : State) (b p off : Nat) (v : Word) : (s.setBreg b p off v).emitted = s.emitted := by
  unfold State.setBreg; rfl
@[simp] theorem setBreg_freeCtr (s : State) (b p off : Nat) (v : Word) : (s.setBreg b p off v).freeCtr = s.freeCtr := by
  unfold State.setBreg; rfl
@[simp] theorem setBreg_sys (s : State) (b p off : Nat) (v : Word) : (s.setBreg b p off v).sys = s.sys := by
  unfold State.setBreg; rfl
@[simp] theorem setBreg_cmd (s : State) (b p off : Nat) (v : Word) : (s.setBreg b p off v).cmd = s.cmd := by
  unfold State.setBreg; rfl
@[simp] theorem setBreg_glv (s : State) (b p off : Nat) (v : Word) : (s.setBreg b p off v).glv = s.glv := by
  unfold State.setBreg; rfl
@[simp] theorem setBreg_coreGlove (s : State) (b p off : Nat) (v : Word) : (s.setBreg b p off v).coreGlove = s.coreGlove := by
  unfold State.setBreg; rfl
@[simp] theorem setBreg_ces (s : State) (b p off : Nat) (v : Word) : (s.setBreg b p off v).ces = s.ces := by
  unfold State.setBreg; rfl
@[simp] theorem setBreg_ktl (s : State) (b p off : Nat) (v : Word) : (s.setBreg b p off v).ktl = s.ktl := by
  unfold State.setBreg; rfl
@[simp] theorem setBreg_ptb (s : State) (b p off : Nat) (v : Word) : (s.setBreg b p off v).ptb = s.ptb := by
  unfold State.setBreg; rfl
@[simp] theorem setBreg_lse (s : State) (b p off : Nat) (v : Word) : (s.setBreg b p off v).lse = s.lse := by
  unfold State.setBreg; rfl
@[simp] theorem setBreg_fio (s : State) (b p off : Nat) (v : Word) : (s.setBreg b p off v).fio = s.fio := by
  unfold State.setBreg; rfl
@[simp] theorem setBreg_flt (s : State) (b p off : Nat) (v : Word) : (s.setBreg b p off v).flt = s.flt := by
  unfold State.setBreg; rfl
@[simp] theorem setBreg_hst (s : State) (b p off : Nat) (v : Word) : (s.setBreg b p off v).hst = s.hst := by
  unfold State.setBreg; rfl
@[simp] theorem setBreg_pwr (s : State) (b p off : Nat) (v : Word) : (s.setBreg b p off v).pwr = s.pwr := by
  unfold State.setBreg; rfl
@[simp] theorem setBreg_clk (s : State) (b p off : Nat) (v : Word) : (s.setBreg b p off v).clk = s.clk := by
  unfold State.setBreg; rfl
@[simp] theorem setBreg_nv (s : State) (b p off : Nat) (v : Word) : (s.setBreg b p off v).nv = s.nv := by
  unfold State.setBreg; rfl
@[simp] theorem setBreg_tmb0 (s : State) (b p off : Nat) (v : Word) : (s.setBreg b p off v).tmb0 = s.tmb0 := by
  unfold State.setBreg; rfl
@[simp] theorem setBreg_tmb1 (s : State) (b p off : Nat) (v : Word) : (s.setBreg b p off v).tmb1 = s.tmb1 := by
  unfold State.setBreg; rfl
@[simp] theorem setBreg_tmb2 (s : State) (b p off : Nat) (v : Word) : (s.setBreg b p off v).tmb2 = s.tmb2 := by
  unfold State.setBreg; rfl
@[simp] theorem setBreg_tmb3 (s : State) (b p off : Nat) (v : Word) : (s.setBreg b p off v).tmb3 = s.tmb3 := by
  unfold State.setBreg; rfl
@[simp] theorem setBreg_rtc (s : State) (b p off : Nat) (v : Word) : (s.setBreg b p off v).rtc = s.rtc := by
  unfold State.setBreg; rfl
@[simp] theorem setBreg_vbat (s : State) (b p off : Nat) (v : Word) : (s.setBreg b p off v).vbat = s.vbat := by
  unfold State.setBreg; rfl
@[simp] theorem setBreg_cdy (s : State) (b p off : Nat) (v : Word) : (s.setBreg b p off v).cdy = s.cdy := by
  unfold State.setBreg; rfl
@[simp] theorem setBreg_link (s : State) (b p off : Nat) (v : Word) : (s.setBreg b p off v).link = s.link := by
  unfold State.setBreg; rfl
@[simp] theorem setBreg_rs (s : State) (b p off : Nat) (v : Word) : (s.setBreg b p off v).rs = s.rs := by
  unfold State.setBreg; rfl
@[simp] theorem setBreg_fp (s : State) (b p off : Nat) (v : Word) : (s.setBreg b p off v).fp = s.fp := by
  unfold State.setBreg; rfl
@[simp] theorem setBreg_can (s : State) (b p off : Nat) (v : Word) : (s.setBreg b p off v).can = s.can := by
  unfold State.setBreg; rfl
@[simp] theorem setBreg_pci (s : State) (b p off : Nat) (v : Word) : (s.setBreg b p off v).pci = s.pci := by
  unfold State.setBreg; rfl
@[simp] theorem setBreg_usb (s : State) (b p off : Nat) (v : Word) : (s.setBreg b p off v).usb = s.usb := by
  unfold State.setBreg; rfl
@[simp] theorem setBreg_key (s : State) (b p off : Nat) (v : Word) : (s.setBreg b p off v).key = s.key := by
  unfold State.setBreg; rfl
@[simp] theorem setBreg_upd (s : State) (b p off : Nat) (v : Word) : (s.setBreg b p off v).upd = s.upd := by
  unfold State.setBreg; rfl

-- store

@[simp] theorem store_pending (s : State) (a : Nat) (b : List Byte) : (s.store a b).pending = s.pending := by
  unfold State.store; rfl
@[simp] theorem store_part (s : State) (a : Nat) (b : List Byte) : (s.store a b).part = s.part := by
  unfold State.store; rfl
@[simp] theorem store_win (s : State) (a : Nat) (b : List Byte) : (s.store a b).win = s.win := by
  unfold State.store; rfl
@[simp] theorem store_emitted (s : State) (a : Nat) (b : List Byte) : (s.store a b).emitted = s.emitted := by
  unfold State.store; rfl
@[simp] theorem store_freeCtr (s : State) (a : Nat) (b : List Byte) : (s.store a b).freeCtr = s.freeCtr := by
  unfold State.store; rfl
@[simp] theorem store_sys (s : State) (a : Nat) (b : List Byte) : (s.store a b).sys = s.sys := by
  unfold State.store; rfl
@[simp] theorem store_cmd (s : State) (a : Nat) (b : List Byte) : (s.store a b).cmd = s.cmd := by
  unfold State.store; rfl
@[simp] theorem store_glv (s : State) (a : Nat) (b : List Byte) : (s.store a b).glv = s.glv := by
  unfold State.store; rfl
@[simp] theorem store_coreGlove (s : State) (a : Nat) (b : List Byte) : (s.store a b).coreGlove = s.coreGlove := by
  unfold State.store; rfl
@[simp] theorem store_ces (s : State) (a : Nat) (b : List Byte) : (s.store a b).ces = s.ces := by
  unfold State.store; rfl
@[simp] theorem store_ktl (s : State) (a : Nat) (b : List Byte) : (s.store a b).ktl = s.ktl := by
  unfold State.store; rfl
@[simp] theorem store_ptb (s : State) (a : Nat) (b : List Byte) : (s.store a b).ptb = s.ptb := by
  unfold State.store; rfl
@[simp] theorem store_lse (s : State) (a : Nat) (b : List Byte) : (s.store a b).lse = s.lse := by
  unfold State.store; rfl
@[simp] theorem store_fio (s : State) (a : Nat) (b : List Byte) : (s.store a b).fio = s.fio := by
  unfold State.store; rfl
@[simp] theorem store_flt (s : State) (a : Nat) (b : List Byte) : (s.store a b).flt = s.flt := by
  unfold State.store; rfl
@[simp] theorem store_hst (s : State) (a : Nat) (b : List Byte) : (s.store a b).hst = s.hst := by
  unfold State.store; rfl
@[simp] theorem store_pwr (s : State) (a : Nat) (b : List Byte) : (s.store a b).pwr = s.pwr := by
  unfold State.store; rfl
@[simp] theorem store_clk (s : State) (a : Nat) (b : List Byte) : (s.store a b).clk = s.clk := by
  unfold State.store; rfl
@[simp] theorem store_nv (s : State) (a : Nat) (b : List Byte) : (s.store a b).nv = s.nv := by
  unfold State.store; rfl
@[simp] theorem store_tmb0 (s : State) (a : Nat) (b : List Byte) : (s.store a b).tmb0 = s.tmb0 := by
  unfold State.store; rfl
@[simp] theorem store_tmb1 (s : State) (a : Nat) (b : List Byte) : (s.store a b).tmb1 = s.tmb1 := by
  unfold State.store; rfl
@[simp] theorem store_tmb2 (s : State) (a : Nat) (b : List Byte) : (s.store a b).tmb2 = s.tmb2 := by
  unfold State.store; rfl
@[simp] theorem store_tmb3 (s : State) (a : Nat) (b : List Byte) : (s.store a b).tmb3 = s.tmb3 := by
  unfold State.store; rfl
@[simp] theorem store_rtc (s : State) (a : Nat) (b : List Byte) : (s.store a b).rtc = s.rtc := by
  unfold State.store; rfl
@[simp] theorem store_vbat (s : State) (a : Nat) (b : List Byte) : (s.store a b).vbat = s.vbat := by
  unfold State.store; rfl
@[simp] theorem store_cdy (s : State) (a : Nat) (b : List Byte) : (s.store a b).cdy = s.cdy := by
  unfold State.store; rfl
@[simp] theorem store_link (s : State) (a : Nat) (b : List Byte) : (s.store a b).link = s.link := by
  unfold State.store; rfl
@[simp] theorem store_rs (s : State) (a : Nat) (b : List Byte) : (s.store a b).rs = s.rs := by
  unfold State.store; rfl
@[simp] theorem store_fp (s : State) (a : Nat) (b : List Byte) : (s.store a b).fp = s.fp := by
  unfold State.store; rfl
@[simp] theorem store_can (s : State) (a : Nat) (b : List Byte) : (s.store a b).can = s.can := by
  unfold State.store; rfl
@[simp] theorem store_pci (s : State) (a : Nat) (b : List Byte) : (s.store a b).pci = s.pci := by
  unfold State.store; rfl
@[simp] theorem store_usb (s : State) (a : Nat) (b : List Byte) : (s.store a b).usb = s.usb := by
  unfold State.store; rfl
@[simp] theorem store_key (s : State) (a : Nat) (b : List Byte) : (s.store a b).key = s.key := by
  unfold State.store; rfl
@[simp] theorem store_upd (s : State) (a : Nat) (b : List Byte) : (s.store a b).upd = s.upd := by
  unfold State.store; rfl

-- emit

@[simp] theorem emit_pending (s : State) (e : Emit) : (s.emit e).pending = s.pending := by
  unfold State.emit; rfl
@[simp] theorem emit_part (s : State) (e : Emit) : (s.emit e).part = s.part := by
  unfold State.emit; rfl
@[simp] theorem emit_win (s : State) (e : Emit) : (s.emit e).win = s.win := by
  unfold State.emit; rfl
@[simp] theorem emit_mem (s : State) (e : Emit) : (s.emit e).mem = s.mem := by
  unfold State.emit; rfl
@[simp] theorem emit_freeCtr (s : State) (e : Emit) : (s.emit e).freeCtr = s.freeCtr := by
  unfold State.emit; rfl
@[simp] theorem emit_sys (s : State) (e : Emit) : (s.emit e).sys = s.sys := by
  unfold State.emit; rfl
@[simp] theorem emit_cmd (s : State) (e : Emit) : (s.emit e).cmd = s.cmd := by
  unfold State.emit; rfl
@[simp] theorem emit_glv (s : State) (e : Emit) : (s.emit e).glv = s.glv := by
  unfold State.emit; rfl
@[simp] theorem emit_coreGlove (s : State) (e : Emit) : (s.emit e).coreGlove = s.coreGlove := by
  unfold State.emit; rfl
@[simp] theorem emit_ces (s : State) (e : Emit) : (s.emit e).ces = s.ces := by
  unfold State.emit; rfl
@[simp] theorem emit_ktl (s : State) (e : Emit) : (s.emit e).ktl = s.ktl := by
  unfold State.emit; rfl
@[simp] theorem emit_ptb (s : State) (e : Emit) : (s.emit e).ptb = s.ptb := by
  unfold State.emit; rfl
@[simp] theorem emit_lse (s : State) (e : Emit) : (s.emit e).lse = s.lse := by
  unfold State.emit; rfl
@[simp] theorem emit_fio (s : State) (e : Emit) : (s.emit e).fio = s.fio := by
  unfold State.emit; rfl
@[simp] theorem emit_flt (s : State) (e : Emit) : (s.emit e).flt = s.flt := by
  unfold State.emit; rfl
@[simp] theorem emit_hst (s : State) (e : Emit) : (s.emit e).hst = s.hst := by
  unfold State.emit; rfl
@[simp] theorem emit_pwr (s : State) (e : Emit) : (s.emit e).pwr = s.pwr := by
  unfold State.emit; rfl
@[simp] theorem emit_clk (s : State) (e : Emit) : (s.emit e).clk = s.clk := by
  unfold State.emit; rfl
@[simp] theorem emit_nv (s : State) (e : Emit) : (s.emit e).nv = s.nv := by
  unfold State.emit; rfl
@[simp] theorem emit_tmb0 (s : State) (e : Emit) : (s.emit e).tmb0 = s.tmb0 := by
  unfold State.emit; rfl
@[simp] theorem emit_tmb1 (s : State) (e : Emit) : (s.emit e).tmb1 = s.tmb1 := by
  unfold State.emit; rfl
@[simp] theorem emit_tmb2 (s : State) (e : Emit) : (s.emit e).tmb2 = s.tmb2 := by
  unfold State.emit; rfl
@[simp] theorem emit_tmb3 (s : State) (e : Emit) : (s.emit e).tmb3 = s.tmb3 := by
  unfold State.emit; rfl
@[simp] theorem emit_rtc (s : State) (e : Emit) : (s.emit e).rtc = s.rtc := by
  unfold State.emit; rfl
@[simp] theorem emit_vbat (s : State) (e : Emit) : (s.emit e).vbat = s.vbat := by
  unfold State.emit; rfl
@[simp] theorem emit_cdy (s : State) (e : Emit) : (s.emit e).cdy = s.cdy := by
  unfold State.emit; rfl
@[simp] theorem emit_link (s : State) (e : Emit) : (s.emit e).link = s.link := by
  unfold State.emit; rfl
@[simp] theorem emit_rs (s : State) (e : Emit) : (s.emit e).rs = s.rs := by
  unfold State.emit; rfl
@[simp] theorem emit_fp (s : State) (e : Emit) : (s.emit e).fp = s.fp := by
  unfold State.emit; rfl
@[simp] theorem emit_can (s : State) (e : Emit) : (s.emit e).can = s.can := by
  unfold State.emit; rfl
@[simp] theorem emit_pci (s : State) (e : Emit) : (s.emit e).pci = s.pci := by
  unfold State.emit; rfl
@[simp] theorem emit_usb (s : State) (e : Emit) : (s.emit e).usb = s.usb := by
  unfold State.emit; rfl
@[simp] theorem emit_key (s : State) (e : Emit) : (s.emit e).key = s.key := by
  unfold State.emit; rfl
@[simp] theorem emit_upd (s : State) (e : Emit) : (s.emit e).upd = s.upd := by
  unfold State.emit; rfl

-- setQueue

@[simp] theorem setQueue_pending (s : State) (q : Nat) (x : Queue) : (s.setQueue q x).pending = s.pending := by
  unfold State.setQueue; rfl
@[simp] theorem setQueue_part (s : State) (q : Nat) (x : Queue) : (s.setQueue q x).part = s.part := by
  unfold State.setQueue; rfl
@[simp] theorem setQueue_win (s : State) (q : Nat) (x : Queue) : (s.setQueue q x).win = s.win := by
  unfold State.setQueue; rfl
@[simp] theorem setQueue_mem (s : State) (q : Nat) (x : Queue) : (s.setQueue q x).mem = s.mem := by
  unfold State.setQueue; rfl
@[simp] theorem setQueue_emitted (s : State) (q : Nat) (x : Queue) : (s.setQueue q x).emitted = s.emitted := by
  unfold State.setQueue; rfl
@[simp] theorem setQueue_freeCtr (s : State) (q : Nat) (x : Queue) : (s.setQueue q x).freeCtr = s.freeCtr := by
  unfold State.setQueue; rfl
@[simp] theorem setQueue_sys (s : State) (q : Nat) (x : Queue) : (s.setQueue q x).sys = s.sys := by
  unfold State.setQueue; rfl
@[simp] theorem setQueue_glv (s : State) (q : Nat) (x : Queue) : (s.setQueue q x).glv = s.glv := by
  unfold State.setQueue; rfl
@[simp] theorem setQueue_coreGlove (s : State) (q : Nat) (x : Queue) : (s.setQueue q x).coreGlove = s.coreGlove := by
  unfold State.setQueue; rfl
@[simp] theorem setQueue_ces (s : State) (q : Nat) (x : Queue) : (s.setQueue q x).ces = s.ces := by
  unfold State.setQueue; rfl
@[simp] theorem setQueue_ktl (s : State) (q : Nat) (x : Queue) : (s.setQueue q x).ktl = s.ktl := by
  unfold State.setQueue; rfl
@[simp] theorem setQueue_ptb (s : State) (q : Nat) (x : Queue) : (s.setQueue q x).ptb = s.ptb := by
  unfold State.setQueue; rfl
@[simp] theorem setQueue_lse (s : State) (q : Nat) (x : Queue) : (s.setQueue q x).lse = s.lse := by
  unfold State.setQueue; rfl
@[simp] theorem setQueue_fio (s : State) (q : Nat) (x : Queue) : (s.setQueue q x).fio = s.fio := by
  unfold State.setQueue; rfl
@[simp] theorem setQueue_flt (s : State) (q : Nat) (x : Queue) : (s.setQueue q x).flt = s.flt := by
  unfold State.setQueue; rfl
@[simp] theorem setQueue_hst (s : State) (q : Nat) (x : Queue) : (s.setQueue q x).hst = s.hst := by
  unfold State.setQueue; rfl
@[simp] theorem setQueue_pwr (s : State) (q : Nat) (x : Queue) : (s.setQueue q x).pwr = s.pwr := by
  unfold State.setQueue; rfl
@[simp] theorem setQueue_clk (s : State) (q : Nat) (x : Queue) : (s.setQueue q x).clk = s.clk := by
  unfold State.setQueue; rfl
@[simp] theorem setQueue_nv (s : State) (q : Nat) (x : Queue) : (s.setQueue q x).nv = s.nv := by
  unfold State.setQueue; rfl
@[simp] theorem setQueue_tmb0 (s : State) (q : Nat) (x : Queue) : (s.setQueue q x).tmb0 = s.tmb0 := by
  unfold State.setQueue; rfl
@[simp] theorem setQueue_tmb1 (s : State) (q : Nat) (x : Queue) : (s.setQueue q x).tmb1 = s.tmb1 := by
  unfold State.setQueue; rfl
@[simp] theorem setQueue_tmb2 (s : State) (q : Nat) (x : Queue) : (s.setQueue q x).tmb2 = s.tmb2 := by
  unfold State.setQueue; rfl
@[simp] theorem setQueue_tmb3 (s : State) (q : Nat) (x : Queue) : (s.setQueue q x).tmb3 = s.tmb3 := by
  unfold State.setQueue; rfl
@[simp] theorem setQueue_rtc (s : State) (q : Nat) (x : Queue) : (s.setQueue q x).rtc = s.rtc := by
  unfold State.setQueue; rfl
@[simp] theorem setQueue_vbat (s : State) (q : Nat) (x : Queue) : (s.setQueue q x).vbat = s.vbat := by
  unfold State.setQueue; rfl
@[simp] theorem setQueue_cdy (s : State) (q : Nat) (x : Queue) : (s.setQueue q x).cdy = s.cdy := by
  unfold State.setQueue; rfl
@[simp] theorem setQueue_link (s : State) (q : Nat) (x : Queue) : (s.setQueue q x).link = s.link := by
  unfold State.setQueue; rfl
@[simp] theorem setQueue_rs (s : State) (q : Nat) (x : Queue) : (s.setQueue q x).rs = s.rs := by
  unfold State.setQueue; rfl
@[simp] theorem setQueue_fp (s : State) (q : Nat) (x : Queue) : (s.setQueue q x).fp = s.fp := by
  unfold State.setQueue; rfl
@[simp] theorem setQueue_can (s : State) (q : Nat) (x : Queue) : (s.setQueue q x).can = s.can := by
  unfold State.setQueue; rfl
@[simp] theorem setQueue_pci (s : State) (q : Nat) (x : Queue) : (s.setQueue q x).pci = s.pci := by
  unfold State.setQueue; rfl
@[simp] theorem setQueue_usb (s : State) (q : Nat) (x : Queue) : (s.setQueue q x).usb = s.usb := by
  unfold State.setQueue; rfl
@[simp] theorem setQueue_key (s : State) (q : Nat) (x : Queue) : (s.setQueue q x).key = s.key := by
  unfold State.setQueue; rfl
@[simp] theorem setQueue_upd (s : State) (q : Nat) (x : Queue) : (s.setQueue q x).upd = s.upd := by
  unfold State.setQueue; rfl

-- setSlot

@[simp] theorem setSlot_pending (s : State) (n : Nat) (x : Slot) : (s.setSlot n x).pending = s.pending := by
  unfold State.setSlot; rfl
@[simp] theorem setSlot_part (s : State) (n : Nat) (x : Slot) : (s.setSlot n x).part = s.part := by
  unfold State.setSlot; rfl
@[simp] theorem setSlot_win (s : State) (n : Nat) (x : Slot) : (s.setSlot n x).win = s.win := by
  unfold State.setSlot; rfl
@[simp] theorem setSlot_mem (s : State) (n : Nat) (x : Slot) : (s.setSlot n x).mem = s.mem := by
  unfold State.setSlot; rfl
@[simp] theorem setSlot_emitted (s : State) (n : Nat) (x : Slot) : (s.setSlot n x).emitted = s.emitted := by
  unfold State.setSlot; rfl
@[simp] theorem setSlot_freeCtr (s : State) (n : Nat) (x : Slot) : (s.setSlot n x).freeCtr = s.freeCtr := by
  unfold State.setSlot; rfl
@[simp] theorem setSlot_sys (s : State) (n : Nat) (x : Slot) : (s.setSlot n x).sys = s.sys := by
  unfold State.setSlot; rfl
@[simp] theorem setSlot_glv (s : State) (n : Nat) (x : Slot) : (s.setSlot n x).glv = s.glv := by
  unfold State.setSlot; rfl
@[simp] theorem setSlot_coreGlove (s : State) (n : Nat) (x : Slot) : (s.setSlot n x).coreGlove = s.coreGlove := by
  unfold State.setSlot; rfl
@[simp] theorem setSlot_ces (s : State) (n : Nat) (x : Slot) : (s.setSlot n x).ces = s.ces := by
  unfold State.setSlot; rfl
@[simp] theorem setSlot_ktl (s : State) (n : Nat) (x : Slot) : (s.setSlot n x).ktl = s.ktl := by
  unfold State.setSlot; rfl
@[simp] theorem setSlot_ptb (s : State) (n : Nat) (x : Slot) : (s.setSlot n x).ptb = s.ptb := by
  unfold State.setSlot; rfl
@[simp] theorem setSlot_lse (s : State) (n : Nat) (x : Slot) : (s.setSlot n x).lse = s.lse := by
  unfold State.setSlot; rfl
@[simp] theorem setSlot_fio (s : State) (n : Nat) (x : Slot) : (s.setSlot n x).fio = s.fio := by
  unfold State.setSlot; rfl
@[simp] theorem setSlot_flt (s : State) (n : Nat) (x : Slot) : (s.setSlot n x).flt = s.flt := by
  unfold State.setSlot; rfl
@[simp] theorem setSlot_hst (s : State) (n : Nat) (x : Slot) : (s.setSlot n x).hst = s.hst := by
  unfold State.setSlot; rfl
@[simp] theorem setSlot_pwr (s : State) (n : Nat) (x : Slot) : (s.setSlot n x).pwr = s.pwr := by
  unfold State.setSlot; rfl
@[simp] theorem setSlot_clk (s : State) (n : Nat) (x : Slot) : (s.setSlot n x).clk = s.clk := by
  unfold State.setSlot; rfl
@[simp] theorem setSlot_nv (s : State) (n : Nat) (x : Slot) : (s.setSlot n x).nv = s.nv := by
  unfold State.setSlot; rfl
@[simp] theorem setSlot_tmb0 (s : State) (n : Nat) (x : Slot) : (s.setSlot n x).tmb0 = s.tmb0 := by
  unfold State.setSlot; rfl
@[simp] theorem setSlot_tmb1 (s : State) (n : Nat) (x : Slot) : (s.setSlot n x).tmb1 = s.tmb1 := by
  unfold State.setSlot; rfl
@[simp] theorem setSlot_tmb2 (s : State) (n : Nat) (x : Slot) : (s.setSlot n x).tmb2 = s.tmb2 := by
  unfold State.setSlot; rfl
@[simp] theorem setSlot_tmb3 (s : State) (n : Nat) (x : Slot) : (s.setSlot n x).tmb3 = s.tmb3 := by
  unfold State.setSlot; rfl
@[simp] theorem setSlot_rtc (s : State) (n : Nat) (x : Slot) : (s.setSlot n x).rtc = s.rtc := by
  unfold State.setSlot; rfl
@[simp] theorem setSlot_vbat (s : State) (n : Nat) (x : Slot) : (s.setSlot n x).vbat = s.vbat := by
  unfold State.setSlot; rfl
@[simp] theorem setSlot_cdy (s : State) (n : Nat) (x : Slot) : (s.setSlot n x).cdy = s.cdy := by
  unfold State.setSlot; rfl
@[simp] theorem setSlot_link (s : State) (n : Nat) (x : Slot) : (s.setSlot n x).link = s.link := by
  unfold State.setSlot; rfl
@[simp] theorem setSlot_rs (s : State) (n : Nat) (x : Slot) : (s.setSlot n x).rs = s.rs := by
  unfold State.setSlot; rfl
@[simp] theorem setSlot_fp (s : State) (n : Nat) (x : Slot) : (s.setSlot n x).fp = s.fp := by
  unfold State.setSlot; rfl
@[simp] theorem setSlot_can (s : State) (n : Nat) (x : Slot) : (s.setSlot n x).can = s.can := by
  unfold State.setSlot; rfl
@[simp] theorem setSlot_pci (s : State) (n : Nat) (x : Slot) : (s.setSlot n x).pci = s.pci := by
  unfold State.setSlot; rfl
@[simp] theorem setSlot_usb (s : State) (n : Nat) (x : Slot) : (s.setSlot n x).usb = s.usb := by
  unfold State.setSlot; rfl
@[simp] theorem setSlot_key (s : State) (n : Nat) (x : Slot) : (s.setSlot n x).key = s.key := by
  unfold State.setSlot; rfl
@[simp] theorem setSlot_upd (s : State) (n : Nat) (x : Slot) : (s.setSlot n x).upd = s.upd := by
  unfold State.setSlot; rfl

-- setGlove

@[simp] theorem setGlove_pending (s : State) (g : Nat) (e : Glove) : (s.setGlove g e).pending = s.pending := by
  unfold State.setGlove; rfl
@[simp] theorem setGlove_part (s : State) (g : Nat) (e : Glove) : (s.setGlove g e).part = s.part := by
  unfold State.setGlove; rfl
@[simp] theorem setGlove_win (s : State) (g : Nat) (e : Glove) : (s.setGlove g e).win = s.win := by
  unfold State.setGlove; rfl
@[simp] theorem setGlove_mem (s : State) (g : Nat) (e : Glove) : (s.setGlove g e).mem = s.mem := by
  unfold State.setGlove; rfl
@[simp] theorem setGlove_emitted (s : State) (g : Nat) (e : Glove) : (s.setGlove g e).emitted = s.emitted := by
  unfold State.setGlove; rfl
@[simp] theorem setGlove_freeCtr (s : State) (g : Nat) (e : Glove) : (s.setGlove g e).freeCtr = s.freeCtr := by
  unfold State.setGlove; rfl
@[simp] theorem setGlove_sys (s : State) (g : Nat) (e : Glove) : (s.setGlove g e).sys = s.sys := by
  unfold State.setGlove; rfl
@[simp] theorem setGlove_cmd (s : State) (g : Nat) (e : Glove) : (s.setGlove g e).cmd = s.cmd := by
  unfold State.setGlove; rfl
@[simp] theorem setGlove_coreGlove (s : State) (g : Nat) (e : Glove) : (s.setGlove g e).coreGlove = s.coreGlove := by
  unfold State.setGlove; rfl
@[simp] theorem setGlove_ces (s : State) (g : Nat) (e : Glove) : (s.setGlove g e).ces = s.ces := by
  unfold State.setGlove; rfl
@[simp] theorem setGlove_ktl (s : State) (g : Nat) (e : Glove) : (s.setGlove g e).ktl = s.ktl := by
  unfold State.setGlove; rfl
@[simp] theorem setGlove_ptb (s : State) (g : Nat) (e : Glove) : (s.setGlove g e).ptb = s.ptb := by
  unfold State.setGlove; rfl
@[simp] theorem setGlove_lse (s : State) (g : Nat) (e : Glove) : (s.setGlove g e).lse = s.lse := by
  unfold State.setGlove; rfl
@[simp] theorem setGlove_fio (s : State) (g : Nat) (e : Glove) : (s.setGlove g e).fio = s.fio := by
  unfold State.setGlove; rfl
@[simp] theorem setGlove_flt (s : State) (g : Nat) (e : Glove) : (s.setGlove g e).flt = s.flt := by
  unfold State.setGlove; rfl
@[simp] theorem setGlove_hst (s : State) (g : Nat) (e : Glove) : (s.setGlove g e).hst = s.hst := by
  unfold State.setGlove; rfl
@[simp] theorem setGlove_pwr (s : State) (g : Nat) (e : Glove) : (s.setGlove g e).pwr = s.pwr := by
  unfold State.setGlove; rfl
@[simp] theorem setGlove_clk (s : State) (g : Nat) (e : Glove) : (s.setGlove g e).clk = s.clk := by
  unfold State.setGlove; rfl
@[simp] theorem setGlove_nv (s : State) (g : Nat) (e : Glove) : (s.setGlove g e).nv = s.nv := by
  unfold State.setGlove; rfl
@[simp] theorem setGlove_tmb0 (s : State) (g : Nat) (e : Glove) : (s.setGlove g e).tmb0 = s.tmb0 := by
  unfold State.setGlove; rfl
@[simp] theorem setGlove_tmb1 (s : State) (g : Nat) (e : Glove) : (s.setGlove g e).tmb1 = s.tmb1 := by
  unfold State.setGlove; rfl
@[simp] theorem setGlove_tmb2 (s : State) (g : Nat) (e : Glove) : (s.setGlove g e).tmb2 = s.tmb2 := by
  unfold State.setGlove; rfl
@[simp] theorem setGlove_tmb3 (s : State) (g : Nat) (e : Glove) : (s.setGlove g e).tmb3 = s.tmb3 := by
  unfold State.setGlove; rfl
@[simp] theorem setGlove_rtc (s : State) (g : Nat) (e : Glove) : (s.setGlove g e).rtc = s.rtc := by
  unfold State.setGlove; rfl
@[simp] theorem setGlove_vbat (s : State) (g : Nat) (e : Glove) : (s.setGlove g e).vbat = s.vbat := by
  unfold State.setGlove; rfl
@[simp] theorem setGlove_cdy (s : State) (g : Nat) (e : Glove) : (s.setGlove g e).cdy = s.cdy := by
  unfold State.setGlove; rfl
@[simp] theorem setGlove_link (s : State) (g : Nat) (e : Glove) : (s.setGlove g e).link = s.link := by
  unfold State.setGlove; rfl
@[simp] theorem setGlove_rs (s : State) (g : Nat) (e : Glove) : (s.setGlove g e).rs = s.rs := by
  unfold State.setGlove; rfl
@[simp] theorem setGlove_fp (s : State) (g : Nat) (e : Glove) : (s.setGlove g e).fp = s.fp := by
  unfold State.setGlove; rfl
@[simp] theorem setGlove_can (s : State) (g : Nat) (e : Glove) : (s.setGlove g e).can = s.can := by
  unfold State.setGlove; rfl
@[simp] theorem setGlove_pci (s : State) (g : Nat) (e : Glove) : (s.setGlove g e).pci = s.pci := by
  unfold State.setGlove; rfl
@[simp] theorem setGlove_usb (s : State) (g : Nat) (e : Glove) : (s.setGlove g e).usb = s.usb := by
  unfold State.setGlove; rfl
@[simp] theorem setGlove_key (s : State) (g : Nat) (e : Glove) : (s.setGlove g e).key = s.key := by
  unfold State.setGlove; rfl
@[simp] theorem setGlove_upd (s : State) (g : Nat) (e : Glove) : (s.setGlove g e).upd = s.upd := by
  unfold State.setGlove; rfl

-- pushRing

@[simp] theorem pushRing_pending (s : State) (g : Nat) (e : UsbEntry) : (s.pushRing g e).pending = s.pending := by
  unfold State.pushRing; rfl
@[simp] theorem pushRing_part (s : State) (g : Nat) (e : UsbEntry) : (s.pushRing g e).part = s.part := by
  unfold State.pushRing; rfl
@[simp] theorem pushRing_win (s : State) (g : Nat) (e : UsbEntry) : (s.pushRing g e).win = s.win := by
  unfold State.pushRing; rfl
@[simp] theorem pushRing_mem (s : State) (g : Nat) (e : UsbEntry) : (s.pushRing g e).mem = s.mem := by
  unfold State.pushRing; rfl
@[simp] theorem pushRing_emitted (s : State) (g : Nat) (e : UsbEntry) : (s.pushRing g e).emitted = s.emitted := by
  unfold State.pushRing; rfl
@[simp] theorem pushRing_freeCtr (s : State) (g : Nat) (e : UsbEntry) : (s.pushRing g e).freeCtr = s.freeCtr := by
  unfold State.pushRing; rfl
@[simp] theorem pushRing_sys (s : State) (g : Nat) (e : UsbEntry) : (s.pushRing g e).sys = s.sys := by
  unfold State.pushRing; rfl
@[simp] theorem pushRing_cmd (s : State) (g : Nat) (e : UsbEntry) : (s.pushRing g e).cmd = s.cmd := by
  unfold State.pushRing; rfl
@[simp] theorem pushRing_glv (s : State) (g : Nat) (e : UsbEntry) : (s.pushRing g e).glv = s.glv := by
  unfold State.pushRing; rfl
@[simp] theorem pushRing_coreGlove (s : State) (g : Nat) (e : UsbEntry) : (s.pushRing g e).coreGlove = s.coreGlove := by
  unfold State.pushRing; rfl
@[simp] theorem pushRing_ces (s : State) (g : Nat) (e : UsbEntry) : (s.pushRing g e).ces = s.ces := by
  unfold State.pushRing; rfl
@[simp] theorem pushRing_ktl (s : State) (g : Nat) (e : UsbEntry) : (s.pushRing g e).ktl = s.ktl := by
  unfold State.pushRing; rfl
@[simp] theorem pushRing_ptb (s : State) (g : Nat) (e : UsbEntry) : (s.pushRing g e).ptb = s.ptb := by
  unfold State.pushRing; rfl
@[simp] theorem pushRing_lse (s : State) (g : Nat) (e : UsbEntry) : (s.pushRing g e).lse = s.lse := by
  unfold State.pushRing; rfl
@[simp] theorem pushRing_fio (s : State) (g : Nat) (e : UsbEntry) : (s.pushRing g e).fio = s.fio := by
  unfold State.pushRing; rfl
@[simp] theorem pushRing_flt (s : State) (g : Nat) (e : UsbEntry) : (s.pushRing g e).flt = s.flt := by
  unfold State.pushRing; rfl
@[simp] theorem pushRing_hst (s : State) (g : Nat) (e : UsbEntry) : (s.pushRing g e).hst = s.hst := by
  unfold State.pushRing; rfl
@[simp] theorem pushRing_pwr (s : State) (g : Nat) (e : UsbEntry) : (s.pushRing g e).pwr = s.pwr := by
  unfold State.pushRing; rfl
@[simp] theorem pushRing_clk (s : State) (g : Nat) (e : UsbEntry) : (s.pushRing g e).clk = s.clk := by
  unfold State.pushRing; rfl
@[simp] theorem pushRing_nv (s : State) (g : Nat) (e : UsbEntry) : (s.pushRing g e).nv = s.nv := by
  unfold State.pushRing; rfl
@[simp] theorem pushRing_tmb0 (s : State) (g : Nat) (e : UsbEntry) : (s.pushRing g e).tmb0 = s.tmb0 := by
  unfold State.pushRing; rfl
@[simp] theorem pushRing_tmb1 (s : State) (g : Nat) (e : UsbEntry) : (s.pushRing g e).tmb1 = s.tmb1 := by
  unfold State.pushRing; rfl
@[simp] theorem pushRing_tmb2 (s : State) (g : Nat) (e : UsbEntry) : (s.pushRing g e).tmb2 = s.tmb2 := by
  unfold State.pushRing; rfl
@[simp] theorem pushRing_tmb3 (s : State) (g : Nat) (e : UsbEntry) : (s.pushRing g e).tmb3 = s.tmb3 := by
  unfold State.pushRing; rfl
@[simp] theorem pushRing_rtc (s : State) (g : Nat) (e : UsbEntry) : (s.pushRing g e).rtc = s.rtc := by
  unfold State.pushRing; rfl
@[simp] theorem pushRing_vbat (s : State) (g : Nat) (e : UsbEntry) : (s.pushRing g e).vbat = s.vbat := by
  unfold State.pushRing; rfl
@[simp] theorem pushRing_cdy (s : State) (g : Nat) (e : UsbEntry) : (s.pushRing g e).cdy = s.cdy := by
  unfold State.pushRing; rfl
@[simp] theorem pushRing_link (s : State) (g : Nat) (e : UsbEntry) : (s.pushRing g e).link = s.link := by
  unfold State.pushRing; rfl
@[simp] theorem pushRing_rs (s : State) (g : Nat) (e : UsbEntry) : (s.pushRing g e).rs = s.rs := by
  unfold State.pushRing; rfl
@[simp] theorem pushRing_fp (s : State) (g : Nat) (e : UsbEntry) : (s.pushRing g e).fp = s.fp := by
  unfold State.pushRing; rfl
@[simp] theorem pushRing_can (s : State) (g : Nat) (e : UsbEntry) : (s.pushRing g e).can = s.can := by
  unfold State.pushRing; rfl
@[simp] theorem pushRing_pci (s : State) (g : Nat) (e : UsbEntry) : (s.pushRing g e).pci = s.pci := by
  unfold State.pushRing; rfl
@[simp] theorem pushRing_key (s : State) (g : Nat) (e : UsbEntry) : (s.pushRing g e).key = s.key := by
  unfold State.pushRing; rfl
@[simp] theorem pushRing_upd (s : State) (g : Nat) (e : UsbEntry) : (s.pushRing g e).upd = s.upd := by
  unfold State.pushRing; rfl

-- bump

@[simp] theorem bump_pending (s : State) (p off : Nat) : (s.bump p off).pending = s.pending := by
  unfold State.bump; simp only [setReg_pending]
@[simp] theorem bump_part (s : State) (p off : Nat) : (s.bump p off).part = s.part := by
  unfold State.bump; simp only [setReg_part]
@[simp] theorem bump_mem (s : State) (p off : Nat) : (s.bump p off).mem = s.mem := by
  unfold State.bump; simp only [setReg_mem]
@[simp] theorem bump_emitted (s : State) (p off : Nat) : (s.bump p off).emitted = s.emitted := by
  unfold State.bump; simp only [setReg_emitted]
@[simp] theorem bump_freeCtr (s : State) (p off : Nat) : (s.bump p off).freeCtr = s.freeCtr := by
  unfold State.bump; simp only [setReg_freeCtr]
@[simp] theorem bump_sys (s : State) (p off : Nat) : (s.bump p off).sys = s.sys := by
  unfold State.bump; simp only [setReg_sys]
@[simp] theorem bump_cmd (s : State) (p off : Nat) : (s.bump p off).cmd = s.cmd := by
  unfold State.bump; simp only [setReg_cmd]
@[simp] theorem bump_glv (s : State) (p off : Nat) : (s.bump p off).glv = s.glv := by
  unfold State.bump; simp only [setReg_glv]
@[simp] theorem bump_coreGlove (s : State) (p off : Nat) : (s.bump p off).coreGlove = s.coreGlove := by
  unfold State.bump; simp only [setReg_coreGlove]
@[simp] theorem bump_ces (s : State) (p off : Nat) : (s.bump p off).ces = s.ces := by
  unfold State.bump; simp only [setReg_ces]
@[simp] theorem bump_ktl (s : State) (p off : Nat) : (s.bump p off).ktl = s.ktl := by
  unfold State.bump; simp only [setReg_ktl]
@[simp] theorem bump_ptb (s : State) (p off : Nat) : (s.bump p off).ptb = s.ptb := by
  unfold State.bump; simp only [setReg_ptb]
@[simp] theorem bump_lse (s : State) (p off : Nat) : (s.bump p off).lse = s.lse := by
  unfold State.bump; simp only [setReg_lse]
@[simp] theorem bump_fio (s : State) (p off : Nat) : (s.bump p off).fio = s.fio := by
  unfold State.bump; simp only [setReg_fio]
@[simp] theorem bump_flt (s : State) (p off : Nat) : (s.bump p off).flt = s.flt := by
  unfold State.bump; simp only [setReg_flt]
@[simp] theorem bump_hst (s : State) (p off : Nat) : (s.bump p off).hst = s.hst := by
  unfold State.bump; simp only [setReg_hst]
@[simp] theorem bump_pwr (s : State) (p off : Nat) : (s.bump p off).pwr = s.pwr := by
  unfold State.bump; simp only [setReg_pwr]
@[simp] theorem bump_clk (s : State) (p off : Nat) : (s.bump p off).clk = s.clk := by
  unfold State.bump; simp only [setReg_clk]
@[simp] theorem bump_nv (s : State) (p off : Nat) : (s.bump p off).nv = s.nv := by
  unfold State.bump; simp only [setReg_nv]
@[simp] theorem bump_tmb0 (s : State) (p off : Nat) : (s.bump p off).tmb0 = s.tmb0 := by
  unfold State.bump; simp only [setReg_tmb0]
@[simp] theorem bump_tmb1 (s : State) (p off : Nat) : (s.bump p off).tmb1 = s.tmb1 := by
  unfold State.bump; simp only [setReg_tmb1]
@[simp] theorem bump_tmb2 (s : State) (p off : Nat) : (s.bump p off).tmb2 = s.tmb2 := by
  unfold State.bump; simp only [setReg_tmb2]
@[simp] theorem bump_tmb3 (s : State) (p off : Nat) : (s.bump p off).tmb3 = s.tmb3 := by
  unfold State.bump; simp only [setReg_tmb3]
@[simp] theorem bump_rtc (s : State) (p off : Nat) : (s.bump p off).rtc = s.rtc := by
  unfold State.bump; simp only [setReg_rtc]
@[simp] theorem bump_vbat (s : State) (p off : Nat) : (s.bump p off).vbat = s.vbat := by
  unfold State.bump; simp only [setReg_vbat]
@[simp] theorem bump_cdy (s : State) (p off : Nat) : (s.bump p off).cdy = s.cdy := by
  unfold State.bump; simp only [setReg_cdy]
@[simp] theorem bump_link (s : State) (p off : Nat) : (s.bump p off).link = s.link := by
  unfold State.bump; simp only [setReg_link]
@[simp] theorem bump_rs (s : State) (p off : Nat) : (s.bump p off).rs = s.rs := by
  unfold State.bump; simp only [setReg_rs]
@[simp] theorem bump_fp (s : State) (p off : Nat) : (s.bump p off).fp = s.fp := by
  unfold State.bump; simp only [setReg_fp]
@[simp] theorem bump_can (s : State) (p off : Nat) : (s.bump p off).can = s.can := by
  unfold State.bump; simp only [setReg_can]
@[simp] theorem bump_pci (s : State) (p off : Nat) : (s.bump p off).pci = s.pci := by
  unfold State.bump; simp only [setReg_pci]
@[simp] theorem bump_usb (s : State) (p off : Nat) : (s.bump p off).usb = s.usb := by
  unfold State.bump; simp only [setReg_usb]
@[simp] theorem bump_key (s : State) (p off : Nat) : (s.bump p off).key = s.key := by
  unfold State.bump; simp only [setReg_key]
@[simp] theorem bump_upd (s : State) (p off : Nat) : (s.bump p off).upd = s.upd := by
  unfold State.bump; simp only [setReg_upd]

-- setCur

@[simp] theorem setCur_pending (s : State) (p c : Nat) : (s.setCur p c).pending = s.pending := by
  unfold State.setCur; simp only [setReg_pending]
@[simp] theorem setCur_part (s : State) (p c : Nat) : (s.setCur p c).part = s.part := by
  unfold State.setCur; simp only [setReg_part]
@[simp] theorem setCur_mem (s : State) (p c : Nat) : (s.setCur p c).mem = s.mem := by
  unfold State.setCur; simp only [setReg_mem]
@[simp] theorem setCur_emitted (s : State) (p c : Nat) : (s.setCur p c).emitted = s.emitted := by
  unfold State.setCur; simp only [setReg_emitted]
@[simp] theorem setCur_freeCtr (s : State) (p c : Nat) : (s.setCur p c).freeCtr = s.freeCtr := by
  unfold State.setCur; simp only [setReg_freeCtr]
@[simp] theorem setCur_sys (s : State) (p c : Nat) : (s.setCur p c).sys = s.sys := by
  unfold State.setCur; simp only [setReg_sys]
@[simp] theorem setCur_cmd (s : State) (p c : Nat) : (s.setCur p c).cmd = s.cmd := by
  unfold State.setCur; simp only [setReg_cmd]
@[simp] theorem setCur_glv (s : State) (p c : Nat) : (s.setCur p c).glv = s.glv := by
  unfold State.setCur; simp only [setReg_glv]
@[simp] theorem setCur_coreGlove (s : State) (p c : Nat) : (s.setCur p c).coreGlove = s.coreGlove := by
  unfold State.setCur; simp only [setReg_coreGlove]
@[simp] theorem setCur_ces (s : State) (p c : Nat) : (s.setCur p c).ces = s.ces := by
  unfold State.setCur; simp only [setReg_ces]
@[simp] theorem setCur_ktl (s : State) (p c : Nat) : (s.setCur p c).ktl = s.ktl := by
  unfold State.setCur; simp only [setReg_ktl]
@[simp] theorem setCur_ptb (s : State) (p c : Nat) : (s.setCur p c).ptb = s.ptb := by
  unfold State.setCur; simp only [setReg_ptb]
@[simp] theorem setCur_lse (s : State) (p c : Nat) : (s.setCur p c).lse = s.lse := by
  unfold State.setCur; simp only [setReg_lse]
@[simp] theorem setCur_fio (s : State) (p c : Nat) : (s.setCur p c).fio = s.fio := by
  unfold State.setCur; simp only [setReg_fio]
@[simp] theorem setCur_flt (s : State) (p c : Nat) : (s.setCur p c).flt = s.flt := by
  unfold State.setCur; simp only [setReg_flt]
@[simp] theorem setCur_hst (s : State) (p c : Nat) : (s.setCur p c).hst = s.hst := by
  unfold State.setCur; simp only [setReg_hst]
@[simp] theorem setCur_pwr (s : State) (p c : Nat) : (s.setCur p c).pwr = s.pwr := by
  unfold State.setCur; simp only [setReg_pwr]
@[simp] theorem setCur_clk (s : State) (p c : Nat) : (s.setCur p c).clk = s.clk := by
  unfold State.setCur; simp only [setReg_clk]
@[simp] theorem setCur_nv (s : State) (p c : Nat) : (s.setCur p c).nv = s.nv := by
  unfold State.setCur; simp only [setReg_nv]
@[simp] theorem setCur_tmb0 (s : State) (p c : Nat) : (s.setCur p c).tmb0 = s.tmb0 := by
  unfold State.setCur; simp only [setReg_tmb0]
@[simp] theorem setCur_tmb1 (s : State) (p c : Nat) : (s.setCur p c).tmb1 = s.tmb1 := by
  unfold State.setCur; simp only [setReg_tmb1]
@[simp] theorem setCur_tmb2 (s : State) (p c : Nat) : (s.setCur p c).tmb2 = s.tmb2 := by
  unfold State.setCur; simp only [setReg_tmb2]
@[simp] theorem setCur_tmb3 (s : State) (p c : Nat) : (s.setCur p c).tmb3 = s.tmb3 := by
  unfold State.setCur; simp only [setReg_tmb3]
@[simp] theorem setCur_rtc (s : State) (p c : Nat) : (s.setCur p c).rtc = s.rtc := by
  unfold State.setCur; simp only [setReg_rtc]
@[simp] theorem setCur_vbat (s : State) (p c : Nat) : (s.setCur p c).vbat = s.vbat := by
  unfold State.setCur; simp only [setReg_vbat]
@[simp] theorem setCur_cdy (s : State) (p c : Nat) : (s.setCur p c).cdy = s.cdy := by
  unfold State.setCur; simp only [setReg_cdy]
@[simp] theorem setCur_link (s : State) (p c : Nat) : (s.setCur p c).link = s.link := by
  unfold State.setCur; simp only [setReg_link]
@[simp] theorem setCur_rs (s : State) (p c : Nat) : (s.setCur p c).rs = s.rs := by
  unfold State.setCur; simp only [setReg_rs]
@[simp] theorem setCur_fp (s : State) (p c : Nat) : (s.setCur p c).fp = s.fp := by
  unfold State.setCur; simp only [setReg_fp]
@[simp] theorem setCur_can (s : State) (p c : Nat) : (s.setCur p c).can = s.can := by
  unfold State.setCur; simp only [setReg_can]
@[simp] theorem setCur_pci (s : State) (p c : Nat) : (s.setCur p c).pci = s.pci := by
  unfold State.setCur; simp only [setReg_pci]
@[simp] theorem setCur_usb (s : State) (p c : Nat) : (s.setCur p c).usb = s.usb := by
  unfold State.setCur; simp only [setReg_usb]
@[simp] theorem setCur_key (s : State) (p c : Nat) : (s.setCur p c).key = s.key := by
  unfold State.setCur; simp only [setReg_key]
@[simp] theorem setCur_upd (s : State) (p c : Nat) : (s.setCur p c).upd = s.upd := by
  unfold State.setCur; simp only [setReg_upd]

-- setReq

@[simp] theorem setReq_pending (s : State) (p c : Nat) : (s.setReq p c).pending = s.pending := by
  unfold State.setReq; simp only [setReg_pending]
@[simp] theorem setReq_part (s : State) (p c : Nat) : (s.setReq p c).part = s.part := by
  unfold State.setReq; simp only [setReg_part]
@[simp] theorem setReq_mem (s : State) (p c : Nat) : (s.setReq p c).mem = s.mem := by
  unfold State.setReq; simp only [setReg_mem]
@[simp] theorem setReq_emitted (s : State) (p c : Nat) : (s.setReq p c).emitted = s.emitted := by
  unfold State.setReq; simp only [setReg_emitted]
@[simp] theorem setReq_freeCtr (s : State) (p c : Nat) : (s.setReq p c).freeCtr = s.freeCtr := by
  unfold State.setReq; simp only [setReg_freeCtr]
@[simp] theorem setReq_sys (s : State) (p c : Nat) : (s.setReq p c).sys = s.sys := by
  unfold State.setReq; simp only [setReg_sys]
@[simp] theorem setReq_cmd (s : State) (p c : Nat) : (s.setReq p c).cmd = s.cmd := by
  unfold State.setReq; simp only [setReg_cmd]
@[simp] theorem setReq_glv (s : State) (p c : Nat) : (s.setReq p c).glv = s.glv := by
  unfold State.setReq; simp only [setReg_glv]
@[simp] theorem setReq_coreGlove (s : State) (p c : Nat) : (s.setReq p c).coreGlove = s.coreGlove := by
  unfold State.setReq; simp only [setReg_coreGlove]
@[simp] theorem setReq_ces (s : State) (p c : Nat) : (s.setReq p c).ces = s.ces := by
  unfold State.setReq; simp only [setReg_ces]
@[simp] theorem setReq_ktl (s : State) (p c : Nat) : (s.setReq p c).ktl = s.ktl := by
  unfold State.setReq; simp only [setReg_ktl]
@[simp] theorem setReq_ptb (s : State) (p c : Nat) : (s.setReq p c).ptb = s.ptb := by
  unfold State.setReq; simp only [setReg_ptb]
@[simp] theorem setReq_lse (s : State) (p c : Nat) : (s.setReq p c).lse = s.lse := by
  unfold State.setReq; simp only [setReg_lse]
@[simp] theorem setReq_fio (s : State) (p c : Nat) : (s.setReq p c).fio = s.fio := by
  unfold State.setReq; simp only [setReg_fio]
@[simp] theorem setReq_flt (s : State) (p c : Nat) : (s.setReq p c).flt = s.flt := by
  unfold State.setReq; simp only [setReg_flt]
@[simp] theorem setReq_hst (s : State) (p c : Nat) : (s.setReq p c).hst = s.hst := by
  unfold State.setReq; simp only [setReg_hst]
@[simp] theorem setReq_pwr (s : State) (p c : Nat) : (s.setReq p c).pwr = s.pwr := by
  unfold State.setReq; simp only [setReg_pwr]
@[simp] theorem setReq_clk (s : State) (p c : Nat) : (s.setReq p c).clk = s.clk := by
  unfold State.setReq; simp only [setReg_clk]
@[simp] theorem setReq_nv (s : State) (p c : Nat) : (s.setReq p c).nv = s.nv := by
  unfold State.setReq; simp only [setReg_nv]
@[simp] theorem setReq_tmb0 (s : State) (p c : Nat) : (s.setReq p c).tmb0 = s.tmb0 := by
  unfold State.setReq; simp only [setReg_tmb0]
@[simp] theorem setReq_tmb1 (s : State) (p c : Nat) : (s.setReq p c).tmb1 = s.tmb1 := by
  unfold State.setReq; simp only [setReg_tmb1]
@[simp] theorem setReq_tmb2 (s : State) (p c : Nat) : (s.setReq p c).tmb2 = s.tmb2 := by
  unfold State.setReq; simp only [setReg_tmb2]
@[simp] theorem setReq_tmb3 (s : State) (p c : Nat) : (s.setReq p c).tmb3 = s.tmb3 := by
  unfold State.setReq; simp only [setReg_tmb3]
@[simp] theorem setReq_rtc (s : State) (p c : Nat) : (s.setReq p c).rtc = s.rtc := by
  unfold State.setReq; simp only [setReg_rtc]
@[simp] theorem setReq_vbat (s : State) (p c : Nat) : (s.setReq p c).vbat = s.vbat := by
  unfold State.setReq; simp only [setReg_vbat]
@[simp] theorem setReq_cdy (s : State) (p c : Nat) : (s.setReq p c).cdy = s.cdy := by
  unfold State.setReq; simp only [setReg_cdy]
@[simp] theorem setReq_link (s : State) (p c : Nat) : (s.setReq p c).link = s.link := by
  unfold State.setReq; simp only [setReg_link]
@[simp] theorem setReq_rs (s : State) (p c : Nat) : (s.setReq p c).rs = s.rs := by
  unfold State.setReq; simp only [setReg_rs]
@[simp] theorem setReq_fp (s : State) (p c : Nat) : (s.setReq p c).fp = s.fp := by
  unfold State.setReq; simp only [setReg_fp]
@[simp] theorem setReq_can (s : State) (p c : Nat) : (s.setReq p c).can = s.can := by
  unfold State.setReq; simp only [setReg_can]
@[simp] theorem setReq_pci (s : State) (p c : Nat) : (s.setReq p c).pci = s.pci := by
  unfold State.setReq; simp only [setReg_pci]
@[simp] theorem setReq_usb (s : State) (p c : Nat) : (s.setReq p c).usb = s.usb := by
  unfold State.setReq; simp only [setReg_usb]
@[simp] theorem setReq_key (s : State) (p c : Nat) : (s.setReq p c).key = s.key := by
  unfold State.setReq; simp only [setReg_key]
@[simp] theorem setReq_upd (s : State) (p c : Nat) : (s.setReq p c).upd = s.upd := by
  unfold State.setReq; simp only [setReg_upd]

-- pulse

@[simp] theorem pulse_pending (s : State) (p b : Nat) : (s.pulse p b).pending = s.pending := by
  unfold State.pulse; simp only [setReg_pending]
@[simp] theorem pulse_part (s : State) (p b : Nat) : (s.pulse p b).part = s.part := by
  unfold State.pulse; simp only [setReg_part]
@[simp] theorem pulse_mem (s : State) (p b : Nat) : (s.pulse p b).mem = s.mem := by
  unfold State.pulse; simp only [setReg_mem]
@[simp] theorem pulse_emitted (s : State) (p b : Nat) : (s.pulse p b).emitted = s.emitted := by
  unfold State.pulse; simp only [setReg_emitted]
@[simp] theorem pulse_freeCtr (s : State) (p b : Nat) : (s.pulse p b).freeCtr = s.freeCtr := by
  unfold State.pulse; simp only [setReg_freeCtr]
@[simp] theorem pulse_sys (s : State) (p b : Nat) : (s.pulse p b).sys = s.sys := by
  unfold State.pulse; simp only [setReg_sys]
@[simp] theorem pulse_cmd (s : State) (p b : Nat) : (s.pulse p b).cmd = s.cmd := by
  unfold State.pulse; simp only [setReg_cmd]
@[simp] theorem pulse_glv (s : State) (p b : Nat) : (s.pulse p b).glv = s.glv := by
  unfold State.pulse; simp only [setReg_glv]
@[simp] theorem pulse_coreGlove (s : State) (p b : Nat) : (s.pulse p b).coreGlove = s.coreGlove := by
  unfold State.pulse; simp only [setReg_coreGlove]
@[simp] theorem pulse_ces (s : State) (p b : Nat) : (s.pulse p b).ces = s.ces := by
  unfold State.pulse; simp only [setReg_ces]
@[simp] theorem pulse_ktl (s : State) (p b : Nat) : (s.pulse p b).ktl = s.ktl := by
  unfold State.pulse; simp only [setReg_ktl]
@[simp] theorem pulse_ptb (s : State) (p b : Nat) : (s.pulse p b).ptb = s.ptb := by
  unfold State.pulse; simp only [setReg_ptb]
@[simp] theorem pulse_lse (s : State) (p b : Nat) : (s.pulse p b).lse = s.lse := by
  unfold State.pulse; simp only [setReg_lse]
@[simp] theorem pulse_fio (s : State) (p b : Nat) : (s.pulse p b).fio = s.fio := by
  unfold State.pulse; simp only [setReg_fio]
@[simp] theorem pulse_flt (s : State) (p b : Nat) : (s.pulse p b).flt = s.flt := by
  unfold State.pulse; simp only [setReg_flt]
@[simp] theorem pulse_hst (s : State) (p b : Nat) : (s.pulse p b).hst = s.hst := by
  unfold State.pulse; simp only [setReg_hst]
@[simp] theorem pulse_pwr (s : State) (p b : Nat) : (s.pulse p b).pwr = s.pwr := by
  unfold State.pulse; simp only [setReg_pwr]
@[simp] theorem pulse_clk (s : State) (p b : Nat) : (s.pulse p b).clk = s.clk := by
  unfold State.pulse; simp only [setReg_clk]
@[simp] theorem pulse_nv (s : State) (p b : Nat) : (s.pulse p b).nv = s.nv := by
  unfold State.pulse; simp only [setReg_nv]
@[simp] theorem pulse_tmb0 (s : State) (p b : Nat) : (s.pulse p b).tmb0 = s.tmb0 := by
  unfold State.pulse; simp only [setReg_tmb0]
@[simp] theorem pulse_tmb1 (s : State) (p b : Nat) : (s.pulse p b).tmb1 = s.tmb1 := by
  unfold State.pulse; simp only [setReg_tmb1]
@[simp] theorem pulse_tmb2 (s : State) (p b : Nat) : (s.pulse p b).tmb2 = s.tmb2 := by
  unfold State.pulse; simp only [setReg_tmb2]
@[simp] theorem pulse_tmb3 (s : State) (p b : Nat) : (s.pulse p b).tmb3 = s.tmb3 := by
  unfold State.pulse; simp only [setReg_tmb3]
@[simp] theorem pulse_rtc (s : State) (p b : Nat) : (s.pulse p b).rtc = s.rtc := by
  unfold State.pulse; simp only [setReg_rtc]
@[simp] theorem pulse_vbat (s : State) (p b : Nat) : (s.pulse p b).vbat = s.vbat := by
  unfold State.pulse; simp only [setReg_vbat]
@[simp] theorem pulse_cdy (s : State) (p b : Nat) : (s.pulse p b).cdy = s.cdy := by
  unfold State.pulse; simp only [setReg_cdy]
@[simp] theorem pulse_link (s : State) (p b : Nat) : (s.pulse p b).link = s.link := by
  unfold State.pulse; simp only [setReg_link]
@[simp] theorem pulse_rs (s : State) (p b : Nat) : (s.pulse p b).rs = s.rs := by
  unfold State.pulse; simp only [setReg_rs]
@[simp] theorem pulse_fp (s : State) (p b : Nat) : (s.pulse p b).fp = s.fp := by
  unfold State.pulse; simp only [setReg_fp]
@[simp] theorem pulse_can (s : State) (p b : Nat) : (s.pulse p b).can = s.can := by
  unfold State.pulse; simp only [setReg_can]
@[simp] theorem pulse_pci (s : State) (p b : Nat) : (s.pulse p b).pci = s.pci := by
  unfold State.pulse; simp only [setReg_pci]
@[simp] theorem pulse_usb (s : State) (p b : Nat) : (s.pulse p b).usb = s.usb := by
  unfold State.pulse; simp only [setReg_usb]
@[simp] theorem pulse_key (s : State) (p b : Nat) : (s.pulse p b).key = s.key := by
  unfold State.pulse; simp only [setReg_key]
@[simp] theorem pulse_upd (s : State) (p b : Nat) : (s.pulse p b).upd = s.upd := by
  unfold State.pulse; simp only [setReg_upd]

-- violation

@[simp] theorem violation_pending (s : State) (g : Nat) : (s.violation g).pending = s.pending := by
  unfold State.violation; simp only [bump_pending]
@[simp] theorem violation_part (s : State) (g : Nat) : (s.violation g).part = s.part := by
  unfold State.violation; simp only [bump_part]
@[simp] theorem violation_mem (s : State) (g : Nat) : (s.violation g).mem = s.mem := by
  unfold State.violation; simp only [bump_mem]
@[simp] theorem violation_emitted (s : State) (g : Nat) : (s.violation g).emitted = s.emitted := by
  unfold State.violation; simp only [bump_emitted]
@[simp] theorem violation_freeCtr (s : State) (g : Nat) : (s.violation g).freeCtr = s.freeCtr := by
  unfold State.violation; simp only [bump_freeCtr]
@[simp] theorem violation_sys (s : State) (g : Nat) : (s.violation g).sys = s.sys := by
  unfold State.violation; simp only [bump_sys]
@[simp] theorem violation_cmd (s : State) (g : Nat) : (s.violation g).cmd = s.cmd := by
  unfold State.violation; simp only [bump_cmd]
@[simp] theorem violation_glv (s : State) (g : Nat) : (s.violation g).glv = s.glv := by
  unfold State.violation; simp only [bump_glv]
@[simp] theorem violation_coreGlove (s : State) (g : Nat) : (s.violation g).coreGlove = s.coreGlove := by
  unfold State.violation; simp only [bump_coreGlove]
@[simp] theorem violation_ces (s : State) (g : Nat) : (s.violation g).ces = s.ces := by
  unfold State.violation; simp only [bump_ces]
@[simp] theorem violation_ktl (s : State) (g : Nat) : (s.violation g).ktl = s.ktl := by
  unfold State.violation; simp only [bump_ktl]
@[simp] theorem violation_ptb (s : State) (g : Nat) : (s.violation g).ptb = s.ptb := by
  unfold State.violation; simp only [bump_ptb]
@[simp] theorem violation_lse (s : State) (g : Nat) : (s.violation g).lse = s.lse := by
  unfold State.violation; simp only [bump_lse]
@[simp] theorem violation_fio (s : State) (g : Nat) : (s.violation g).fio = s.fio := by
  unfold State.violation; simp only [bump_fio]
@[simp] theorem violation_flt (s : State) (g : Nat) : (s.violation g).flt = s.flt := by
  unfold State.violation; simp only [bump_flt]
@[simp] theorem violation_hst (s : State) (g : Nat) : (s.violation g).hst = s.hst := by
  unfold State.violation; simp only [bump_hst]
@[simp] theorem violation_pwr (s : State) (g : Nat) : (s.violation g).pwr = s.pwr := by
  unfold State.violation; simp only [bump_pwr]
@[simp] theorem violation_clk (s : State) (g : Nat) : (s.violation g).clk = s.clk := by
  unfold State.violation; simp only [bump_clk]
@[simp] theorem violation_nv (s : State) (g : Nat) : (s.violation g).nv = s.nv := by
  unfold State.violation; simp only [bump_nv]
@[simp] theorem violation_tmb0 (s : State) (g : Nat) : (s.violation g).tmb0 = s.tmb0 := by
  unfold State.violation; simp only [bump_tmb0]
@[simp] theorem violation_tmb1 (s : State) (g : Nat) : (s.violation g).tmb1 = s.tmb1 := by
  unfold State.violation; simp only [bump_tmb1]
@[simp] theorem violation_tmb2 (s : State) (g : Nat) : (s.violation g).tmb2 = s.tmb2 := by
  unfold State.violation; simp only [bump_tmb2]
@[simp] theorem violation_tmb3 (s : State) (g : Nat) : (s.violation g).tmb3 = s.tmb3 := by
  unfold State.violation; simp only [bump_tmb3]
@[simp] theorem violation_rtc (s : State) (g : Nat) : (s.violation g).rtc = s.rtc := by
  unfold State.violation; simp only [bump_rtc]
@[simp] theorem violation_vbat (s : State) (g : Nat) : (s.violation g).vbat = s.vbat := by
  unfold State.violation; simp only [bump_vbat]
@[simp] theorem violation_cdy (s : State) (g : Nat) : (s.violation g).cdy = s.cdy := by
  unfold State.violation; simp only [bump_cdy]
@[simp] theorem violation_link (s : State) (g : Nat) : (s.violation g).link = s.link := by
  unfold State.violation; simp only [bump_link]
@[simp] theorem violation_rs (s : State) (g : Nat) : (s.violation g).rs = s.rs := by
  unfold State.violation; simp only [bump_rs]
@[simp] theorem violation_fp (s : State) (g : Nat) : (s.violation g).fp = s.fp := by
  unfold State.violation; simp only [bump_fp]
@[simp] theorem violation_can (s : State) (g : Nat) : (s.violation g).can = s.can := by
  unfold State.violation; simp only [bump_can]
@[simp] theorem violation_pci (s : State) (g : Nat) : (s.violation g).pci = s.pci := by
  unfold State.violation; simp only [bump_pci]
@[simp] theorem violation_usb (s : State) (g : Nat) : (s.violation g).usb = s.usb := by
  unfold State.violation; simp only [bump_usb]
@[simp] theorem violation_key (s : State) (g : Nat) : (s.violation g).key = s.key := by
  unfold State.violation; simp only [bump_key]
@[simp] theorem violation_upd (s : State) (g : Nat) : (s.violation g).upd = s.upd := by
  unfold State.violation; simp only [bump_upd]

-- raiseSrc

@[simp] theorem raiseSrc_pending (s : State) (p b : Nat) : (s.raiseSrc p b).pending = s.pending := by
  unfold State.raiseSrc; dsimp only; simp only [setReg_pending]
@[simp] theorem raiseSrc_part (s : State) (p b : Nat) : (s.raiseSrc p b).part = s.part := by
  unfold State.raiseSrc; dsimp only; simp only [setReg_part]
@[simp] theorem raiseSrc_mem (s : State) (p b : Nat) : (s.raiseSrc p b).mem = s.mem := by
  unfold State.raiseSrc; dsimp only; simp only [setReg_mem]
@[simp] theorem raiseSrc_emitted (s : State) (p b : Nat) : (s.raiseSrc p b).emitted = s.emitted := by
  unfold State.raiseSrc; dsimp only; simp only [setReg_emitted]
@[simp] theorem raiseSrc_freeCtr (s : State) (p b : Nat) : (s.raiseSrc p b).freeCtr = s.freeCtr := by
  unfold State.raiseSrc; dsimp only; simp only [setReg_freeCtr]
@[simp] theorem raiseSrc_sys (s : State) (p b : Nat) : (s.raiseSrc p b).sys = s.sys := by
  unfold State.raiseSrc; dsimp only; simp only [setReg_sys]
@[simp] theorem raiseSrc_cmd (s : State) (p b : Nat) : (s.raiseSrc p b).cmd = s.cmd := by
  unfold State.raiseSrc; dsimp only; simp only [setReg_cmd]
@[simp] theorem raiseSrc_glv (s : State) (p b : Nat) : (s.raiseSrc p b).glv = s.glv := by
  unfold State.raiseSrc; dsimp only; simp only [setReg_glv]
@[simp] theorem raiseSrc_coreGlove (s : State) (p b : Nat) : (s.raiseSrc p b).coreGlove = s.coreGlove := by
  unfold State.raiseSrc; dsimp only; simp only [setReg_coreGlove]
@[simp] theorem raiseSrc_ces (s : State) (p b : Nat) : (s.raiseSrc p b).ces = s.ces := by
  unfold State.raiseSrc; dsimp only; simp only [setReg_ces]
@[simp] theorem raiseSrc_ktl (s : State) (p b : Nat) : (s.raiseSrc p b).ktl = s.ktl := by
  unfold State.raiseSrc; dsimp only; simp only [setReg_ktl]
@[simp] theorem raiseSrc_ptb (s : State) (p b : Nat) : (s.raiseSrc p b).ptb = s.ptb := by
  unfold State.raiseSrc; dsimp only; simp only [setReg_ptb]
@[simp] theorem raiseSrc_lse (s : State) (p b : Nat) : (s.raiseSrc p b).lse = s.lse := by
  unfold State.raiseSrc; dsimp only; simp only [setReg_lse]
@[simp] theorem raiseSrc_fio (s : State) (p b : Nat) : (s.raiseSrc p b).fio = s.fio := by
  unfold State.raiseSrc; dsimp only; simp only [setReg_fio]
@[simp] theorem raiseSrc_hst (s : State) (p b : Nat) : (s.raiseSrc p b).hst = s.hst := by
  unfold State.raiseSrc; dsimp only; simp only [setReg_hst]
@[simp] theorem raiseSrc_pwr (s : State) (p b : Nat) : (s.raiseSrc p b).pwr = s.pwr := by
  unfold State.raiseSrc; dsimp only; simp only [setReg_pwr]
@[simp] theorem raiseSrc_clk (s : State) (p b : Nat) : (s.raiseSrc p b).clk = s.clk := by
  unfold State.raiseSrc; dsimp only; simp only [setReg_clk]
@[simp] theorem raiseSrc_nv (s : State) (p b : Nat) : (s.raiseSrc p b).nv = s.nv := by
  unfold State.raiseSrc; dsimp only; simp only [setReg_nv]
@[simp] theorem raiseSrc_tmb0 (s : State) (p b : Nat) : (s.raiseSrc p b).tmb0 = s.tmb0 := by
  unfold State.raiseSrc; dsimp only; simp only [setReg_tmb0]
@[simp] theorem raiseSrc_tmb1 (s : State) (p b : Nat) : (s.raiseSrc p b).tmb1 = s.tmb1 := by
  unfold State.raiseSrc; dsimp only; simp only [setReg_tmb1]
@[simp] theorem raiseSrc_tmb2 (s : State) (p b : Nat) : (s.raiseSrc p b).tmb2 = s.tmb2 := by
  unfold State.raiseSrc; dsimp only; simp only [setReg_tmb2]
@[simp] theorem raiseSrc_tmb3 (s : State) (p b : Nat) : (s.raiseSrc p b).tmb3 = s.tmb3 := by
  unfold State.raiseSrc; dsimp only; simp only [setReg_tmb3]
@[simp] theorem raiseSrc_rtc (s : State) (p b : Nat) : (s.raiseSrc p b).rtc = s.rtc := by
  unfold State.raiseSrc; dsimp only; simp only [setReg_rtc]
@[simp] theorem raiseSrc_vbat (s : State) (p b : Nat) : (s.raiseSrc p b).vbat = s.vbat := by
  unfold State.raiseSrc; dsimp only; simp only [setReg_vbat]
@[simp] theorem raiseSrc_cdy (s : State) (p b : Nat) : (s.raiseSrc p b).cdy = s.cdy := by
  unfold State.raiseSrc; dsimp only; simp only [setReg_cdy]
@[simp] theorem raiseSrc_link (s : State) (p b : Nat) : (s.raiseSrc p b).link = s.link := by
  unfold State.raiseSrc; dsimp only; simp only [setReg_link]
@[simp] theorem raiseSrc_rs (s : State) (p b : Nat) : (s.raiseSrc p b).rs = s.rs := by
  unfold State.raiseSrc; dsimp only; simp only [setReg_rs]
@[simp] theorem raiseSrc_fp (s : State) (p b : Nat) : (s.raiseSrc p b).fp = s.fp := by
  unfold State.raiseSrc; dsimp only; simp only [setReg_fp]
@[simp] theorem raiseSrc_can (s : State) (p b : Nat) : (s.raiseSrc p b).can = s.can := by
  unfold State.raiseSrc; dsimp only; simp only [setReg_can]
@[simp] theorem raiseSrc_pci (s : State) (p b : Nat) : (s.raiseSrc p b).pci = s.pci := by
  unfold State.raiseSrc; dsimp only; simp only [setReg_pci]
@[simp] theorem raiseSrc_usb (s : State) (p b : Nat) : (s.raiseSrc p b).usb = s.usb := by
  unfold State.raiseSrc; dsimp only; simp only [setReg_usb]
@[simp] theorem raiseSrc_key (s : State) (p b : Nat) : (s.raiseSrc p b).key = s.key := by
  unfold State.raiseSrc; dsimp only; simp only [setReg_key]
@[simp] theorem raiseSrc_upd (s : State) (p b : Nat) : (s.raiseSrc p b).upd = s.upd := by
  unfold State.raiseSrc; dsimp only; simp only [setReg_upd]

-- alloc

@[simp] theorem alloc_pending (s : State) (n g op : Nat) (l : List Word) (o : CmdOrigin) (cq : CqTo) (tag : Word) : (s.alloc n g op l o cq tag).pending = s.pending := by
  unfold State.alloc; dsimp only; simp only [setSlot_pending]
@[simp] theorem alloc_part (s : State) (n g op : Nat) (l : List Word) (o : CmdOrigin) (cq : CqTo) (tag : Word) : (s.alloc n g op l o cq tag).part = s.part := by
  unfold State.alloc; dsimp only; simp only [setSlot_part]
@[simp] theorem alloc_win (s : State) (n g op : Nat) (l : List Word) (o : CmdOrigin) (cq : CqTo) (tag : Word) : (s.alloc n g op l o cq tag).win = s.win := by
  unfold State.alloc; dsimp only; simp only [setSlot_win]
@[simp] theorem alloc_mem (s : State) (n g op : Nat) (l : List Word) (o : CmdOrigin) (cq : CqTo) (tag : Word) : (s.alloc n g op l o cq tag).mem = s.mem := by
  unfold State.alloc; dsimp only; simp only [setSlot_mem]
@[simp] theorem alloc_emitted (s : State) (n g op : Nat) (l : List Word) (o : CmdOrigin) (cq : CqTo) (tag : Word) : (s.alloc n g op l o cq tag).emitted = s.emitted := by
  unfold State.alloc; dsimp only; simp only [setSlot_emitted]
@[simp] theorem alloc_freeCtr (s : State) (n g op : Nat) (l : List Word) (o : CmdOrigin) (cq : CqTo) (tag : Word) : (s.alloc n g op l o cq tag).freeCtr = s.freeCtr := by
  unfold State.alloc; dsimp only; simp only [setSlot_freeCtr]
@[simp] theorem alloc_sys (s : State) (n g op : Nat) (l : List Word) (o : CmdOrigin) (cq : CqTo) (tag : Word) : (s.alloc n g op l o cq tag).sys = s.sys := by
  unfold State.alloc; dsimp only; simp only [setSlot_sys]
@[simp] theorem alloc_glv (s : State) (n g op : Nat) (l : List Word) (o : CmdOrigin) (cq : CqTo) (tag : Word) : (s.alloc n g op l o cq tag).glv = s.glv := by
  unfold State.alloc; dsimp only; simp only [setSlot_glv]
@[simp] theorem alloc_coreGlove (s : State) (n g op : Nat) (l : List Word) (o : CmdOrigin) (cq : CqTo) (tag : Word) : (s.alloc n g op l o cq tag).coreGlove = s.coreGlove := by
  unfold State.alloc; dsimp only; simp only [setSlot_coreGlove]
@[simp] theorem alloc_ces (s : State) (n g op : Nat) (l : List Word) (o : CmdOrigin) (cq : CqTo) (tag : Word) : (s.alloc n g op l o cq tag).ces = s.ces := by
  unfold State.alloc; dsimp only; simp only [setSlot_ces]
@[simp] theorem alloc_ktl (s : State) (n g op : Nat) (l : List Word) (o : CmdOrigin) (cq : CqTo) (tag : Word) : (s.alloc n g op l o cq tag).ktl = s.ktl := by
  unfold State.alloc; dsimp only; simp only [setSlot_ktl]
@[simp] theorem alloc_ptb (s : State) (n g op : Nat) (l : List Word) (o : CmdOrigin) (cq : CqTo) (tag : Word) : (s.alloc n g op l o cq tag).ptb = s.ptb := by
  unfold State.alloc; dsimp only; simp only [setSlot_ptb]
@[simp] theorem alloc_lse (s : State) (n g op : Nat) (l : List Word) (o : CmdOrigin) (cq : CqTo) (tag : Word) : (s.alloc n g op l o cq tag).lse = s.lse := by
  unfold State.alloc; dsimp only; simp only [setSlot_lse]
@[simp] theorem alloc_fio (s : State) (n g op : Nat) (l : List Word) (o : CmdOrigin) (cq : CqTo) (tag : Word) : (s.alloc n g op l o cq tag).fio = s.fio := by
  unfold State.alloc; dsimp only; simp only [setSlot_fio]
@[simp] theorem alloc_flt (s : State) (n g op : Nat) (l : List Word) (o : CmdOrigin) (cq : CqTo) (tag : Word) : (s.alloc n g op l o cq tag).flt = s.flt := by
  unfold State.alloc; dsimp only; simp only [setSlot_flt]
@[simp] theorem alloc_hst (s : State) (n g op : Nat) (l : List Word) (o : CmdOrigin) (cq : CqTo) (tag : Word) : (s.alloc n g op l o cq tag).hst = s.hst := by
  unfold State.alloc; dsimp only; simp only [setSlot_hst]
@[simp] theorem alloc_pwr (s : State) (n g op : Nat) (l : List Word) (o : CmdOrigin) (cq : CqTo) (tag : Word) : (s.alloc n g op l o cq tag).pwr = s.pwr := by
  unfold State.alloc; dsimp only; simp only [setSlot_pwr]
@[simp] theorem alloc_clk (s : State) (n g op : Nat) (l : List Word) (o : CmdOrigin) (cq : CqTo) (tag : Word) : (s.alloc n g op l o cq tag).clk = s.clk := by
  unfold State.alloc; dsimp only; simp only [setSlot_clk]
@[simp] theorem alloc_nv (s : State) (n g op : Nat) (l : List Word) (o : CmdOrigin) (cq : CqTo) (tag : Word) : (s.alloc n g op l o cq tag).nv = s.nv := by
  unfold State.alloc; dsimp only; simp only [setSlot_nv]
@[simp] theorem alloc_tmb0 (s : State) (n g op : Nat) (l : List Word) (o : CmdOrigin) (cq : CqTo) (tag : Word) : (s.alloc n g op l o cq tag).tmb0 = s.tmb0 := by
  unfold State.alloc; dsimp only; simp only [setSlot_tmb0]
@[simp] theorem alloc_tmb1 (s : State) (n g op : Nat) (l : List Word) (o : CmdOrigin) (cq : CqTo) (tag : Word) : (s.alloc n g op l o cq tag).tmb1 = s.tmb1 := by
  unfold State.alloc; dsimp only; simp only [setSlot_tmb1]
@[simp] theorem alloc_tmb2 (s : State) (n g op : Nat) (l : List Word) (o : CmdOrigin) (cq : CqTo) (tag : Word) : (s.alloc n g op l o cq tag).tmb2 = s.tmb2 := by
  unfold State.alloc; dsimp only; simp only [setSlot_tmb2]
@[simp] theorem alloc_tmb3 (s : State) (n g op : Nat) (l : List Word) (o : CmdOrigin) (cq : CqTo) (tag : Word) : (s.alloc n g op l o cq tag).tmb3 = s.tmb3 := by
  unfold State.alloc; dsimp only; simp only [setSlot_tmb3]
@[simp] theorem alloc_rtc (s : State) (n g op : Nat) (l : List Word) (o : CmdOrigin) (cq : CqTo) (tag : Word) : (s.alloc n g op l o cq tag).rtc = s.rtc := by
  unfold State.alloc; dsimp only; simp only [setSlot_rtc]
@[simp] theorem alloc_vbat (s : State) (n g op : Nat) (l : List Word) (o : CmdOrigin) (cq : CqTo) (tag : Word) : (s.alloc n g op l o cq tag).vbat = s.vbat := by
  unfold State.alloc; dsimp only; simp only [setSlot_vbat]
@[simp] theorem alloc_cdy (s : State) (n g op : Nat) (l : List Word) (o : CmdOrigin) (cq : CqTo) (tag : Word) : (s.alloc n g op l o cq tag).cdy = s.cdy := by
  unfold State.alloc; dsimp only; simp only [setSlot_cdy]
@[simp] theorem alloc_link (s : State) (n g op : Nat) (l : List Word) (o : CmdOrigin) (cq : CqTo) (tag : Word) : (s.alloc n g op l o cq tag).link = s.link := by
  unfold State.alloc; dsimp only; simp only [setSlot_link]
@[simp] theorem alloc_rs (s : State) (n g op : Nat) (l : List Word) (o : CmdOrigin) (cq : CqTo) (tag : Word) : (s.alloc n g op l o cq tag).rs = s.rs := by
  unfold State.alloc; dsimp only; simp only [setSlot_rs]
@[simp] theorem alloc_fp (s : State) (n g op : Nat) (l : List Word) (o : CmdOrigin) (cq : CqTo) (tag : Word) : (s.alloc n g op l o cq tag).fp = s.fp := by
  unfold State.alloc; dsimp only; simp only [setSlot_fp]
@[simp] theorem alloc_can (s : State) (n g op : Nat) (l : List Word) (o : CmdOrigin) (cq : CqTo) (tag : Word) : (s.alloc n g op l o cq tag).can = s.can := by
  unfold State.alloc; dsimp only; simp only [setSlot_can]
@[simp] theorem alloc_pci (s : State) (n g op : Nat) (l : List Word) (o : CmdOrigin) (cq : CqTo) (tag : Word) : (s.alloc n g op l o cq tag).pci = s.pci := by
  unfold State.alloc; dsimp only; simp only [setSlot_pci]
@[simp] theorem alloc_usb (s : State) (n g op : Nat) (l : List Word) (o : CmdOrigin) (cq : CqTo) (tag : Word) : (s.alloc n g op l o cq tag).usb = s.usb := by
  unfold State.alloc; dsimp only; simp only [setSlot_usb]
@[simp] theorem alloc_key (s : State) (n g op : Nat) (l : List Word) (o : CmdOrigin) (cq : CqTo) (tag : Word) : (s.alloc n g op l o cq tag).key = s.key := by
  unfold State.alloc; dsimp only; simp only [setSlot_key]
@[simp] theorem alloc_upd (s : State) (n g op : Nat) (l : List Word) (o : CmdOrigin) (cq : CqTo) (tag : Word) : (s.alloc n g op l o cq tag).upd = s.upd := by
  unfold State.alloc; dsimp only; simp only [setSlot_upd]

-- freeSlot

@[simp] theorem freeSlot_pending (s : State) (n : Nat) : (s.freeSlot n).pending = s.pending := by
  unfold State.freeSlot; dsimp only; simp only [setSlot_pending]
@[simp] theorem freeSlot_part (s : State) (n : Nat) : (s.freeSlot n).part = s.part := by
  unfold State.freeSlot; dsimp only; simp only [setSlot_part]
@[simp] theorem freeSlot_win (s : State) (n : Nat) : (s.freeSlot n).win = s.win := by
  unfold State.freeSlot; dsimp only; simp only [setSlot_win]
@[simp] theorem freeSlot_mem (s : State) (n : Nat) : (s.freeSlot n).mem = s.mem := by
  unfold State.freeSlot; dsimp only; simp only [setSlot_mem]
@[simp] theorem freeSlot_emitted (s : State) (n : Nat) : (s.freeSlot n).emitted = s.emitted := by
  unfold State.freeSlot; dsimp only; simp only [setSlot_emitted]
@[simp] theorem freeSlot_freeCtr (s : State) (n : Nat) : (s.freeSlot n).freeCtr = s.freeCtr := by
  unfold State.freeSlot; dsimp only; simp only [setSlot_freeCtr]
@[simp] theorem freeSlot_sys (s : State) (n : Nat) : (s.freeSlot n).sys = s.sys := by
  unfold State.freeSlot; dsimp only; simp only [setSlot_sys]
@[simp] theorem freeSlot_glv (s : State) (n : Nat) : (s.freeSlot n).glv = s.glv := by
  unfold State.freeSlot; dsimp only; simp only [setSlot_glv]
@[simp] theorem freeSlot_coreGlove (s : State) (n : Nat) : (s.freeSlot n).coreGlove = s.coreGlove := by
  unfold State.freeSlot; dsimp only; simp only [setSlot_coreGlove]
@[simp] theorem freeSlot_ces (s : State) (n : Nat) : (s.freeSlot n).ces = s.ces := by
  unfold State.freeSlot; dsimp only; simp only [setSlot_ces]
@[simp] theorem freeSlot_ktl (s : State) (n : Nat) : (s.freeSlot n).ktl = s.ktl := by
  unfold State.freeSlot; dsimp only; simp only [setSlot_ktl]
@[simp] theorem freeSlot_ptb (s : State) (n : Nat) : (s.freeSlot n).ptb = s.ptb := by
  unfold State.freeSlot; dsimp only; simp only [setSlot_ptb]
@[simp] theorem freeSlot_lse (s : State) (n : Nat) : (s.freeSlot n).lse = s.lse := by
  unfold State.freeSlot; dsimp only; simp only [setSlot_lse]
@[simp] theorem freeSlot_fio (s : State) (n : Nat) : (s.freeSlot n).fio = s.fio := by
  unfold State.freeSlot; dsimp only; simp only [setSlot_fio]
@[simp] theorem freeSlot_flt (s : State) (n : Nat) : (s.freeSlot n).flt = s.flt := by
  unfold State.freeSlot; dsimp only; simp only [setSlot_flt]
@[simp] theorem freeSlot_hst (s : State) (n : Nat) : (s.freeSlot n).hst = s.hst := by
  unfold State.freeSlot; dsimp only; simp only [setSlot_hst]
@[simp] theorem freeSlot_pwr (s : State) (n : Nat) : (s.freeSlot n).pwr = s.pwr := by
  unfold State.freeSlot; dsimp only; simp only [setSlot_pwr]
@[simp] theorem freeSlot_clk (s : State) (n : Nat) : (s.freeSlot n).clk = s.clk := by
  unfold State.freeSlot; dsimp only; simp only [setSlot_clk]
@[simp] theorem freeSlot_nv (s : State) (n : Nat) : (s.freeSlot n).nv = s.nv := by
  unfold State.freeSlot; dsimp only; simp only [setSlot_nv]
@[simp] theorem freeSlot_tmb0 (s : State) (n : Nat) : (s.freeSlot n).tmb0 = s.tmb0 := by
  unfold State.freeSlot; dsimp only; simp only [setSlot_tmb0]
@[simp] theorem freeSlot_tmb1 (s : State) (n : Nat) : (s.freeSlot n).tmb1 = s.tmb1 := by
  unfold State.freeSlot; dsimp only; simp only [setSlot_tmb1]
@[simp] theorem freeSlot_tmb2 (s : State) (n : Nat) : (s.freeSlot n).tmb2 = s.tmb2 := by
  unfold State.freeSlot; dsimp only; simp only [setSlot_tmb2]
@[simp] theorem freeSlot_tmb3 (s : State) (n : Nat) : (s.freeSlot n).tmb3 = s.tmb3 := by
  unfold State.freeSlot; dsimp only; simp only [setSlot_tmb3]
@[simp] theorem freeSlot_rtc (s : State) (n : Nat) : (s.freeSlot n).rtc = s.rtc := by
  unfold State.freeSlot; dsimp only; simp only [setSlot_rtc]
@[simp] theorem freeSlot_vbat (s : State) (n : Nat) : (s.freeSlot n).vbat = s.vbat := by
  unfold State.freeSlot; dsimp only; simp only [setSlot_vbat]
@[simp] theorem freeSlot_cdy (s : State) (n : Nat) : (s.freeSlot n).cdy = s.cdy := by
  unfold State.freeSlot; dsimp only; simp only [setSlot_cdy]
@[simp] theorem freeSlot_link (s : State) (n : Nat) : (s.freeSlot n).link = s.link := by
  unfold State.freeSlot; dsimp only; simp only [setSlot_link]
@[simp] theorem freeSlot_rs (s : State) (n : Nat) : (s.freeSlot n).rs = s.rs := by
  unfold State.freeSlot; dsimp only; simp only [setSlot_rs]
@[simp] theorem freeSlot_fp (s : State) (n : Nat) : (s.freeSlot n).fp = s.fp := by
  unfold State.freeSlot; dsimp only; simp only [setSlot_fp]
@[simp] theorem freeSlot_can (s : State) (n : Nat) : (s.freeSlot n).can = s.can := by
  unfold State.freeSlot; dsimp only; simp only [setSlot_can]
@[simp] theorem freeSlot_pci (s : State) (n : Nat) : (s.freeSlot n).pci = s.pci := by
  unfold State.freeSlot; dsimp only; simp only [setSlot_pci]
@[simp] theorem freeSlot_usb (s : State) (n : Nat) : (s.freeSlot n).usb = s.usb := by
  unfold State.freeSlot; dsimp only; simp only [setSlot_usb]
@[simp] theorem freeSlot_key (s : State) (n : Nat) : (s.freeSlot n).key = s.key := by
  unfold State.freeSlot; dsimp only; simp only [setSlot_key]
@[simp] theorem freeSlot_upd (s : State) (n : Nat) : (s.freeSlot n).upd = s.upd := by
  unfold State.freeSlot; dsimp only; simp only [setSlot_upd]

-- taken

@[simp] theorem taken_pending (s : State) (r : Requester) (op g n : Nat) : (s.taken r op g n).pending = s.pending := by
  unfold State.taken; dsimp only; simp only [setBreg_pending, alloc_pending]
@[simp] theorem taken_part (s : State) (r : Requester) (op g n : Nat) : (s.taken r op g n).part = s.part := by
  unfold State.taken; dsimp only; simp only [setBreg_part, alloc_part]
@[simp] theorem taken_mem (s : State) (r : Requester) (op g n : Nat) : (s.taken r op g n).mem = s.mem := by
  unfold State.taken; dsimp only; simp only [setBreg_mem, alloc_mem]
@[simp] theorem taken_emitted (s : State) (r : Requester) (op g n : Nat) : (s.taken r op g n).emitted = s.emitted := by
  unfold State.taken; dsimp only; simp only [setBreg_emitted, alloc_emitted]
@[simp] theorem taken_freeCtr (s : State) (r : Requester) (op g n : Nat) : (s.taken r op g n).freeCtr = s.freeCtr := by
  unfold State.taken; dsimp only; simp only [setBreg_freeCtr, alloc_freeCtr]
@[simp] theorem taken_sys (s : State) (r : Requester) (op g n : Nat) : (s.taken r op g n).sys = s.sys := by
  unfold State.taken; dsimp only; simp only [setBreg_sys, alloc_sys]
@[simp] theorem taken_glv (s : State) (r : Requester) (op g n : Nat) : (s.taken r op g n).glv = s.glv := by
  unfold State.taken; dsimp only; simp only [setBreg_glv, alloc_glv]
@[simp] theorem taken_coreGlove (s : State) (r : Requester) (op g n : Nat) : (s.taken r op g n).coreGlove = s.coreGlove := by
  unfold State.taken; dsimp only; simp only [setBreg_coreGlove, alloc_coreGlove]
@[simp] theorem taken_ces (s : State) (r : Requester) (op g n : Nat) : (s.taken r op g n).ces = s.ces := by
  unfold State.taken; dsimp only; simp only [setBreg_ces, alloc_ces]
@[simp] theorem taken_ktl (s : State) (r : Requester) (op g n : Nat) : (s.taken r op g n).ktl = s.ktl := by
  unfold State.taken; dsimp only; simp only [setBreg_ktl, alloc_ktl]
@[simp] theorem taken_ptb (s : State) (r : Requester) (op g n : Nat) : (s.taken r op g n).ptb = s.ptb := by
  unfold State.taken; dsimp only; simp only [setBreg_ptb, alloc_ptb]
@[simp] theorem taken_lse (s : State) (r : Requester) (op g n : Nat) : (s.taken r op g n).lse = s.lse := by
  unfold State.taken; dsimp only; simp only [setBreg_lse, alloc_lse]
@[simp] theorem taken_fio (s : State) (r : Requester) (op g n : Nat) : (s.taken r op g n).fio = s.fio := by
  unfold State.taken; dsimp only; simp only [setBreg_fio, alloc_fio]
@[simp] theorem taken_flt (s : State) (r : Requester) (op g n : Nat) : (s.taken r op g n).flt = s.flt := by
  unfold State.taken; dsimp only; simp only [setBreg_flt, alloc_flt]
@[simp] theorem taken_hst (s : State) (r : Requester) (op g n : Nat) : (s.taken r op g n).hst = s.hst := by
  unfold State.taken; dsimp only; simp only [setBreg_hst, alloc_hst]
@[simp] theorem taken_pwr (s : State) (r : Requester) (op g n : Nat) : (s.taken r op g n).pwr = s.pwr := by
  unfold State.taken; dsimp only; simp only [setBreg_pwr, alloc_pwr]
@[simp] theorem taken_clk (s : State) (r : Requester) (op g n : Nat) : (s.taken r op g n).clk = s.clk := by
  unfold State.taken; dsimp only; simp only [setBreg_clk, alloc_clk]
@[simp] theorem taken_nv (s : State) (r : Requester) (op g n : Nat) : (s.taken r op g n).nv = s.nv := by
  unfold State.taken; dsimp only; simp only [setBreg_nv, alloc_nv]
@[simp] theorem taken_tmb0 (s : State) (r : Requester) (op g n : Nat) : (s.taken r op g n).tmb0 = s.tmb0 := by
  unfold State.taken; dsimp only; simp only [setBreg_tmb0, alloc_tmb0]
@[simp] theorem taken_tmb1 (s : State) (r : Requester) (op g n : Nat) : (s.taken r op g n).tmb1 = s.tmb1 := by
  unfold State.taken; dsimp only; simp only [setBreg_tmb1, alloc_tmb1]
@[simp] theorem taken_tmb2 (s : State) (r : Requester) (op g n : Nat) : (s.taken r op g n).tmb2 = s.tmb2 := by
  unfold State.taken; dsimp only; simp only [setBreg_tmb2, alloc_tmb2]
@[simp] theorem taken_tmb3 (s : State) (r : Requester) (op g n : Nat) : (s.taken r op g n).tmb3 = s.tmb3 := by
  unfold State.taken; dsimp only; simp only [setBreg_tmb3, alloc_tmb3]
@[simp] theorem taken_rtc (s : State) (r : Requester) (op g n : Nat) : (s.taken r op g n).rtc = s.rtc := by
  unfold State.taken; dsimp only; simp only [setBreg_rtc, alloc_rtc]
@[simp] theorem taken_vbat (s : State) (r : Requester) (op g n : Nat) : (s.taken r op g n).vbat = s.vbat := by
  unfold State.taken; dsimp only; simp only [setBreg_vbat, alloc_vbat]
@[simp] theorem taken_cdy (s : State) (r : Requester) (op g n : Nat) : (s.taken r op g n).cdy = s.cdy := by
  unfold State.taken; dsimp only; simp only [setBreg_cdy, alloc_cdy]
@[simp] theorem taken_link (s : State) (r : Requester) (op g n : Nat) : (s.taken r op g n).link = s.link := by
  unfold State.taken; dsimp only; simp only [setBreg_link, alloc_link]
@[simp] theorem taken_rs (s : State) (r : Requester) (op g n : Nat) : (s.taken r op g n).rs = s.rs := by
  unfold State.taken; dsimp only; simp only [setBreg_rs, alloc_rs]
@[simp] theorem taken_fp (s : State) (r : Requester) (op g n : Nat) : (s.taken r op g n).fp = s.fp := by
  unfold State.taken; dsimp only; simp only [setBreg_fp, alloc_fp]
@[simp] theorem taken_can (s : State) (r : Requester) (op g n : Nat) : (s.taken r op g n).can = s.can := by
  unfold State.taken; dsimp only; simp only [setBreg_can, alloc_can]
@[simp] theorem taken_pci (s : State) (r : Requester) (op g n : Nat) : (s.taken r op g n).pci = s.pci := by
  unfold State.taken; dsimp only; simp only [setBreg_pci, alloc_pci]
@[simp] theorem taken_usb (s : State) (r : Requester) (op g n : Nat) : (s.taken r op g n).usb = s.usb := by
  unfold State.taken; dsimp only; simp only [setBreg_usb, alloc_usb]
@[simp] theorem taken_key (s : State) (r : Requester) (op g n : Nat) : (s.taken r op g n).key = s.key := by
  unfold State.taken; dsimp only; simp only [setBreg_key, alloc_key]
@[simp] theorem taken_upd (s : State) (r : Requester) (op g n : Nat) : (s.taken r op g n).upd = s.upd := by
  unfold State.taken; dsimp only; simp only [setBreg_upd, alloc_upd]

-- Updates of registers leave everything outside the window

@[simp] theorem setReg_rest (s : State) (p off : Nat) (v : Word) : (s.setReg p off v).rest = s.rest := by
  unfold State.rest
  simp only [setReg_pending, setReg_part, setReg_mem, setReg_emitted, setReg_freeCtr, setReg_sys, setReg_cmd, setReg_glv, setReg_coreGlove, setReg_ces, setReg_ktl, setReg_ptb, setReg_lse, setReg_fio, setReg_flt, setReg_hst, setReg_pwr, setReg_clk, setReg_nv, setReg_tmb0, setReg_tmb1, setReg_tmb2, setReg_tmb3, setReg_rtc, setReg_vbat, setReg_cdy, setReg_link, setReg_rs, setReg_fp, setReg_can, setReg_pci, setReg_usb, setReg_key, setReg_upd]
@[simp] theorem setReg_outer (s : State) (p off : Nat) (v : Word) : (s.setReg p off v).outer = s.outer := by
  unfold State.outer; rw [setReg_rest]
@[simp] theorem setBreg_rest (s : State) (b p off : Nat) (v : Word) : (s.setBreg b p off v).rest = s.rest := by
  unfold State.rest
  simp only [setBreg_pending, setBreg_part, setBreg_mem, setBreg_emitted, setBreg_freeCtr, setBreg_sys, setBreg_cmd, setBreg_glv, setBreg_coreGlove, setBreg_ces, setBreg_ktl, setBreg_ptb, setBreg_lse, setBreg_fio, setBreg_flt, setBreg_hst, setBreg_pwr, setBreg_clk, setBreg_nv, setBreg_tmb0, setBreg_tmb1, setBreg_tmb2, setBreg_tmb3, setBreg_rtc, setBreg_vbat, setBreg_cdy, setBreg_link, setBreg_rs, setBreg_fp, setBreg_can, setBreg_pci, setBreg_usb, setBreg_key, setBreg_upd]
@[simp] theorem setBreg_outer (s : State) (b p off : Nat) (v : Word) : (s.setBreg b p off v).outer = s.outer := by
  unfold State.outer; rw [setBreg_rest]
@[simp] theorem bump_rest (s : State) (p off : Nat) : (s.bump p off).rest = s.rest := by
  unfold State.rest
  simp only [bump_pending, bump_part, bump_mem, bump_emitted, bump_freeCtr, bump_sys, bump_cmd, bump_glv, bump_coreGlove, bump_ces, bump_ktl, bump_ptb, bump_lse, bump_fio, bump_flt, bump_hst, bump_pwr, bump_clk, bump_nv, bump_tmb0, bump_tmb1, bump_tmb2, bump_tmb3, bump_rtc, bump_vbat, bump_cdy, bump_link, bump_rs, bump_fp, bump_can, bump_pci, bump_usb, bump_key, bump_upd]
@[simp] theorem bump_outer (s : State) (p off : Nat) : (s.bump p off).outer = s.outer := by
  unfold State.outer; rw [bump_rest]
@[simp] theorem violation_rest (s : State) (g : Nat) : (s.violation g).rest = s.rest := by
  unfold State.rest
  simp only [violation_pending, violation_part, violation_mem, violation_emitted, violation_freeCtr, violation_sys, violation_cmd, violation_glv, violation_coreGlove, violation_ces, violation_ktl, violation_ptb, violation_lse, violation_fio, violation_flt, violation_hst, violation_pwr, violation_clk, violation_nv, violation_tmb0, violation_tmb1, violation_tmb2, violation_tmb3, violation_rtc, violation_vbat, violation_cdy, violation_link, violation_rs, violation_fp, violation_can, violation_pci, violation_usb, violation_key, violation_upd]
@[simp] theorem violation_outer (s : State) (g : Nat) : (s.violation g).outer = s.outer := by
  unfold State.outer; rw [violation_rest]
@[simp] theorem pulse_rest (s : State) (p b : Nat) : (s.pulse p b).rest = s.rest := by
  unfold State.rest
  simp only [pulse_pending, pulse_part, pulse_mem, pulse_emitted, pulse_freeCtr, pulse_sys, pulse_cmd, pulse_glv, pulse_coreGlove, pulse_ces, pulse_ktl, pulse_ptb, pulse_lse, pulse_fio, pulse_flt, pulse_hst, pulse_pwr, pulse_clk, pulse_nv, pulse_tmb0, pulse_tmb1, pulse_tmb2, pulse_tmb3, pulse_rtc, pulse_vbat, pulse_cdy, pulse_link, pulse_rs, pulse_fp, pulse_can, pulse_pci, pulse_usb, pulse_key, pulse_upd]
@[simp] theorem pulse_outer (s : State) (p b : Nat) : (s.pulse p b).outer = s.outer := by
  unfold State.outer; rw [pulse_rest]
theorem alloc_outer (s : State) (n g op : Nat) (l : List Word) (o : CmdOrigin) (cq : CqTo) (tag : Word) :
    (s.alloc n g op l o cq tag).outer = s.outer := by
  unfold State.outer State.rest
  simp only [alloc_pending, alloc_part, alloc_win, alloc_mem, alloc_emitted, alloc_freeCtr, alloc_sys, alloc_glv, alloc_coreGlove, alloc_ces, alloc_ktl, alloc_ptb, alloc_lse, alloc_fio, alloc_flt, alloc_hst, alloc_pwr, alloc_clk, alloc_nv, alloc_tmb0, alloc_tmb1, alloc_tmb2, alloc_tmb3, alloc_rtc, alloc_vbat, alloc_cdy, alloc_link, alloc_rs, alloc_fp, alloc_can, alloc_pci, alloc_usb, alloc_key, alloc_upd]
theorem taken_outer (s : State) (r : Requester) (op g n : Nat) : (s.taken r op g n).outer = s.outer := by
  unfold State.taken
  dsimp only
  rw [setBreg_outer, alloc_outer]

-- What they write

@[simp] theorem emit_emitted (s : State) (e : Emit) : (s.emit e).emitted = s.emitted ++ [e] := rfl
@[simp] theorem store_mem (s : State) (a : Nat) (b : List Byte) : (s.store a b).mem = wrBytes s.mem a b := rfl
@[simp] theorem raiseSrc_occ (s : State) (p b : Nat) : (s.raiseSrc p b).flt.occ = s.flt.occ ++ [p * 32 + b] := by
  unfold State.raiseSrc; dsimp only; rw [setReg_flt]
@[simp] theorem raiseSrc_sev (s : State) (p b : Nat) : (s.raiseSrc p b).flt.sev = s.flt.sev := by
  unfold State.raiseSrc; dsimp only; rw [setReg_flt]
@[simp] theorem setBreg_queue (s : State) (b p off : Nat) (v : Word) (q : Nat) : (s.setBreg b p off v).queue q = s.queue q := by
  unfold State.queue; rw [setBreg_cmd]
@[simp] theorem alloc_queues (s : State) (n g op : Nat) (l : List Word) (o : CmdOrigin) (cq : CqTo) (tag : Word) :
    (s.alloc n g op l o cq tag).cmd.queues = s.cmd.queues := by unfold State.alloc; rfl
@[simp] theorem taken_queues (s : State) (r : Requester) (op g n : Nat) : (s.taken r op g n).cmd.queues = s.cmd.queues := by
  unfold State.taken; dsimp only; rw [setBreg_cmd, alloc_queues]

end Sys2Proof.Machine
end

