-- ==== Sys2Proof/Laws/Settle.lean ====
section
/-! SUPPORT. What the end of a command can change when no fault waits (`SameCore`), and what acceptance and completion of a
command do. -/

namespace Sys2Proof.Machine

theorem SameCore.refl (s : State) : SameCore s s := ⟨rfl, fun _ _ => rfl⟩

theorem SameCore.trans {a b c : State} (h : SameCore a b) (k : SameCore b c) : SameCore a c :=
  ⟨k.1.trans h.1, fun i hi => (k.2 i hi).trans (h.2 i hi)⟩

/-- A change that leaves the window alone. -/
theorem sameCore_of {s t : State} (hw : t.win = s.win) (hr : t.rest = s.rest) : SameCore s t :=
  ⟨hr, fun _ _ => by rw [hw]⟩

theorem sameCore_foldl {a : State} {β : Type} {f : State → β → State} (hf : ∀ s b, SameCore a s → SameCore a (f s b))
    (l : List β) : ∀ {s : State}, SameCore a s → SameCore a (l.foldl f s) := by
  induction l with
  | nil => exact fun h => h
  | cons b t ih => exact fun h => ih (hf _ b h)

theorem sameCore_repeat {a : State} {f : State → State} (hf : ∀ s, SameCore a s → SameCore a (f s)) (n : Nat) :
    ∀ {s : State}, SameCore a s → SameCore a (Nat.repeat f n s) := by
  induction n with
  | zero => exact fun h => h
  | succ k ih => exact fun h => hf _ (ih h)

theorem store_same (s : State) (a : Nat) (b : List Byte) : SameCore s (s.store a b) := sameCore_of rfl rfl

theorem setQueue_same (s : State) (q : Nat) (x : Queue) : SameCore s (s.setQueue q x) := sameCore_of rfl rfl

theorem pushRing_same (s : State) (g : Nat) (e : UsbEntry) : SameCore s (s.pushRing g e) := sameCore_of rfl rfl

theorem setCan_same (s : State) (c : Nat) (x : CanCh) : SameCore s (s.setCan c x) := sameCore_of rfl rfl

theorem usbFlush_same (s : State) : SameCore s s.usbFlush := by
  unfold State.usbFlush
  split
  · exact SameCore.refl s
  · refine sameCore_foldl (fun b e h => ?_) _ (SameCore.refl s)
    split
    · exact h.trans (sameCore_of rfl rfl)
    · exact h

theorem raiseQueue_same (s : State) (q : Nat) : SameCore s (s.raiseQueue q) := by
  unfold State.raiseQueue
  dsimp only
  refine SameCore.trans ?_ (usbFlush_same _)
  exact sameCore_of rfl rfl

theorem checkQueue_same (s : State) (q : Nat) : SameCore s (s.checkQueue q) := by
  unfold State.checkQueue
  split
  · exact raiseQueue_same s q
  · exact SameCore.refl s

theorem post_same (s : State) (q : Nat) (f : Bool → List Byte) : SameCore s (s.post q f) := by
  unfold State.post
  dsimp only
  exact ((store_same _ _ _).trans (setQueue_same _ _ _)).trans (checkQueue_same _ _)

theorem satInc_ne_zero (w : Word) : satInc w ≠ 0 := by
  unfold satInc
  split
  · rename_i h; rw [h]; decide
  · rename_i h; bv_omega

/-- The violation counters read zero after reset. -/
theorem regReset_viol : ∀ g < 64, regReset (rkey Pg.glv (Rg.GLV_VIOL + 16 * g)) = 0 := by decide

theorem violation_same (s : State) {g : Nat} (h : g < 64) : SameCore s (s.violation g) := by
  refine ⟨violation_rest s g, fun k hk => ?_⟩
  refine Sparse.get_set_put_ne regReset _ ?_ (fun e => hk (.inr ⟨g, e⟩))
  rw [regReset_viol g h]
  exact satInc_ne_zero _

-- Errors that wait to be found (`State.sound`)

theorem Sparse.all_set {α : Type} [DecidableEq α] (d : Nat → α) (p : Nat × α → Bool) {m : Sparse α} (h : m.all p = true) {k : Nat}
    {x : α} (hx : p (k, x) = true) : (Sparse.set d m k x).all p = true := by
  unfold Sparse.set
  split
  · exact Sparse.all_erase p h k
  · exact Sparse.all_put p h hx

theorem Sparse.all_get {α : Type} (d : Nat → α) (q : α → Bool) (k : Nat) (hd : q (d k) = true) :
    ∀ {m : Sparse α}, m.all (fun e => q e.2) = true → q (Sparse.get d m k) = true
  | [], _ => hd
  | (j, v) :: t, h => by
    simp only [List.all_cons, Bool.and_eq_true] at h
    unfold Sparse.get
    split
    · exact h.1
    · split
      · exact hd
      · exact Sparse.all_get d q k hd h.2

theorem State.sound_iff (s : State) : s.sound = true ↔ s.cmd.slots.all (fun e => !e.2.spoilt) = true
    ∧ s.cmd.queues.all (fun e => !e.2.spoilt) = true ∧ s.can.all (fun e => e.2.spoilt.isEmpty) = true := by
  unfold State.sound
  simp only [Bool.and_eq_true, and_assoc]

theorem sound_queue {s : State} (h : s.sound = true) (q : Nat) : (s.queue q).spoilt = false := by
  have := Sparse.all_get (dflt {}) (fun x : Queue => !x.spoilt) q rfl (s.sound_iff.mp h).2.1
  simpa [State.queue] using this

theorem sound_slot {s : State} (h : s.sound = true) (n : Nat) : (s.slotOf n).spoilt = false := by
  have := Sparse.all_get (dflt {}) (fun x : Slot => !x.spoilt) n rfl (s.sound_iff.mp h).1
  simpa [State.slotOf] using this

theorem sound_can {s : State} (h : s.sound = true) (c : Nat) : (s.canOf c).spoilt = [] := by
  have := Sparse.all_get (dflt {}) (fun x : CanCh => x.spoilt.isEmpty) c rfl (s.sound_iff.mp h).2.2
  simpa [State.canOf] using this

/-- `t` agrees with `s` but for what the end of a command can change, and holds no error to be found either. -/
structure Calm (s t : State) : Prop where
  core : SameCore s t
  sound : t.sound = true

theorem Calm.refl {s : State} (h : s.sound = true) : Calm s s := ⟨SameCore.refl s, h⟩

theorem Calm.trans {a b c : State} (h : Calm a b) (k : Calm b c) : Calm a c := ⟨h.core.trans k.core, k.sound⟩

theorem calm_foldl {a : State} {β : Type} {f : State → β → State} (hf : ∀ s b, Calm a s → Calm a (f s b)) (l : List β) :
    ∀ {s : State}, Calm a s → Calm a (l.foldl f s) := by
  induction l with
  | nil => exact fun h => h
  | cons b t ih => exact fun h => ih (hf _ b h)

theorem calm_repeat {a : State} {f : State → State} (hf : ∀ s, Calm a s → Calm a (f s)) (n : Nat) :
    ∀ {s : State}, Calm a s → Calm a (Nat.repeat f n s) := by
  induction n with
  | zero => exact fun h => h
  | succ k ih => exact fun h => hf _ (ih h)

/-- A change of other fields keeps what `State.sound` looks at. -/
theorem sound_of {s t : State} (h : s.sound = true) (hc : t.cmd.slots = s.cmd.slots) (hq : t.cmd.queues = s.cmd.queues)
    (hn : t.can = s.can) : t.sound = true := by
  rw [State.sound_iff] at h ⊢
  rw [hc, hq, hn]
  exact h

theorem setQueue_sound {s : State} (h : s.sound = true) (q : Nat) {x : Queue} (hx : x.spoilt = false) :
    (s.setQueue q x).sound = true := by
  rw [State.sound_iff] at h ⊢
  exact ⟨h.1, Sparse.all_set _ _ h.2.1 (by simp [hx]), h.2.2⟩

theorem setSlot_sound {s : State} (h : s.sound = true) (n : Nat) {x : Slot} (hx : x.spoilt = false) :
    (s.setSlot n x).sound = true := by
  rw [State.sound_iff] at h ⊢
  exact ⟨Sparse.all_set _ _ h.1 (by simp [hx]), h.2⟩

theorem setCan_sound {s : State} (h : s.sound = true) (c : Nat) {x : CanCh} (hx : x.spoilt = []) :
    (s.setCan c x).sound = true := by
  rw [State.sound_iff] at h ⊢
  exact ⟨h.1, h.2.1, Sparse.all_set _ _ h.2.2 (by simp [hx])⟩

theorem usbFlush_sound {s : State} (h : s.sound = true) : s.usbFlush.sound = true := by
  unfold State.usbFlush
  split
  · exact h
  · refine (calm_foldl (a := s) (fun b e k => ?_) _ (Calm.refl h)).sound
    split
    · exact k.trans ⟨sameCore_of rfl rfl, sound_of k.sound rfl rfl rfl⟩
    · exact k

theorem post_calm {s : State} (h : s.sound = true) (q : Nat) (f : Bool → List Byte) : Calm s (s.post q f) := by
  refine ⟨post_same s q f, ?_⟩
  unfold State.post
  dsimp only
  have h1 : ((s.store ((s.queue q).slotAt (s.queue q).hw) (f (s.queue q).phase)).setQueue q
      { s.queue q with hw := ((s.queue q).hw + 1) % 2 ^ 32 }).sound = true := by
    refine setQueue_sound (sound_of h rfl rfl rfl) q ?_
    exact sound_queue h q
  unfold State.checkQueue
  split
  · unfold State.raiseQueue
    dsimp only
    have h2 := setQueue_sound h1 q (x := { (((s.store ((s.queue q).slotAt (s.queue q).hw) (f (s.queue q).phase)).setQueue q
      { s.queue q with hw := ((s.queue q).hw + 1) % 2 ^ 32 }).queue q) with arm := false }) (sound_queue h1 q)
    exact usbFlush_sound (sound_of h2 rfl rfl rfl)
  · exact h1

theorem queueChecked_sound {s : State} (h : s.sound = true) (q : Nat) : s.queueChecked q = s := by
  unfold State.queueChecked
  simp [sound_queue h q]

theorem ringTried_calm {s : State} (h : s.sound = true) (q : Nat) : Calm s (s.ringTried q) := by
  unfold State.ringTried
  rw [queueChecked_sound h]
  dsimp only
  split
  · have k := violation_same s (g := s.queueOwner q % 64) (Nat.mod_lt _ (by decide))
    exact ⟨k, sound_of h (congrArg (fun x => x.cmd.slots) k.1) (by unfold State.violation; rw [bump_cmd]) (by unfold State.violation; rw [bump_can])⟩
  · exact Calm.refl h

theorem completeTried_calm {s : State} (h : s.sound = true) (n : Nat) : Calm s (s.completeTried n) := by
  unfold State.completeTried
  split
  · split
    · exact ringTried_calm h _
    · exact Calm.refl h
  · exact Calm.refl h

theorem rxPut_calm {s : State} (h : s.sound = true) (q : Nat) (b : List Byte) (f : Bool → List Byte) :
    Calm s (s.rxPut q b f) := by
  have h1 : (s.store (s.queue q).rxBuf b).sound = true := sound_of h rfl rfl rfl
  have k := post_calm h1 q f
  exact ⟨(store_same _ _ _).trans k.core, k.sound⟩

theorem canMove_calm {s : State} (h : s.sound = true) (c : Nat) (one : Bool) : Calm s (s.canMove c one) := by
  unfold State.canMove
  split
  · exact Calm.refl h
  · dsimp only
    have hx := sound_can h c
    have hl : (s.canOf c).lostIn (fifoAt one ((s.canOf c).fifo one).get) 80 = false := by
      unfold CanCh.lostIn; rw [hx]; rfl
    simp only [hl, Bool.and_false, Bool.false_eq_true, if_false]
    split
    · have h1 : ∀ f, (s.setCan c ((s.canOf c).setFifo one f)).sound = true := by
        intro f
        refine setCan_sound h c ?_
        unfold CanCh.setFifo
        split <;> exact hx
      exact ⟨(setCan_same _ _ _).trans (rxPut_calm (h1 _) _ _ _).core, (rxPut_calm (h1 _) _ _ _).sound⟩
    · rw [queueChecked_sound h]
      split <;> exact Calm.refl h

theorem canDrain_calm {s : State} (h : s.sound = true) : Calm s s.canDrain := by
  unfold State.canDrain
  refine calm_foldl (fun b e h => ?_) _ (Calm.refl h)
  dsimp only
  have h1 : Calm s (if 0 < e.2.fifo0.fill then Nat.repeat (fun t => t.canMove e.1 false) e.2.fifo0.fill b else b) := by
    split
    · exact calm_repeat (fun x hx => hx.trans (canMove_calm hx.sound _ _)) _ h
    · exact h
  split
  · exact calm_repeat (fun x hx => hx.trans (canMove_calm hx.sound _ _)) _ h1
  · exact h1

theorem flushOwed_calm {s : State} (h : s.sound = true) : Calm s s.flushOwed := by
  unfold State.flushOwed
  refine calm_foldl (fun b o k => ?_) _ (Calm.refl h)
  split
  · have k1 := post_calm k.sound o.pair (fun ph => patchB (b.entryBytes o.handle o.status 3 (wd o.stamp) (wd (o.stamp / 2 ^ 32))
      (wd o.len) o.tag) 7 [if ph then 0x80 else 0])
    exact (k.trans k1).trans ⟨sameCore_of rfl rfl, sound_of k1.sound rfl rfl rfl⟩
  · exact k

/-- PG_IRQ_PEND of every page reads zero after reset. -/
theorem regReset_irqPend (p : Nat) : regReset (rkey p Hd.irqPend) = 0 := by
  have e1 : (rkey p Hd.irqPend) % 0x1000000 % 0x1000 = Hd.irqPend := by simp only [rkey, Hd.irqPend]; omega
  unfold regReset
  simp only [e1]
  simp [Hd.irqPend, Hd.run, Hd.owner]

theorem latchRaw_same (s t : State) : SameCore t (s.latchRaw t) := by
  unfold State.latchRaw
  refine sameCore_foldl (fun b p h => ?_) _ (SameCore.refl t)
  dsimp only
  split
  · exact h
  · rename_i he
    refine h.trans ⟨rfl, fun k hk => ?_⟩
    refine Sparse.get_set_put_ne regReset _ ?_ (fun e => hk (.inl ⟨p, e⟩))
    rw [regReset_irqPend]
    intro h0
    apply he
    exact (BitVec.or_eq_zero_iff.mp h0).2

theorem assertPages_same (s t : State) : SameCore t (s.assertPages t) := by
  unfold State.assertPages
  refine sameCore_foldl (fun b p h => ?_) _ (sameCore_of rfl rfl)
  split
  · dsimp only
    refine (h.trans ?_).trans (usbFlush_same _)
    refine sameCore_of rfl ?_
    unfold State.rest
    dsimp only
    split <;> rfl
  · exact h

/-- No fault waits: the collector changes nothing. -/
theorem react_none {s : State} (h : s.flt.occ = []) : s.react = s := by
  unfold State.react
  split
  · unfold State.reactAll
    simp [h]
  · rfl

theorem rest_occ {s t : State} (h : SameCore s t) : t.flt.occ = s.flt.occ := congrArg (fun x => x.flt.occ) h.1

/-- The end of a command that raised no fault, where no error waits to be found, changes only what `SameCore` leaves open. -/
theorem settled_same (s t : State) (h : t.flt.occ = []) (hs : t.sound = true) : SameCore t (s.settled t) := by
  unfold State.settled
  split
  · have h1 : SameCore t t.flushOwed.canDrain := ((flushOwed_calm hs).trans (canDrain_calm (flushOwed_calm hs).sound)).core
    have h2 : t.flushOwed.canDrain.react = t.flushOwed.canDrain := react_none (by rw [rest_occ h1, h])
    dsimp only
    rw [h2]
    split
    · exact (h1.trans (latchRaw_same _ _)).trans (assertPages_same _ _)
    · exact h1
  · exact SameCore.refl t

/-- A command that raised no fault ends in a state that agrees with its effect. -/
theorem finish_same {s t : State} (h : t.flt.occ = []) (hs : t.sound = true) : ∃ u, finish s t = .next u ∧ SameCore t u :=
  ⟨_, rfl, settled_same s t h hs⟩

-- Reading a field through `SameCore`

theorem SameCore.field {s t : State} (h : SameCore s t) {α : Type} (f : State → α) : f t.rest = f s.rest := by rw [h.1]

theorem SameCore.slots {s t : State} (h : SameCore s t) : t.cmd.slots = s.cmd.slots := h.field (fun x => x.cmd.slots)

theorem SameCore.slotOf {s t : State} (h : SameCore s t) (n : Nat) : t.slotOf n = s.slotOf n := by
  unfold State.slotOf; rw [h.slots]

theorem SameCore.reg {s t : State} (h : SameCore s t) {p off : Nat} (ho : ¬ endReg (rkey p off)) :
    t.reg p off = s.reg p off := h.2 _ ho

-- Acceptance (spec/04 R88, R91)

/-- An accepted command runs its body on the state in which it is accepted. -/
theorem issue_accepts {s : State} {r : Requester} {g n : Nat} (h : s.accepts r g n = true) (op : Nat)
    (body : Ctx → State → State) : s.issue r op body = body (s.ctx r op g n) (s.taken r op g n) := by
  simp only [State.accepts, Bool.and_eq_true, Bool.not_eq_true', decide_eq_true_eq] at h
  obtain ⟨⟨⟨⟨⟨h1, h2⟩, h3⟩, h4⟩, h5⟩, h6⟩ := h
  unfold State.issue
  simp only [h1, h3, h4, h2, State.canIssue, h6, h5, Option.isSome_some, decide_true, Bool.and_self, if_true,
    Bool.false_eq_true, if_false, Option.getD_some]
  rfl

/-- A command whose effect is given on the accepted state. -/
theorem takes_of {i : Requester → Instr} {op : Nat} {body : Ctx → State → State} {pre : Ctx → State → Prop}
    {post : Ctx → State → State} (hi : ∀ r s, exec (i r) s = finish s (s.issue r op body))
    (hb : ∀ c t, pre c t → body c t = post c t) : Takes i op pre post := by
  intro s r g n ha hp
  rw [hi, issue_accepts ha, hb _ _ hp]
  rfl

/-- A write that gets to its register has its effect there. -/
theorem onWrite_writes {s : State} {r : Requester} {g p off : Nat} (h : s.writes r g p off = true)
    (f : Nat → State → State) : s.onWrite r p off f = f g s := by
  simp only [State.writes, Bool.and_eq_true, decide_eq_true_eq, Bool.not_eq_true'] at h
  obtain ⟨⟨⟨⟨⟨h1, h2⟩, h3⟩, h4⟩, h5⟩, h6⟩ := h
  unfold State.onWrite
  simp only [h1, h2, h3, h4, h5, h6, Bool.and_self, if_true, Bool.false_eq_true, if_false]

/-- A read that gets to its register has its effect there. -/
theorem onRead_reads {s : State} {r : Requester} {g p off : Nat} (h : s.reads r g p off = true)
    (f : Nat → State → State) : s.onRead r p off f = f g s := by
  simp only [State.reads, Bool.and_eq_true, decide_eq_true_eq] at h
  obtain ⟨⟨⟨⟨h1, h2⟩, h3⟩, h4⟩, h5⟩ := h
  unfold State.onRead
  simp only [h1, h2, h3, h4, h5, Bool.and_self, if_true]

/-- Slot `n` right after acceptance. -/
theorem taken_slot (s : State) (r : Requester) (op g n : Nat) :
    (s.taken r op g n).slotOf n =
      { gen := if (s.slotOf n).gen = 0x3FFF then 1 else (s.slotOf n).gen + 1, glove := g, op := op, args := s.cmdArgs r,
        origin := .bank (bankOf r), cq := s.cmdTo r, tag := 0, phase := .inHand } := by
  unfold State.taken State.alloc State.setBreg State.slotOf State.setSlot
  dsimp only
  apply Sparse.get_set_put
  unfold dflt
  intro h
  have := congrArg Slot.phase h
  cases this

/-- CMD_TICKET is written after the slot. -/
theorem taken_slotOf (s : State) (r : Requester) (op g n k : Nat) : (s.taken r op g n).slotOf k =
    (s.alloc n g op (s.cmdArgs r) (.bank (bankOf r)) (s.cmdTo r) 0).slotOf k := by
  unfold State.taken
  dsimp only
  unfold State.slotOf
  rw [setBreg_cmd]

-- Completion (spec/04 R91 to R93)

/-- The record of a slot is never lost by what leaves the slots alone. -/
theorem freeSlot_record (s : State) (n : Nat) (h : (s.slotOf n).complete = true) :
    (s.freeSlot n).slotOf n = { s.slotOf n with phase := .free } := by
  unfold State.freeSlot State.setSlot State.slotOf
  dsimp only
  apply Sparse.get_set_put
  intro h0
  have h1 := congrArg Slot.complete h0
  unfold State.slotOf at h
  dsimp only [dflt] at h1
  rw [h] at h1
  cases h1

theorem setSlot_same (s : State) (n : Nat) {x : Slot} (h : x.complete = true) : (s.setSlot n x).slotOf n = x := by
  unfold State.setSlot State.slotOf
  dsimp only
  apply Sparse.get_set_put
  intro h0
  rw [h0] at h
  cases h

theorem checked_complete (x : Slot) : x.checked.complete = x.complete := by unfold Slot.checked; split <;> rfl

theorem checked_spoilt (x : Slot) : x.checked.spoilt = false := by
  unfold Slot.checked
  split
  · rfl
  · rename_i h; simpa using h

theorem checked_sound {x : Slot} (h : x.spoilt = false) : x.checked = x := by
  unfold Slot.checked; rw [h]; rfl

/-- A held record that is checked goes on waiting for the same queue. -/
theorem slotChecked_cq (s : State) (n : Nat) (h : (s.slotOf n).phase = .held) : ((s.slotChecked n).slotOf n).cq = (s.slotOf n).cq := by
  have hc : (s.slotOf n).checked.phase = .held := by unfold Slot.checked; split <;> exact h
  unfold State.slotChecked
  split
  · have : ((s.setSlot n (s.slotOf n).checked).slotOf n) = (s.slotOf n).checked := by
      apply Sparse.get_set_put
      intro e
      have k := congrArg Slot.phase e
      rw [hc] at k
      cases k
    have k : ∀ t : State, (t.raiseSrc Pg.cmd 0).slotOf n = t.slotOf n := fun t => by unfold State.slotOf; rw [raiseSrc_cmd]
    rw [k, this]
    unfold Slot.checked
    split <;> rfl
  · rfl

/-- The record in slot `n` that a completion leaves there, before it goes anywhere. -/
theorem complete_record (s : State) (n : Nat) {y : Slot} (hy : y.complete = true) (p : SlotPhase) :
    (s.setSlot n { y with phase := p }).slotOf n = { y with phase := p } := setSlot_same _ _ hy

/-- What a completion posts to leaves its slot's record, with status and results, as it is. -/
theorem postSlot_ended {s : State} {n st : Nat} {r0 r1 r2 : Word} (h : s.ended n st r0 r1 r2) :
    (s.postSlot n).ended n st r0 r1 r2 := by
  unfold State.postSlot
  split
  · exact h
  all_goals
    have hc : (s.slotOf n).complete = true := h.1
    unfold State.ended at h ⊢
    first
      | rw [freeSlot_record _ _ (by rw [(post_same _ _ _).slotOf]; exact hc), (post_same _ _ _).slotOf]
      | rw [freeSlot_record _ _ (by rw [(pushRing_same _ _ _).slotOf]; exact hc), (pushRing_same _ _ _).slotOf]
    exact h

theorem completeTried_slotOf (s : State) (n k : Nat) : (s.completeTried n).slotOf k = s.slotOf k := by
  have hq : ∀ (t : State) (q : Nat), (t.ringTried q).cmd.slots = t.cmd.slots := by
    intro t q
    unfold State.ringTried
    dsimp only
    have h1 : (t.queueChecked q).cmd.slots = t.cmd.slots := by
      unfold State.queueChecked
      split
      · unfold State.queueEcc; rw [raiseSrc_cmd]; rfl
      · rfl
    split
    · unfold State.violation; rw [bump_cmd]; exact h1
    · exact h1
  unfold State.completeTried State.slotOf
  split
  · split
    · rw [hq]
    · rfl
  · rfl

/-- A completed command's slot holds its status and results, wherever its completion goes; the record of one that fails its
parity check holds FAILED_INTERNAL and zeros (spec/04 R111). -/
theorem complete_ended (s : State) (n status : Nat) (r0 r1 r2 : Word) (h : (s.slotOf n).phase = .inHand) (hp : s.pfw = false) :
    (s.complete n status r0 r1 r2).ended n (if (s.slotOf n).spoilt then 0x02FF else status)
      (if (s.slotOf n).spoilt then 0 else r0) (if (s.slotOf n).spoilt then 0 else r1) (if (s.slotOf n).spoilt then 0 else r2) := by
  have key : ∀ (z : State) (x : Slot) (p : SlotPhase), (z.setSlot n { s.recordOf x status r0 r1 r2 with phase := p }).ended n
      (if x.spoilt then 0x02FF else status) (if x.spoilt then 0 else r0) (if x.spoilt then 0 else r1) (if x.spoilt then 0 else r2) := by
    intro z x p
    unfold State.ended
    rw [complete_record z n (by unfold State.recordOf; rw [checked_complete]) p]
    unfold State.recordOf Slot.checked
    cases x.spoilt <;> exact ⟨rfl, rfl, rfl, rfl, rfl⟩
  unfold State.complete
  simp only [h, hp, and_self, if_true]
  generalize (if (s.slotOf n).spoilt = true then s.raiseSrc Pg.cmd 0 else s) = z
  split
  · exact key _ _ _
  · split
    · exact postSlot_ended (key _ _ _)
    · have k := key z (s.slotOf n) .held
      unfold State.ended at k ⊢
      have : ∀ z : State, ({ z with cmd := { z.cmd with held := z.cmd.held ++ [n] } } : State).slotOf n = z.slotOf n :=
        fun z => rfl
      rw [this, completeTried_slotOf]
      exact k

/-- A completed command is in hand no longer. -/
theorem complete_phase (s : State) (n status : Nat) (r0 r1 r2 : Word) (h : (s.slotOf n).phase = .inHand) (hp : s.pfw = false) :
    ((s.complete n status r0 r1 r2).slotOf n).phase ≠ .inHand := by
  have hc : ∀ x, (s.recordOf x status r0 r1 r2).complete = true := fun x => by unfold State.recordOf; rw [checked_complete]
  unfold State.complete
  simp only [h, hp, and_self, if_true]
  generalize (if (s.slotOf n).spoilt = true then s.raiseSrc Pg.cmd 0 else s) = z
  split
  · rw [complete_record z n (hc _)]; simp
  · split
    · unfold State.postSlot
      split
      · rw [complete_record z n (hc _)]; simp
      all_goals
        first
          | rw [freeSlot_record _ _ (by rw [(post_same _ _ _).slotOf, complete_record z n (hc _)]; exact hc _)]
          | rw [freeSlot_record _ _ (by rw [(pushRing_same _ _ _).slotOf, complete_record z n (hc _)]; exact hc _)]
        simp
    · have : ∀ z : State, ({ z with cmd := { z.cmd with held := z.cmd.held ++ [n] } } : State).slotOf n = z.slotOf n :=
        fun z => rfl
      rw [this, completeTried_slotOf, complete_record z n (hc _)]; simp

theorem SameCore.ended {s t : State} (h : SameCore s t) {n st : Nat} {r0 r1 r2 : Word} (k : s.ended n st r0 r1 r2) :
    t.ended n st r0 r1 r2 := by
  unfold State.ended at k ⊢
  rw [h.slotOf]; exact k

theorem SameCore.outer {s t : State} (h : SameCore s t) : t.outer = s.outer := h.field (fun x => { x with cmd := {} })

theorem freeSlot_outer (s : State) (n : Nat) : (s.freeSlot n).outer = s.outer := rfl

theorem setSlot_outer (s : State) (n : Nat) (x : Slot) : (s.setSlot n x).outer = s.outer := rfl

/-- A completion in a state without errors to be found is that of the record alone. -/
theorem complete_sound {s : State} (hs : s.sound = true) (n status : Nat) (r0 r1 r2 : Word) :
    (s.complete n status r0 r1 r2).outer = s.outer
      ∧ ∀ k, ¬ endReg k → Sparse.get regReset (s.complete n status r0 r1 r2).win k = Sparse.get regReset s.win k := by
  have hsp := sound_slot hs n
  unfold State.complete
  simp only [hsp, Bool.false_eq_true, if_false]
  split
  · split
    · exact ⟨setSlot_outer _ _ _, fun _ _ => rfl⟩
    · split
      · unfold State.postSlot
        split
        · exact ⟨setSlot_outer _ _ _, fun _ _ => rfl⟩
        · refine ⟨?_, fun k hk => (post_same _ _ _).2 k hk⟩
          rw [freeSlot_outer, (post_same _ _ _).outer, setSlot_outer]
        · refine ⟨?_, fun _ _ => rfl⟩
          rw [freeSlot_outer, (pushRing_same _ _ _).outer, setSlot_outer]
      · have k := completeTried_calm (setSlot_sound hs n (x := { s.recordOf (s.slotOf n) status r0 r1 r2 with phase := .held })
          (checked_spoilt _)) n
        exact ⟨k.core.outer.trans (setSlot_outer _ _ _), fun j hj => k.core.2 j hj⟩
  · exact ⟨rfl, fun _ _ => rfl⟩

theorem complete_outer {s : State} (hs : s.sound = true) (n status : Nat) (r0 r1 r2 : Word) :
    (s.complete n status r0 r1 r2).outer = s.outer := (complete_sound hs n status r0 r1 r2).1

theorem complete_occ {s : State} (hs : s.sound = true) (n status : Nat) (r0 r1 r2 : Word) :
    (s.complete n status r0 r1 r2).flt.occ = s.flt.occ :=
  congrArg (fun x => x.flt.occ) (complete_outer hs n status r0 r1 r2)

-- The end of a command when nothing waits

/-- Two states with the same memory, commands and CAN channels. -/
def SameStores (s t : State) : Prop := t.mem = s.mem ∧ t.cmd = s.cmd ∧ t.can = s.can

theorem SameStores.refl (s : State) : SameStores s s := ⟨rfl, rfl, rfl⟩

theorem SameStores.trans {a b c : State} (h : SameStores a b) (k : SameStores b c) : SameStores a c :=
  ⟨k.1.trans h.1, k.2.1.trans h.2.1, k.2.2.trans h.2.2⟩

theorem sameStores_foldl {a : State} {β : Type} {f : State → β → State} (hf : ∀ s b, SameStores a s → SameStores a (f s b))
    (l : List β) : ∀ {s : State}, SameStores a s → SameStores a (l.foldl f s) := by
  induction l with
  | nil => exact fun h => h
  | cons b t ih => exact fun h => ih (hf _ b h)

theorem usbFlush_stores (s : State) : SameStores s s.usbFlush := by
  unfold State.usbFlush
  split
  · exact SameStores.refl s
  · refine sameStores_foldl (fun b e h => ?_) _ (SameStores.refl s)
    split
    · exact h.trans ⟨rfl, rfl, rfl⟩
    · exact h

theorem latchRaw_stores (s t : State) : SameStores t (s.latchRaw t) := by
  unfold State.latchRaw
  refine sameStores_foldl (fun b p h => ?_) _ (SameStores.refl t)
  dsimp only
  split
  · exact h
  · exact h.trans ⟨setReg_mem _ _ _ _, setReg_cmd _ _ _ _, setReg_can _ _ _ _⟩

theorem assertPages_stores (s t : State) : SameStores t (s.assertPages t) := by
  unfold State.assertPages
  refine sameStores_foldl (fun b p h => ?_) _ ⟨rfl, rfl, rfl⟩
  split
  · dsimp only
    exact (h.trans (by exact ⟨rfl, rfl, rfl⟩)).trans (usbFlush_stores _)
  · exact h

theorem flushOwed_none {s : State} (h : s.cmd.owed = []) : s.flushOwed = s := by
  unfold State.flushOwed; rw [h]; rfl

theorem canDrain_none {s : State} (h : s.can.all (fun e => e.2.fifo0.fill == 0 && e.2.fifo1.fill == 0) = true) :
    s.canDrain = s := by
  unfold State.canDrain
  rw [List.all_eq_true] at h
  generalize hl : s.can = l at h
  have key : ∀ (l : Sparse CanCh) (b : State), (∀ e ∈ l, (e.2.fifo0.fill == 0 && e.2.fifo1.fill == 0) = true) →
      l.foldl (fun a e =>
        let b := if 0 < e.2.fifo0.fill then Nat.repeat (fun t => t.canMove e.1 false) e.2.fifo0.fill a else a
        if 0 < e.2.fifo1.fill then Nat.repeat (fun t => t.canMove e.1 true) e.2.fifo1.fill b else b) b = b := by
    intro l
    induction l with
    | nil => exact fun b _ => rfl
    | cons e t ih =>
      intro b he
      have h0 := he e (List.mem_cons_self ..)
      simp only [Bool.and_eq_true, beq_iff_eq] at h0
      rw [List.foldl_cons]
      simp only [h0.1, h0.2, Nat.lt_irrefl, if_false]
      exact ih b (fun x hx => he x (List.mem_cons_of_mem _ hx))
  exact key l s h

/-- With nothing waiting the end of a command changes no byte, no queue and no CAN channel. -/
theorem idle_settled (s u : State) (h : u.idle = true) : SameStores u (s.settled u) := by
  simp only [State.idle, Bool.and_eq_true, List.isEmpty_iff] at h
  unfold State.settled
  split
  · dsimp only
    rw [flushOwed_none h.1.2, canDrain_none h.2, react_none h.1.1]
    split
    · exact (latchRaw_stores _ _).trans (assertPages_stores _ _)
    · exact SameStores.refl u
  · exact SameStores.refl u

-- The Caddy (spec/10 R284, R287)

/-- What reaches the Caddy counts only by what it makes of the Caddy. -/
theorem onCaddy_congr {s : State} {f g : CdySt → CdySt} (h : f s.cdy = g s.cdy) : s.onCaddy f = s.onCaddy g := by
  unfold State.onCaddy
  dsimp only
  rw [h]

/-- An error that strikes data at rest changes nothing but the slots and queues and the CAN channels. -/
theorem struck_frame (s : State) (k : Strike) : s.struck k = { s with cmd := (s.struck k).cmd, can := (s.struck k).can } := by
  cases k <;> rfl

theorem strikes_frame (l : List Strike) : ∀ s : State,
    l.foldl State.struck s = { s with cmd := (l.foldl State.struck s).cmd, can := (l.foldl State.struck s).can } := by
  induction l with
  | nil => exact fun _ => rfl
  | cons k t ih =>
    intro s
    rw [List.foldl_cons, ih, struck_frame]

end Sys2Proof.Machine
end

