-- ==== Sys2Proof/Tests/Slice0.lean ====
section
/-! SUPPORT. Tests: ill-formed commands are refused, single steps give the values worked out from the spec, and every statement
with hypotheses has states that meet them. -/

set_option linter.unusedVariables false

namespace Sys2Proof.Tests

set_option Elab.async false

open Sys2Proof Sys2Proof.Machine

-- Small states

/-- A module in RUN; glove 1 has eight slots and the second 2 MiB of DRAM, and core 1 is its; the PCI Express link is
up. -/
def up : State :=
  { State.reset with
    sys := { mode := .run, boot := false, safeN := false, stage := .entered },
    coreGlove := [(1, 1)],
    pci := { State.reset.pci with linkUp := true },
    glv := { table := [(1, ⟨true, 1, 1, 8⟩)] } }

/-- CMD_ARG0 onward of bank `b`. -/
def args (b : Nat) : List Word → Nat → State → State
  | [], _, s => s
  | w :: t, k, s => args b t (k + 1) (s.setBreg b Pg.cmd (Rg.CMD_ARG + 4 * k) w)

/-- The USB device configured, and its page RUNNING. -/
def usbUp : State :=
  { up.setCur Pg.usb 2 with usb := { dstate := 4, vbus := true }, clk := { up.clk with usbPll := true } }

/-- Arguments of the physical function, which is of glove 0. -/
def pf (l : List Word) (s : State) : State := args 8 l 0 s

/-- Arguments of core 1, which is of glove 1. -/
def core1 (l : List Word) (s : State) : State := args 1 l 0 s

/-- A defined PID loop from channel A, shadow in B, that runs each tick, and nothing else. -/
def loopDesc : List Byte := leBytes 4 0x80400000 ++ List.replicate 124 0

/-- A loop table with that loop at place 0; CES and CEA A run. -/
def loops : State :=
  (((up.setReg Pg.ces Rg.CES_LT_BASE_HI 1).setCur Pg.ces 2).setCur (Pg.cea 0) 2).store dramBase loopDesc

/-- A defined task with Kettle A as its owner, B its shadow, a cycle of 1 ms, and END alone in its call list. -/
def taskDesc : List Byte := leBytes 4 0x80000040 ++ leBytes 4 1 ++ leBytes 4 0 ++ leBytes 4 1 ++ List.replicate 48 0

/-- A role started in channel A. -/
def role : Role := { started := true, copy := loopDesc }

/-- A task role started in Kettle A. -/
def taskRole : TaskRole := { started := true, copy := { desc := taskDesc } }

/-- Group 0 of the group table: glove 0, one value, over port 0; LSE runs. -/
def leases (x : GroupSt) : State :=
  let s := up.setCur Pg.lse 2
  { s with lse := { s.lse with gt := [(0, ⟨false, false, 0, 0, 1, 0, 0, 0, 0, [0], [0]⟩)], groups := [(0, x)] } }

/-- Some state, requester, glove and slot meet what a statement asks of a command: it is accepted, and `pre` holds. -/
abbrev Met (op : Nat) (pre : Ctx → State → Prop) : Prop :=
  ∃ (s : State) (r : Requester) (g n : Nat), s.accepts r g n = true ∧ pre (s.ctx r op g n) (s.taken r op g n)

/-- States that meet the hypotheses of `Obligations.StepRunsTheFrontCommand`. -/
theorem meets_step_runs_the_front_command :
    (∃ (s : State) (c : Instr) (rest : List Instr), s.pending = c :: rest)
    ∧ (∃ (s : State), s.pending = []) :=
  ⟨⟨{ up with pending := [.nop .pf] }, _, _, rfl⟩,
   ⟨up, by decide +kernel⟩⟩

/-- States that meet the hypotheses of `Obligations.CanonicalFormIsKept`. -/
theorem meets_canonical_form_is_kept :
    ∃ (s t : State), s.canon = true ∧ step s = .next t := ⟨up, _, by decide +kernel, rfl⟩

/-- States that meet the hypotheses of `Obligations.RollbackNeverFalls`. -/
theorem meets_rollback_never_falls :
    (∃ (s t : State), s.upd.rollback ≤ 64 ∧ step s = .next t)
    ∧ (Met 0x0A01 (fun c t => let h := t.load (c.addr 1) 512
    t.bufOk c (c.addr 1) (512 + (if hdrFormat h = true then 48 * hdrChunks h else 0)) = true
    ∧ (c.b 0 0 = true → c.f 0 8 7 ≠ 0) ∧ c.tenant = false ∧ (t.sys.trial = true ∨ t.upd.record.armed ≠ none))) :=
  ⟨⟨up, _, by decide +kernel, rfl⟩,
   ⟨pf [0x101, 0, 1] { up with sys := { up.sys with trial := true } }, .pf, 0, 0, by decide +kernel⟩⟩

/-- States that meet the hypotheses of `Obligations.NoCommandTouchesTheQueue`. -/
theorem meets_no_command_touches_the_queue :
    ∃ (c : Instr) (s t : State), exec c s = .next t := ⟨.nop .pf, up, _, rfl⟩

/-- States that meet the hypotheses of `Obligations.EndOfCommandFrame`. -/
theorem meets_end_of_command_frame :
    (∃ (u : State), u.flt.occ = [] ∧ u.sound = true)
    ∧ (∃ (u : State), u.idle = true) :=
  ⟨⟨up, by decide +kernel⟩,
   ⟨up, by decide +kernel⟩⟩

/-- States that meet the hypotheses of `Obligations.AcceptanceTakesASlot`. -/
theorem meets_acceptance_takes_a_slot :
    ∃ (s : State) (r : Requester) (g n : Nat), s.canon = true ∧ s.accepts r g n = true
      ∧ ∃ (k : Nat), k ≠ bkey (bankOf r) Pg.cmd Rg.CMD_TICKET := ⟨up, .core 1, 1, 0, by decide +kernel, by decide +kernel, 0, by decide +kernel⟩

/-- States that meet the hypotheses of `Obligations.CompletionRecordsTheResult`. -/
theorem meets_completion_records_the_result :
    (∃ (s : State), s.pfw = true)
    ∧ (∃ (s : State) (n : Nat), (s.slotOf n).phase = .inHand ∧ s.pfw = false ∧ s.sound = true
      ∧ ∃ (p : Nat) (off : Nat), ¬ endReg (rkey p off))
    ∧ (∃ (s : State) (n : Nat), (s.slotOf n).phase = .inHand ∧ s.pfw = false ∧ (s.slotOf n).cq = .poll
      ∧ (s.slotOf n).spoilt = false)
    ∧ (∃ (s : State) (n : Nat), (s.slotOf n).phase = .inHand ∧ s.pfw = false ∧ (s.slotOf n).cq = .poll
      ∧ ∃ (k : Nat), k ≠ n) :=
  ⟨⟨{ up with pwr := { up.pwr with seq := .running none } }, by decide +kernel⟩,
   ⟨up.alloc 5 0 1 [] (.bank 8) (.queue 3) 0, 5, by decide +kernel, by decide +kernel, by decide +kernel, Pg.ain, 0, by
      rintro (⟨p, h⟩ | ⟨g, h⟩)
      · simp only [rkey, Hd.irqPend] at h; omega
      · simp only [rkey, Pg.ain, Pg.glv, Rg.GLV_VIOL] at h; omega⟩,
   ⟨up.alloc 5 0 1 [] (.bank 8) .poll 0, 5, by decide +kernel⟩,
   ⟨up.alloc 5 0 1 [] (.bank 8) .poll 0, 5, by decide +kernel, by decide +kernel, by decide +kernel, 4, by decide +kernel⟩⟩

/-- States that meet the hypotheses of `Obligations.CommandsAreTurnedAway`. -/
theorem meets_commands_are_turned_away :
    (∃ (s : State) (r : Requester) (g n : Nat), s.coreUp = true ∧ s.pfw = false ∧ s.gloveOf r = some g
      ∧ s.active g = false ∧ s.heldBy g < (s.glove g).quota ∧ s.nextSlot = some n)
    ∧ (∃ (s : State) (r : Requester) (g : Nat), s.canon = true ∧ s.coreUp = true ∧ s.gloveOf r = some g
      ∧ s.active g = true ∧ (s.pfw = true ∨ s.canIssue g = false))
    ∧ (Met 0x0201 (fun c _ => c.tenant = true ∧ c.f 1 0 13 ≤ 4096 ∧ (c.f 0 0 6 ≠ 0 → c.f 2 0 13 + c.f 2 16 13 ≤ 4096)))
    ∧ (Met 0x0202 (fun c _ => c.tenant = true))
    ∧ (Met 0x0203 (fun c _ => c.tenant = true ∧ c.f 0 0 6 ≠ 0))
    ∧ (Met 0x0102 (fun c _ => c.tenant = true))
    ∧ (Met 0x0103 (fun c _ => c.tenant = true))
    ∧ (Met 0x0104 (fun c _ => c.tenant = true))
    ∧ (Met 0x0105 (fun c _ => c.tenant = true))
    ∧ (Met 0x0B01 (fun c _ => c.tenant = true)) :=
  ⟨⟨{ up with coreGlove := [(1, 2)], glv := { table := [(2, ⟨false, 1, 1, 1⟩)] } }, .core 1, 2, 0, by decide +kernel⟩,
   ⟨{ up with glv := { table := [(1, ⟨true, 1, 1, 0⟩)] } }, .core 1, 1, by decide +kernel⟩,
   ⟨core1 [1, 4096, 4096] up, .core 1, 1, 0, by decide +kernel⟩,
   ⟨up, .core 1, 1, 0, by decide +kernel⟩,
   ⟨core1 [63] up, .core 1, 1, 0, by decide +kernel⟩,
   ⟨up, .core 1, 1, 0, by decide +kernel⟩,
   ⟨up, .core 1, 1, 0, by decide +kernel⟩,
   ⟨up, .core 1, 1, 0, by decide +kernel⟩,
   ⟨up, .core 1, 1, 0, by decide +kernel⟩,
   ⟨up, .core 1, 1, 0, by decide +kernel⟩⟩

/-- States that meet the hypotheses of `Obligations.HandlesHaveTheirFields`. -/
theorem meets_handles_have_their_fields :
    ∃ (s : State) (r : Requester) (g n : Nat), s.canon = true ∧ s.accepts r g n = true ∧ g < 64 ∧ n < 4096
      ∧ (s.slotOf n).gen ≤ 0x3FFF := ⟨{ up with cmd := { slots := [(4095, { gen := 0x3FFF })], fresh := 4096, freed := [4095] } }, .core 1, 1, 4095, by decide +kernel⟩

/-- States that meet the hypotheses of `Obligations.QueueCommandsComplete`. -/
theorem meets_queue_commands_complete :
    (Met 0x0001 (fun _ _ => True))
    ∧ (Met 0x0002 (fun c t => queueShape (c.f 1 0 3) (c.b 1 8) (c.f 1 16 5) = true ∧ c.addr 2 % 4096 = 0
    ∧ queueSelector c (c.f 1 0 3) = true ∧ t.queueOwner (c.f 0 0 15) = c.g
    ∧ ((c.f 1 0 3 = 3 ∨ c.f 1 0 3 = 4) → canSource (c.f 5 0 8) = true → t.owner (c.f 5 0 8) = c.g)
    ∧ ((c.f 1 0 3 = 0 ∨ c.f 1 0 3 = 4) → c.b 4 31 = true → t.queueOwner (c.f 4 0 15) = c.g)
    ∧ (t.queue (c.f 0 0 15)).live = false ∧ t.queueClash c (c.f 1 0 3) = false))
    ∧ (Met 0x0003 (fun c t => t.queueOwner (c.f 0 0 15) = c.g ∧ (t.queue (c.f 0 0 15)).live = true))
    ∧ (Met 0x0004 (fun c t => t.queueOwner (c.f 0 0 15) = c.g ∧ (t.queue (c.f 0 0 15)).live = true))
    ∧ (∃ (op : Nat), (∀ e ∈ cmdTable false, e.1 ≠ op) ∧ Met op (fun _ _ => True)) :=
  ⟨⟨up, .core 1, 1, 0, by decide +kernel⟩,
   ⟨core1 [128, 0x100001, 0x200000, 1] { up with glv := { up.glv with qmap := [(1, 1)] } }, .core 1, 1, 0, by decide +kernel⟩,
   ⟨pf [0x7FFF] (up.setQueue 0x7FFF { live := true }), .pf, 0, 0, by decide +kernel⟩,
   ⟨pf [0x7FFF] (up.setQueue 0x7FFF { live := true }), .pf, 0, 0, by decide +kernel⟩,
   ⟨0xFFFF, by decide +kernel, up, .pf, 0, 0, by decide +kernel⟩⟩

/-- States that meet the hypotheses of `Obligations.SlotsAreFreed`. -/
theorem meets_slots_are_freed :
    (∃ (s : State) (r : Requester) (g n : Nat), s.reads r g Pg.cmd Rg.CMD_POLL_STAT = true
      ∧ s.polled (bankOf r) g = some n)
    ∧ (∃ (s : State) (n : Nat), s.coreUp = true ∧ (s.slotOf n).phase = .done)
    ∧ (∃ (s : State) (n q : Nat), s.coreUp = true ∧ (s.slotOf n).phase = .held ∧ (s.slotOf n).cq = .queue q
      ∧ s.cmd.held.find? (fun k => decide ((s.slotOf k).cq = .queue q)) = some n ∧ s.canComplete n = true) :=
  ⟨⟨(up.alloc 7 0 1 [] (.bank 8) .poll 0).setBreg 8 Pg.cmd Rg.CMD_POLL 0x1007, .pf, 0, 7, by decide +kernel⟩,
   ⟨(up.alloc 7 0 1 [] (.bank 8) .poll 0).complete 7 0, 7, by decide +kernel⟩,
   ⟨(((up.setQueue 3 { live := true, kind := 1, log2n := 4, base := 0x100000000, hw := 16 }).alloc 7 0 1 [] (.bank 8) (.queue 3) 0).complete 7 0).setQueue 3
       { live := true, kind := 1, log2n := 4, base := 0x100000000, hw := 16, sw := 1 }, 7, 3, by decide +kernel⟩⟩

/-- States that meet the hypotheses of `Obligations.EntriesBecomeCommands`. -/
theorem meets_entries_become_commands :
    (∃ (s : State) (q n : Nat), s.coreUp = true ∧ s.pfw = false ∧ s.canTake q = true ∧ (s.queue q).kind = 0
      ∧ s.active (s.queueOwner q) = true ∧ s.canIssue (s.queueOwner q) = true ∧ s.nextSlot = some n)
    ∧ (∃ (s : State) (g n : Nat), s.usbAwake = true ∧ s.sys.mode ≠ .recovery ∧ s.usb.session = some g
      ∧ s.active g = true ∧ s.pfw = false ∧ s.canIssue g = true ∧ s.nextSlot = some n) :=
  ⟨⟨up.setQueue 3 { live := true, wide := true, log2n := 4, base := 0x100000000, sw := 16 }, 3, 0, by decide +kernel⟩,
   ⟨{ usbUp with usb := { usbUp.usb with session := some 1 } }, 1, 0, by decide +kernel⟩⟩

/-- States that meet the hypotheses of `Obligations.DoorbellsWork`. -/
theorem meets_doorbells_work :
    (∃ (s : State) (r : Requester) (g q : Nat), s.rings r g q = true)
    ∧ (∃ (s : State) (r : Requester) (g q : Nat), s.coreUp = true ∧ s.gloveOf r = some g ∧ s.isFatal = false
      ∧ s.bellMine g q = false) :=
  ⟨⟨up.setQueue 3 { live := true }, .pf, 0, 3, by decide +kernel⟩,
   ⟨up, .core 1, 1, 3, by decide +kernel⟩⟩

/-- States that meet the hypotheses of `Obligations.GloveCommandsComplete`. -/
theorem meets_glove_commands_complete :
    (Met 0x0201 (fun c t => c.tenant = false ∧ c.f 0 0 6 ≠ 0 ∧ c.f 1 0 13 ≤ 4096 ∧ c.f 2 0 13 + c.f 2 16 13 ≤ 4096
    ∧ (c.b 0 8 = true → ∀ k < 63, k + 1 ≠ c.f 0 0 6 → (t.glove (k + 1)).active = true →
    overlaps (dramBase + c.f 2 0 13 * 0x200000, c.f 2 16 13 * 0x200000) (t.region (k + 1)) = false)
    ∧ ((t.glove (c.f 0 0 6)).active = true → c.b 0 8 = false → t.ownsAny (c.f 0 0 6) = false)
    ∧ t.ringOutside (c.f 0 0 6) (dramBase + c.f 2 0 13 * 0x200000, c.f 2 16 13 * 0x200000) = false
    ∧ t.reclaiming (c.f 0 0 6) = false))
    ∧ (Met 0x0201 (fun c t => c.tenant = false ∧ c.f 0 0 6 = 0 ∧ c.f 1 0 13 ≤ 4096 ∧ t.reclaiming 0 = false))
    ∧ (Met 0x0202 (fun c t => c.tenant = false ∧ t.queuesWith (fun q _ => q / 128 == c.f 0 0 8) = []))
    ∧ (Met 0x0203 (fun c t => c.f 0 0 6 ≠ 0 ∧ c.tenant = false ∧ t.worksFor (c.f 0 0 6) = false
    ∧ (∀ p ∈ t.pagesOf (c.f 0 0 6), runCtrl p = true → t.stopped p = true) ∧ t.reclaiming (c.f 0 0 6) = false))
    ∧ (∃ (s : State) (k : Reclaim) (m n : Nat), s.coreUp = true
      ∧ s.glv.reclaims.find? (fun r => r.glove == m) = some k ∧ k.slot = some n)
    ∧ (∃ (s : State) (k : Reclaim) (m : Nat), s.canon = true ∧ s.idle = true ∧ s.coreUp = true
      ∧ s.glv.reclaims.find? (fun r => r.glove == m) = some k ∧ k.slot = none) :=
  ⟨⟨pf [0x13F, 4096, 0x10FFF] up, .pf, 0, 0, by decide +kernel⟩,
   ⟨pf [0, 4096] up, .pf, 0, 0, by decide +kernel⟩,
   ⟨pf [255] up, .pf, 0, 0, by decide +kernel⟩,
   ⟨pf [1] up, .pf, 0, 0, by decide +kernel⟩,
   ⟨{ up with glv := { up.glv with reclaims := [⟨1, some 4, 0, 0⟩] } }, _, 1, _, by decide +kernel, rfl, rfl⟩,
   ⟨{ up with glv := { up.glv with reclaims := [⟨1, none, 0, 0⟩] } }, _, 1, by decide +kernel, by decide +kernel, by decide +kernel, rfl, rfl⟩⟩

/-- States that meet the hypotheses of `Obligations.PageRunStates`. -/
theorem meets_page_run_states :
    (∃ (s : State) (r : Requester) (g p : Nat), s.canon = true ∧ s.writes r g p Hd.run = true ∧ runCtrl p = true
      ∧ s.cur p = 0 ∧ pageKind p ≠ some .can)
    ∧ (∃ (s : State) (r : Requester) (g p : Nat), s.writes r g p Hd.run = true ∧ runCtrl p = true
      ∧ pageKind p = some .can)
    ∧ (∃ (s : State) (r : Requester) (g p : Nat), s.canon = true ∧ s.writes r g p Hd.run = true ∧ runCtrl p = true
      ∧ s.stopBarred p = false ∧ s.cur p = 2)
    ∧ (∃ (s : State) (r : Requester) (g p : Nat), s.writes r g p Hd.run = true ∧ runCtrl p = true ∧ s.stopBarred p = true)
    ∧ (∃ (s : State) (p : Nat), s.coreUp = true ∧ runCtrl p = true ∧ s.cur p = 1
      ∧ (p = Pg.tpi → s.sys.boot = true → s.cur Pg.ptb ≠ 1))
    ∧ (∃ (s : State) (p : Nat), s.coreUp = true ∧ runCtrl p = true ∧ s.cur p = 3 ∧ s.workEnded p = true ∧ p ≠ Pg.ain
      ∧ p ≠ Pg.pin ∧ p ≠ Pg.dio)
    ∧ (∃ (s : State), s.canon = true) :=
  ⟨⟨up, .pf, 0, Pg.ain, by decide +kernel⟩,
   ⟨up, .pf, 0, Pg.can 7, by decide +kernel⟩,
   ⟨up.setCur Pg.ain 2, .pf, 0, Pg.ain, by decide +kernel⟩,
   ⟨up, .pf, 0, Pg.cea 3, by decide +kernel⟩,
   ⟨up.setCur Pg.ain 1, Pg.ain, by decide +kernel⟩,
   ⟨up.setCur Pg.ces 3, Pg.ces, by decide +kernel⟩,
   ⟨up, by decide +kernel⟩⟩

/-- States that meet the hypotheses of `Obligations.PageOwnersAndEvents`. -/
theorem meets_page_owners_and_events :
    (∃ (s : State) (r : Requester) (p : Nat), s.writes r 0 p Hd.owner = true ∧ ownerFixed p = false
      ∧ isGvwPage p = false)
    ∧ (∃ (s : State) (p f : Nat), s.coreUp = true ∧ p < 0x1000 ∧ s.pageEvent p = true ∧ s.fnFor (s.owner p) = some f
      ∧ s.pci.fnEdge.contains (8, p) = true) :=
  ⟨⟨up, .pf, Pg.ain, by decide +kernel⟩,
   ⟨{ ((up.setReg Pg.ain Hd.irqEn 1).setReg Pg.ain Hd.irqPend 1) with pci := { up.pci with fnEdge := [(8, Pg.ain)] } }, Pg.ain, 0, by decide +kernel⟩⟩

/-- States that meet the hypotheses of `Obligations.PageStatusReads`. -/
theorem meets_page_status_reads :
    ∃ (p : Nat), pageKind p ≠ some .cdy ∧ pageKind p ≠ some .rs ∧ pageKind p ≠ some .fp ∧ pageKind p ≠ some .can := ⟨Pg.ain, by decide +kernel⟩

/-- States that meet the hypotheses of `Obligations.RegistersAreWritten`. -/
theorem meets_registers_are_written :
    (∃ (s : State) (r : Requester) (g p o : Nat), p < 4096 ∧ o < 4096 ∧ o % 4 = 0 ∧ isQdb p = false
      ∧ (p, o) ≠ (Pg.cmd, Rg.CMD_OP) ∧ s.writes r g p o = true)
    ∧ (∃ (s : State) (r : Requester) (g p o : Nat), p < 4096 ∧ o < 4096 ∧ o % 4 = 0 ∧ isQdb p = false
      ∧ (p, o) ≠ (Pg.cmd, Rg.CMD_OP) ∧ s.coreUp = true ∧ s.hasPage p = true ∧ s.gloveOf r = some g
      ∧ (s.active g && s.mayWrite g p o) = false)
    ∧ (∃ (s : State) (p o : Nat) (x : RegRow), regRow p o = some x ∧ x.w1c = 0 ∧ x.rws ≠ 0 ∧ s.stopped p = false)
    ∧ (∃ (s : State) (p o : Nat) (x : RegRow), regRow p o = some x ∧ x.w1c = 0 ∧ x.rws ≠ 0 ∧ s.stopped p = true)
    ∧ (∃ (p o : Nat) (x : RegRow), regRow p o = some x ∧ x.w1c = 0 ∧ x.rws = 0 ∧ x.rw ≠ 0)
    ∧ (∃ (p o : Nat) (x : RegRow), regRow p o = some x ∧ x.w1c = 0 ∧ x.rws = 0 ∧ x.rw = 0)
    ∧ (∃ (x : Nat), x < 0x1000000 ∧ x % 8 = 0)
    ∧ (∃ (x : Nat), x < 0x1000000 ∧ ∃ (n : Nat), (n = 4 → x % 4 ≠ 0) ∧ (n = 8 → x % 8 ≠ 0))
    ∧ (∃ (s : State) (x : Nat), s.coreUp = true ∧ x < 0x1000000 ∧ x % 4 = 0)
    ∧ (∃ (s : State) (x : Nat), s.coreUp = true ∧ x < 0x1000000 ∧ ∃ (n : Nat), x % n ≠ 0)
    ∧ (∃ (s : State), s.coreUp = true) :=
  ⟨⟨up, .pf, 0, Pg.ain, Rg.AIN_DISCARDS, by decide +kernel⟩,
   ⟨up, .core 1, 1, Pg.ain, Rg.AIN_DISCARDS, by decide +kernel⟩,
   ⟨up.setCur Pg.ain 2, Pg.ain, Rg.AIN_RANGE, _, rfl, by decide +kernel⟩,
   ⟨up, Pg.ain, Rg.AIN_RANGE, _, rfl, by decide +kernel⟩,
   ⟨Pg.ain, Rg.AIN_DISCARDS, _, rfl, by decide +kernel⟩,
   ⟨Pg.ain, Rg.AIN_CLAMP, _, rfl, by decide +kernel⟩,
   ⟨0xFFFFF8, by decide +kernel⟩,
   ⟨0xFFFFFF, by decide +kernel, 4, by decide +kernel⟩,
   ⟨up, 0xFFFFFC, by decide +kernel⟩,
   ⟨up, 0xFFFFFF, by decide +kernel, by decide +kernel, 4, by decide +kernel⟩,
   ⟨up, by decide +kernel⟩⟩

/-- States that meet the hypotheses of `Obligations.MemoryIsWritten`. -/
theorem meets_memory_is_written :
    (∃ (s : State) (r : Requester) (g a n : Nat), s.canon = true ∧ s.idle = true ∧ s.coreUp = true
      ∧ s.gloveOf r = some g ∧ s.active g = true ∧ r ≠ .usb ∧ inDram a n = true ∧ s.memOk g a n = true)
    ∧ (∃ (s : State) (r : Requester) (g a n : Nat), s.coreUp = true ∧ s.gloveOf r = some g ∧ r ≠ .usb
      ∧ (s.active g = false ∨ inDram a n = true ∧ s.memOk g a n = false) ∧ windowOff r a = none
      ∧ bar4Off r a = none ∧ (∀ c, r = .core c → ¬ (0x41000000 ≤ a ∧ a < 0x41001000))) :=
  ⟨⟨up, .pf, 0, dramEnd - 8, 8, by decide +kernel⟩,
   ⟨up, .core 1, 1, dramBase, 8, by decide +kernel⟩⟩

/-- States that meet the hypotheses of `Obligations.ModeCommandsComplete`. -/
theorem meets_mode_commands_complete :
    (∃ (s : State) (r : Requester), s.writes r 0 Pg.sys Rg.SYS_RESTART_POLICY = true)
    ∧ (∃ (s : State) (r : Requester) (v : Word), s.writes r 0 Pg.sys Rg.SYS_RESET = true ∧ bf v 16 16 = 0x5EB0
      ∧ bf v 0 4 = 1 ∧ s.pwr.seq = .off)
    ∧ (Met 0x0102 (fun c t => c.tenant = false ∧ t.isFatal = false ∧ t.sys.mode = .commission ∧ t.modeBusy c = false))
    ∧ (Met 0x0103 (fun c t => c.tenant = false ∧ t.isFatal = false ∧ (t.sys.mode = .run ∨ t.sys.mode = .degraded)
      ∧ t.modeBusy c = false))
    ∧ (Met 0x0104 (fun c t => c.tenant = false ∧ t.live = true ∧ t.modeBusy c = false))
    ∧ (Met 0x0101 (fun c t => c.f 0 0 2 = 2 ∧ c.tenant = false ∧ t.isFatal = false
      ∧ (t.sys.mode = .safe ∨ t.sys.mode = .commission)
    ∧ t.modeBusy c = false))
    ∧ (∃ (s : State) (n : Nat), s.coreUp = true ∧ s.restartSlot = some n ∧ s.sys.restartTest = true
      ∧ s.lse.selftestHit = []) :=
  ⟨⟨up, .pf, by decide +kernel⟩,
   ⟨up, .pf, 0x5EB00001, by decide +kernel⟩,
   ⟨{ up with sys := { up.sys with mode := .commission } }, .pf, 0, 0, by decide +kernel⟩,
   ⟨up, .pf, 0, 0, by decide +kernel⟩,
   ⟨up, .pf, 0, 0, by decide +kernel⟩,
   ⟨pf [2] { up with sys := { up.sys with mode := .safe } }, .pf, 0, 0, by decide +kernel⟩,
   ⟨{ up.alloc 4 0 0x101 [] (.bank 8) .poll 0 with sys := { up.sys with restartTest := true } }, 4, by decide +kernel⟩⟩

/-- States that meet the hypotheses of `Obligations.SavingTakesTheJournal`. -/
theorem meets_saving_takes_the_journal :
    (Met 0x0105 (fun c t => c.tenant = false ∧ t.isFatal = false ∧ t.savingNow = false))
    ∧ (Met 0x0B01 (fun c t => c.tenant = false ∧ t.isFatal = false))
    ∧ (∃ (s : State) (n : Nat) (r : CfgRec) (rest : List Journal), s.coreUp = true
      ∧ s.nv.journal = ⟨some n, .save r⟩ :: rest)
    ∧ (∃ (s : State) (n : Nat) (e : CfgEdit) (rest : List Journal), s.coreUp = true ∧ s.nv.journal = ⟨some n, e⟩ :: rest) :=
  ⟨⟨up, .pf, 0, 0, by decide +kernel⟩,
   ⟨up, .pf, 0, 0, by decide +kernel⟩,
   ⟨{ up with nv := { up.nv with journal := [⟨some 4, .save {}⟩] } }, _, _, _, by decide +kernel, rfl⟩,
   ⟨{ up with nv := { up.nv with journal := [⟨some 4, .view 1 1⟩] } }, _, _, _, by decide +kernel, rfl⟩⟩

/-- States that meet the hypotheses of `Obligations.SeveritiesAreWritten`. -/
theorem meets_severities_are_written :
    (∃ (s : State) (r : Requester) (g : Nat), s.writes r g Pg.flt Rg.FLT_SEV = true ∧ 
    let src := bf (s.breg (bankOf r) Pg.flt Rg.FLT_SEL) 0 13
    (srcRow src).isSome = true)
    ∧ (∃ (s : State) (r : Requester) (g : Nat) (v : Word), s.writes r g Pg.flt Rg.FLT_CTRL = true
      ∧ bf v 16 16 = 0x5EB0 ∧ bit v 0 = true) :=
  ⟨⟨up.setBreg 8 Pg.flt Rg.FLT_SEL (wd (Pg.ain * 32)), .pf, 0, by decide +kernel⟩,
   ⟨up, .pf, 0, 0x5EB00001, by decide +kernel⟩⟩

/-- States that meet the hypotheses of `Obligations.StartupRuns`. -/
theorem meets_startup_runs :
    (∃ (s : State), s.sys.mode = .backup ∧ s.rtc.lost = false ∧ s.vbat.tamper = false)
    ∧ (∃ (s : State), s.sys.stage = .regulators ∧ s.clk.resetLow = false ∧ s.pwr.seq = .off)
    ∧ (∃ (s : State), s.sys.stage = .resetEnded ∧ s.coreUp = true ∧ s.pwr.seq = .off ∧ s.nv.restart.ok = true
      ∧ s.nv.restart.lastStop ≠ 2)
    ∧ (∃ (s : State), s.sys.stage = .resetEnded ∧ s.coreUp = true ∧ s.pwr.seq = .off ∧ s.nv.restart.lastStop ≠ 2)
    ∧ (∃ (s : State), s.sys.stage = .tested ∧ s.coreUp = true ∧ s.isFatal = false ∧ s.pwr.seq = .off
      ∧ s.sys.recovStrap = false ∧ s.upd.record.ok = true ∧ s.upd.record.armed = none)
    ∧ (∃ (s : State) (n : Nat), s.sys.stage = .tested ∧ s.coreUp = true ∧ s.isFatal = false ∧ s.pwr.seq = .off
      ∧ s.sys.recovStrap = false ∧ s.upd.record.ok = true ∧ s.upd.record.armed = some n ∧ s.upd.burnt = false
      ∧ s.sys.bootCause ≠ 4 ∧ s.upd.record.count < 3)
    ∧ (∃ (s : State) (n : Nat), s.sys.stage = .tested ∧ s.coreUp = true ∧ s.isFatal = false ∧ s.pwr.seq = .off
      ∧ s.sys.recovStrap = false ∧ s.upd.record.ok = true ∧ s.upd.record.armed = some n ∧ s.upd.burnt = true)
    ∧ (∃ (s : State), s.sys.stage = .tested ∧ s.coreUp = true ∧ s.isFatal = false ∧ s.pwr.seq = .off
      ∧ s.sys.recovStrap = true)
    ∧ (∃ (s : State), s.sys.stage = .slotChosen ∧ s.coreUp = true ∧ s.isFatal = false ∧ s.pwr.seq = .off)
    ∧ (∃ (s : State), s.key.cut = none ∧ s.cmd.slots = [])
    ∧ (∃ (s : State), s.sys.stage = .imageLoaded ∧ s.coreUp = true ∧ s.isFatal = false ∧ s.pwr.seq = .off) :=
  ⟨⟨{ up with sys := { up.sys with mode := .backup }, rtc := { up.rtc with lost := false } }, by decide +kernel⟩,
   ⟨{ up with sys := { up.sys with stage := .regulators } }, by decide +kernel⟩,
   ⟨{ up with sys := { up.sys with stage := .resetEnded } }, by decide +kernel⟩,
   ⟨{ up with sys := { up.sys with stage := .resetEnded } }, by decide +kernel⟩,
   ⟨{ up with sys := { up.sys with stage := .tested } }, by decide +kernel⟩,
   ⟨{ up with sys := { up.sys with stage := .tested }, upd := { up.upd with record := { armed := some 1, count := 2 } } }, 1, by decide +kernel⟩,
   ⟨{ up with sys := { up.sys with stage := .tested }, upd := { up.upd with burnt := true, record := { armed := some 1, count := 2 } } }, 1, by decide +kernel⟩,
   ⟨{ up with sys := { up.sys with stage := .tested, recovStrap := true } }, by decide +kernel⟩,
   ⟨{ up with sys := { up.sys with stage := .slotChosen } }, by decide +kernel⟩,
   ⟨{ up with cmd := { up.cmd with slots := [] } }, by decide +kernel⟩,
   ⟨{ (up.setReg Pg.sys Rg.SYS_RESTART_POLICY 0x20) with sys := { up.sys with stage := .imageLoaded } }, by decide +kernel⟩⟩

/-- States that meet the hypotheses of `Obligations.PowerIsLostAndComesBack`. -/
theorem meets_power_is_lost_and_comes_back :
    (∃ (s : State), s.powered = true ∧ s.pwr.seq = .off)
    ∧ (∃ (s : State), s.pwr.seq = .startupHalt)
    ∧ (∃ (s : State) (cause : Option Nat), s.pwr.seq = .running cause ∧ s.clk.gated = false ∧ s.clk.rootLocked = true
      ∧ s.sys.mode ≠ .recovery ∧ s.sys.mode ≠ .startup ∧ s.ktl.commits = [])
    ∧ (∃ (s : State) (cause : Option Nat), s.pwr.seq = .done cause)
    ∧ (∃ (s : State), s.sys.mode ≠ .backup)
    ∧ (∃ (s : State), s.clk.resetLow = true ∧ s.sys.mode ≠ .backup)
    ∧ (∃ (s : State), Sparse.wf (dflt {}) s.lse.groups = true) :=
  ⟨⟨up, by decide +kernel⟩,
   ⟨{ up with pwr := { up.pwr with seq := .startupHalt } }, by decide +kernel⟩,
   ⟨{ up with pwr := { up.pwr with seq := .running none } }, none, by decide +kernel⟩,
   ⟨{ up with pwr := { up.pwr with seq := .done none } }, none, by decide +kernel⟩,
   ⟨up, by decide +kernel⟩,
   ⟨{ up with clk := { up.clk with resetLow := true } }, by decide +kernel⟩,
   ⟨up, by decide +kernel⟩⟩

/-- States that meet the hypotheses of `Obligations.ChannelsAndHatstandAreWatched`. -/
theorem meets_channels_and_hatstand_are_watched :
    (∃ (s : State), s.coreUp = true ∧ s.isFatal = false ∧ s.clk.gated = false ∧ s.unfenced ≠ [] ∧ s.hst.armed = false)
    ∧ (∃ (s : State) (c : Nat), s.coreUp = true ∧ s.isFatal = false ∧ c ∈ s.unfenced ∧ s.supervisor ≠ some c)
    ∧ (∃ (s : State) (c k : Nat) (rest : List Nat), s.coreUp = true ∧ s.isFatal = false ∧ s.unfenced = k :: c :: rest
      ∧ k ≠ c)
    ∧ (∃ (s : State), s.hst.armed = true)
    ∧ (∃ (s : State) (c : Nat), s.coreUp = true ∧ s.supervisor = some c ∧ s.hst.beatOk = true)
    ∧ (∃ (s : State), s.coreUp = true) :=
  ⟨⟨up, by decide +kernel⟩,
   ⟨up, 3, by decide +kernel⟩,
   ⟨up, 1, 0, [2, 3], by decide +kernel⟩,
   ⟨{ up with hst := { up.hst with armed := true } }, by decide +kernel⟩,
   ⟨up, 0, by decide +kernel⟩,
   ⟨up, by decide +kernel⟩⟩

/-- States that meet the hypotheses of `Obligations.ClocksAndSuppliesAreWatched`. -/
theorem meets_clocks_and_supplies_are_watched :
    (∃ (s : State), s.coreUp = true)
    ∧ (∃ (s : State), s.coreUp = true)
    ∧ (∃ (s : State), s.powered = true ∧ s.pwr.vbatOk = true)
    ∧ (∃ (s : State) (b : Nat), s.fio.vio.contains b = true) :=
  ⟨⟨up, by decide +kernel⟩,
   ⟨up, by decide +kernel⟩,
   ⟨{ up with pwr := { up.pwr with vbatOk := true } }, by decide +kernel⟩,
   ⟨{ up with fio := { up.fio with vio := [3] } }, 3, by decide +kernel⟩⟩

/-- States that meet the hypotheses of `Obligations.TheVbatDomainRecords`. -/
theorem meets_the_vbat_domain_records :
    (∃ (s : State) (o : Bool), s.vbat.csealOpen ≠ o)
    ∧ (Met 0x0C01 (fun c _ => c.tenant = false))
    ∧ (∃ (s : State), s.powered = true) :=
  ⟨⟨up, true, by decide +kernel⟩,
   ⟨up, .pf, 0, 0, by decide +kernel⟩,
   ⟨up, by decide +kernel⟩⟩

/-- States that meet the hypotheses of `Obligations.LoopCommandsComplete`. -/
theorem meets_loop_commands_complete :
    (Met 0x0301 (fun c t => t.bufOk c (c.addr 1) 128 = true ∧ Desc.writable (t.load (c.addr 1) 128) = true
    ∧ t.loopMine c (c.f 0 0 16) = true ∧ t.isFatal = false ∧ t.loopBusy c (c.f 0 0 16) = false))
    ∧ (Met 0x0302 (fun c t => c.f 0 16 2 = 0 ∧ t.bufOk c (c.addr 1) 128 = true ∧ t.loopMine c (c.f 0 0 16) = true
      ∧ t.isFatal = false))
    ∧ (Met 0x0302 (fun c t => (c.f 0 16 2 = 1 ∨ c.f 0 16 2 = 2) ∧ t.bufOk c (c.addr 1) 128 = true
      ∧ t.loopMine c (c.f 0 0 16) = true
    ∧ t.isFatal = false))
    ∧ (Met 0x0303 (fun c t =>
    let l := c.f 0 0 16
    let d := Desc.read (t.ltEntry l)
    let todo := (rolesOf (c.f 0 16 2)).filter (fun sh => !((t.loop l).role sh).started)
    let chan (sh : Bool) : Nat := t.startChan (t.loop l) d sh
    c.f 0 16 2 ≠ 3 ∧ t.loopMine c l = true ∧ t.live = true ∧ todo ≠ [] ∧ t.loopBusy c l = false
    ∧ d.defined = true ∧ Desc.passes (t.ltEntry l) = true
    ∧ (∀ sh ∈ todo, t.lse.fenced.contains (chan sh) = false ∧ t.running (Pg.cea (chan sh)) = true)
    ∧ t.loopFull (t.loop l).adopted l d = false
    ∧ ∀ sh ∈ todo, (t.rolesIn (chan sh)).length + (todo.filter (fun u => chan u == chan sh)).length ≤ 34816))
    ∧ (Met 0x0303 (fun c _ => c.f 0 16 2 ≠ 3))
    ∧ (Met 0x0304 (fun c t =>
    let x := t.loop (c.f 0 0 16)
    let todo := (rolesOf (c.f 0 16 2)).filter (fun sh => (x.role sh).started)
    c.f 0 16 2 ≠ 3 ∧ t.loopMine c (c.f 0 0 16) = true ∧ t.isFatal = false ∧ todo ≠ []
    ∧ (c.f 0 16 2 = 0 → x.shadow.started = false) ∧ (∀ sh ∈ todo, t.running (Pg.cea (x.role sh).chan) = true)
    ∧ t.loopBusy c (c.f 0 0 16) = false))
    ∧ (Met 0x0305 (fun c t => t.loopMine c (c.f 0 0 16) = true ∧ t.live = true ∧ t.loopBusy c (c.f 0 0 16) = false
    ∧ (t.loop (c.f 0 0 16)).owner.started = true ∧ (t.loop (c.f 0 0 16)).shadow.started = true
    ∧ t.running (Pg.cea (t.loop (c.f 0 0 16)).owner.chan) = true
    ∧ t.running (Pg.cea (t.loop (c.f 0 0 16)).shadow.chan) = true))
    ∧ (Met 0x0306 (fun c t => t.loopMine c (c.f 0 0 16) = true))
    ∧ (Met 0x0307 (fun c t => t.loopMine c (c.f 0 0 16) = true ∧ t.isFatal = false ∧ t.loopBusy c (c.f 0 0 16) = false
    ∧ (t.loop (c.f 0 0 16)).any = true))
    ∧ (Met 0x0307 (fun c t => t.loopMine c (c.f 0 0 16) = true ∧ t.isFatal = false ∧ t.loopBusy c (c.f 0 0 16) = false
    ∧ (t.loop (c.f 0 0 16)).any = false)) :=
  ⟨⟨pf [0xFFFF, 0, 1] loops, .pf, 0, 0, by decide +kernel⟩,
   ⟨pf [0xFFFF, 0, 1] loops, .pf, 0, 0, by decide +kernel⟩,
   ⟨pf [0x2FFFF, 0, 1] loops, .pf, 0, 0, by decide +kernel⟩,
   ⟨pf [0] loops, .pf, 0, 0, by decide +kernel⟩,
   ⟨pf [0x2FFFF] loops, .pf, 0, 0, by decide +kernel⟩,
   ⟨pf [0x20000] (loops.setLoop 0 { owner := role }), .pf, 0, 0, by decide +kernel⟩,
   ⟨(loops.setCur (Pg.cea 1) 2).setLoop 0 { owner := role, shadow := { role with chan := 1 } }, .pf, 0, 0, by decide +kernel⟩,
   ⟨pf [0xFFFF] up, .pf, 0, 0, by decide +kernel⟩,
   ⟨loops.setLoop 0 { owner := role }, .pf, 0, 0, by decide +kernel⟩,
   ⟨pf [0xFFFF] loops, .pf, 0, 0, by decide +kernel⟩⟩

/-- States that meet the hypotheses of `Obligations.TaskCommandsComplete`. -/
theorem meets_task_commands_complete :
    (Met 0x0401 (fun c t => t.taskBufOk c (c.addr 1) = true ∧ TaskCopy.passes (t.taskBuf (c.addr 1)) = true
    ∧ t.taskMine c (c.f 0 0 4) = true ∧ t.isFatal = false ∧ t.taskBusy c (c.f 0 0 4) = false
    ∧ t.prioFree (c.f 0 0 4) (t.taskBuf (c.addr 1)).d.prio = true))
    ∧ (Met 0x0402 (fun c t => c.f 0 16 2 = 0 ∧ t.bufOk c (c.addr 1) (c.arg 3).toNat = true
      ∧ t.taskMine c (c.f 0 0 4) = true
    ∧ t.isFatal = false))
    ∧ (Met 0x0402 (fun c t => (c.f 0 16 2 = 1 ∨ c.f 0 16 2 = 2) ∧ t.bufOk c (c.addr 1) (c.arg 3).toNat = true
    ∧ t.taskMine c (c.f 0 0 4) = true ∧ t.isFatal = false))
    ∧ (Met 0x0403 (fun c t =>
    let k := c.f 0 0 4
    let b := t.taskEntry k
    let todo := (rolesOf (c.f 0 16 2)).filter (fun sh => !((t.task k).role sh).started)
    let chan (sh : Bool) : Nat := t.startTaskChan (t.task k) b.d sh
    c.f 0 16 2 ≠ 3 ∧ t.taskMine c k = true ∧ t.live = true ∧ todo ≠ [] ∧ t.taskBusy c k = false
    ∧ b.d.defined = true ∧ TaskCopy.passes b = true ∧ t.prioFree k b.d.prio = true
    ∧ ∀ sh ∈ todo, t.lse.fenced.contains (chan sh) = false ∧ t.kettleOk (chan sh) = true))
    ∧ (Met 0x0404 (fun c t =>
    let x := t.task (c.f 0 0 4)
    let todo := (rolesOf (c.f 0 16 2)).filter (fun sh => (x.role sh).started)
    c.f 0 16 2 ≠ 3 ∧ t.taskMine c (c.f 0 0 4) = true ∧ t.isFatal = false ∧ todo ≠ []
    ∧ (c.f 0 16 2 = 0 → x.shadow.started = false) ∧ (∀ sh ∈ todo, t.running (Pg.ktl (x.role sh).chan) = true)
    ∧ t.taskBusy c (c.f 0 0 4) = false))
    ∧ (Met 0x0405 (fun c t => t.taskMine c (c.f 0 0 4) = true ∧ t.live = true ∧ t.taskBusy c (c.f 0 0 4) = false
    ∧ (t.task (c.f 0 0 4)).owner.started = true ∧ (t.task (c.f 0 0 4)).shadow.started = true
    ∧ t.running (Pg.ktl (t.task (c.f 0 0 4)).owner.chan) = true
    ∧ t.running (Pg.ktl (t.task (c.f 0 0 4)).shadow.chan) = true))
    ∧ (Met 0x0406 (fun c t => t.taskMine c (c.f 0 0 4) = true)) :=
  ⟨⟨pf [15, 0, 1] (up.store dramBase taskDesc), .pf, 0, 0, by decide +kernel⟩,
   ⟨pf [15, 0, 1, 64] up, .pf, 0, 0, by decide +kernel⟩,
   ⟨pf [0x2000F, 0, 1, 64] up, .pf, 0, 0, by decide +kernel⟩,
   ⟨(up.setCur (Pg.ktl 0) 2).setTaskEntry 0 { desc := taskDesc }, .pf, 0, 0, by decide +kernel⟩,
   ⟨pf [0x20000] ((up.setCur (Pg.ktl 0) 2).setTask 0 { owner := taskRole }), .pf, 0, 0, by decide +kernel⟩,
   ⟨((up.setCur (Pg.ktl 0) 2).setCur (Pg.ktl 1) 2).setTask 0 { owner := taskRole, shadow := { taskRole with chan := 1 } }, .pf, 0, 0, by decide +kernel⟩,
   ⟨up, .pf, 0, 0, by decide +kernel⟩⟩

/-- States that meet the hypotheses of `Obligations.TicksRunTheLoops`. -/
theorem meets_ticks_run_the_loops :
    (∃ (s : State), s.coreUp = true ∧ s.pwr.kPassed = true)
    ∧ (∃ (s : State), s.coreUp = true ∧ s.pwr.kPassed = false)
    ∧ (∃ (s : State), s.key.cut = none ∧ s.upd.burnt = false)
    ∧ (∃ (s : State) (r : Requester) (g : Nat), s.reads r g Pg.ces Rg.CES_TICK_LO = true)
    ∧ (∃ (s : State) (c u : Nat) (e : DqEntry), s.coreUp = true ∧ s.cupRuns c u = some e)
    ∧ (∃ (s : State) (task : Bool) (item : Nat) (t : UnitTest), s.coreUp = true
      ∧ s.lse.tests.find? (fun t => t.task == task && t.item == item) = some t) :=
  ⟨⟨{ up with pwr := { up.pwr with kPassed := true } }, by decide +kernel⟩,
   ⟨up, by decide +kernel⟩,
   ⟨up, by decide +kernel⟩,
   ⟨up, .pf, 0, by decide +kernel⟩,
   ⟨up.setCup 3 15 (some ⟨0, false, 0⟩), 3, 15, _, by decide +kernel, rfl⟩,
   ⟨{ up with lse := { up.lse with tests := [⟨false, 0, 0, 0, 1, 0, none, none⟩] } }, false, 0, _, by decide +kernel, rfl⟩⟩

/-- States that meet the hypotheses of `Obligations.KettlesRunAndCommit`. -/
theorem meets_kettles_run_and_commit :
    (∃ (s : State) (c t : Nat) (sh : Bool), s.coreUp = true ∧ s.kettleOk c = true
      ∧ s.ktl.testing.contains c = false ∧ s.kettlePick c = some (t, sh)
      ∧ ∃ (u : Upset), (u = .lineEcc ∨ u = .copyEcc))
    ∧ (∃ (s : State) (t : Nat) (k : KCommit), s.coreUp = true ∧ Sparse.get (dflt none) s.ktl.commits t = some k
      ∧ s.ktl.pendingC = [])
    ∧ (∃ (s : State) (t : Nat) (sh : Bool), s.coreUp = true ∧ 
    let r := (s.task t).role sh
    r.started = true ∧ r.busy = true ∧ s.lse.fenced.contains r.chan = false ∧ r.deadline ≤ s.ces.tick)
    ∧ (∃ (s : State), s.coreUp = true ∧ s.pwr.seq = .off ∧ s.clk.gated = false ∧ s.sys.mode ≠ .startup
      ∧ s.sys.mode ≠ .recovery) :=
  ⟨⟨(up.setCur (Pg.ktl 0) 2).setTask 15 { owner := { taskRole with released := some 0 } }, 0, 15, false, by decide +kernel, by decide +kernel, by decide +kernel, by decide +kernel, .lineEcc, by decide +kernel⟩,
   ⟨{ up with ktl := { up.ktl with commits := [(15, some ⟨0, 1, 0, 0, [], []⟩)] } }, 15, _, by decide +kernel, rfl, rfl⟩,
   ⟨{ (up.setTask 15 { owner := { taskRole with released := some 0 } }) with ces := { up.ces with tick := 32 } }, 15, false, by decide +kernel⟩,
   ⟨up, by decide +kernel⟩⟩

/-- States that meet the hypotheses of `Obligations.InputsAreValueAndQuality`. -/
theorem meets_inputs_are_value_and_quality :
    (∃ (d : Desc), d.usesSp = true ∧ d.spsrc = 1)
    ∧ (∃ (d : Desc), d.kind = 8)
    ∧ (∃ (primes : Bool), primes = true)
    ∧ (∃ (s t : State), (∀ p, t.mapW p = s.mapW p)
      ∧ (∀ p, (Sparse.get (dflt {}) t.ptb.image.points p).value = (Sparse.get (dflt {}) s.ptb.image.points p).value
    ∧ (Sparse.get (dflt {}) t.ptb.image.points p).qual = (Sparse.get (dflt {}) s.ptb.image.points p).qual)
      ∧ t.ptb.image.inputs = s.ptb.image.inputs) :=
  ⟨⟨{ Desc.read loopDesc with spsrc := 1 }, by decide +kernel⟩,
   ⟨{ Desc.read loopDesc with kind := 8 }, by decide +kernel⟩,
   ⟨true, rfl⟩,
   ⟨up, up, fun _ => rfl, fun _ => ⟨rfl, rfl⟩, rfl⟩⟩

/-- States that meet the hypotheses of `Obligations.LeaseCommandsComplete`. -/
theorem meets_lease_commands_complete :
    (Met 0x0501 (fun c t => c.tenant = false ∧ t.isFatal = false ∧ t.lse.fenced.contains (c.f 0 0 2) = true
    ∧ t.stopped (Pg.cea (c.f 0 0 2)) = true ∧ t.stopped (Pg.ktl (c.f 0 0 2)) = true
    ∧ ∀ e ∈ t.lse.selftests, e.1 ≠ c.f 0 0 2))
    ∧ (Met 0x0502 (fun c t => c.tenant = false ∧ t.live = true
      ∧ (t.lse.fenced.contains (c.f 0 0 2) = false → t.unfenced ≠ [c.f 0 0 2])
    ∧ ∀ e ∈ t.lse.selftests, e.1 ≠ c.f 0 0 2))
    ∧ (∃ (s : State) (n slot : Nat), s.coreUp = true ∧ s.lse.selftests.find? (fun e => e.1 == n) = some (n, slot)
      ∧ s.lse.selftestHit = [] ∧ s.lse.fenced.contains n = true ∧ ∃ (m : Nat), m < 512 ∧ m ≠ 0)
    ∧ (Met 0x0503 (fun c t => c.b 0 15 = false ∧ t.leaseLive = true ∧ (t.group (c.f 0 0 11)).st ≠ .held
    ∧ (t.group (c.f 0 0 11)).cmd = none ∧ ∃ r, t.row (c.f 0 0 11) = some r ∧ r.glove = c.g))
    ∧ (Met 0x0503 (fun c t => c.b 0 15 = true ∧ t.leaseLive = true
    ∧ ∀ i ∈ t.defined, ownGroup i = true → (t.group i).st = .lost → (t.group i).cmd = none))
    ∧ (Met 0x0504 (fun c t => t.leaseLive = true ∧ (t.group (c.f 0 0 11)).st = .held
    ∧ (t.group (c.f 0 0 11)).cmd = none ∧ ∃ r, t.row (c.f 0 0 11) = some r ∧ r.glove = c.g))
    ∧ (Met 0x0505 (fun c t => c.tenant = false ∧ t.leaseLive = true ∧ t.lse.adopting = true))
    ∧ (Met 0x0506 (fun c t => ∃ r, t.row (c.f 0 0 11) = some r ∧ r.glove = c.g))
    ∧ (Met 0x0507 (fun c t => t.taskBufOk c (c.addr 1) = true ∧ TaskCopy.passes (t.taskBuf (c.addr 1)) = true
      ∧ c.tenant = false
    ∧ t.isFatal = false)) :=
  ⟨⟨pf [3] { up with lse := { up.lse with fenced := [3] } }, .pf, 0, 0, by decide +kernel⟩,
   ⟨pf [3] up, .pf, 0, 0, by decide +kernel⟩,
   ⟨{ up with lse := { up.lse with fenced := [3], selftests := [(3, 7)] } }, 3, 7, by decide +kernel, by decide +kernel, by decide +kernel, by decide +kernel, 511, by decide +kernel⟩,
   ⟨leases { st := .claiming }, .pf, 0, 0, by decide +kernel, ⟨by decide +kernel, by decide +kernel, by decide +kernel, by decide +kernel, ⟨_, rfl, by decide +kernel⟩⟩⟩,
   ⟨pf [0x8000] (leases { st := .lost }), .pf, 0, 0, by decide +kernel⟩,
   ⟨leases { st := .held }, .pf, 0, 0, by decide +kernel, ⟨by decide +kernel, by decide +kernel, by decide +kernel, ⟨_, rfl, by decide +kernel⟩⟩⟩,
   ⟨{ leases {} with lse := { (leases {}).lse with adopting := true } }, .pf, 0, 0, by decide +kernel⟩,
   ⟨leases {}, .pf, 0, 0, by decide +kernel, ⟨_, rfl, by decide +kernel⟩⟩,
   ⟨pf [15, 0, 1] (up.store dramBase taskDesc), .pf, 0, 0, by decide +kernel⟩⟩

/-- States that meet the hypotheses of `Obligations.LeasesAreKept`. -/
theorem meets_leases_are_kept :
    (∃ (s : State), s.coreUp = true ∧ s.lse.unadopt = none ∧ 
    let ok := s.leaseOk && !s.stopped Pg.lse
    let live := ok && s.running Pg.lse && (s.sys.mode == .run || s.sys.mode == .degraded)
    let s1 := s.defined.foldl (fun (a : State) i => a.groupSend ok live i) s
    let s2 : State := { s1 with lse := { s1.lse with stopWait := false } }
    s2.lse.unadopt = none)
    ∧ (∃ (s : State) (can : Bool) (port node vlan i : Nat) (pdu : List Byte), s.coreUp = true
      ∧ s.running Pg.lse = true ∧ s.lse.silentSafe = false ∧ s.pwr.seq = .off ∧ 24 ≤ pdu.length
      ∧ getLE pdu 0 1 = 0x4C ∧ getLE pdu 1 1 = 4 ∧ getLE pdu 3 1 = 1
      ∧ s.answerFor can port node vlan pdu = some i ∧ (s.group i).st = .held ∧ ownGroup i = true)
    ∧ (∃ (s : State) (can : Bool) (port node vlan i : Nat) (pdu : List Byte) (r : GroupRow), s.coreUp = true
      ∧ s.running Pg.lse = true ∧ s.lse.silentSafe = false ∧ s.pwr.seq = .off ∧ 24 ≤ pdu.length
      ∧ getLE pdu 0 1 = 0x4C ∧ getLE pdu 1 1 = 3 ∧ s.answerFor can port node vlan pdu = some i ∧ s.row i = some r
      ∧ (s.group i).st = .claiming)
    ∧ (∃ (s : State) (f : List Byte), s.coreUp = true ∧ s.pwr.seq = .off ∧ getLE f 14 1 = 0x57
      ∧ getLE f 16 1 = bf (s.reg Pg.lse Rg.LSE_CTRL) 8 7 ∧ getLE f 15 1 = 0 ∧ Desc.writable (f.drop 20) = true
      ∧ f.length = 148)
    ∧ (∃ (s : State) (f : List Byte), s.coreUp = true ∧ s.pwr.seq = .off ∧ getLE f 14 1 = 0x57
      ∧ getLE f 16 1 = bf (s.reg Pg.lse Rg.LSE_CTRL) 8 7 ∧ getLE f 15 1 = 1 ∧ 20 < f.length
      ∧ TaskCopy.passes (TaskCopy.ofBytes (f.drop 20)) = true ∧ (f.drop 20).length = taskLen (f.drop 20)) :=
  ⟨⟨leases { st := .held }, by decide +kernel⟩,
   ⟨leases { st := .held }, false, 0, 0, 0, 0, [0x4C, 4, 0, 1] ++ List.replicate 20 0, by decide +kernel⟩,
   ⟨leases { st := .claiming }, false, 0, 0, 0, 0, [0x4C, 3] ++ List.replicate 22 0, _, by decide +kernel, by decide +kernel, by decide +kernel,
    by decide +kernel, by decide +kernel, by decide +kernel, by decide +kernel, by decide +kernel, rfl, by decide +kernel⟩,
   ⟨up.setReg Pg.lse Rg.LSE_CTRL 0x3000080, List.replicate 14 0 ++ [0x57] ++ List.replicate 133 0, by decide +kernel⟩,
   ⟨up, List.replicate 14 0 ++ [0x57, 1] ++ List.replicate 4 0 ++ taskDesc ++ List.replicate 16 0, by decide +kernel⟩⟩

/-- States that meet the hypotheses of `Obligations.PointsGoRound`. -/
theorem meets_points_go_round :
    (∃ (s : State), s.coreUp = true)
    ∧ (∃ (s : State) (b : List Byte), s.coreUp = true ∧ s.running Pg.tpi = true ∧ tpiField b 6 1 ≠ s.ptb.addr
      ∧ s.tpiGood b = true)
    ∧ (∃ (s : State) (b : List Byte), s.coreUp = true ∧ s.running Pg.tpi = true ∧ tpiField b 6 1 = s.ptb.addr)
    ∧ (∃ (s : State) (b : List Byte), s.coreUp = true ∧ s.running Pg.tpi = true ∧ tpiField b 6 1 ≠ s.ptb.addr
      ∧ s.tpiGood b = false)
    ∧ (∃ (s : State) (r : Requester) (g : Nat), s.reads r g Pg.tpi Rg.TPI_CYCLE_LO = true) :=
  ⟨⟨up, by decide +kernel⟩,
   ⟨(up.setCur Pg.tpi 2).setCur Pg.ptb 2, List.replicate 14 0 ++ [0x50, 1, 0, 0, 0, 0, 1, 0, 0, 0, 0, 0, 2] ++ List.replicate 19 0, by decide +kernel⟩,
   ⟨up.setCur Pg.tpi 2, [], by decide +kernel⟩,
   ⟨up.setCur Pg.tpi 2, List.replicate 14 0 ++ [0x50, 1, 0, 0, 0, 0, 1, 0, 0, 0, 0, 0, 2] ++ List.replicate 19 0 ++ [0], by decide +kernel⟩,
   ⟨up, .pf, 0, by decide +kernel⟩⟩

/-- States that meet the hypotheses of `Obligations.PointCommandsComplete`. -/
theorem meets_point_commands_complete :
    (∃ (s : State) (f : RxFrame) (p tag : Nat), 
    let m := s.mapW p
    let t := wd tag
    let wrong := bf t 16 6 ≠ mGlove m ∨ bf t 4 3 ≠ mType m ∨ 5 < bf t 0 4
    let out := s.roleTakes f p = false
    let none := s.unused p = true ∨ out ∨ wrong ∨ (s.pointOf p).forced = true ∨ s.running Pg.ptb = false
    ¬ none ∧ Sparse.wf (dflt {}) s.ptb.points = true)
    ∧ (Met 0x0701 (fun c t => 0 < c.f 1 0 13 ∧ c.f 1 0 13 ≤ 4096 ∧ c.f 0 0 16 + c.f 1 0 13 ≤ 65536
    ∧ t.bufOk c (c.addr 2) (16 * c.f 1 0 13) = true))
    ∧ (Met 0x0702 (fun c t => t.ptMine c ∧ c.b 0 16 = false ∧ c.b 0 17 = false ∧ c.f 2 0 4 ∈ [0, 1, 3, 4]
    ∧ mKind (t.mapW (c.f 0 0 16)) = 7 ∧ (t.pointOf (c.f 0 0 16)).forced = false))
    ∧ (Met 0x0702 (fun c t => t.ptMine c ∧ c.b 0 16 = true ∧ c.b 0 17 = false))
    ∧ (Met 0x0702 (fun c t => t.ptMine c ∧ c.b 0 16 = false ∧ c.b 0 17 = true ∧ (t.pointOf (c.f 0 0 16)).forced = true)) :=
  ⟨⟨up.setCur Pg.ptb 2, ⟨false, false, 1, 1, 0⟩, 0xFFFF, 5, by decide +kernel⟩,
   ⟨pf [0xF000, 4096, 0, 1] up, .pf, 0, 0, by decide +kernel⟩,
   ⟨pf [0xFFFF, 7, 4] ({ up.setCur Pg.ptb 2 with ptb := { up.ptb with map := [(0xFFFF, 0xE3)] } }), .pf, 0, 0, by decide +kernel, by unfold State.ptMine; decide +kernel⟩,
   ⟨pf [0x1FFFF, 7, 4] ({ up.setCur Pg.ptb 2 with ptb := { up.ptb with map := [(0xFFFF, 0xE3)] } }), .pf, 0, 0, by decide +kernel, by unfold State.ptMine; decide +kernel⟩,
   ⟨pf [0x2FFFF] (({ up.setCur Pg.ptb 2 with ptb := { up.ptb with map := [(0xFFFF, 0xE3)] } } : State).setPoint 0xFFFF { forced := true }), .pf, 0, 0, by decide +kernel, by unfold State.ptMine; decide +kernel⟩⟩

/-- States that meet the hypotheses of `Obligations.TimeBasesCount`. -/
theorem meets_time_bases_count :
    (∃ (s : State), s.pending = [] ∧ s.coreUp = true)
    ∧ (∃ (s : State), s.pending = [] ∧ s.coreUp = false)
    ∧ (∃ (s : State) (r : Requester) (g n : Nat), s.reads r g (Pg.tmb n) Rg.TMB_NOW_NS = true)
    ∧ (∃ (s : State) (r : Requester) (g n : Nat) (w : Word), s.writes r g (Pg.tmb n) Rg.TMB_CAPTURE = true
      ∧ bit w 0 = true) :=
  ⟨⟨up, by decide +kernel⟩,
   ⟨{ up with clk := { up.clk with rootLocked := false } }, by decide +kernel⟩,
   ⟨up, .pf, 0, 3, by decide +kernel⟩,
   ⟨up, .pf, 0, 3, 1, by decide +kernel⟩⟩

/-- States that meet the hypotheses of `Obligations.TheServoSlewsAndSteps`. -/
theorem meets_the_servo_slews_and_steps :
    (∃ (s : State) (r : Requester) (g n : Nat) (lo : Word), s.writes r g (Pg.tmb n) Rg.TMB_OFS_LO = true ∧ n ≠ 1
      ∧ s.running (Pg.tmb n) = true ∧ (s.tmb n).manual = false ∧ 
    let p := Pg.tmb n
    let o := signed 64 (lo.toNat + 2 ^ 32 * (s.reg p Rg.TMB_OFS_HI).toNat)
    let t := { s.tmb n with hold := false, last := o }
    let lockNs := s.fld p Rg.TMB_LOCK 0 16
    t.locked = false ∧ 10 * lockNs * 65536 < o.natAbs)
    ∧ (∃ (s : State) (r : Requester) (g n : Nat) (lo : Word), s.writes r g (Pg.tmb n) Rg.TMB_OFS_LO = true ∧ n ≠ 1
      ∧ s.running (Pg.tmb n) = true ∧ (s.tmb n).manual = false ∧ 
    let p := Pg.tmb n
    let o := signed 64 (lo.toNat + 2 ^ 32 * (s.reg p Rg.TMB_OFS_HI).toNat)
    let t := { s.tmb n with hold := false, last := o }
    let lockNs := s.fld p Rg.TMB_LOCK 0 16
    o.natAbs ≤ 10 * lockNs * 65536 ∧ (t.locked = true → o.natAbs ≤ 1000000000 * 65536))
    ∧ (∃ (s : State) (n : Nat), s.coreUp = true ∧ n ≠ 1 ∧ s.running (Pg.tmb n) = true ∧ (s.tmb n).manual = false
      ∧ (s.tmb n).hold = false)
    ∧ (∃ (s : State) (r : Requester) (g n : Nat), s.writes r g (Pg.tmb n) Rg.TMB_OFS_LO = true ∧ (s.tmb n).manual = true) :=
  ⟨⟨((up.setCur (Pg.tmb 3) 2).setReg (Pg.tmb 3) Rg.TMB_LOCK 0), .pf, 0, 3, 1, by decide +kernel⟩,
   ⟨((up.setCur (Pg.tmb 3) 2).setReg (Pg.tmb 3) Rg.TMB_LOCK 1), .pf, 0, 3, 655360, by decide +kernel⟩,
   ⟨up.setCur (Pg.tmb 3) 2, 3, by decide +kernel⟩,
   ⟨{ up with tmb3 := { up.tmb3 with manual := true } }, .pf, 0, 3, by decide +kernel⟩⟩

/-- States that meet the hypotheses of `Obligations.TheClockCounts`. -/
theorem meets_the_clock_counts :
    (∃ (s : State) (r : Requester) (g : Nat) (v : Word), s.writes r g Pg.rtc Rg.RTC_CTRL = true ∧ bit v 0 = true)
    ∧ (∃ (s : State), s.rtc.loadBusy = true ∧ s.rtc.xtalStop = false)
    ∧ (∃ (s : State) (r : Requester) (g : Nat), s.writes r g Pg.rtc Rg.RTC_NUDGE = true ∧ s.rtc.nudge = none)
    ∧ (∃ (s : State) (k : Int), s.rtc.nudge = some k ∧ s.rtc.xtalStop = false)
    ∧ (∃ (s : State), s.rtc.nudge = none ∧ s.rtc.xtalStop = false)
    ∧ (∃ (s : State), s.coreUp = true ∧ s.rtc.xtalStop = false)
    ∧ (∃ (r : RtcSt), r.sec < 59)
    ∧ (∃ (r : RtcSt), r.sec = 59 ∧ r.min < 59)
    ∧ (∃ (r : RtcSt), r.sec = 59 ∧ r.min = 59 ∧ r.hour < 23)
    ∧ (∃ (r : RtcSt), r.sec = 59 ∧ r.min = 59 ∧ r.hour = 23 ∧ r.weekday < 6 ∧ r.day < monthLen r.year r.month)
    ∧ (∃ (r : RtcSt), r.sec = 59 ∧ r.min = 59 ∧ r.hour = 23 ∧ r.weekday = 6 ∧ r.month = 12 ∧ r.day = 31 ∧ r.year < 4095) :=
  ⟨⟨up, .pf, 0, 1, by decide +kernel⟩,
   ⟨{ up with rtc := { up.rtc with loadBusy := true } }, by decide +kernel⟩,
   ⟨up, .pf, 0, by decide +kernel⟩,
   ⟨{ up with rtc := { up.rtc with nudge := some (-32768) } }, -32768, by decide +kernel⟩,
   ⟨up, by decide +kernel⟩,
   ⟨up, by decide +kernel⟩,
   ⟨{ sec := 58 }, by decide +kernel⟩,
   ⟨{ sec := 59, min := 58 }, by decide +kernel⟩,
   ⟨{ sec := 59, min := 59, hour := 22 }, by decide +kernel⟩,
   ⟨{ sec := 59, min := 59, hour := 23, weekday := 5, day := 28, month := 2, year := 2000 }, by decide +kernel⟩,
   ⟨{ sec := 59, min := 59, hour := 23, weekday := 6, day := 31, month := 12, year := 4094 }, by decide +kernel⟩⟩

/-- States that meet the hypotheses of `Obligations.FieldSignalsAreTaken`. -/
theorem meets_field_signals_are_taken :
    (∃ (s : State) (n : Nat), s.ainOn = true ∧ Sparse.get (dflt 0) s.fio.slots (n / 4) = n % 4 ∧ 
    let s0 : State := { s with fio := { s.fio with slots := Sparse.set (dflt 0) s.fio.slots (n / 4) ((n + 1) % 4) } }
    let fio := { s0.fio with shuntTry := delN s.fio.shuntTry n }
    s.fio.discard.contains (n / 4) = true)
    ∧ (∃ (s : State) (n : Nat) (level : Int), s.ainOn = true ∧ Sparse.get (dflt 0) s.fio.slots (n / 4) = n % 4 ∧ 
    let s0 : State := { s with fio := { s.fio with slots := Sparse.set (dflt 0) s.fio.slots (n / 4) ((n + 1) % 4) } }
    let num : Int := if s.ainRange n = 3 then level * 1600 else level * 32768
    let den : Nat := if s.ainRange n = 3 then 1000000000 else 10000000000
    let opened := s.ainRange n = 3 ∧ s.flag Pg.ain Rg.AIN_SHUNT n = true
    let fio := { s0.fio with shuntTry := delN s.fio.shuntTry n }
    s.fio.discard.contains (n / 4) = false ∧ s.ainRange n ≠ 0 ∧ s.fio.clamp.contains n = false ∧ ¬ opened
      ∧ s.fio.shuntTry.contains n = false ∧ -32768 * den ≤ num ∧ num ≤ 32767 * den)
    ∧ (∃ (s : State) (n : Nat) (level : Int), s.ainOn = true ∧ Sparse.get (dflt 0) s.fio.slots (n / 4) = n % 4 ∧ 
    let s0 : State := { s with fio := { s.fio with slots := Sparse.set (dflt 0) s.fio.slots (n / 4) ((n + 1) % 4) } }
    let num : Int := if s.ainRange n = 3 then level * 1600 else level * 32768
    let den : Nat := if s.ainRange n = 3 then 1000000000 else 10000000000
    let opened := s.ainRange n = 3 ∧ s.flag Pg.ain Rg.AIN_SHUNT n = true
    let fio := { s0.fio with shuntTry := delN s.fio.shuntTry n }
    s.fio.discard.contains (n / 4) = false ∧ s.ainRange n ≠ 0 ∧ s.fio.clamp.contains n = false
      ∧ s.fio.shuntTry.contains n = false ∧ (opened ∨ 32767 * den < num ∨ num < -32768 * den))
    ∧ (∃ (s : State) (n : Nat), s.ainOn = true ∧ s.ainRange n = 3 ∧ s.flag Pg.ain Rg.AIN_SHUNT n = false)
    ∧ (∃ (s : State) (n : Nat), s.ainOn = true ∧ s.flag Pg.ain Rg.AIN_SHUNT n = true)
    ∧ (∃ (w : PinWave) (filt : Nat) (l : Bool) (d : Nat), l ≠ w.level ∧ filt ≠ 0 ∧ w.cand + d < 2 ^ filt)
    ∧ (∃ (w : PinWave) (filt : Nat) (l : Bool) (d : Nat), l ≠ w.level ∧ (filt = 0 ∨ 2 ^ filt ≤ w.cand + d)
      ∧ w.seen = true)
    ∧ (∃ (s : State) (n : Nat) (wave : List (Bool × Nat)) (u : PinWave) (l : List (Nat × Nat)) (x : Nat × Nat), s.coreUp = true
      ∧ s.running Pg.pin = true ∧ s.pinMode n = 1 ∧ s.fio.pinFirst.contains n = false
      ∧ s.pinRuns n wave = (u, x :: l))
    ∧ (∃ (s : State) (n : Nat), s.coreUp = true ∧ s.running Pg.pin = true ∧ periodic (s.pinMode n) = true
      ∧ bf (s.reg Pg.pin (pinOff Rg.PIN_TMO n)) 0 16 ≠ 0)
    ∧ (∃ (s : State) (n held : Nat), s.coreUp = true ∧ s.running Pg.pin = true ∧ s.fio.pinHigh.contains n = false
      ∧ s.pinMode n = 2 ∧ bf (s.reg Pg.pin (pinOff Rg.PIN_CFG n)) 4 2 = 0
      ∧ bit (s.reg Pg.pin (pinOff Rg.PIN_CFG n)) 6 = false ∧ 
    let cfg := s.reg Pg.pin (pinOff Rg.PIN_CFG n)
    (bf cfg 8 4 = 0 ∨ 2 ^ bf cfg 8 4 ≤ held))
    ∧ (∃ (s : State) (n held : Nat), s.coreUp = true ∧ s.running Pg.pin = true ∧ s.fio.pinHigh.contains n = false
      ∧ s.pinMode n = 2 ∧ bf (s.reg Pg.pin (pinOff Rg.PIN_CFG n)) 4 2 = 0
      ∧ bit (s.reg Pg.pin (pinOff Rg.PIN_CFG n)) 6 = false ∧ 
    let cfg := s.reg Pg.pin (pinOff Rg.PIN_CFG n)
    bf cfg 8 4 ≠ 0 ∧ held < 2 ^ bf cfg 8 4)
    ∧ (∃ (s : State) (r : Requester) (g n : Nat), s.writes r g Pg.pin (pinOff Rg.PIN_VAL n) = true ∧ s.pinMode n = 2)
    ∧ (∃ (s : State) (k : Nat), s.coreUp = true ∧ s.running Pg.pin = true ∧ s.pinMode (2 * k) = 4
      ∧ bit (s.reg Pg.pin (pinOff Rg.PIN_CFG (2 * k))) 12 = true ∧ 
    let o (off : Nat) : Nat := pinOff off k
    let c := (s.pinVal (2 * k)).toInt
    let e := expectedAt c (s.reg Pg.pin (o Rg.PIN_IDXEXP)).toInt (s.reg Pg.pin (o Rg.PIN_IDXPER)).toNat
    (c - e).natAbs ≤ bf (s.reg Pg.pin (o Rg.PIN_IDXTOL)) 0 16)
    ∧ (∃ (s : State) (n : Nat), s.coreUp = true ∧ n < 8)
    ∧ (∃ (s : State), s.coreUp = true)
    ∧ (∃ (s : State), s.coreUp = true ∧ s.sys.mode = .safe) :=
  ⟨⟨{ (up.setCur Pg.ain 2) with fio := { up.fio with slots := [(3, 3)], discard := [3] } }, 15, by decide +kernel⟩,
   ⟨{ (up.setCur Pg.ain 2).setReg Pg.ain Rg.AIN_RANGE 0x40000000 with fio := { up.fio with slots := [(3, 3)] } }, 15, -10000000000, by decide +kernel⟩,
   ⟨{ (up.setCur Pg.ain 2).setReg Pg.ain Rg.AIN_RANGE 0x40000000 with fio := { up.fio with slots := [(3, 3)] } }, 15, 10000000000, by decide +kernel⟩,
   ⟨(up.setCur Pg.ain 2).setReg Pg.ain Rg.AIN_RANGE 0xC0000000, 15, by decide +kernel⟩,
   ⟨(up.setCur Pg.ain 2).setReg Pg.ain Rg.AIN_SHUNT 0x8000, 15, by decide +kernel⟩,
   ⟨{}, 8, true, 255, by decide +kernel⟩,
   ⟨{ cand := 255, seen := true }, 8, true, 1, by decide +kernel⟩,
   ⟨((up.setCur Pg.pin 2).setReg Pg.pin (pinOff Rg.PIN_CFG 7) 1), 7, [(true, 10), (false, 10), (true, 1)], _, _, _, by decide +kernel, by decide +kernel, by decide +kernel, by decide +kernel, rfl⟩,
   ⟨((up.setCur Pg.pin 2).setReg Pg.pin (pinOff Rg.PIN_CFG 7) 3), 7, by decide +kernel⟩,
   ⟨((up.setCur Pg.pin 2).setReg Pg.pin (pinOff Rg.PIN_CFG 7) 2), 7, 0, by decide +kernel⟩,
   ⟨((up.setCur Pg.pin 2).setReg Pg.pin (pinOff Rg.PIN_CFG 7) 0x102), 7, 1, by decide +kernel⟩,
   ⟨up.setReg Pg.pin (pinOff Rg.PIN_CFG 7) 2, .pf, 0, 7, by decide +kernel⟩,
   ⟨((up.setCur Pg.pin 2).setReg Pg.pin (pinOff Rg.PIN_CFG 6) 4100), 3, by decide +kernel⟩,
   ⟨up, 7, by decide +kernel⟩,
   ⟨up, by decide +kernel⟩,
   ⟨{ up with sys := { up.sys with mode := .safe } }, by decide +kernel⟩⟩

/-- States that meet the hypotheses of `Obligations.TheCaddyStartsAndKeepsTime`. -/
theorem meets_the_caddy_starts_and_keeps_time :
    (∃ (s : State), s.metrology = true ∧ s.cdy.mode = .unpowered)
    ∧ (∃ (s : State), s.metrology = true ∧ s.cdy.mode ≠ .unpowered)
    ∧ (∃ (s : State), s.cdy.mode ≠ .unpowered ∧ s.cdy.sealOpen = false)
    ∧ (∃ (s : State), s.cdy.mode ≠ .unpowered ∧ s.cdy.sealOpen = true)
    ∧ (∃ (s : State), s.cdy.mode ≠ .unpowered ∧ s.cdy.fallback = false)
    ∧ (∃ (s : State), s.coreUp = true ∧ s.cdy.mode ≠ .unpowered ∧ s.cdy.fallback = true)
    ∧ (∃ (s : State), s.cdy.mode ≠ .unpowered ∧ s.cdy.fallback = false)
    ∧ (∃ (s : State), s.coreUp = true ∧ s.cdy.mode ≠ .unpowered ∧ 
    let t : LTime := ⟨s.tmb3.sec, s.tmb3.ns, s.tmb3.frac⟩
    let d := t.diff s.cdy.time
    d.natAbs ≤ 1000000000 * 2 ^ 32)
    ∧ (∃ (s : State), s.coreUp = true ∧ s.cdy.mode ≠ .unpowered ∧ 
    let t : LTime := ⟨s.tmb3.sec, s.tmb3.ns, s.tmb3.frac⟩
    let d := t.diff s.cdy.time
    1000000000 * 2 ^ 32 < d.natAbs)
    ∧ (∃ (s : State), s.cdy.mode ≠ .unpowered ∧ s.cdy.holdover = false) :=
  ⟨⟨up, by decide +kernel⟩,
   ⟨{ up with cdy := { up.cdy with mode := .metering } }, by decide +kernel⟩,
   ⟨{ up with cdy := { up.cdy with mode := .metering } }, by decide +kernel⟩,
   ⟨{ up with cdy := { up.cdy with mode := .metering, sealOpen := true } }, by decide +kernel⟩,
   ⟨{ up with cdy := { up.cdy with mode := .metering } }, by decide +kernel⟩,
   ⟨{ up with cdy := { up.cdy with mode := .metering, fallback := true } }, by decide +kernel⟩,
   ⟨{ up with cdy := { up.cdy with mode := .metering } }, by decide +kernel⟩,
   ⟨{ up with tmb3 := { up.tmb3 with sec := 1 }, cdy := { up.cdy with mode := .metering, holdover := false } }, by decide +kernel⟩,
   ⟨{ up with tmb3 := { up.tmb3 with sec := 1, frac := 1 }, cdy := { up.cdy with mode := .metering, holdover := false } }, by decide +kernel⟩,
   ⟨{ up with cdy := { up.cdy with mode := .metering, holdover := false } }, by decide +kernel⟩⟩

/-- States that meet the hypotheses of `Obligations.WindowsAreClosed`. -/
theorem meets_windows_are_closed :
    (∃ (s : State), s.cdy.mode = .metering)
    ∧ (∃ (s : State) (i : Nat), (s.cdy.inp i).loss = false ∧ (s.cdy.inp i).ovr = false)
    ∧ (∃ (s : State) (typ subj : Nat) (x : CdySum), s.cdy.sums.find? (fun y => y.typ == typ && y.subject == subj) = some x
      ∧ x.since + 480000 ≤ s.cdy.ticks ∧ s.cdy.mode ≠ .unpowered)
    ∧ (∃ (s : State), s.cdy.mode = .metering ∧ 1600 ≤ s.cdy.samples)
    ∧ (∃ (s : State) (q : Nat), s.cdy.mode = .metering ∧ q ≤ 31 ∧ s.cdy.pulseOf q = .idle ∧ s.cdy.pending q ≠ 0
      ∧ prmPulseSel s.cdy.prm q ≠ 8 ∧ (s.cdy.circ q).typ ≠ 0)
    ∧ (∃ (s : State) (q : Nat), s.cdy.pulseOf q = .high)
    ∧ (∃ (s : State) (q : Nat), s.cdy.pulseOf q = .low) :=
  ⟨⟨{ up with cdy := { up.cdy with mode := .metering } }, by decide +kernel⟩,
   ⟨up, 151, by decide +kernel⟩,
   ⟨{ up with cdy := { up.cdy with mode := .metering, ticks := 480000, sums := [⟨1, 2, {}, 0, 0, 0, false, false, 0⟩] } }, 1, 2, ⟨1, 2, {}, 0, 0, 0, false, false, 0⟩, by decide +kernel⟩,
   ⟨{ up with cdy := { up.cdy with mode := .metering, samples := 1600 } }, by decide +kernel⟩,
   ⟨{ up with cdy := { up.cdy with mode := .metering, pend := [(31, 1)], param := some (List.replicate 0x178 0 ++ [1]) } }, 31, by decide +kernel⟩,
   ⟨{ up with cdy := { up.cdy with pulse := [(31, .high)] } }, 31, by decide +kernel⟩,
   ⟨{ up with cdy := { up.cdy with pulse := [(31, .low)] } }, 31, by decide +kernel⟩⟩

/-- States that meet the hypotheses of `Obligations.BookingLosesNothing`. -/
theorem meets_booking_loses_nothing :
    (∃ (quantum : Nat), 0 < quantum)
    ∧ (∃ (a : Acc) (new : Nat), 0 < new ∧ a.f < 2 ^ 32) :=
  ⟨⟨1, by decide +kernel⟩,
   ⟨{ f := 2 ^ 32 - 1 }, 1, by decide +kernel⟩⟩

/-- States that meet the hypotheses of `Obligations.LegalEntriesStay`. -/
theorem meets_legal_entries_stay :
    (∃ (c : CdySt), c.evt ≤ 0xFFFFFFFF)
    ∧ (∃ (c : CdySt), ∃ e ∈ c.log, e.legal = true)
    ∧ (∃ (c : CdySt), c.log.length ≤ 1024) :=
  ⟨⟨{ evt := 0xFFFFFFFF }, by decide +kernel⟩,
   ⟨{ log := [⟨1, 1, 1, {}, 0, 0, []⟩] }, ⟨1, 1, 1, {}, 0, 0, []⟩, by decide +kernel⟩,
   ⟨{}, by decide +kernel⟩⟩

/-- States that meet the hypotheses of `Obligations.PilotsAreWatched`. -/
theorem meets_pilots_are_watched :
    (∃ (s : State) (i broken : Nat) (bs : List (Option Nat)), (s.cdy.path i).ended = some (broken, bs)
      ∧ (broken ≠ 0 ∨ estimate bs = none))
    ∧ (∃ (s : State) (rho : Nat) (b : List Byte), s.cdy.param = some b ∧ s.cdy.mode = .metering ∧ s.cdy.cal = none
      ∧ s.cdy.split = false ∧ prmVref b * 50 < ((rho : Int) - prmVref b).natAbs * 1000000)
    ∧ (∃ (s : State) (p : Nat), (s.cdy.drv p).fault = false ∧ 8 ≤ (s.cdy.drv p).bad)
    ∧ (∃ (s : State) (p : Nat), (s.cdy.drv p).fault = true ∧ 64 ≤ (s.cdy.drv p).clean)
    ∧ (∃ (s : State) (i : Nat), s.cdy.mode = .metering ∧ s.cdy.pathState i ≠ 0
      ∧ (s.cdy.path i).lastStale + 2592000 ≤ s.cdy.time.sec)
    ∧ (∃ (s : State) (i : Nat) (bs : List (Option Nat)) (est spread : Nat), (s.cdy.path i).ended = some (0, bs)
      ∧ estimate bs = some (est, spread) ∧ 
    let ref := prmPilotRef s.cdy.prm i
    ref * 1349 * 8 < spread * 1000 * 2 ^ 15)
    ∧ (∃ (s : State) (i : Nat) (bs : List (Option Nat)) (est spread : Nat), (s.cdy.path i).ended = some (0, bs)
      ∧ estimate bs = some (est, spread) ∧ 
    let ref := prmPilotRef s.cdy.prm i
    spread * 1000 * 2 ^ 15 ≤ ref * 1349 * 8 ∧ s.cdy.pathHeld i = true)
    ∧ (∃ (s : State) (i : Nat) (bs : List (Option Nat)) (est spread : Nat), (s.cdy.path i).ended = some (0, bs)
      ∧ estimate bs = some (est, spread) ∧ 
    let x := s.cdy.path i
    let ref := prmPilotRef s.cdy.prm i
    spread * 1000 * 2 ^ 15 ≤ ref * 1349 * 8 ∧ s.cdy.pathHeld i = false ∧ x.st = 3)
    ∧ (∃ (s : State) (i : Nat) (bs : List (Option Nat)) (est spread : Nat), (s.cdy.path i).ended = some (0, bs)
      ∧ estimate bs = some (est, spread) ∧ 
    let x := s.cdy.path i
    let ref := prmPilotRef s.cdy.prm i
    let out := ref < ((est : Int) - ref).natAbs * 200
    spread * 1000 * 2 ^ 15 ≤ ref * 1349 * 8 ∧ s.cdy.pathHeld i = false ∧ x.st ≠ 3 ∧ ¬ out)
    ∧ (∃ (s : State) (i : Nat) (bs : List (Option Nat)) (est spread : Nat), (s.cdy.path i).ended = some (0, bs)
      ∧ estimate bs = some (est, spread) ∧ 
    let x := s.cdy.path i
    let ref := prmPilotRef s.cdy.prm i
    let out := ref < ((est : Int) - ref).natAbs * 200
    spread * 1000 * 2 ^ 15 ≤ ref * 1349 * 8 ∧ s.cdy.pathHeld i = false ∧ x.st ≠ 3 ∧ out) :=
  ⟨⟨{ up with cdy := { up.cdy with paths := [(151, { ended := some (0, List.replicate 64 none) })] } }, 151, 0, List.replicate 64 none, by decide +kernel⟩,
   ⟨{ up with cdy := { up.cdy with mode := .metering, param := some [] } }, 1, [], by decide +kernel⟩,
   ⟨{ up with cdy := { up.cdy with drivers := [(39, { bad := 8 })] } }, 39, by decide +kernel⟩,
   ⟨{ up with cdy := { up.cdy with drivers := [(39, { fault := true, clean := 64 })] } }, 39, by decide +kernel⟩,
   ⟨{ up with cdy := { up.cdy with mode := .metering, time := ⟨2592000, 0, 0⟩, param := some (List.replicate 0x704 0 ++ leBytes 4 1 ++ List.replicate 0x100 1) } }, 128, by decide +kernel⟩,
   ⟨{ up with cdy := { up.cdy with paths := [(151, { ended := some (0, List.replicate 32 (some 0) ++ List.replicate 32 (some 32)) })] } }, 151, List.replicate 32 (some 0) ++ List.replicate 32 (some 32), 16, 32, by decide +kernel⟩,
   ⟨{ up with cdy := { up.cdy with paths := [(128, { ended := some (0, List.replicate 64 (some 0)), st := 1 })], split := true, param := some (List.replicate 0x704 0 ++ leBytes 4 1 ++ List.replicate 0x100 1) } }, 128, List.replicate 64 (some 0), 0, 0, rfl, by decide +kernel, by decide +kernel, by decide +kernel⟩,
   ⟨{ up with cdy := { up.cdy with paths := [(151, { ended := some (0, List.replicate 64 (some 0)), st := 3 })] } }, 151, List.replicate 64 (some 0), 0, 0, by decide +kernel⟩,
   ⟨{ up with cdy := { up.cdy with paths := [(151, { ended := some (0, List.replicate 64 (some 0)) })] } }, 151, List.replicate 64 (some 0), 0, 0, by decide +kernel⟩,
   ⟨{ up with cdy := { up.cdy with paths := [(151, { ended := some (0, List.replicate 64 (some 1)) })] } }, 151, List.replicate 64 (some 1), 1, 0, by decide +kernel⟩⟩

/-- States that meet the hypotheses of `Obligations.CaddyCommandsComplete`. -/
theorem meets_caddy_commands_complete :
    (∃ (s : State), s.coreUp = true ∧ s.metrology = true ∧ bit s.nv.cfg.publish 16 = true)
    ∧ (Met 0x0601 (fun _ t => t.metrology = true ∧ t.isFatal = false ∧ t.cdyInHand < 16))
    ∧ (Met 0x0602 (fun c t => t.metrology = true ∧ t.isFatal = false ∧ t.cdyInHand < 16 ∧ 1 ≤ c.f 1 0 11
      ∧ c.f 1 0 11 ≤ 1024
    ∧ t.bufOk c (c.addr 2) (64 * c.f 1 0 11) = true))
    ∧ (Met 0x0610 (fun c t => t.metrology = true ∧ t.isFatal = false ∧ t.cdyInHand < 16
      ∧ t.bufOk c (c.addr 0) 8256 = true))
    ∧ (Met 0x0611 (fun c t => t.metrology = true ∧ c.f 0 0 8 ≤ 63 ∧ c.f 0 8 24 ≤ 63 ∧ c.tenant = false ∧ t.isFatal = false
    ∧ t.cdyInHand < 16 ∧ t.cdy.mode ≠ .unpowered))
    ∧ (Met 0x0612 (fun c t => t.metrology = true ∧ c.tenant = false ∧ t.isFatal = false ∧ t.cdyInHand < 16
    ∧ t.cdy.mode ≠ .unpowered ∧ c.f 0 0 16 % 16 = 0 ∧ c.f 0 0 16 ≤ 64512))
    ∧ (Met 0x0613 (fun _ t => t.metrology = true ∧ t.isFatal = false ∧ t.cdyInHand < 16))
    ∧ (Met 0x0614 (fun c t => t.metrology = true ∧ t.isFatal = false ∧ t.cdyInHand < 16 ∧ c.f 0 0 32 ≤ 63
    ∧ t.bufOk c (c.addr 1) 1792 = true ∧ (c.g = 0 ∨ t.viewOf (c.f 0 0 32) = c.g)))
    ∧ (Met 0x0620 (fun c t => t.metrology = true ∧ t.isFatal = false ∧ t.cdyInHand < 16
      ∧ t.bufOk c (c.addr 0) 31008 = true
    ∧ c.tenant = false))
    ∧ (Met 0x0621 (fun c t => t.metrology = true ∧ t.isFatal = false ∧ t.cdyInHand < 16
      ∧ t.bufOk c (c.addr 0) 31008 = true))
    ∧ (Met 0x0622 (fun c t => t.metrology = true ∧ t.isFatal = false ∧ t.cdyInHand < 16 ∧ c.f 0 0 8 ≤ 151
    ∧ t.pathMine c.g (c.f 0 0 8) = true))
    ∧ (Met 0x0623 (fun c t => t.metrology = true ∧ t.isFatal = false ∧ t.cdyInHand < 16 ∧ c.f 0 0 8 ≤ 151
      ∧ 64 ≤ c.f 0 16 16
    ∧ c.f 0 16 16 ≤ 32768 ∧ c.f 0 16 16 % 64 = 0 ∧ t.bufOk c (c.addr 3) 4928 = true ∧ c.tenant = false
    ∧ t.cdy.cal = none ∧ t.cdy.sealOpen = true ∧ t.cdy.mode ≠ .halted))
    ∧ (Met 0x0630 (fun c t => t.metrology = true ∧ t.isFatal = false ∧ t.cdyInHand < 16 ∧ 1 ≤ (c.arg 2).toNat
    ∧ (c.arg 2).toNat ≤ 0x100000 ∧ t.bufOk c (c.addr 0) (c.arg 2).toNat = true ∧ c.tenant = false))
    ∧ (∃ (s : State) (n : Nat) (m : Mail), s.coreUp = true
      ∧ s.cdy.mail.find? (fun x => x.slot == n && x.ready) = some m ∧ (s.slotOf n).phase = .inHand
      ∧ s.mailMine m = true ∧ (m.op ≠ 0x0610 ∨ m.status ≠ 0))
    ∧ (∃ (s : State) (n : Nat) (m : Mail), s.coreUp = true
      ∧ s.cdy.mail.find? (fun x => x.slot == n && x.ready) = some m ∧ (s.slotOf n).phase = .inHand
      ∧ s.mailMine m = false)
    ∧ (∃ (s : State) (n : Nat), s.coreUp = true ∧ (∃ x ∈ s.cdy.mail, x.slot = n ∧ x.ready = false
      ∧ (s.cdy.mode ≠ .metering ∨ x.cold = true))) :=
  ⟨⟨{ up with nv := { up.nv with cfg := { up.nv.cfg with publish := 0x10000 } } }, by decide +kernel⟩,
   ⟨up, .pf, 0, 0, by decide +kernel⟩,
   ⟨pf [0, 1024, 0, 1] { up with cdy := { up.cdy with log := [⟨1, 1, 1, {}, 0, 0, []⟩] } }, .pf, 0, 0, by decide +kernel⟩,
   ⟨pf [0, 1] up, .pf, 0, 0, by decide +kernel⟩,
   ⟨{ up with cdy := { up.cdy with mode := .metering } }, .pf, 0, 0, by decide +kernel⟩,
   ⟨pf [64512] { up with cdy := { up.cdy with mode := .metering } }, .pf, 0, 0, by decide +kernel⟩,
   ⟨up, .pf, 0, 0, by decide +kernel⟩,
   ⟨pf [63, 0, 1] up, .pf, 0, 0, by decide +kernel⟩,
   ⟨pf [0, 1] up, .pf, 0, 0, by decide +kernel⟩,
   ⟨pf [0, 1] up, .pf, 0, 0, by decide +kernel⟩,
   ⟨pf [151] up, .pf, 0, 0, by decide +kernel⟩,
   ⟨pf [0x80000097, 0, 0, 0, 1] { up with cdy := { up.cdy with mode := .metering, sealOpen := true } }, .pf, 0, 0, by decide +kernel⟩,
   ⟨pf [0, 1, 0x100000] up, .pf, 0, 0, by decide +kernel⟩,
   ⟨{ up.alloc 7 0 0x0610 [] (.bank 8) .poll 0 with cdy := { up.cdy with mail := [⟨7, 0x0610, 0, [], true, 1, 0, 0, 0, 0, [], false⟩] } }, 7, ⟨7, 0x0610, 0, [], true, 1, 0, 0, 0, 0, [], false⟩, by decide +kernel⟩,
   ⟨{ up.alloc 7 1 0x0614 [63] (.bank 8) .poll 0 with cdy := { up.cdy with mail := [⟨7, 0x0614, 1, [63], true, 0, 0, 0, 0, 0, [], false⟩] } }, 7, ⟨7, 0x0614, 1, [63], true, 0, 0, 0, 0, 0, [], false⟩, by decide +kernel⟩,
   ⟨{ up with cdy := { up.cdy with mail := [⟨7, 0x0610, 0, [], false, 0, 0, 0, 0, 0, [], false⟩] } }, 7, by decide +kernel⟩⟩

/-- States that meet the hypotheses of `Obligations.OlderBlocksAreRefused`. -/
theorem meets_older_blocks_are_refused :
    (∃ (s : State) (b : List Byte), s.metrology = true ∧ s.cdyGone = false ∧ s.cdy.param = some b)
    ∧ (∃ (c : CdySt) (b : List Byte), getLE b 8 4 ≤ c.paramId) :=
  ⟨⟨{ up with cdy := { up.cdy with mode := .metering, param := some [] } }, [], by decide +kernel⟩,
   ⟨{ param := some (List.replicate 8 0 ++ [1]) }, List.replicate 8 0 ++ [1], by decide +kernel⟩⟩

/-- Both riser pages RUNNING; the west port `x`, its key that of handle 255, and handle 255 a MAC key of the RING subtree. -/
def risers (x : RsPort) : State :=
  let s := ((((up.setCur (rsPage true) 2).setCur (rsPage false) 2).setReg (rsPage true) Rg.RS_AUTH 255).setCur Pg.key 2).setHandle
    255 (some ⟨4, 0, 0, 8, [], []⟩)
  { s with rs := { s.rs with west := x }, key := { s.key with rngOk := true } }

/-- Two lists are apart from one of three others. -/
theorem apart (a b : List Byte) : ∃ c, (c = List.replicate 48 0 ∨ c = List.replicate 48 1 ∨ c = List.replicate 48 2) ∧ a ≠ c ∧ b ≠ c := by
  by_cases h0 : a ≠ List.replicate 48 0 ∧ b ≠ List.replicate 48 0
  · exact ⟨_, .inl rfl, h0⟩
  by_cases h1 : a ≠ List.replicate 48 1 ∧ b ≠ List.replicate 48 1
  · exact ⟨_, .inr (.inl rfl), h1⟩
  refine ⟨_, .inr (.inr rfl), ?_⟩
  simp only [ne_eq, Decidable.not_and_iff_not_or_not, Decidable.not_not] at h0 h1
  rcases h0 with h | h <;> rcases h1 with h' | h' <;>
    first | (rw [h] at h'; exact absurd h' (by decide)) | (rw [h, h']; decide)

/-- States that meet the hypotheses of `Obligations.PortsComeUp`. -/
theorem meets_ports_come_up :
    (∃ (s : State) (w : Bool), s.rsAlive = true ∧ s.rsRunning w = true ∧ (s.rsPort w).st = 0)
    ∧ (∃ (s : State) (w : Bool), s.rsAlive = true ∧ (s.rsPort w).st = 1)
    ∧ (∃ (s : State) (w : Bool), s.rsAlive = true ∧ (s.rsPort w).st = 2)
    ∧ (∃ (s : State) (w : Bool), s.rsAlive = true ∧ (s.rsPort w).st = 3)
    ∧ (∃ (s : State) (w : Bool), s.rsAlive = true ∧ (s.rsPort w).st = 5)
    ∧ (∃ (s : State) (w : Bool) (k : List Byte), s.rsAlive = true ∧ s.rsKey w = some k ∧ (s.rsPort w).st = 3
      ∧ (s.rsPort w).answered = false ∧ s.key.rngOk = true)
    ∧ (∃ (s : State) (w : Bool) (pdu k : List Byte), s.rsAlive = true ∧ s.rsKey w = some k ∧ (s.rsPort w).st = 3
      ∧ beNat (sliceB pdu 4 2) = s.ringParams.1 ∧ getLE pdu 6 1 = s.ringParams.2 ∧ getLE pdu 3 1 ≠ (s.rsPort w).addr)
    ∧ (∃ (s : State) (w : Bool), s.rsAlive = true ∧ s.rsRunning w = true ∧ (s.rsPort w).st = 4)
    ∧ (∃ (s : State) (w : Bool) (pdu k : List Byte), s.rsAlive = true ∧ s.rsKey w = some k ∧ (s.rsPort w).st = 3
      ∧ (∀ ok < 2, sliceB (Config.hmac k (s.challenge w ok ++ pdu.take 0x30)) 0 48 ≠ sliceB pdu 0x30 48)) :=
  ⟨⟨risers {}, true, by decide +kernel⟩,
   ⟨risers { st := 1 }, true, by decide +kernel⟩,
   ⟨risers { st := 2 }, true, by decide +kernel⟩,
   ⟨risers { st := 3 }, true, by decide +kernel⟩,
   ⟨risers { st := 5 }, true, by decide +kernel⟩,
   ⟨risers { st := 3 }, true, _, by decide +kernel, rfl, by decide +kernel⟩,
   ⟨risers { st := 3 }, true, List.replicate 3 0 ++ [127] ++ beBytes 2 (risers { st := 3 }).ringParams.1 ++ leBytes 1 (risers { st := 3 }).ringParams.2, _, by decide +kernel, rfl, by decide +kernel⟩,
   ⟨risers { st := 4 }, true, by decide +kernel⟩,
   by
      have ⟨k, hk⟩ : ∃ k, (risers { st := 3 }).rsKey true = some k := ⟨_, rfl⟩
      obtain ⟨c, hc, h0, h1⟩ := apart (sliceB (Config.hmac k ((risers { st := 3 }).challenge true 0 ++ List.replicate 48 0)) 0 48)
        (sliceB (Config.hmac k ((risers { st := 3 }).challenge true 1 ++ List.replicate 48 0)) 0 48)
      have ht : (List.replicate 48 0 ++ c).take 0x30 = List.replicate 48 0 := by
        rcases hc with rfl | rfl | rfl <;> rfl
      have hs : sliceB (List.replicate 48 0 ++ c) 0x30 48 = c := by
        rcases hc with rfl | rfl | rfl <;> rfl
      refine ⟨risers { st := 3 }, true, List.replicate 48 0 ++ c, k, by decide +kernel, hk, by decide +kernel, ?_⟩
      intro ok hok
      rw [ht, hs]
      obtain rfl | rfl : ok = 0 ∨ ok = 1 := by omega
      · exact h0
      · exact h1⟩

/-- States that meet the hypotheses of `Obligations.TheRingCarriesFrames`. -/
theorem meets_the_ring_carries_frames :
    (∃ (s : State) (w : Bool) (tag b : List Byte) (fec : Fec), s.rsAlive = true ∧ s.rsRunning w = true
      ∧ (s.rsPort w).st = 4 ∧ 
    let body := b.take (b.length - 4)
    let good := fcsGood b = true ∧ fec.hit = false
    ∃ (f : RFrame), good ∧ RFrame.ofTag tag body false = some f)
    ∧ (∃ (s : State) (w : Bool) (tag b : List Byte) (fec : Fec), s.rsAlive = true ∧ s.rsRunning w = true
      ∧ (s.rsPort w).st = 4 ∧ 
    let body := b.take (b.length - 4)
    let good := fcsGood b = true ∧ fec.hit = false
    ∃ (f : RFrame), ¬ good ∧ RFrame.ofTag tag body true = some f)
    ∧ (∃ (s : State) (w : Bool) (tag b : List Byte), s.rsAlive = true ∧ s.rsRunning w = true ∧ (s.rsPort w).st = 4 ∧ 
    let body := b.take (b.length - 4)
    (∀ q, RFrame.ofTag tag body q = none))
    ∧ (∃ (s : State) (w : Bool) (f : RFrame), f.src ≠ (s.rsPort w).addr ∧ f.dest = (s.rsPort w).addr)
    ∧ (∃ (s : State) (w : Bool) (f : RFrame), f.src ≠ (s.rsPort w).addr ∧ f.dest ≠ (s.rsPort w).addr ∧ f.dest < 0xFE
      ∧ f.hop + 1 < f.limit)
    ∧ (∃ (s : State) (w : Bool) (f : RFrame), f.src ≠ (s.rsPort w).addr ∧ f.dest ≠ (s.rsPort w).addr ∧ f.dest = 0xFF
      ∧ f.hop + 1 < f.limit)
    ∧ (∃ (s : State) (w : Bool) (f : RFrame) (l : List RFrame), s.rsAlive = true ∧ (s.rsPort w).st = 4
      ∧ s.inWindow = false ∧ (s.rsPort w).ctlT = f :: l)
    ∧ (∃ (s : State) (w : Bool) (c : Nat), s.rsAlive = true ∧ (s.rsPort w).st = 4 ∧ s.transitNext w = some c)
    ∧ (∃ (s : State), s.rsAlive = true ∧ (s.rsPort false).st = 4 ∧ (s.rsPort true).st = 0)
    ∧ (∃ (s : State), s.rsAlive = true) :=
  ⟨⟨risers { st := 4 }, true, [1, 0, 5, 0xFE, 128, 0] ++ leBytes 1 (crc8 [1, 0, 5, 0xFE, 128, 0]), fcsOf [], {}, by decide +kernel, by decide +kernel, by decide +kernel, ⟨1, 0, 5, 0xFE, 128, [], false, none⟩, by decide +kernel⟩,
   ⟨risers { st := 4 }, true, [1, 0, 5, 0xFE, 128, 0] ++ leBytes 1 (crc8 [1, 0, 5, 0xFE, 128, 0]), fcsOf [], ⟨0, 1, true⟩, by decide +kernel, by decide +kernel, by decide +kernel, ⟨1, 0, 5, 0xFE, 128, [], true, none⟩, by decide +kernel⟩,
   ⟨risers { st := 4 }, true, [], [], by decide +kernel⟩,
   ⟨risers { st := 4 }, true, ⟨0, 0, 1, 0, 1, [], false, none⟩, by decide +kernel⟩,
   ⟨risers { st := 4 }, true, ⟨0, 126, 1, 127, 128, [], false, none⟩, by decide +kernel⟩,
   ⟨risers { st := 4 }, true, ⟨0, 126, 1, 255, 128, [], false, none⟩, by decide +kernel⟩,
   ⟨{ risers { st := 4, ctlT := [⟨1, 0, 1, 2, 3, [], false, none⟩] } with tmb0 := { up.tmb0 with ns := 999999 } }, true, ⟨1, 0, 1, 2, 3, [], false, none⟩, [], by decide +kernel⟩,
   ⟨risers { st := 4, ctlT := [⟨1, 0, 1, 2, 3, [], false, none⟩] }, true, 1, by decide +kernel⟩,
   ⟨{ up with rs := { east := { st := 4 } } }, by decide +kernel⟩,
   ⟨up, by decide +kernel⟩⟩

/-- Floor port 7 passes frames, and is `x` otherwise. -/
def floor (x : FpPort) : State :=
  (up.setCur (Pg.fp 7) 2).setFp 7 { x with link := true, half := false, phyRate := up.fld (Pg.fp 7) Rg.FP_CFG 1 3 }

/-- A transmit entry of 64 bytes at the start of DRAM. -/
def txEntry : List Byte := leBytes 4 0 ++ leBytes 2 64 ++ leBytes 2 0 ++ leBytes 8 dramBase ++ List.replicate 16 0

/-- A frame with its FCS. -/
def framed (b : List Byte) : List Byte := b ++ fcsOf b

/-- States that meet the hypotheses of `Obligations.FloorPortsWork`. -/
theorem meets_floor_ports_work :
    (∃ (s : State) (p : Nat) (b : List Byte), s.sys.mode ≠ .recovery ∧ s.portsOn = true ∧ s.fpPasses p = true
      ∧ fcsGood b = false)
    ∧ (∃ (s : State) (p : Nat) (b : List Byte), s.sys.mode ≠ .recovery ∧ s.portsOn = true ∧ s.fpPasses p = true
      ∧ fcsGood b = true ∧ (b.length < 64 ∨ 9600 < b.length))
    ∧ (∃ (s : State) (p : Nat) (b : List Byte), s.sys.mode ≠ .recovery ∧ s.portsOn = true ∧ s.fpPasses p = true
      ∧ fcsGood b = true ∧ 64 ≤ b.length ∧ b.length ≤ 9600 ∧ 
    let e := Eth.read (b.take (b.length - 4))
    s.fpAccepts p e.dest = true ∧ ¬ (e.etype = 0x88B5 ∧ e.payload.headD 0 = 0x4C))
    ∧ (∃ (s : State) (p : Nat) (f : List Byte) (l : List (List Byte)), s.portsOn = true ∧ s.fpPasses p = true
      ∧ (s.fpOf p).flight = none ∧ (s.fpOf p).lpiTx = false ∧ (s.fpOf p).lease = f :: l)
    ∧ (∃ (s : State) (p : Nat) (f : TxFlight), s.coreUp = true ∧ (s.fpOf p).flight = some f ∧ f.real = true)
    ∧ (∃ (s : State) (p : Nat), s.coreUp = true ∧ (s.fpOf p).link = true ∧ s.running (Pg.fp p) = true
      ∧ ∃ (f : TxFlight), (s.fpOf p).flight = some f ∧ f.real = true)
    ∧ (∃ (s : State) (p : Nat), s.coreUp = true ∧ (s.fpOf p).link = true ∧ s.running (Pg.fp p) = true
      ∧ (s.fpOf p).flight = none)
    ∧ (∃ (s : State) (p : Nat), s.coreUp = true ∧ s.flag (Pg.fp p) Rg.FP_EEE_CTL 0 = true ∧ s.fpPasses p = true
      ∧ (s.fpOf p).lpiTx = false ∧ s.fpWaiting p = false)
    ∧ (∃ (s : State) (r : Requester) (g p : Nat) (v : Word), s.writes r g (Pg.fp p) Rg.FP_MDIO_CTL = true
      ∧ (s.fpOf p).mdioBusy = false ∧ bit v 31 = true ∧ bf v 26 2 = 2)
    ∧ (∃ (s : State) (p : Nat), s.coreUp = true ∧ (s.fpOf p).mdioBusy = true ∧ bf (s.fpOf p).mdioOp 26 2 = 2)
    ∧ (∃ (s : State) (q : Nat), 
    let src := bf (s.queue q).arg5 0 8
    let p := src - 0x18
    let e := TxEntry.read (s.headEntry q)
    s.portsOn = true ∧ 0x18 ≤ src ∧ src < 0x20 ∧ (s.fpOf p).held.contains q = true ∧ s.canTake q = true
      ∧ s.fpPasses p = true ∧ (s.fpOf p).flight = none ∧ (s.fpOf p).lease = [] ∧ (s.fpOf p).lpiTx = false
      ∧ s.launchDelta e ≤ 0 ∧ s.txLawful p (s.queueOwner q) e = true ∧ s.judge e = .now) :=
  ⟨⟨floor {}, 7, List.replicate 64 0, by decide +kernel⟩,
   ⟨floor {}, 7, framed (List.replicate 59 0), by decide +kernel⟩,
   ⟨floor {}, 7, framed (List.replicate 60 0), by decide +kernel⟩,
   ⟨floor { lease := [[0]] }, 7, [0], [], by decide +kernel⟩,
   ⟨floor { flight := some ⟨3, 0, none, 0, 64, 0, 0, false, true⟩ }, 7, ⟨3, 0, none, 0, 64, 0, 0, false, true⟩, by decide +kernel⟩,
   ⟨floor { flight := some ⟨3, 0, none, 0, 64, 0, 0, false, true⟩ }, 7, by decide +kernel, by decide +kernel, by decide +kernel, ⟨3, 0, none, 0, 64, 0, 0, false, true⟩, by decide +kernel⟩,
   ⟨floor {}, 7, by decide +kernel⟩,
   ⟨(floor {}).setReg (Pg.fp 7) Rg.FP_EEE_CTL 1, 7, by decide +kernel⟩,
   ⟨up, .pf, 0, 7, 0x88000000, by decide +kernel⟩,
   ⟨up.setFp 7 { mdioBusy := true, mdioOp := 0x08000000 }, 7, by decide +kernel⟩,
   ⟨{ (((floor { held := [3] }).setReg (Pg.tmb 0) Rg.TMB_LATE_WIN 1).setQueue 3
        { live := true, kind := 4, base := dramBase, sw := 1, arg5 := 0x1F }).store dramBase txEntry with
        tmb0 := { up.tmb0 with ns := 1000 } }, 3, by decide +kernel⟩⟩

/-- CAN channel 7 runs, and is `x`. -/
def canUp (x : CanCh) : State := (up.setCur (Pg.can 7) 2).setCan 7 x

/-- A classic frame without data. -/
def fr : CanFrame := { id := 0x7FF, xtd := false, dlc := 0, data := [] }

/-- The last filter entry alone is valid; it takes every standard identifier to destination `d`, buffer 63. -/
def filt (d : Byte) : CanCh := { ram := [(0x6FF8, d), (0x6FF9, 63), (0x6FFB, 0x80)] }

/-- States that meet the hypotheses of `Obligations.CanFramesMove`. -/
theorem meets_can_frames_move :
    (∃ (s : State) (c : Nat), s.canLive c = true ∧ s.canMode c ≠ 2)
    ∧ (∃ (s : State) (c : Nat) (f : CanFrame) (bad : List Nat), s.canLeaseId c f = false
      ∧ (s.canOf c).filter f bad = none)
    ∧ (∃ (s : State) (c : Nat) (f : CanFrame) (bad : List Nat), s.canLeaseId c f = false
      ∧ ∃ (n : Nat), (s.canOf c).filter f bad = some (0, n))
    ∧ (∃ (s : State) (c : Nat) (f : CanFrame) (bad : List Nat), s.canLeaseId c f = false
      ∧ ∃ (n : Nat), (s.canOf c).filter f bad = some (1, n))
    ∧ (∃ (s : State) (c : Nat) (f : CanFrame) (bad : List Nat), s.canLeaseId c f = false
      ∧ ∃ (n : Nat), (s.canOf c).filter f bad = some (2, n))
    ∧ (∃ (s : State) (c : Nat) (f : CanFrame) (bad : List Nat), s.canLeaseId c f = false
      ∧ ∃ (n : Nat), (s.canOf c).filter f bad = some (3, n))
    ∧ (∃ (s : State) (c : Nat) (one : Bool), 
    let x := s.canOf c
    let q := x.fifo one
    s.canBound c one = none ∧ q.fill < 64)
    ∧ (∃ (s : State) (c : Nat) (one : Bool), 
    let x := s.canOf c
    let q := x.fifo one
    s.canBound c one = none ∧ 64 ≤ q.fill ∧ bit (s.canCfg c) (20 + one.toNat) = false)
    ∧ (∃ (s : State) (c n : Nat), s.canIsTx c n = false)
    ∧ (∃ (s : State) (r : Requester) (g c : Nat) (w : Word), s.writes r g (Pg.can c) Rg.CAN_RXF_ACK = true
      ∧ s.canBound c false = none ∧ 
    let x := s.canOf c
    let k := (bf w 0 6 + 64 - x.fifo0.get) % 64
    k < x.fifo0.fill)
    ∧ (∃ (s : State) (r : Requester) (g c : Nat) (w : Word), s.writes r g (Pg.can c) Rg.CAN_RXF_ACK = true
      ∧ s.canBound c false = none ∧ 
    let x := s.canOf c
    let k := (bf w 0 6 + 64 - x.fifo0.get) % 64
    x.fifo0.fill ≤ k)
    ∧ (∃ (s : State) (r : Requester) (g c half : Nat), s.writes r g (Pg.can c) (Rg.CAN_TXREQ + 4 * half) = true)
    ∧ (∃ (s : State), Sparse.wf (dflt {}) s.can = true)
    ∧ (∃ (s : State) (r : Requester) (g c half : Nat), s.writes r g (Pg.can c) (Rg.CAN_TXCANCEL + 4 * half) = true)
    ∧ (∃ (s : State), Sparse.wf (dflt {}) s.can = true)
    ∧ (∃ (s : State) (c : Nat) (src : CanSrc) (f : CanFrame), s.portsOn = true ∧ s.running (Pg.can c) = true
      ∧ (s.canOf c).offered = none ∧ s.canMode c ≠ 1 ∧ (s.canOf c).busOff = false ∧ s.canQueues c = []
      ∧ (∀ n ∈ (s.canOf c).txPend, (s.canOf c).lostIn (128 * n) 128 = false)
      ∧ lowestArb (s.canCands c) = some (src, f))
    ∧ (∃ (s : State) (c n : Nat) (f : CanFrame), s.portsOn = true ∧ s.running (Pg.can c) = true
      ∧ (s.canOf c).offered = none ∧ s.canMode c ≠ 1 ∧ lowestArb (s.canCands c) = some (.buf n, f))
    ∧ (∃ (l : List (CanSrc × CanFrame)) (a : CanSrc × CanFrame), lowestArb l = some a)
    ∧ (∃ (s : State) (c n : Nat) (f : CanFrame), s.coreUp = true ∧ s.canLive c = true ∧ s.canMode c ≠ 2
      ∧ (s.canOf c).offered = some (.buf n) ∧ (s.canOf c).frame = some f) :=
  ⟨⟨canUp {}, 7, by decide +kernel⟩,
   ⟨up, 7, fr, [127], by decide +kernel⟩,
   ⟨up.setCan 7 (filt 0), 7, fr, [0], by decide +kernel, 63, by decide +kernel⟩,
   ⟨up.setCan 7 (filt 1), 7, fr, [0], by decide +kernel, 63, by decide +kernel⟩,
   ⟨up.setCan 7 (filt 2), 7, fr, [0], by decide +kernel, 63, by decide +kernel⟩,
   ⟨up.setCan 7 (filt 3), 7, fr, [0], by decide +kernel, 63, by decide +kernel⟩,
   ⟨canUp { fifo1 := { fill := 63 } }, 7, true, by decide +kernel⟩,
   ⟨canUp { fifo1 := { fill := 64 } }, 7, true, by decide +kernel⟩,
   ⟨up, 7, 63, by decide +kernel⟩,
   ⟨canUp { fifo0 := { fill := 64 } }, .pf, 0, 7, 63, by decide +kernel⟩,
   ⟨canUp { fifo0 := { fill := 63 } }, .pf, 0, 7, 63, by decide +kernel⟩,
   ⟨up, .pf, 0, 7, 1, by decide +kernel⟩,
   ⟨up, by decide +kernel⟩,
   ⟨up, .pf, 0, 7, 1, by decide +kernel⟩,
   ⟨up, by decide +kernel⟩,
   ⟨canUp { lease := [fr] }, 7, .lease fr, fr, by decide +kernel⟩,
   ⟨(canUp { txPend := [63] }).setReg (Pg.can 7) (Rg.CAN_BUFCFG + 4) 0x80000000, 7, 63, ({} : CanCh).bufFrame 63, by decide +kernel⟩,
   ⟨[(.buf 63, fr)], (.buf 63, fr), by decide +kernel⟩,
   ⟨canUp { offered := some (.buf 63), frame := some fr }, 7, 63, fr, by decide +kernel⟩⟩

/-- States that meet the hypotheses of `Obligations.CanErrorsAndTiming`. -/
theorem meets_can_errors_and_timing :
    (∃ (s : State) (c lec : Nat), s.coreUp = true ∧ s.canLive c = true ∧ lec ≠ 0 ∧ s.canMode c ≠ 1)
    ∧ (∃ (s : State) (c tec : Nat), Sparse.wf (dflt {}) s.can = true ∧ 255 < tec ∧ (s.canOf c).busOff = false)
    ∧ (∃ (s : State) (r : Requester) (g c : Nat) (w : Word), s.writes r g (Pg.can c) Rg.CAN_CTRL = true
      ∧ bit w 0 = true ∧ (s.canOf c).busOff = true)
    ∧ (∃ (s : State) (c : Nat), (s.canOf c).recovering = true ∧ s.portsOn = true ∧ s.running (Pg.can c) = true)
    ∧ (∃ (s : State) (c : Nat), s.portsOn = true ∧ s.running (Pg.can c) = true ∧ s.canTt c = 1)
    ∧ (∃ (s : State) (c : Nat) (f : CanFrame), s.canLive c = true ∧ s.canMode c ≠ 2 ∧ s.canTt c = 2
      ∧ s.canIsRef c f = true ∧ (s.canOf c).rxc = 0)
    ∧ (∃ (s : State) (c : Nat), s.canTt c = 2 ∧ (s.canOf c).ttSync = true ∧ s.portsOn = true
      ∧ s.running (Pg.can c) = true)
    ∧ (∃ (s : State) (c n : Nat), s.portsOn = true ∧ s.running (Pg.can c) = true ∧ s.canTimed c n = true
      ∧ s.canIsTx c n = true ∧ n ∈ (s.canOf c).txPend ∧ (s.canOf c).refAt = true ∧ n ∉ (s.canOf c).tried)
    ∧ (Met 0x0801 (fun c t => 10 ≤ c.f 1 0 16 ∧ c.f 1 0 16 ≤ 10000 ∧ t.owner (Pg.can (c.f 0 0 3)) = c.g
    ∧ t.canRates (c.f 0 0 3) ≠ [] ∧ t.stopped (Pg.can (c.f 0 0 3)) = true ∧ (t.canOf (c.f 0 0 3)).detect = none))
    ∧ (∃ (s : State) (c : Nat) (d : CanDetect), s.portsOn = true ∧ s.canLive c = false ∧ (s.canOf c).detect = some d
      ∧ d.good = 0)
    ∧ (∃ (s : State) (c : Nat) (d : CanDetect), s.portsOn = true ∧ s.canLive c = false ∧ (s.canOf c).detect = some d
      ∧ 1 ≤ d.good)
    ∧ (∃ (s : State) (c lec : Nat) (d : CanDetect), s.coreUp = true ∧ s.portsOn = true ∧ s.canLive c = false
      ∧ (s.canOf c).detect = some d ∧ lec ≠ 0)
    ∧ (∃ (s : State) (c : Nat) (d : CanDetect), s.coreUp = true ∧ (s.canOf c).detect = some d
      ∧ ∃ (k : Nat), (s.canRates c).find? (fun j => decide (d.cand < j)) = some k) :=
  ⟨⟨canUp {}, 7, 6, by decide +kernel⟩,
   ⟨up, 7, 256, by decide +kernel⟩,
   ⟨canUp { busOff := true }, .pf, 0, 7, 1, by decide +kernel⟩,
   ⟨canUp { recovering := true }, 7, by decide +kernel⟩,
   ⟨(canUp {}).setReg (Pg.can 7) Rg.CAN_CFG 0x10000, 7, by decide +kernel⟩,
   ⟨(canUp {}).setReg (Pg.can 7) Rg.CAN_CFG 0x20000, 7, { fr with id := 0 }, by decide +kernel⟩,
   ⟨(canUp { ttSync := true }).setReg (Pg.can 7) Rg.CAN_CFG 0x20000, 7, by decide +kernel⟩,
   ⟨((canUp { ram := [(0x1F85, 2)], txPend := [63], refAt := true }).setReg (Pg.can 7) Rg.CAN_CFG 0x10000).setReg (Pg.can 7) (Rg.CAN_BUFCFG + 4) 0x80000000, 7, 63, by decide +kernel⟩,
   ⟨pf [7, 10000] (up.setReg (Pg.can 7) (Rg.CAN_ABD + 28) 1), .pf, 0, 0, by decide +kernel⟩,
   ⟨(up.setReg (Pg.can 7) (Rg.CAN_ABD + 28) 1).setCan 7 { detect := some ⟨3, true, 10, 100, 7, [], 0, 0⟩ }, 7, ⟨3, true, 10, 100, 7, [], 0, 0⟩, by decide +kernel⟩,
   ⟨(up.setReg (Pg.can 7) (Rg.CAN_ABD + 28) 1).setCan 7 { detect := some ⟨3, true, 10, 100, 7, [], 0, 1⟩ }, 7, ⟨3, true, 10, 100, 7, [], 0, 1⟩, by decide +kernel⟩,
   ⟨(up.setReg (Pg.can 7) (Rg.CAN_ABD + 28) 1).setCan 7 { detect := some ⟨3, true, 10, 100, 7, [], 0, 0⟩ }, 7, 6, ⟨3, true, 10, 100, 7, [], 0, 0⟩, by decide +kernel⟩,
   ⟨(up.setReg (Pg.can 7) (Rg.CAN_ABD + 28) 1).setCan 7 { detect := some ⟨3, true, 10, 100, 6, [], 0, 0⟩ }, 7, ⟨3, true, 10, 100, 6, [], 0, 0⟩, by decide +kernel, by decide +kernel, 7, by decide +kernel⟩⟩

/-- States that meet the hypotheses of `Obligations.HostCommandsComplete`. -/
theorem meets_host_commands_complete :
    (∃ (s : State), s.coreUp = true)
    ∧ (∃ (s : State) (c e : Nat), s.coreUp = true ∧ s.claimed c = some e)
    ∧ (∃ (s : State) (c e : Nat), s.claimed c = some e)
    ∧ (∃ (s : State) (f v q : Nat), s.coreUp = true ∧ s.msixReady f v = true ∧ v ≠ 0
      ∧ s.pci.fnLatch.find? (fun x => x.1 == f && queueVector x.2 == v) = some (f, q))
    ∧ (∃ (s : State) (r : Requester) (g f v k : Nat), s.coreUp = true ∧ s.gloveOf r = some g ∧ (r = .pf
      ∧ f = 0 ∨ ∃ n, r = .vf n ∧ f = n.val + 1) ∧ v < 64 ∧ k < 3)
    ∧ (∃ (s : State) (f : Nat), s.coreUp = true ∧ s.pci.linkUp = true
      ∧ ∃ (p : Nat) (o : Nat), (p = Pg.cmd ∨ p = Pg.tmb 0 ∨ p = Pg.tmb 1 ∨ p = Pg.tmb 2 ∨ p = Pg.tmb 3)
      ∧ o < 4096 ∧ f < 8 ∧ s.canon = true)
    ∧ (∃ (s : State) (r : Requester) (g v : Nat), s.writes r g Pg.pci (Rg.PCI_VF_GLOVE + 4 * (v - 1)) = true)
    ∧ (∃ (s : State) (v : Nat) (w : Word), 
    let y := if bf (w &&& 0x13F) 0 6 = 0 then setBit (w &&& 0x13F) 8 false else w &&& 0x13F
    y ≠ s.reg Pg.pci (Rg.PCI_VF_GLOVE + 4 * (v - 1)))
    ∧ (∃ (s : State) (v : Nat) (w : Word), 
    let y := if bf (w &&& 0x13F) 0 6 = 0 then setBit (w &&& 0x13F) 8 false else w &&& 0x13F
    y = s.reg Pg.pci (Rg.PCI_VF_GLOVE + 4 * (v - 1)))
    ∧ (∃ (s : State) (vfs : Nat) (m : List Nat), s.coreUp = true ∧ s.running Pg.pci = true
      ∧ (∀ f ∈ m, f ∈ s.pci.msixEn) ∧ 
    let c := s.reg Pg.pci Rg.PCI_CTRL
    let n := min vfs (if bit c 8 = true then 7 else 0)
    s.pci.numVf ≤ n)
    ∧ (∃ (s : State), s.coreUp = true) :=
  ⟨⟨up, by decide +kernel⟩,
   ⟨(up.setReg Pg.ain Hd.irqEn 1).setReg Pg.ain Hd.irqPend 1, 0, Pg.ain, by decide +kernel⟩,
   ⟨(up.setReg Pg.ain Hd.irqEn 1).setReg Pg.ain Hd.irqPend 1, 0, Pg.ain, by decide +kernel⟩,
   ⟨{ up.setCur Pg.pci 2 with pci := { up.pci with linkUp := true, numVf := 7, msixEn := [7], unmasked := [511], fnLatch := [(7, 62)] } }, 7, 63, 62, by decide +kernel⟩,
   ⟨up, .pf, 0, 0, 63, 2, by decide +kernel, by decide +kernel, .inl ⟨rfl, rfl⟩, by decide, by decide⟩,
   ⟨{ up with pci := { up.pci with linkUp := true } }, 7, by decide +kernel, by decide +kernel, Pg.tmb 3, 4095, by decide +kernel⟩,
   ⟨up, .pf, 0, 6, by decide +kernel⟩,
   ⟨up, 6, 0x13F, by decide +kernel⟩,
   ⟨up, 6, 0x100, by decide +kernel⟩,
   ⟨{ (up.setCur Pg.pci 2).setReg Pg.pci Rg.PCI_CTRL 0x100 with pci := { up.pci with numVf := 7, msixEn := [7] } }, 7, [7], by decide +kernel⟩,
   ⟨up, by decide +kernel⟩⟩

/-- States that meet the hypotheses of `Obligations.UsbWorks`. -/
theorem meets_usb_works :
    (∃ (s : State), s.usbAwake = true ∧ s.sys.mode ≠ .recovery ∧ s.key.rngOk = true)
    ∧ (∃ (s : State) (g : Nat) (mac n k : List Byte), s.usbAwake = true ∧ s.sys.mode ≠ .recovery
      ∧ s.usb.nonce = some n ∧ s.sessionKey g = some k ∧ Config.hmac k (n ++ leBytes 1 g) = mac)
    ∧ (∃ (s : State) (g : Nat) (mac n k : List Byte), s.usbAwake = true ∧ s.sys.mode ≠ .recovery
      ∧ s.usb.nonce = some n ∧ s.sessionKey g = some k ∧ Config.hmac k (n ++ leBytes 1 g) ≠ mac)
    ∧ (∃ (s : State) (o : Nat), s.usbAwake = true ∧ s.sys.mode ≠ .recovery ∧ o < 0x1000000)
    ∧ (∃ (s : State) (o : Nat), s.usbAwake = true ∧ s.sys.mode ≠ .recovery ∧ o < 0x1000000 ∧ o % 4 = 0)
    ∧ (∃ (s : State) (g : Nat), s.usbAwake = true ∧ s.usb.dstate = 4 ∧ s.usb.session = some g ∧ s.ring g ≠ [])
    ∧ (∃ (s : State) (g : Nat) (e : List Byte) (l : List (List Byte)), s.coreUp = true ∧ s.usb.session = some g
      ∧ s.ring g = e :: l)
    ∧ (∃ (s : State), s.usbOn = true ∧ 1 ≤ s.usb.dstate)
    ∧ (∃ (s : State), s.usbOn = true ∧ s.wakePending = true)
    ∧ (∃ (s : State), s.usbOn = true ∧ s.usb.suspended = true)
    ∧ (∃ (s : State), s.usbOn = true ∧ 1 ≤ s.usb.dstate)
    ∧ (∃ (s : State), s.usbAwake = true ∧ s.usb.dstate ≤ 3)
    ∧ (∃ (s : State), s.usbAwake = true ∧ 3 ≤ s.usb.dstate)
    ∧ (∃ (s : State), s.usbOn = true ∧ s.usb.dstate = 0)
    ∧ (∃ (s : State), s.powered = true ∧ s.clk.usbPll = true) :=
  ⟨⟨{ usbUp with key := { up.key with rngOk := true } }, by decide +kernel⟩,
   ⟨{ usbUp with usb := { usbUp.usb with nonce := some [1] }, key := { up.key with seeds := [(63, some [1])] } }, 63, _, [1], _, by decide +kernel, by decide +kernel, rfl, rfl, rfl⟩,
   by
      have ⟨k, hk⟩ : ∃ k, ({ usbUp with usb := { usbUp.usb with nonce := some [1] }, key := { up.key with seeds := [(63, some [1])] } } : State).sessionKey 63 = some k := ⟨_, rfl⟩
      exact ⟨{ usbUp with usb := { usbUp.usb with nonce := some [1] }, key := { up.key with seeds := [(63, some [1])] } }, 63,
        Config.hmac k ([1] ++ leBytes 1 63) ++ [0], [1], k, by decide +kernel, by decide +kernel, rfl, hk, fun h => by simpa using congrArg List.length h⟩,
   ⟨usbUp, 0xFFFFFF, by decide +kernel⟩,
   ⟨usbUp, 0xFFFFFC, by decide +kernel⟩,
   ⟨{ usbUp with usb := { usbUp.usb with session := some 0, rings := [(0, [[1]])] } }, 0, by decide +kernel⟩,
   ⟨{ usbUp with usb := { usbUp.usb with session := some 0, rings := [(0, [[1]])] } }, 0, [1], [], by decide +kernel⟩,
   ⟨{ usbUp with usb := { usbUp.usb with dstate := 1 } }, by decide +kernel⟩,
   ⟨({ usbUp with usb := { usbUp.usb with suspended := true, armed := true, session := some 0, rings := [(0, [[1]])] } } : State).setReg Pg.usb Rg.USB_CTRL 2, by decide +kernel⟩,
   ⟨{ usbUp with usb := { usbUp.usb with suspended := true } }, by decide +kernel⟩,
   ⟨{ usbUp with usb := { usbUp.usb with dstate := 1 } }, by decide +kernel⟩,
   ⟨{ usbUp with usb := { usbUp.usb with dstate := 3 } }, by decide +kernel⟩,
   ⟨{ usbUp with usb := { usbUp.usb with dstate := 3 } }, by decide +kernel⟩,
   ⟨{ usbUp with usb := { usbUp.usb with dstate := 0 } }, by decide +kernel⟩,
   ⟨{ up with clk := { up.clk with usbPll := true } }, by decide +kernel⟩⟩

/-- The key vault runs under the device root, its random source works, and handle 255 is `h`. -/
def vault (h : Option Handle) : State :=
  let s := (up.setCur Pg.key 2).setHandle 255 h
  { s with key := { s.key with rngOk := true, ident := some [1], xport := some [2] } }

/-- States that meet the hypotheses of `Obligations.KeyCommandsComplete`. -/
theorem meets_key_commands_complete :
    (Met 0x0901 (fun c t => (c.f 0 0 3 = 2 ∨ c.f 0 0 3 = 3 ∨ c.f 0 0 3 = 4 ∨ c.f 0 0 3 = 5)
    ∧ (c.f 0 16 6 = 4 ∨ c.f 0 16 6 = 8 ∨ c.f 0 16 6 = 16 ∨ c.f 0 16 6 = 32) ∧ 1 ≤ c.f 0 24 7 ∧ c.f 0 24 7 ≤ 64
    ∧ t.bufOk c (c.addr 2) (c.f 0 24 7) = true ∧ c.g = (if c.f 0 0 3 = 5 then c.f 0 8 6 else 0) ∧ t.keyReady = true
    ∧ t.freeHandles ≠ []))
    ∧ (∃ (h : Handle), Met 0x0901 (fun c t => c.f 0 0 3 = 0
      ∧ (c.f 0 16 6 = 4 ∨ c.f 0 16 6 = 8 ∨ c.f 0 16 6 = 16 ∨ c.f 0 16 6 = 32) ∧ 1 ≤ c.f 0 24 7
    ∧ c.f 0 24 7 ≤ 64 ∧ t.bufOk c (c.addr 2) (c.f 0 24 7) = true ∧ (c.arg 1).toNat ≤ 255
    ∧ t.handleForeign c (c.arg 1).toNat = false ∧ t.keyReady = true ∧ t.handle (c.arg 1).toNat = some h ∧ h.usage = 32
    ∧ h.depth < 4 ∧ t.freeHandles ≠ []))
    ∧ (Met 0x0902 (fun c t => 2 ≤ c.f 0 0 8 ∧ t.handleForeign c (c.f 0 0 8) = false ∧ t.keyReady = true))
    ∧ (Met 0x0903 (fun c t => 2 ≤ c.f 0 0 8 ∧ t.running Pg.key = true ∧ t.handle (c.f 0 0 8) = none))
    ∧ (∃ (h : Handle) (l : List Byte × Nat), Met 0x0903 (fun c t => 2 ≤ c.f 0 0 8 ∧ t.running Pg.key = true
      ∧ t.handle (c.f 0 0 8) = some h ∧ h.glove = c.g
    ∧ h.chain.getLast? = some l))
    ∧ (∃ (k : List Byte), Met 0x0904 (fun c t => let n := (c.arg 1).toNat
    1 ≤ n ∧ n ≤ 65536 ∧ t.bufOk c (c.addr 2) n = true ∧ t.bufOk c (c.addr 4) 48 = true
    ∧ t.handleForeign c (c.f 0 0 8) = false ∧ t.keyReady = true ∧ t.keyFor (c.f 0 0 8) 8 = some k))
    ∧ (∃ (k : List Byte), Met 0x0905 (fun c t => let n := (c.arg 1).toNat
    1 ≤ n ∧ n ≤ 65536 ∧ t.bufOk c (c.addr 2) n = true ∧ t.bufOk c (c.addr 4) (n + 28) = true
    ∧ t.handleForeign c (c.f 0 0 8) = false ∧ t.keyReady = true ∧ t.keyFor (c.f 0 0 8) 4 = some k
      ∧ t.key.rngOk = true))
    ∧ (∃ (k : List Byte), Met 0x0906 (fun c t => let n := (c.arg 1).toNat
    1 ≤ n ∧ n ≤ 65536 ∧ t.bufOk c (c.addr 2) (n + 28) = true ∧ t.bufOk c (c.addr 4) n = true
    ∧ t.handleForeign c (c.f 0 0 8) = false ∧ t.keyReady = true ∧ t.keyFor (c.f 0 0 8) 4 = some k))
    ∧ (∃ (k : List Byte), Met 0x0907 (fun c t => let n := (c.arg 1).toNat
    16 ≤ n ∧ n ≤ 64 ∧ n % 8 = 0 ∧ t.bufOk c (c.addr 2) n = true ∧ t.bufOk c (c.addr 4) (n + 8) = true
    ∧ t.handleForeign c (c.f 0 0 8) = false ∧ t.keyReady = true ∧ t.keyFor (c.f 0 0 8) 16 = some k))
    ∧ (∃ (k : List Byte), Met 0x0908 (fun c t => let n := (c.arg 1).toNat
    24 ≤ n ∧ n ≤ 72 ∧ n % 8 = 0 ∧ t.bufOk c (c.addr 2) n = true ∧ t.bufOk c (c.addr 4) (n - 8) = true
    ∧ t.handleForeign c (c.f 0 0 8) = false ∧ t.keyReady = true ∧ t.keyFor (c.f 0 0 8) 16 = some k))
    ∧ (Met 0x0909 (fun c t => t.bufOk c (c.addr 0) 96 = true ∧ t.keyReady = true ∧ t.freeHandles ≠ []))
    ∧ (∃ (h : Handle), Met 0x090A (fun c t => t.bufOk c (c.addr 1) 48 = true ∧ t.bufOk c (c.addr 3) 96 = true
      ∧ t.handleForeign c (c.f 0 0 8) = false
    ∧ t.keyReady = true ∧ t.handle (c.f 0 0 8) = some h ∧ h.usage = 2))
    ∧ (∃ (i x : List Byte), Met 0x090B (fun c t => t.bufOk c (c.addr 0) 32 = true ∧ t.bufOk c (c.addr 2) 488 = true
      ∧ t.keyReady = true ∧ t.key.ident = some i
    ∧ t.key.xport = some x ∧ t.key.rngOk = true))
    ∧ (∃ (x : List Byte), Met 0x090C (fun c t => c.f 0 0 3 = 5 ∧ t.bufOk c (c.addr 1) 144 = true
      ∧ t.maySeed c.g 5 (c.f 0 8 6) = true ∧ t.keyReady = true
    ∧ t.key.xport = some x))
    ∧ (Met 0x090D (fun c t => let n := (c.arg 0).toNat
    1 ≤ n ∧ n ≤ 256 ∧ t.bufOk c (c.addr 1) n = true ∧ t.running Pg.key = true ∧ t.key.rngOk = true))
    ∧ (Met 0x090E (fun c t => t.bufOk c (c.addr 0) 2048 = true ∧ t.keyReady = true)) :=
  ⟨⟨pf [0x40200005, 0, 0, 1] (vault none), .pf, 0, 0, by decide +kernel⟩,
   ⟨⟨3, 0, 0, 32, [([], 32), ([], 32), ([], 32)], []⟩, pf [0x40200000, 255, 0, 1] (vault (some ⟨3, 0, 0, 32, [([], 32), ([], 32), ([], 32)], []⟩)), .pf, 0, 0, by decide +kernel⟩,
   ⟨pf [255] (vault (some ⟨3, 0, 0, 8, [], []⟩)), .pf, 0, 0, by decide +kernel⟩,
   ⟨pf [255] (vault none), .pf, 0, 0, by decide +kernel⟩,
   ⟨⟨3, 0, 0, 8, [([], 8)], []⟩, ([], 8), pf [255] (vault (some ⟨3, 0, 0, 8, [([], 8)], []⟩)), .pf, 0, 0, by decide +kernel⟩,
   ⟨_, pf [255, 65536, 0, 1, 0, 1] (vault (some ⟨3, 0, 0, 8, [], []⟩)), .pf, 0, 0, by decide +kernel, by decide +kernel, by decide +kernel, by decide +kernel, by decide +kernel, by decide +kernel, by decide +kernel, rfl⟩,
   ⟨_, pf [255, 65536, 0, 1, 0, 1] (vault (some ⟨3, 0, 0, 4, [], []⟩)), .pf, 0, 0, by decide +kernel, by decide +kernel, by decide +kernel, by decide +kernel, by decide +kernel, by decide +kernel, by decide +kernel, rfl, by decide +kernel⟩,
   ⟨_, pf [255, 65536, 0, 1, 0, 1] (vault (some ⟨3, 0, 0, 4, [], []⟩)), .pf, 0, 0, by decide +kernel, by decide +kernel, by decide +kernel, by decide +kernel, by decide +kernel, by decide +kernel, by decide +kernel, rfl⟩,
   ⟨_, pf [255, 64, 0, 1, 0, 1] (vault (some ⟨3, 0, 0, 16, [], []⟩)), .pf, 0, 0, by decide +kernel, by decide +kernel, by decide +kernel, by decide +kernel, by decide +kernel, by decide +kernel, by decide +kernel, by decide +kernel, rfl⟩,
   ⟨_, pf [255, 72, 0, 1, 0, 1] (vault (some ⟨3, 0, 0, 16, [], []⟩)), .pf, 0, 0, by decide +kernel, by decide +kernel, by decide +kernel, by decide +kernel, by decide +kernel, by decide +kernel, by decide +kernel, by decide +kernel, rfl⟩,
   ⟨pf [0, 1] (vault none), .pf, 0, 0, by decide +kernel⟩,
   ⟨⟨3, 0, 0, 2, [], []⟩, pf [255, 0, 1, 0, 1] (vault (some ⟨3, 0, 0, 2, [], []⟩)), .pf, 0, 0, by decide +kernel⟩,
   ⟨[1], [2], pf [0, 1, 0, 1] (vault none), .pf, 0, 0, by decide +kernel⟩,
   ⟨[2], pf [5, 0, 1] (vault none), .pf, 0, 0, by decide +kernel⟩,
   ⟨pf [256, 0, 1] (vault none), .pf, 0, 0, by decide +kernel⟩,
   ⟨pf [0, 1] (vault none), .pf, 0, 0, by decide +kernel⟩⟩

/-- States that meet the hypotheses of `Obligations.TheLifeCycleMoves`. -/
theorem meets_the_life_cycle_moves :
    (Met 0x0911 (fun c t => t.bufOk c (c.addr 0) 96 = true ∧ c.g = 0 ∧ t.key.lcs = 0 ∧ t.key.lcsCount < 63
      ∧ t.key.rngOk = true))
    ∧ (Met 0x0912 (fun c t => (c.arg 0).toNat ≤ 2048 ∧ t.bufOk c (c.addr 1) (c.arg 0).toNat = true ∧ c.g = 0
      ∧ t.key.lcs = 1))
    ∧ (Met 0x0913 (fun c t => (c.f 0 0 3 = 2 ∨ (c.f 0 0 3 = 4 ∧ c.arg 1 = 0x5EB00004)) ∧ c.g = 0
    ∧ lcsPermitted t.key.lcs (c.f 0 0 3) t.key.lcsCount = true ∧ t.key.rngOk = true ∧ t.key.cut = none))
    ∧ (Met 0x0913 (fun c t => c.f 0 0 3 = 2 ∧ c.g = 0 ∧ t.key.cut ≠ none))
    ∧ (∃ (s : State) (old n : Nat), s.key.cut = some old ∧ s.key.lcs = 2 ∧ s.inHand 0x0911 0x0913 = [n])
    ∧ (Met 0x090B (fun c t => t.bufOk c (c.addr 0) 32 = true ∧ t.bufOk c (c.addr 2) 488 = true
      ∧ t.running Pg.key = true ∧ t.key.cut ≠ none))
    ∧ (Met 0x0913 (fun c t => c.f 0 0 3 = 2 ∧ c.g = 0 ∧ lcsPermitted t.key.lcs 2 t.key.lcsCount = true
      ∧ t.key.rngOk = true
    ∧ t.key.cut = none))
    ∧ (∃ (s : State), s.coreUp = true)
    ∧ (Met 0x090D (fun c t => 1 ≤ (c.arg 0).toNat ∧ (c.arg 0).toNat ≤ 256 ∧ t.bufOk c (c.addr 1) (c.arg 0).toNat = true
    ∧ t.running Pg.key = true ∧ t.key.rngOk = false)) :=
  ⟨⟨pf [0, 1] { up with key := { up.key with lcs := 0, lcsCount := 62, rngOk := true } }, .pf, 0, 0, by decide +kernel⟩,
   ⟨pf [2048, 0, 1] { up with key := { up.key with lcs := 1 } }, .pf, 0, 0, by decide +kernel⟩,
   ⟨pf [4, 0x5EB00004] { up with key := { up.key with lcs := 3, lcsCount := 63, rngOk := true } }, .pf, 0, 0, by decide +kernel⟩,
   ⟨pf [2] { up with key := { up.key with cut := some 0 } }, .pf, 0, 0, by decide +kernel⟩,
   ⟨{ up.alloc 7 0 0x0913 [2] (.bank 8) .poll 0 with key := { up.key with lcs := 2, cut := some 1 } }, 1, 7, by decide +kernel⟩,
   ⟨pf [0, 1, 0, 1] { up.setCur Pg.key 2 with key := { up.key with cut := some 0 } }, .pf, 0, 0, by decide +kernel⟩,
   ⟨pf [2] { up with key := { up.key with lcs := 3, lcsCount := 62, rngOk := true } }, .pf, 0, 0, by decide +kernel⟩,
   ⟨up, by decide +kernel⟩,
   ⟨pf [1, 0, 1] (up.setCur Pg.key 2), .pf, 0, 0, by decide +kernel⟩⟩

/-- A session for an image of one chunk. -/
def sess : UpdSess := { img := 1, src := .host, keep := true, hdr := List.replicate 0x14 0 ++ leBytes 4 1 ++ leBytes 4 65536 }

/-- The update page runs, and the session of the update commands is `x`. -/
def updUp (x : Option UpdSess) : State := let s := up.setCur Pg.upd 2; { s with upd := { s.upd with own := x } }

/-- States that meet the hypotheses of `Obligations.UpdateCommandsComplete`. -/
theorem meets_update_commands_complete :
    (Met 0x0A01 (fun c t => let h := t.load (c.addr 1) 512
    c.b 0 0 = false ∧ t.bufOk c (c.addr 1) (512 + (if hdrFormat h = true then 48 * hdrChunks h else 0)) = true
    ∧ c.tenant = false ∧ t.running Pg.upd = true ∧ t.updMode = true ∧ t.onTrial = false ∧ t.upd.own = none
    ∧ t.upd.via = none))
    ∧ (∃ (x : UpdSess), Met 0x0A02 (fun c t => let i := (c.arg 0).toNat
    (c.arg 1).toNat = 1 ∧ i + 1 ≤ hdrChunks x.hdr ∧ i + 1 ≤ 8176 ∧ t.bufOk c (c.addr 2) 1 = true
    ∧ t.bufOk c (c.addr 2) (chunkLen x.hdr i) = true ∧ c.tenant = false ∧ t.running Pg.upd = true ∧ t.updMode = true
    ∧ t.upd.own = some x ∧ x.finish = none ∧ x.fail = none ∧ x.fwd = none))
    ∧ (∃ (x : UpdSess), Met 0x0A03 (fun c t => c.tenant = false ∧ t.running Pg.upd = true ∧ t.updMode = true
      ∧ t.upd.own = some x ∧ x.full = true
    ∧ x.finish = none ∧ x.fwd = none))
    ∧ (Met 0x0A04 (fun c t => c.tenant = false ∧ t.running Pg.upd = true ∧ t.updMode = true ∧ t.onTrial = false
      ∧ t.upd.own = none
    ∧ t.upd.via = none ∧ t.upd.staged = true))
    ∧ (Met 0x0A05 (fun c t => c.tenant = false ∧ t.running Pg.upd = true ∧ t.isFatal = false
      ∧ (t.sys.mode = .run ∨ t.sys.mode = .degraded)
    ∧ t.sys.trial = true ∧ t.upd.burnt = false ∧ hdrRollback (t.upd.slot t.sys.slot).hdr ≤ 64))
    ∧ (∃ (x : UpdSess), Met 0x0A06 (fun c t => c.tenant = false ∧ t.isFatal = false ∧ t.running Pg.upd = true
      ∧ t.upd.own = some x))
    ∧ (∃ (s : State) (x : UpdSess) (w : UpdWrite) (n : Nat), s.coreUp = true ∧ s.upd.own = some x
      ∧ x.writes.find? (fun w => !w.written) = some w ∧ w.slot = some n ∧ w.chunks = [])
    ∧ (∃ (s : State), s.sys.trial = true ∧ s.sys.mode ≠ Mode.startup) :=
  ⟨⟨pf [0, 0, 1] (updUp none), .pf, 0, 0, by decide +kernel⟩,
   ⟨sess, pf [0, 1, 0, 1] (updUp (some sess)), .pf, 0, 0, by decide +kernel⟩,
   ⟨{ sess with stored := [0] }, updUp (some { sess with stored := [0] }), .pf, 0, 0, by decide +kernel⟩,
   ⟨{ updUp none with upd := { up.upd with staged := true } }, .pf, 0, 0, by decide +kernel⟩,
   ⟨{ updUp none with sys := { up.sys with trial := true } }, .pf, 0, 0, by decide +kernel⟩,
   ⟨sess, updUp (some sess), .pf, 0, 0, by decide +kernel⟩,
   ⟨updUp (some { sess with writes := [⟨none, [1], true⟩, ⟨some 4, [], false⟩] }), { sess with writes := [⟨none, [1], true⟩, ⟨some 4, [], false⟩] }, ⟨some 4, [], false⟩, 4, by decide +kernel⟩,
   ⟨{ up with sys := { up.sys with trial := true } }, by decide +kernel⟩⟩

/-- A relay frame with opcode `op` and nothing else. -/
def relay (op : Byte) : List Byte := List.replicate 14 0 ++ [0, op] ++ List.replicate 44 0

/-- The onward side of a relay to the east. -/
def onward : RelaySt := { west := false, remain := 1, session := 0, origin := 0 }

/-- States that meet the hypotheses of `Obligations.TheRelayAndTheLoader`. -/
theorem meets_the_relay_and_the_loader :
    (∃ (s : State) (f : List Byte), s.relayLive = true ∧ relayField f 1 1 = 1 ∧ relayField f 8 4 = 0 ∧ s.upd.via = none)
    ∧ (∃ (s : State) (w : Bool) (f : List Byte) (x : UpdSess) (y : RelaySt), s.relayLive = true
      ∧ relayField f 1 1 = 2 ∧ s.upd.own = some x ∧ s.upd.via = none ∧ x.fwd = some y ∧ y.west = w
      ∧ y.session = relayField f 4 4 ∧ relayField f 8 4 ≠ 0xFFFFFFFF ∧ y.wait = [] ∧ x.writes = []
      ∧ x.finished = false ∧ s.sys.mode ≠ .recovery)
    ∧ (∃ (s : State) (i n : Nat) (x : UpdSess) (y : RelaySt), s.relayLive = true ∧ s.upd.own = some x
      ∧ x.fwd = some y ∧ y.sent.find? (fun e => e.1 == i) = some (i, n) ∧ n < 8)
    ∧ (∃ (s : State) (w : Bool) (f : List Byte) (x : UpdSess), s.relayLive = true ∧ relayField f 1 1 = 3
      ∧ s.upd.via = some x ∧ x.src = .riser w ∧ x.session = relayField f 4 4 ∧ x.hashes ≠ [] ∧ x.whole = true
      ∧ s.sys.mode ≠ .recovery)
    ∧ (∃ (s : State) (f : List Byte) (x : UpdSess) (y : RelaySt), s.relayLive = true ∧ relayField f 1 1 = 4
      ∧ relayField f 2 1 ≠ 9 ∧ s.upd.own = some x ∧ x.fwd = some y ∧ y.session = relayField f 4 4 ∧ y.finSent = true)
    ∧ (∃ (s : State) (x : UpdSess) (n : Nat), s.coreUp = true ∧ s.upd.own = some x ∧ x.finish = some n)
    ∧ (∃ (s : State), s.coreUp = true ∧ s.sys.mode = .recovery ∧ s.isFatal = false ∧ s.pfw = false
      ∧ ∃ (b : List Byte), b ≠ [] ∧ b.length ≤ 4096 ∧ s.upd.dfuErr = 0 ∧ s.upd.manifest = false
      ∧ (s.upd.dfu ++ b).length < 512)
    ∧ (∃ (s : State) (n : Nat), s.coreUp = true ∧ s.sys.mode = .recovery ∧ s.isFatal = false ∧ s.loaderDone = some n) :=
  ⟨⟨updUp none, relay 1, by decide +kernel⟩,
   ⟨updUp (some { sess with fwd := some onward }), false, relay 2, { sess with fwd := some onward }, onward, by decide +kernel⟩,
   ⟨updUp (some { sess with fwd := some { onward with sent := [(8175, 7)] } }), 8175, 7, { sess with fwd := some { onward with sent := [(8175, 7)] } }, { onward with sent := [(8175, 7)] }, by decide +kernel⟩,
   ⟨{ updUp none with upd := { up.upd with via := some { sess with src := .riser true, hashes := [0], have_ := [(0, [1])] } } }, true, relay 3,
      { sess with src := .riser true, hashes := [0], have_ := [(0, [1])] }, by decide +kernel⟩,
   ⟨updUp (some { sess with fwd := some { onward with finSent := true } }), relay 4, { sess with fwd := some { onward with finSent := true } }, { onward with finSent := true }, by decide +kernel⟩,
   ⟨updUp (some { sess with finish := some 4 }), { sess with finish := some 4 }, 4, by decide +kernel⟩,
   ⟨{ up with sys := { up.sys with mode := .recovery } }, by decide +kernel, by decide +kernel, by decide +kernel, by decide +kernel, [0], by decide +kernel⟩,
   ⟨{ up with sys := { up.sys with mode := .recovery }, upd := { up.upd with manifest := true } }, _, by decide +kernel, by decide +kernel, by decide +kernel, rfl⟩⟩

-- Ill-formed commands are refused; the last well-formed ones are not

theorem test_refuses_size : Instr.wf (.registerWrite .pf 0 3 none false) = false ∧ Instr.wf (.registerWrite .pf 0 8 (some 0) false) = true := by
  decide +kernel
theorem test_refuses_page : Instr.wf (.pageStarted 0x180 []) = false ∧ Instr.wf (.pageStarted 0x17F []) = true := by
  decide +kernel
theorem test_refuses_request : Instr.wf (.pgRunWrite .pf 0x20 4) = false ∧ Instr.wf (.pgRunWrite .pf 0x20 3) = true := by
  decide +kernel
theorem test_refuses_event : Instr.wf (.pageEventDelivery 0x180) = false ∧ Instr.wf (.pageEventDelivery 0x17F) = true := by
  decide +kernel
theorem test_refuses_queue_event : Instr.wf (.pageEventDelivery 0x9000) = false ∧ Instr.wf (.pageEventDelivery 0x8FFF) = true := by
  decide +kernel
theorem test_refuses_slot : Instr.wf (.slotTimeoutFree 4096) = false ∧ Instr.wf (.slotTimeoutFree 4095) = true := by
  decide +kernel
theorem test_refuses_queue : Instr.wf (.dbIndexWrite .pf 32768 0 false) = false ∧ Instr.wf (.dbIndexWrite .pf 32767 0 false) = true := by
  decide +kernel
theorem test_refuses_channel : Instr.wf (.supervisorTakeover 4) = false ∧ Instr.wf (.supervisorTakeover 3) = true := by
  decide +kernel
theorem test_refuses_cup : Instr.wf (.stepTimeout 3 16 0) = false ∧ Instr.wf (.stepTimeout 3 15 4096) = true := by
  decide +kernel
theorem test_refuses_stall : Instr.wf (.stepTimeout 3 15 4097) = false ∧ Instr.wf (.stepTimeout 3 15 0) = true := by
  decide +kernel
theorem test_refuses_cup_upset : Instr.wf (.cupStepDone 0 0 .badEntry 0) = false ∧ Instr.wf (.cupStepDone 0 0 .romParity 0) = true := by
  decide +kernel
theorem test_refuses_kettle_upset : Instr.wf (.kettleCallEntry 0 .dequeParity) = false ∧ Instr.wf (.kettleCallEntry 0 .badEntry) = true := by
  decide +kernel
theorem test_refuses_frame : Instr.wf (.relayWriteRx (List.replicate 9601 0)) = false ∧ Instr.wf (.relayWriteRx (List.replicate 9600 0)) = true := by
  decide +kernel
theorem test_refuses_port : Instr.wf (.fpFrameTx 8) = false ∧ Instr.wf (.fpFrameTx 7) = true := by
  decide +kernel
theorem test_refuses_bank : Instr.wf (.dioPwmPeriod 4) = false ∧ Instr.wf (.dioPwmPeriod 3) = true := by
  decide +kernel
theorem test_refuses_base : Instr.wf (.tmbHoldover 4) = false ∧ Instr.wf (.tmbHoldover 3) = true := by
  decide +kernel
theorem test_refuses_start_fault : Instr.wf (.caddyStart 3 false) = false ∧ Instr.wf (.caddyStart 2 false) = true := by
  decide +kernel
theorem test_refuses_input : Instr.wf (.pilotStale 152) = false ∧ Instr.wf (.pilotStale 151) = true := by
  decide +kernel
theorem test_refuses_bit_number : Instr.wf (.dataLoss 151 1250) = false ∧ Instr.wf (.dataLoss 151 1249) = true := by
  decide +kernel
theorem test_refuses_pulse_output : Instr.wf (.pulseStart 32) = false ∧ Instr.wf (.pulseStart 31) = true := by
  decide +kernel
theorem test_refuses_driver : Instr.wf (.pilotDriver 40 true) = false ∧ Instr.wf (.pilotDriver 39 true) = true := by
  decide +kernel
theorem test_refuses_tag : Instr.wf (.riserFrameRx true (List.replicate 8 0) [] {} 0) = false ∧ Instr.wf (.riserFrameRx true (List.replicate 7 0) [] {} 0) = true := by
  decide +kernel
theorem test_refuses_ring_address : Instr.wf (.ringMapExpiry true 128) = false ∧ Instr.wf (.ringMapExpiry true 127) = true := by
  decide +kernel
theorem test_refuses_lane_skew : Instr.wf (.riserAligned true 1024) = false ∧ Instr.wf (.riserAligned true 1023) = true := by
  decide +kernel
theorem test_refuses_can_channel : Instr.wf (.canTxDone 8) = false ∧ Instr.wf (.canTxDone 7) = true := by
  decide +kernel
theorem test_refuses_can_identifier : Instr.wf (.canFrameRx 0 { id := 0x800, xtd := false, dlc := 0, data := [] } 0 false [] []) = false ∧ Instr.wf (.canFrameRx 0 { id := 0x7FF, xtd := false, dlc := 0, data := [] } 0 false [] []) = true := by
  decide +kernel
theorem test_refuses_can_remote_fd : Instr.wf (.canFrameRx 0 { id := 0, xtd := true, dlc := 0, fdf := true, rtr := true, data := [] } 0 false [] []) = false ∧ Instr.wf (.canFrameRx 0 { id := 0, xtd := true, dlc := 15, rtr := true, data := [] } 0 false [] []) = true := by
  decide +kernel
theorem test_refuses_register_of_a_pair : Instr.wf (.canTxreqWrite .pf 0 2 0) = false ∧ Instr.wf (.canTxreqWrite .pf 0 1 0) = true := by
  decide +kernel
theorem test_refuses_error_kind : Instr.wf (.canErrorFrame 0 7 false 0 0 false) = false ∧ Instr.wf (.canErrorFrame 0 6 false 0 0 false) = true := by
  decide +kernel
theorem test_refuses_can_buffer : Instr.wf (.canTtTrigger 0 64) = false ∧ Instr.wf (.canTtTrigger 0 63) = true := by
  decide +kernel
theorem test_refuses_analogue_input : Instr.wf (.ainShuntOpen 16) = false ∧ Instr.wf (.ainShuntOpen 15) = true := by
  decide +kernel
theorem test_refuses_pulse_input : Instr.wf (.pinTimeout 8) = false ∧ Instr.wf (.pinTimeout 7) = true := by
  decide +kernel
theorem test_refuses_index_input : Instr.wf (.pinIndex 4) = false ∧ Instr.wf (.pinIndex 3) = true := by
  decide +kernel
theorem test_refuses_dio_pin : Instr.wf (.dioInputDebounced 32 true) = false ∧ Instr.wf (.dioInputDebounced 31 true) = true := by
  decide +kernel
theorem test_refuses_core : Instr.wf (.cleClaimRead 8) = false ∧ Instr.wf (.cleClaimRead 7) = true := by
  decide +kernel
theorem test_refuses_function : Instr.wf (.msixMessage 8 1 none) = false ∧ Instr.wf (.msixMessage 7 1 none) = true := by
  decide +kernel
theorem test_refuses_vector : Instr.wf (.msixMessage 7 64 none) = false ∧ Instr.wf (.msixMessage 7 63 none) = true := by
  decide +kernel
theorem test_refuses_virtual_function : Instr.wf (.pciVfGloveWrite .pf 0 0) = false ∧ Instr.wf (.pciVfGloveWrite .pf 7 0) = true := by
  decide +kernel
theorem test_refuses_glove : Instr.wf (.sessionOpen 64 (List.replicate 48 0)) = false ∧ Instr.wf (.sessionOpen 63 (List.replicate 48 0)) = true := by
  decide +kernel
theorem test_refuses_mac : Instr.wf (.sessionOpen 0 (List.replicate 47 0)) = false ∧ Instr.wf (.sessionOpen 0 (List.replicate 48 0)) = true := by
  decide +kernel
theorem test_refuses_length : Instr.wf (.regRead 0 260) = false ∧ Instr.wf (.regRead 0 256) = true := by
  decide +kernel
theorem test_refuses_words : Instr.wf (.regWrite 0 []) = false ∧ Instr.wf (.regWrite 0 [0]) = true := by
  decide +kernel
theorem test_refuses_entry : Instr.wf (.cmd (List.replicate 63 0) false) = false ∧ Instr.wf (.cmd (List.replicate 64 0) false) = true := by
  decide +kernel
theorem test_refuses_output : Instr.wf (.outputOverload 40) = false ∧ Instr.wf (.outputOverload 39) = true := by
  decide +kernel
theorem test_refuses_analogue_output : Instr.wf (.aoutReadbackFault 8) = false ∧ Instr.wf (.aoutReadbackFault 7) = true := by
  decide +kernel
theorem test_refuses_strike : Instr.wf (.tickBoundary [.slot 4096]) = false ∧ Instr.wf (.tickBoundary [.slot 4095]) = true := by
  decide +kernel
theorem test_refuses_strike_of_a_queue : Instr.wf (.tickBoundary [.queue 32768]) = false ∧ Instr.wf (.tickBoundary [.queue 32767]) = true := by
  decide +kernel
theorem test_refuses_strike_of_a_ram : Instr.wf (.tickBoundary [.canRam 7 8192]) = false ∧ Instr.wf (.tickBoundary [.canRam 7 8191]) = true := by
  decide +kernel
theorem test_refuses_map_word : Instr.wf (.tpiCycleBoundary .none [65536]) = false ∧ Instr.wf (.tpiCycleBoundary .none [65535]) = true := by
  decide +kernel
theorem test_refuses_decoder_hit : Instr.wf (.riserFrameRx true (List.replicate 7 0) [] ⟨0, 0, true⟩ 0) = false ∧ Instr.wf (.riserFrameRx true (List.replicate 7 0) [] ⟨0, 1, true⟩ 0) = true := by
  decide +kernel
theorem test_refuses_part_of_a_frame : Instr.wf (.riserLinkDown true .marker 0 {} false (some ([], []))) = false ∧ Instr.wf (.riserLinkDown true .marker 0 {} false (some (List.replicate 7 0, []))) = true := by
  decide +kernel
theorem test_refuses_node_input : Instr.wf (.fpFrameRx 7 [] 0 0 false [⟨2048, 0, 0, 0⟩]) = false ∧ Instr.wf (.fpFrameRx 7 [] 0 0 false [⟨2047, 0, 0, 0⟩]) = true := by
  decide +kernel
theorem test_refuses_wave : Instr.wf (.pinResultUpdate 7 [(true, 250001)]) = false ∧ Instr.wf (.pinResultUpdate 7 [(true, 250000)]) = true := by
  decide +kernel
theorem test_refuses_loop_closed : Instr.wf (.tamper false true) = false ∧ Instr.wf (.tamper true true) = true := by
  decide +kernel
theorem test_refuses_burnt_fuse : Instr.wf (.lcsTransition .pf true true) = false ∧ Instr.wf (.lcsTransition .pf false true) = true := by
  decide +kernel
theorem test_refuses_opcode : Instr.wf (.unassignedOpcode .pf 0x10000) = false ∧ Instr.wf (.unassignedOpcode .pf 0xFFFF) = true := by
  decide +kernel

-- Numbers that the spec's own examples work out

/-- The CRC-32 check value of log entry 9's polynomial: the standard string of nine digits. -/
theorem test_crc32_check : crc32 [0x31, 0x32, 0x33, 0x34, 0x35, 0x36, 0x37, 0x38, 0x39] = 0xCBF43926 := by decide +kernel

/-- spec/00 R7: CEA2:0x0148 lies at 0x4000_4214_8 for a core and at 0x0004_2148 of BAR0. -/
theorem test_page_address :
    windowOff (.core 0) 0x40042148 = some (rkey 0x042 0x148) ∧ windowOff .pf 0x42148 = some (rkey 0x042 0x148)
      ∧ windowOff (.core 0) 0x42148 = none := by decide +kernel

/-- spec/00 R8's example names: the instances of CEA start at page 0x040. -/
theorem test_page_names : Pg.cea 2 = 0x042 ∧ Pg.cea 1 = 0x041 ∧ Pg.cdy = 0x060 := by decide +kernel

/-- spec/04's worked example, step 1: glove 5, GEN 3, slot 0x02A. -/
theorem test_handle : Slot.handle { gen := 3, glove := 5 } 0x02A = 0x1400302A := by decide +kernel

/-- spec/04's worked example, step 2: the poll answers KNOWN, COMPLETE and DONE; another glove's bank is told nothing. -/
theorem test_poll_stat :
    let s := (up.setSlot 0x02A { gen := 3, glove := 5, phase := .done, complete := true }).setBreg 1 Pg.cmd Rg.CMD_POLL 0x1400302A
    s.pollStat 1 5 = 0xC0000000 ∧ s.pollStat 1 4 = 0 := by decide +kernel

/-- spec/04 R91: GEN passes from 0x3FFF to 1. -/
theorem test_gen_wraps :
    (((up.setSlot 0 { gen := 0x3FFF }).alloc 0 1 2 [] (.bank 1) .poll 0).slotOf 0).gen = 1 := by decide +kernel

/-- spec/03 R58: a counter stops at its largest value. -/
theorem test_counter_saturates : satInc 0xFFFFFFFF = 0xFFFFFFFF ∧ satInc 0xFFFFFFFE = 0xFFFFFFFF := by decide +kernel

-- Control laws

/-- The descriptor of spec/07's VAV damper. -/
def vavDesc : List Byte :=
  leBytes 4 0x89D00C01 ++ leBytes 4 0x01000011 ++ List.replicate 10 0 ++ leBytes 2 9830 ++ leBytes 2 16384 ++ leBytes 2 0
    ++ leBytes 2 1966 ++ leBytes 2 19661 ++ leBytes 2 26214 ++ leBytes 2 1638 ++ List.replicate 8 0
    ++ leBytes 2 3277 ++ leBytes 2 32767 ++ leBytes 2 0 ++ leBytes 2 32767 ++ leBytes 2 164 ++ List.replicate 30 0
    ++ leBytes 2 16384 ++ List.replicate 46 0

/-- spec/07's VAV damper: what its CTRL and OPTS words say. -/
theorem test_vav_fields :
    let d := Desc.read vavDesc
    d.defined = true ∧ d.glove = 9 ∧ d.shadow = 3 ∧ d.owner = 1 ∧ d.ticks = 4096 ∧ d.kind = 1 ∧ d.shs = 1 ∧ d.mfb = 0
      ∧ d.spfb = 1 ∧ d.spsrc = 1 ∧ d.hat = 16384 ∧ Desc.passes vavDesc = true := by decide +kernel

/-- Step n of the VAV damper. -/
def vavN : Line :=
  loopStep (Desc.read vavDesc) { integ := 483196928, primed := true } ⟨8520, true, false⟩ ⟨0, false, false⟩ ⟨9830, true, false⟩

/-- Step n of spec/07's VAV damper. -/
theorem test_vav_step : vavN.integ = 485074076 ∧ vavN.outLast = 15720 ∧ vavN.oq = 0 := by decide +kernel

/-- Steps n + 1 and n + 2 of spec/07's VAV damper: inside the dead band, then on SP_DEFAULT. -/
theorem test_vav_next :
    let d := Desc.read vavDesc
    let l := loopStep d vavN ⟨9699, true, false⟩ ⟨0, false, false⟩ ⟨9830, true, false⟩
    let m := loopStep d l ⟨9699, true, false⟩ ⟨0, false, false⟩ ⟨9830, false, false⟩
    l.integ = 485074076 ∧ l.outLast = 14803 ∧ l.oq = 0
      ∧ m.outLast = 14803 ∧ m.oq = 2 ∧ m.spLast = 9830 ∧ m.satSp = false := by decide +kernel

/-- The three settled set points of spec/07's scaling table. -/
theorem test_set_points :
    let d := Desc.read vavDesc
    let wide (o sc : Int) (n : Nat) : Desc := { d with spOffset := o, spScale := sc, shs := n, spMin := -32768, spMax := 32767 }
    settleSp (wide 7680 7680 0) 16384 = (11520, false, false) ∧ settleSp (wide 0 21475 1) 5000 = (6554, false, false)
      ∧ settleSp (wide 0 21475 1) 20000 = (26215, false, false) := by decide +kernel

/-- The outer step of spec/07's supply-air cascade. -/
theorem test_cascade_outer :
    let d := { Desc.read vavDesc with
      kind := 0, dir := 1, kp := 16384, shp := 2, ki := 66, shi := 0, outMin := 0, outMax := 32767, spsrc := 0,
      spConst := 11264 }
    let o := piCore { d with dir := 0 } 463078400 (-512) 0
    o.1 = 463044608 ∧ o.2.1 = 13107 := by decide +kernel

/-- spec/07 R167: the store rounds half a unit up and holds the value in Q15. -/
theorem test_store_rounds :
    Sat.store ⟨16384, false⟩ = ⟨1, false⟩ ∧ Sat.store ⟨-16384, false⟩ = ⟨0, false⟩
      ∧ Sat.store ⟨2 ^ 30, false⟩ = ⟨32767, true⟩ := by decide +kernel

-- Kettles

/-- spec/08's example: the entries of its task cost 28, 60 and 12 cycles (the continuation costs nothing of its own). -/
theorem test_kettle_cycles :
    let list : Sparse Word := [(0, 0x00000209), (1, 0x40004A10), (2, 0xC0000000), (4, 0x00010505), (5, 0x80000000),
      (6, 0x40004A11), (7, 0x1F4), (8, 0x40014A20), (9, 0x40034A21)]
    let cost (n : Nat) : Nat := entryCycles { started := true, pc := n, copy := { desc := taskDesc, list := list } }
    cost 0 = 28 ∧ cost 1 = 60 ∧ cost 3 = 12 := by decide +kernel

-- Energy

/-- spec/11's booking example: window w books two pulses, window w + 1 three. -/
theorem test_booking :
    let a : Acc := { reg := 7310000000 }
    let n := 10737418240 * accD 1000000 / 2 ^ 32
    let w := a.book 1000000 n
    w = (⟨2147483648, 0, 7312000000⟩, 2) ∧ w.1.book 1000000 n = (⟨0, 0, 7315000000⟩, 3) := by decide +kernel

/-- A parameter block with spec/11 R291's example in MI5, breakpoints 3 and 4 of its table. -/
def gainBlock : List Byte :=
  List.replicate (0x890 + 224 * 5 + 36) 0 ++ leBytes 4 20000000 ++ leBytes 4 1074815566 ++ leBytes 4 4294967
    ++ leBytes 4 60000000 ++ leBytes 4 1073741824 ++ leBytes 4 2147484 ++ List.replicate 148 0xFF

/-- spec/11 R291's gain and phase at the RMS 30,000,000. -/
theorem test_gain : gainPhase gainBlock 5 30000000 = (1074547130, 3758096) := by decide +kernel

/-- spec/11 R291's corrected sample. -/
theorem test_corrected : corrected 500000000 1074547130 = 500375000 := by decide +kernel

/-- spec/12's trimmed gain of a unit trim is the gain. -/
theorem test_trim_unit : trimmed 1074547130 (2 ^ 30) = 1074547130 := by decide +kernel

-- The calendar clock

/-- spec/15 R424: the last second of a leap February, and of a year. -/
theorem test_rtc_carry :
    (RtcSt.carry { sec := 59, min := 59, hour := 23, day := 29, month := 2, year := 2028, weekday := 1 })
        = { day := 1, month := 3, year := 2028, weekday := 2 }
      ∧ (RtcSt.carry { sec := 59, min := 59, hour := 23, day := 31, month := 12, year := 2026, weekday := 6 })
        = { day := 1, month := 1, year := 2027, weekday := 0 } := by decide +kernel

-- Boundaries and time

/-- The CES state at boundary `k - 1`. -/
def atTick (k : Nat) : State := { up with ces := { up.ces with tick := k - 1 } }

/-- spec/06's example: loop 0x2E41 with a period of 32 ticks starts at the next boundary that is 1 modulo 32. -/
theorem test_loop_phase :
    let d := { Desc.read vavDesc with period := 5 }
    (atTick 1000).firstRelease d 0x2E41 = 1025 ∧ (atTick 1025).firstRelease d 0x2E41 = 1025 := by decide +kernel

/-- spec/08's example: PHASE 3 ms of a 10 ms cycle, MARGIN 20 %: released at 96 modulo 320, the deadline 384 later. -/
theorem test_task_phase :
    let b := leBytes 4 0x80000082 ++ leBytes 4 0x0003000A ++ leBytes 4 0x14 ++ leBytes 4 4 ++ leBytes 4 24 ++ List.replicate 44 0
    let c : TaskCopy := { desc := b }
    let r : TaskRole := { started := true, copy := c, released := some 416 }
    (atTick 200).firstTaskRelease c.d = 416 ∧ r.due 416 = true ∧ r.due 415 = false ∧ r.deadline = 800 := by decide +kernel

/-- spec/15's rejoin example: with the default gains an offset of +10.8 ms meets the limit and leaves the integral alone. -/
theorem test_servo_limit :
    let s := (up.setReg (Pg.tmb 0) Rg.TMB_KP_KI 0x00100100).setCur (Pg.tmb 0) 2
    let t := ((s.setTmb 0 { s.tmb 0 with locked := true }).sample 0 (10800000 * 65536)).tmb 0
    t.limit = true ∧ t.locked = true ∧ t.integ = 0 ∧ t.rate = rateOf (-ppbLimit) := by decide +kernel

/-- spec/22 R557 and R558: CEA1.LOCKSTEP and CDY.VREF_SPLIT are sources 2,080 and 3,079. -/
theorem test_sources : srcDefault (Pg.cea 1 * 32) = srcDefault 2080 ∧ Pg.cdy * 32 + 7 = 3079 ∧ srcDefault 2080 = 2 := by
  decide +kernel

/-- A quadrature pair 0 with spec/18's index settings and the count `c`. -/
def quadAt (c : Word) : State :=
  ((((up.setReg Pg.pin (pinOff Rg.PIN_CFG 0) 0x1004).setReg Pg.pin (pinOff Rg.PIN_IDXPER 0) 4096).setReg Pg.pin
    (pinOff Rg.PIN_IDXTOL 0) 8).setReg Pg.pin (pinOff Rg.PIN_VAL 0) c)

/-- The three lines of spec/18's index example. -/
theorem test_index :
    let v (s : State) (o : Nat) : Word := s.reg Pg.pin (pinOff o 0)
    v ((quadAt 8195).pinIdx 0) Rg.PIN_VAL = 8192 ∧ v ((quadAt 8195).pinIdx 0) Rg.PIN_IDXDRIFT = 3
      ∧ v ((quadAt 8190).pinIdx 0) Rg.PIN_VAL = 8192 ∧ v ((quadAt 8190).pinIdx 0) Rg.PIN_IDXDRIFT = 0xFFFFFFFE
      ∧ v ((quadAt 12310).pinIdx 0) Rg.PIN_VAL = 12310 ∧ v ((quadAt 12310).pinIdx 0) Rg.PIN_IDXCAP = 12310
      ∧ bf (v ((quadAt 12310).pinIdx 0) Rg.PIN_IDXSTAT) 0 1 = 1 := by decide +kernel

-- Registers

/-- spec/03 R57: a write of ones clears those bits of FLT_NOTE alone. -/
theorem test_note_clears :
    let s := up.setReg Pg.flt 0x060 0x0F
    (s.writeAt (.core 0) (0x40000000 + rkey Pg.flt 0x060) 4 5).reg Pg.flt 0x060 = 0x0A := by decide +kernel

/-- spec/10 R276: market 07, version 0x1234 and check code 0x89ABCDEF are shown digit by digit. -/
theorem test_ident_digits :
    ({ fwVer := 0x1234, check := 0x89ABCDEF } : CdySt).identDigits 7
      = [0, 7, 1, 2, 3, 4, 8, 9, 10, 11, 12, 13, 14, 15] := by decide +kernel

/-- spec/11 R293: the sine of a quarter of a turn is 1 and of a twelfth one half, in units of 2^-60. -/
theorem test_sine :
    sine 1 4 = 2 ^ 60 ∧ sine 3 4 = -2 ^ 60 ∧ (sineSeries ((twoPi / 12 : Nat) : Int) / 2 ^ 20 - 2 ^ 59).natAbs ≤ 1 := by
  decide +kernel

/-- spec/18 R466: 5 V is 3,276.8 codes per volt, and 20.479375 mA, at 1,600 codes per mA, is the highest code. -/
theorem test_ain_scale :
    (let v := ainExact 1 5000000000; nearestInt v.1 v.2) = 16384 ∧ (let v := ainExact 3 20479375000; nearestInt v.1 v.2) = 32767 := by
  decide +kernel

/-- spec/18 R471: with FILT 5 a level of 31 TCLK periods passes and one of 32 is taken. -/
theorem test_pin_filter :
    (PinWave.run {} 5 true 31).1.level = false ∧ (PinWave.run {} 5 true 32).1.level = true := by decide +kernel

-- One step

/-- The command in front of the queue is the one that a step runs; the rest waits. -/
theorem test_step_takes_front :
    (match step { up with pending := [.pageEventDelivery 0, .tickBoundary []] } with
      | .next t => t.pending
      | _ => []) = [.tickBoundary []] := by decide +kernel

/-- Log entry 1: on an empty queue time passes and no command is run. -/
theorem test_step_idles :
    (match step up with
      | .next t => decide (t.pending = [] ∧ t.mem = up.mem ∧ t.sys = up.sys ∧ t.cmd = up.cmd)
      | _ => false) = true := by decide +kernel

/-- spec/20 R527: of a transition cut after its fuse, start-up without commands in hand does the rest; here the keys go. -/
theorem test_cut_transition :
    (let s := { up with key := { up.key with lcs := 4, cut := some 2, ident := some [1], handles := [(7, none)] } }
     decide ((s.lcsResume.key.ident, s.lcsResume.key.handles.length, s.lcsResume.key.cut, s.lcsResume.key.root.head?)
       = (none, 0, none, some 0xFF))) = true := by decide +kernel

end Sys2Proof.Tests
end

section
/-! What every command keeps, stated of the state that `exec` answers: the effect keeps it (`exec_keeps`), and so does the end
of the command (`State.settled_keeps`). The statements on the scope of the model (spec/00) follow. -/

namespace Sys2Proof.Machine

/-- The end of a command always answers, and keeps what its effect has kept. -/
theorem finish_answers_keeps {s u : State} (h : Keeps s u) : ∃ t, finish s u = .next t ∧ Keeps s t :=
  ⟨s.settled u, rfl, State.settled_keeps (Keeps.refl s) h⟩

theorem exec_answers_keeps (c : Instr) (s : State) : ∃ t, exec c s = .next t ∧ Keeps s t := by
  obtain ⟨u, hexec, hkeeps⟩ := exec_keeps c s
  rw [hexec]
  exact finish_answers_keeps hkeeps

theorem keeps_of_exec_next {c : Instr} {s t : State} (h : exec c s = .next t) : Keeps s t := by
  obtain ⟨t', hexec, hkeeps⟩ := exec_answers_keeps c s
  cases hexec.symm.trans h
  exact hkeeps

/-- Settles O5: the queue and the part are among what every command keeps. -/
theorem noCommandTouchesTheQueue : Obligations.NoCommandTouchesTheQueue := by
  intro c s t h
  have hkeeps := keeps_of_exec_next h
  exact ⟨hkeeps.pending, hkeeps.part⟩

/-- Settles O60: every command's effect goes through `finish`, which answers a next state in every case. -/
theorem everyCommandIsAnswered : Obligations.EveryCommandIsAnswered := by
  intro c s
  obtain ⟨t, hexec, hkeeps⟩ := exec_answers_keeps c s
  exact ⟨t, hexec, hkeeps.pending, hkeeps.part, hkeeps.rollback, hkeeps.canon⟩

end Sys2Proof.Machine
end

section
/-! The modes and start-up (spec/02): one equation per case of the mode commands, of the record that start-up reads, of the
choice of the slot and of the image, and the statements on them. -/

namespace Sys2Proof.Machine

/-- Settles O3: the fields of the reset state have the values of their declarations. -/
theorem resetIsCanonical : Obligations.ResetIsCanonical := ⟨rfl, rfl, rfl⟩

-- Resets and mode commands (spec/02 R37, R42, R44, R52)

theorem State.writes_coreUp {s : State} {r : Requester} {g p off : Nat} (h : s.writes r g p off = true) :
    s.coreUp = true := by
  simp only [State.writes, Bool.and_eq_true] at h
  obtain ⟨⟨⟨⟨⟨hup, -⟩, -⟩, -⟩, -⟩, -⟩ := h
  exact hup

theorem moduleReset_of_off {s : State} (hup : s.coreUp = true) (hseq : s.pwr.seq = .off) (cause : Nat) :
    s.moduleReset cause = s.seqBegin (some cause) := by
  simp [State.moduleReset, hup, hseq]

theorem resetWrite_keyed {s : State} {v : Word} (hup : s.coreUp = true) (hseq : s.pwr.seq = .off)
    (hkey : bf v 16 16 = 0x5EB0) (hcmd : bf v 0 4 = 1) : s.resetWrite 0 v = s.seqBegin (some 3) := by
  unfold State.resetWrite
  rw [if_pos ⟨rfl, hkey, hcmd⟩, moduleReset_of_off hup hseq]

theorem sysEnterRunBody_enters {c : Ctx} {t : State} (htenant : c.tenant = false) (hfatal : t.isFatal = false)
    (hmode : t.sys.mode = .commission) (hbusy : t.modeBusy c = false) :
    sysEnterRunBody c t = t.enterRun.complete c.slot (if t.enterRun.sys.mode = .degraded then St.note else 0) 0 0
      (wd t.enterRun.sys.mode.code) := by
  simp [sysEnterRunBody, htenant, hfatal, hmode, hbusy, State.fin]

theorem sysEnterCommissionBody_enters {c : Ctx} {t : State} (htenant : c.tenant = false) (hfatal : t.isFatal = false)
    (hmode : t.sys.mode = .run ∨ t.sys.mode = .degraded) (hbusy : t.modeBusy c = false) :
    sysEnterCommissionBody c t = t.enterCommission.complete c.slot 0 0 0 (wd Mode.commission.code) := by
  obtain hmode | hmode := hmode <;>
    simp [sysEnterCommissionBody, htenant, hfatal, hmode, hbusy, State.done, State.fin]

theorem sysEnterSafeBody_enters {c : Ctx} {t : State} (htenant : c.tenant = false) (hlive : t.live = true)
    (hbusy : t.modeBusy c = false) : sysEnterSafeBody c t = (t.enterSafe 4).complete c.slot 0 := by
  simp [sysEnterSafeBody, htenant, hlive, hbusy, State.done, State.fin]

/-- KIND = COLD asks nothing of the retained data. -/
theorem sysRestartBody_cold {c : Ctx} {t : State} (hkind : c.f 0 0 2 = 2) (htenant : c.tenant = false)
    (hfatal : t.isFatal = false) (hmode : t.sys.mode = .safe ∨ t.sys.mode = .commission) (hbusy : t.modeBusy c = false) :
    sysRestartBody c t = { t.evalRetain with sys := { t.evalRetain.sys with restartTest := true } } := by
  obtain hmode | hmode := hmode <;> simp [sysRestartBody, hkind, htenant, hfatal, hmode, hbusy]

/-- A self-test that no channel fails leaves every channel in service, and the restart is carried out. -/
theorem restartDone_passed {s : State} {n : Nat} (hup : s.coreUp = true) (hslot : s.restartSlot = some n)
    (htest : s.sys.restartTest = true) (hhit : s.lse.selftestHit = []) :
    let s1 := { s with sys := { s.sys with restartTest := false },
                       lse := { s.lse with fenced := [], testPass := [], selftestHit := [] } }
    let a := (s.slotOf n).args.headD 0
    let warm := bf a 0 2 != 2 && bit s.sys.retain 4
    let u := (s1.restart warm).enterTarget (bit a 8)
    s.restartDone [] = u.complete n (if (bf a 0 2 == 0 && !warm) || u.sys.mode == .degraded then St.note else 0)
      (if warm then 1 else 2) (wd (15 - u.fencedBits)) (wd u.sys.mode.code) := by
  have hbad : (List.range 4).filter (fun c => ([] : List Nat).contains c || ([] : List Nat).contains c) = [] := rfl
  unfold State.restartDone
  simp only [hslot, hup, htest, hhit, List.filterMap_nil, List.filter_nil, hbad, List.foldl_nil, List.isEmpty_nil,
    List.length_nil, OfNat.zero_ne_ofNat, Bool.and_self, if_true, if_false]
  rfl

/-- Settles O21: each command passes its checks, and its body is the equation of that case. -/
theorem modeCommandsComplete : Obligations.ModeCommandsComplete := by
  refine ⟨⟨?policy, ?reset⟩, ?run, ?commission, ?safe, ?restart, ?done⟩
  case policy =>
    intro s r v hw
    exact congrArg (finish s) (onWrite_writes hw _)
  case reset =>
    intro s r v hw hkey hcmd hseq
    exact congrArg (finish s)
      ((onWrite_writes hw _).trans (resetWrite_keyed (State.writes_coreUp hw) hseq hkey hcmd))
  case run =>
    refine takes_of (body := sysEnterRunBody) (fun _ _ => rfl) ?_
    rintro c t ⟨htenant, hfatal, hmode, hbusy⟩
    exact sysEnterRunBody_enters htenant hfatal hmode hbusy
  case commission =>
    refine takes_of (body := sysEnterCommissionBody) (fun _ _ => rfl) ?_
    rintro c t ⟨htenant, hfatal, hmode, hbusy⟩
    exact sysEnterCommissionBody_enters htenant hfatal hmode hbusy
  case safe =>
    refine takes_of (body := sysEnterSafeBody) (fun _ _ => rfl) ?_
    rintro c t ⟨htenant, hlive, hbusy⟩
    exact sysEnterSafeBody_enters htenant hlive hbusy
  case restart =>
    refine takes_of (body := sysRestartBody) (fun _ _ => rfl) ?_
    rintro c t ⟨hkind, htenant, hfatal, hmode, hbusy⟩
    exact sysRestartBody_cold hkind htenant hfatal hmode hbusy
  case done =>
    intro s n hup hslot htest hhit
    exact congrArg (finish s) (restartDone_passed hup hslot htest hhit)

-- Start-up up to the choice of the slot (spec/02 R46, R47)

theorem vinUp_of_backup {s : State} (hmode : s.sys.mode = .backup) (hclock : s.rtc.lost = false)
    (htamper : s.vbat.tamper = false) : s.vinUp = s.powerCycle .regulators .startup 1 := by
  simp [State.vinUp, hmode, hclock, htamper]

theorem resetEnd_of_regulators {s : State} (hstage : s.sys.stage = .regulators) (hreset : s.clk.resetLow = false)
    (hseq : s.pwr.seq = .off) (low : Bool) :
    s.resetEnd low = { s with sys := { s.sys with stage := .resetEnded, recovStrap := low } } :=
  if_pos ⟨hstage, hreset, hseq⟩

/-- The record as found goes to the policy register. -/
theorem readRecord_of_ok {s : State} (hok : s.nv.restart.ok = true) (hstop : s.nv.restart.lastStop ≠ 2) :
    let w := wd (s.nv.restart.target.toNat + 32 * s.nv.restart.cold.toNat)
    let s2 := (s.setReg Pg.sys Rg.SYS_RESTART_POLICY w).setReg Pg.pwr Rg.PWR_LAST_STOP (wd (s.nv.restart.lastStop % 4))
    s.readRecord false = { s2 with nv := { s2.nv with restart := { s2.nv.restart with lastStop := 2 } } } := by
  simp [State.readRecord, hok, hstop]

/-- A record that cannot be read is written anew, COMMISSION and AUTO. -/
theorem readRecord_of_spoilt {s : State} (hstop : s.nv.restart.lastStop ≠ 2) :
    let r := { s.nv.restart with ok := true, target := false, cold := false }
    let s1 := ({ s with nv := { s.nv with restart := r } } : State).raiseSrc Pg.sys 3
    let s2 := s1.setReg Pg.pwr Rg.PWR_LAST_STOP (wd (s.nv.restart.lastStop % 4))
    s.readRecord true = { s2 with nv := { s2.nv with restart := { r with lastStop := 2 } } } := by
  simp [State.readRecord, hstop]

theorem selftested_fences {s s1 : State} {spoilt : Bool} (hstage : s.sys.stage = .resetEnded) (hup : s.coreUp = true)
    (hseq : s.pwr.seq = .off) (hrec : s.readRecord spoilt = s1) (l : List Nat) :
    let f := (List.range 4).filter (fun c => l.contains c)
    let s2 := { s1 with lse := { s1.lse with fenced := f }, sys := { s1.sys with stage := .tested } }
    s.selftested l spoilt = if f.isEmpty then s2 else s2.raiseSrc Pg.sys 2 := by
  unfold State.selftested
  rw [if_pos ⟨hstage, hup, hseq⟩, hrec]

-- The choice of the slot (spec/21 R539, R556)

theorem confirmAtStart_of_unburnt {s : State} (h : s.upd.burnt = false) : s.confirmAtStart = s := by
  simp [State.confirmAtStart, h]

theorem confirmAtStart_of_unarmed {s : State} (h : s.upd.record.armed = none) : s.confirmAtStart = s := by
  simp [State.confirmAtStart, h]

theorem confirmAtStart_of_burnt {s : State} {n : Nat} (hburnt : s.upd.burnt = true) (harmed : s.upd.record.armed = some n) :
    s.confirmAtStart = s.confirmed n := by
  simp [State.confirmAtStart, hburnt, harmed]

theorem rebuildRecord_of_ok {s : State} (h : s.upd.record.ok = true) : s.rebuildRecord = s := if_pos h

/-- Whether a slot is valid depends on the slots, the rollback count and the part alone. -/
theorem slotValid_confirmed (s : State) (m n : Nat) : (s.confirmed m).slotValid n = s.slotValid n := rfl

theorem noSlotValid_iff (s : State) :
    (!s.slotValid 0 && !s.slotValid 1) = true ↔ ¬ (s.slotValid 0 = true ∨ s.slotValid 1 = true) := by
  simp

section
variable {s s0 : State} (hstage : s.sys.stage = .tested) (hup : s.coreUp = true) (hfatal : s.isFatal = false)
  (hseq : s.pwr.seq = .off)
include hstage hup hfatal hseq

theorem selectSlot_of_strap (hstrap : s.sys.recovStrap = true) : s.selectSlot = s.enterRecovery 1 := by
  simp [State.selectSlot, hstage, hup, hfatal, hseq, hstrap]

variable (hstrap : s.sys.recovStrap = false) (hrecord : s.confirmAtStart.rebuildRecord = s0)
include hstrap hrecord

/-- Without a trial the active slot boots. -/
theorem selectSlot_of_unarmed (harmed : s0.upd.record.armed = none) :
    s.selectSlot = if s0.slotValid 0 = true ∨ s0.slotValid 1 = true then s0.chooseSlot s0.upd.record.active false 0
      else s0.enterRecovery 2 := by
  unfold State.selectSlot
  rw [if_pos ⟨hstage, hup, hfatal, hseq⟩, hstrap, hrecord]
  simp only [noSlotValid_iff, ite_not, harmed, Bool.false_eq_true, if_false]

/-- A trial with fewer than three starts counts this one, and boots the armed slot. -/
theorem selectSlot_of_trial {n : Nat} (harmed : s0.upd.record.armed = some n) (hcause : s.sys.bootCause ≠ 4)
    (hcount : s0.upd.record.count < 3) :
    let k := s0.upd.record.count + 1
    let s1 := { s0 with upd := { s0.upd with record := { s0.upd.record with count := k } } }
    s.selectSlot = if s0.slotValid 0 = true ∨ s0.slotValid 1 = true then s1.chooseSlot n true k
      else s0.enterRecovery 2 := by
  unfold State.selectSlot
  rw [if_pos ⟨hstage, hup, hfatal, hseq⟩, hstrap, hrecord]
  simp only [noSlotValid_iff, ite_not, harmed, hcause, hcount, Bool.false_eq_true, if_false, if_true]

end

-- The image and the end of start-up (spec/02 R47, R50, spec/20 R527)

/-- The image of the slot in `sys.slot` is loaded: CONFIG is replayed, the ROMs get their versions, the hats are loaded. -/
def State.loadChosen (x : State) : State :=
  let h := (x.upd.slot x.sys.slot).hdr
  let y := x.journalReplay.replay
  ({ y with ces := { y.ces with romId := wd (sectionVersion h 3) },
            ktl := { y.ktl with romId := wd (sectionVersion h 2) },
            sys := { y.sys with stage := .imageLoaded, runGen := y.nv.cfg.ltGen } } : State).hatsLoaded

/-- The chosen slot has failed and gives way to the other one, with its source. -/
def State.otherChosen (s : State) : State :=
  ({ s with sys := { s.sys with slot := 1 - s.sys.slot, trial := false, trialCount := 0, bootCause := 4 } } : State).raiseSrc
    Pg.sys 1

theorem imageIn_chosen {s : State} (hstage : s.sys.stage = .slotChosen) (hup : s.coreUp = true)
    (hfatal : s.isFatal = false) (hseq : s.pwr.seq = .off) :
    s.imageIn false = if s.slotValid s.sys.slot = true then s.loadChosen
      else if s.slotValid (1 - s.sys.slot) = true then s.otherChosen.loadChosen
      else s.enterRecovery 2 := by
  unfold State.imageIn
  rw [if_pos ⟨hstage, hup, hfatal, hseq⟩]
  cases hchosen : s.slotValid s.sys.slot with
  | true =>
    simp only [hchosen, Bool.not_true, Bool.or_self, Bool.false_and, Bool.false_eq_true, if_false, if_true]
    rfl
  | false =>
    cases hother : s.slotValid (1 - s.sys.slot) with
    | true =>
      simp only [hchosen, hother, Bool.not_false, Bool.not_true, Bool.or_true, Bool.and_false, Bool.false_eq_true,
        if_false, if_true]
      rfl
    | false => simp only [hchosen, hother, Bool.not_false, Bool.or_true, Bool.and_self, Bool.false_eq_true, if_false, if_true]

@[simp] theorem destroyKeys_cmd (s : State) : s.destroyKeys.cmd = s.cmd := rfl

@[simp] theorem generateKeys_cmd (s : State) : s.generateKeys.cmd = s.cmd := rfl

/-- The rest of a transition concerns the keys and the slot record. -/
@[simp] theorem transitionRest_cmd (s : State) (old : Nat) : (s.transitionRest old).cmd = s.cmd := by
  simp only [State.transitionRest, apply_ite State.cmd, destroyKeys_cmd, generateKeys_cmd, ite_self]

theorem inHand_of_no_slots {s : State} (h : s.cmd.slots = []) (op1 op2 : Nat) : s.inHand op1 op2 = [] := by
  unfold State.inHand; rw [h]; rfl

theorem lcsResume_of_uncut {s : State} (h : s.key.cut = none) : s.lcsResume = s := by
  unfold State.lcsResume; rw [h]

/-- With no command in hand nothing is completed after the rest of the transition. -/
theorem lcsResume_of_cut {s : State} (hcut : s.key.cut = none) (hslots : s.cmd.slots = []) (old : Nat) :
    ({ s with key := { s.key with cut := some old } } : State).lcsResume = s.transitionRest old := by
  have huncut : { s with key := { s.key with cut := none } } = s := by rw [← hcut]
  have hhand : (s.transitionRest old).inHand 0x0911 0x0913 = [] :=
    inHand_of_no_slots (by rw [transitionRest_cmd, hslots]) _ _
  unfold State.lcsResume
  dsimp only
  rw [huncut, hhand]
  rfl

/-- Settles O24: in each case the stage's condition holds, and the effect is the equation of that case. -/
theorem startupRuns : Obligations.StartupRuns := by
  refine ⟨⟨?vin, ?reset, ?record, ?spoilt⟩, ⟨?active, ?trial, ?burnt, ?strap⟩, ?image, ?cut, ?entered⟩
  case vin =>
    intro s hmode hclock htamper
    exact congrArg (finish s) (vinUp_of_backup hmode hclock htamper)
  case reset =>
    intro s low hstage hreset hseq
    exact congrArg (finish s) (resetEnd_of_regulators hstage hreset hseq low)
  case record =>
    intro s l hstage hup hseq hok hstop
    exact congrArg (finish s) (selftested_fences hstage hup hseq (readRecord_of_ok hok hstop) l)
  case spoilt =>
    intro s l hstage hup hseq hstop
    exact congrArg (finish s) (selftested_fences hstage hup hseq (readRecord_of_spoilt hstop) l)
  case active =>
    intro s hstage hup hfatal hseq hstrap hok harmed
    have hrecord : s.confirmAtStart.rebuildRecord = s := by
      rw [confirmAtStart_of_unarmed harmed, rebuildRecord_of_ok hok]
    exact congrArg (finish s) (selectSlot_of_unarmed hstage hup hfatal hseq hstrap hrecord harmed)
  case trial =>
    intro s n hstage hup hfatal hseq hstrap hok harmed hburnt hcause hcount
    have hrecord : s.confirmAtStart.rebuildRecord = s := by
      rw [confirmAtStart_of_unburnt hburnt, rebuildRecord_of_ok hok]
    exact congrArg (finish s) (selectSlot_of_trial hstage hup hfatal hseq hstrap hrecord harmed hcause hcount)
  case burnt =>
    intro s n hstage hup hfatal hseq hstrap hok harmed hburnt
    have hrecord : s.confirmAtStart.rebuildRecord = s.confirmed n := by
      rw [confirmAtStart_of_burnt hburnt harmed]
      exact rebuildRecord_of_ok hok
    have hselect := selectSlot_of_unarmed hstage hup hfatal hseq hstrap hrecord rfl
    rw [slotValid_confirmed, slotValid_confirmed] at hselect
    exact congrArg (finish s) hselect
  case strap =>
    intro s hstage hup hfatal hseq hstrap
    exact congrArg (finish s) (selectSlot_of_strap hstage hup hfatal hseq hstrap)
  case image =>
    intro s hstage hup hfatal hseq load other
    have hload : load = State.loadChosen := rfl
    have hother : other.raiseSrc Pg.sys 1 = s.otherChosen := rfl
    rw [hload, hother, ← imageIn_chosen hstage hup hfatal hseq]
    rfl
  case cut =>
    intro s old hcut
    exact ⟨lcsResume_of_uncut hcut, fun hslots => lcsResume_of_cut hcut hslots old⟩
  case entered =>
    intro s hstage hup hfatal hseq spoilt
    exact congrArg (finish s) (if_pos ⟨hstage, hup, hfatal, hseq⟩)

end Sys2Proof.Machine
end

section
/-! The register pages (spec/03): fields of a word, the run states, owners and events, what a page shows of its faults,
register stores and reads by requesters, and the journal of CONFIG. -/

namespace Sys2Proof.Machine

-- Fields of a word

theorem testBit_bf (w : Word) (lo len i : Nat) : (bf w lo len).testBit i = (decide (i < len) && bit w (lo + i)) := by
  simp [bf, bit, Nat.testBit_mod_two_pow, Nat.testBit_div_two_pow, BitVec.getLsbD, Nat.add_comm]

/-- A write of a field sets the bits of the field and no other. -/
theorem bit_setBf (w : Word) (lo len v : Nat) {i : Nat} (hi : i < 32) :
    bit (setBf w lo len v) i = if i < lo then bit w i else if i < lo + len then v.testBit (i - lo) else bit w i := by
  have hsplit : w.toNat % 2 ^ lo + v % 2 ^ len * 2 ^ lo + w.toNat / 2 ^ (lo + len) * 2 ^ (lo + len)
      = 2 ^ lo * (2 ^ len * (w.toNat / 2 ^ (lo + len)) + v % 2 ^ len) + w.toNat % 2 ^ lo := by ring
  simp only [bit, setBf, hsplit, BitVec.getLsbD_ofNat, hi, decide_true, Bool.true_and,
    Nat.testBit_two_pow_mul_add _ (Nat.mod_lt _ (Nat.two_pow_pos _))]
  split
  · next hlow => simp [Nat.testBit_mod_two_pow, hlow, BitVec.getLsbD]
  · next hlow =>
    by_cases hfield : i < lo + len
    · have hin : i - lo < len := by omega
      simp [Nat.testBit_mod_two_pow, hfield, hin]
    · have hout : ¬ i - lo < len := by omega
      have hpos : i - lo - len + (lo + len) = i := by omega
      simp [hfield, hout, Nat.testBit_div_two_pow, hpos, BitVec.getLsbD]

/-- A field reads as it was written. -/
theorem bf_setBf_same (w : Word) {lo len v : Nat} (hv : v < 2 ^ len) (hfit : lo + len ≤ 32) :
    bf (setBf w lo len v) lo len = v := by
  refine Nat.eq_of_testBit_eq fun i => ?_
  rw [testBit_bf]
  by_cases hi : i < len
  · have hbit := bit_setBf w lo len v (i := lo + i) (by omega)
    rw [if_neg (by omega), if_pos (by omega), Nat.add_sub_cancel_left] at hbit
    rw [hbit, decide_eq_true hi, Bool.true_and]
  · rw [decide_eq_false hi, Bool.false_and]
    exact (Nat.testBit_lt_two_pow (Nat.lt_of_lt_of_le hv (Nat.pow_le_pow_right (by omega) (by omega)))).symm

/-- A write of a field leaves the fields beside it. -/
theorem bf_setBf_apart (w : Word) {lo len lo' len' : Nat} (v : Nat) (hfit : lo' + len' ≤ 32)
    (hapart : lo' + len' ≤ lo ∨ lo + len ≤ lo') : bf (setBf w lo len v) lo' len' = bf w lo' len' := by
  refine Nat.eq_of_testBit_eq fun i => ?_
  simp only [testBit_bf]
  by_cases hi : i < len'
  · have hbit := bit_setBf w lo len v (i := lo' + i) (by omega)
    have hkept : bit (setBf w lo len v) (lo' + i) = bit w (lo' + i) := by
      rw [hbit]
      obtain hbelow | habove := hapart
      · exact if_pos (by omega)
      · rw [if_neg (by omega), if_neg (by omega)]
    rw [hkept]
  · rw [decide_eq_false hi, Bool.false_and, Bool.false_and]

-- Run states (spec/03 R61, R69, R70, R72)

theorem State.canon_win {s : State} (h : s.canon = true) : Sparse.wf regReset s.win = true := by
  simp only [State.canon, Bool.and_eq_true] at h
  obtain ⟨-, hwin⟩ := h
  exact hwin

theorem reg_setReg_same {s : State} (h : s.canon = true) (p off : Nat) (v : Word) : (s.setReg p off v).reg p off = v :=
  Sparse.get_set_same regReset (Sparse.wf_sorted (State.canon_win h)) _ _

section
variable {s : State} (hcanon : s.canon = true) (p : Nat) {c : Nat}
include hcanon

theorem cur_setCur (hc : c < 4) : (s.setCur p c).cur p = c := by
  rw [State.cur, State.setCur, reg_setReg_same hcanon, bf_setBf_same _ hc (by decide)]

theorem req_setReq (hc : c < 4) : (s.setReq p c).req p = c := by
  rw [State.req, State.setReq, reg_setReg_same hcanon, bf_setBf_same _ hc (by decide)]

theorem req_setCur : (s.setCur p c).req p = s.req p := by
  rw [State.req, State.setCur, reg_setReg_same hcanon, bf_setBf_apart _ _ (by decide) (by decide), State.req]

theorem cur_setReq : (s.setReq p c).cur p = s.cur p := by
  rw [State.cur, State.setReq, reg_setReg_same hcanon, bf_setBf_apart _ _ (by decide) (by decide), State.cur]

end

theorem kick_starts {s : State} {p : Nat} (hcur : s.cur p = 0) (hreq : s.req p = 1) :
    s.kick p = (s.setCur p 1).startingHook p := if_pos ⟨hcur, hreq⟩

theorem kick_stops {s : State} {p : Nat} (hcur : s.cur p = 2) (hreq : s.req p = 0) :
    s.kick p = (s.setCur p 3).stoppingHook p := by
  simp [State.kick, hcur, hreq]

section
variable {s : State} {p : Nat} (hctrl : runCtrl p = true)
include hctrl

theorem runReq_run (hkind : pageKind p ≠ some .can) : s.runReq p 1 = (s.setReq p 1).kick p := by
  simp [State.runReq, hctrl, hkind]

/-- A request for RUN ends a rate detection (spec/17 R460). -/
theorem runReq_run_can (hkind : pageKind p = some .can) :
    s.runReq p 1 = ((s.setReq p 1).canAbortDetect (pageInst p)).kick p := by
  simp [State.runReq, hctrl, hkind]

theorem runReq_stop (hbar : s.stopBarred p = false) : s.runReq p 0 = (s.setReq p 0).kick p := by
  simp [State.runReq, hctrl, hbar]

theorem runReq_barred (hbar : s.stopBarred p = true) : s.runReq p 0 = s.bump p Hd.drop := by
  simp [State.runReq, hctrl, hbar]

theorem pageStart_of_starting (hup : s.coreUp = true) (hcur : s.cur p = 1) (hptb : s.afterPtb p = false)
    (spoilt : List Nat) : s.pageStart p spoilt = ((s.setCur p 2).startedHook p spoilt).goOn p := by
  simp [State.pageStart, hup, hctrl, hcur, hptb]

/-- AIN, PIN and DIO also write their points STALE as they stop (spec/18 R470, R476). -/
theorem pageStop_of_ended (hup : s.coreUp = true) (hcur : s.cur p = 3) (hended : s.workEnded p = true)
    (hain : p ≠ Pg.ain) (hpin : p ≠ Pg.pin) (hdio : p ≠ Pg.dio) : s.pageStop p = (s.setCur p 0).goOn p := by
  simp [State.pageStop, hup, hctrl, hcur, hended, hain, hpin, hdio]

end

/-- TPI waits for PTB in the replay of start-up alone (spec/13 R373). -/
theorem afterPtb_of_ptb_done {s : State} {p : Nat} (h : p = Pg.tpi → s.sys.boot = true → s.cur Pg.ptb ≠ 1) :
    s.afterPtb p = false := by
  rw [Bool.eq_false_iff]
  intro hwaits
  simp only [State.afterPtb, Bool.and_eq_true, beq_iff_eq] at hwaits
  obtain ⟨⟨htpi, hboot⟩, hptb⟩ := hwaits
  exact h htpi hboot hptb

/-- Settles O16: what a request or the end of a transition does, and the fields of PG_RUN apart from each other. -/
theorem pageRunStates : Obligations.PageRunStates := by
  refine ⟨?start, ?can, ?stop, ?barred, ?started, ?stopped, ?fields⟩
  case start =>
    intro s r g p hcanon hw hctrl hcur hkind
    have hkick : (s.setReq p 1).kick p = ((s.setReq p 1).setCur p 1).startingHook p :=
      kick_starts ((cur_setReq hcanon p).trans hcur) (req_setReq hcanon p (by decide))
    exact congrArg (finish s) ((onWrite_writes hw _).trans ((runReq_run hctrl hkind).trans hkick))
  case can =>
    intro s r g p hw hctrl hkind
    exact congrArg (finish s) ((onWrite_writes hw _).trans (runReq_run_can hctrl hkind))
  case stop =>
    intro s r g p hcanon hw hctrl hbar hcur
    have hkick : (s.setReq p 0).kick p = ((s.setReq p 0).setCur p 3).stoppingHook p :=
      kick_stops ((cur_setReq hcanon p).trans hcur) (req_setReq hcanon p (by decide))
    exact congrArg (finish s) ((onWrite_writes hw _).trans ((runReq_stop hctrl hbar).trans hkick))
  case barred =>
    intro s r g p hw hctrl hbar
    exact congrArg (finish s) ((onWrite_writes hw _).trans (runReq_barred hctrl hbar))
  case started =>
    intro s p spoilt hup hctrl hcur hptb
    exact congrArg (finish s) (pageStart_of_starting hctrl hup hcur (afterPtb_of_ptb_done hptb) spoilt)
  case stopped =>
    intro s p hup hctrl hcur hended hain hpin hdio
    exact congrArg (finish s) (pageStop_of_ended hctrl hup hcur hended hain hpin hdio)
  case fields =>
    intro s p hcanon
    exact ⟨cur_setCur hcanon p (by decide), req_setReq hcanon p (by decide), req_setCur hcanon p, cur_setReq hcanon p⟩

-- Owners and waiting events (spec/03 R63, R85)

theorem whenUp_of_up {s : State} (hup : s.coreUp = true) (f : State → State) : s.whenUp f = f s := if_pos hup

/-- A write of glove 0 to a page whose owner is no fixed one, GVW pages apart. -/
theorem ownerWrite_of_free {s : State} {p : Nat} (hfixed : ownerFixed p = false) (hgvw : isGvwPage p = false) (w : Word) :
    let s1 := (s.setReg p Hd.owner (w &&& 0x13F)).setReg p Hd.irqEn 0
    s.ownerWrite 0 p w = if s1.owner p = s.owner p then s1
      else let s2 := if pageKind p = some .can then (s1.canAbortDetect (pageInst p)).canFlush (pageInst p) else s1
        (s2.assign (s.owner p)).assign (s2.owner p) := by
  unfold State.ownerWrite
  rw [hfixed, hgvw]
  rfl

/-- The function takes the event over from function 8, which stands for none. -/
theorem deliverEvent_of_page {s : State} {p f : Nat} (hp : p < 0x1000) (hevent : s.pageEvent p = true)
    (hfn : s.fnFor (s.owner p) = some f) (hwaits : s.pci.fnEdge.contains (8, p) = true) :
    s.deliverEvent p = ({ s with pci := { s.pci with
      fnEdge := s.pci.fnEdge.filter (fun x => x != (8, p) && x != (f, p)) ++ [(f, p)] } } : State).usbFlush := by
  unfold State.deliverEvent
  rw [if_pos hp, if_pos hevent, hfn]
  dsimp only
  rw [if_pos hwaits]

/-- Settles O17: the write gets to PG_OWNER, and the event to the function of its owner. -/
theorem pageOwnersAndEvents : Obligations.PageOwnersAndEvents := by
  refine ⟨?owner, ?event⟩
  case owner =>
    intro s r p v hw hfixed hgvw
    exact congrArg (finish s) ((onWrite_writes hw _).trans (ownerWrite_of_free hfixed hgvw v))
  case event =>
    intro s p f hup hp hevent hfn hwaits
    exact congrArg (finish s) ((whenUp_of_up hup _).trans (deliverEvent_of_page hp hevent hfn hwaits))

-- What PG_STAT shows (spec/03 R62)

/-- Where two defaults agree, the reads agree. -/
theorem Sparse.get_congr_default {α : Type} {d d' : Nat → α} {k : Nat} (h : d k = d' k) :
    ∀ m : Sparse α, Sparse.get d m k = Sparse.get d' m k
  | [] => h
  | (j, v) :: t => by simp only [Sparse.get, h, Sparse.get_congr_default h t]

/-- PG_STICKY of every page reads zero after reset. -/
theorem regReset_sticky (p : Nat) : regReset (rkey p Hd.sticky) = 0 := by
  have hoff : rkey p Hd.sticky % 0x1000000 % 0x1000 = Hd.sticky := by simp only [rkey, Hd.sticky]; omega
  simp only [regReset, hoff]
  rfl

theorem nz_sticky (s : State) (p : Nat) : s.nz p Hd.sticky = true ↔ s.reg p Hd.sticky ≠ 0 := by
  have hread : s.zreg p Hd.sticky = s.reg p Hd.sticky := Sparse.get_congr_default (regReset_sticky p).symm s.win
  rw [State.nz, hread, bne_iff_ne]

theorem readReg_stat (s : State) (b g p : Nat) : s.readReg b g p Hd.stat = s.pgStat p := rfl

theorem bit_setBit_same (w : Word) {i : Nat} (hi : i < 32) (b : Bool) : bit (setBit w i b) i = b := by
  rw [setBit, bit_setBf w i 1 _ hi, if_neg (Nat.lt_irrefl i), if_pos (Nat.lt_succ_self i), Nat.sub_self]
  cases b <;> rfl

theorem pgStat_fault (s : State) (p : Nat) : bit (s.pgStat p) 31 = s.nz p Hd.sticky := bit_setBit_same _ (by decide) _

/-- The chapters of CDY, RS, FP and CAN alone define a summary. -/
theorem pgStat_of_no_summary {s : State} {p : Nat} (hcdy : pageKind p ≠ some .cdy) (hrs : pageKind p ≠ some .rs)
    (hfp : pageKind p ≠ some .fp) (hcan : pageKind p ≠ some .can) : s.pgStat p = setBit 0 31 (s.nz p Hd.sticky) := by
  unfold State.pgStat
  dsimp only
  split
  · next hkind => exact absurd hkind hcdy
  · next hkind => exact absurd hkind hrs
  · next hkind => exact absurd hkind hfp
  · next hkind => exact absurd hkind hcan
  · rfl

/-- Settles O18: bit 31 is PG_STICKY's, and a page without a summary has zero below it. -/
theorem pageStatusReads : Obligations.PageStatusReads := by
  intro s b g p
  rw [readReg_stat]
  refine ⟨?fault, ?summary⟩
  case fault => rw [pgStat_fault, nz_sticky]
  case summary =>
    intro hcdy hrs hfp hcan
    rw [pgStat_of_no_summary hcdy hrs hfp hcan, setBit, bf_setBf_apart _ _ (by decide) (by decide)]
    rfl

-- Stores and reads of requesters in the window (spec/03 R54, R55, R63 to R68)

theorem windowOff_base (r : Requester) {x : Nat} (hx : x < 0x1000000) : windowOff r (windowBase r + x) = some x := by
  unfold windowOff
  rw [if_pos ⟨Nat.le_add_right _ _, by omega⟩, Nat.add_sub_cancel_left]

theorem writeAt_window (s : State) (r : Requester) {x : Nat} (hx : x < 0x1000000) (n : Nat) (v : DWord) :
    s.writeAt r (windowBase r + x) n v = access32 n x v (fun a o w => a.windowWrite r o w) s := by
  unfold State.writeAt
  rw [windowOff_base r hx]

theorem readAt_window {s : State} (hup : s.coreUp = true) (r : Requester) {x : Nat} (hx : x < 0x1000000) (n : Nat) :
    s.readAt r (windowBase r + x) n = s.windowRead r x n := by
  unfold State.readAt
  rw [hup, windowOff_base r hx]
  rfl

section
variable {n x : Nat} (v : DWord) (f : State → Nat → Word → State) (s : State)

theorem access32_word (hx : x % 4 = 0) : access32 4 x v f s = f s x (v.setWidth 32) := if_pos ⟨rfl, hx⟩

theorem access32_double (hx : x % 8 = 0) :
    access32 8 x v f s = f (f s x (v.setWidth 32)) (x + 4) ((v >>> 32).setWidth 32) := by
  simp [access32, hx]

theorem access32_ignored (h4 : n = 4 → x % 4 ≠ 0) (h8 : n = 8 → x % 8 ≠ 0) : access32 n x v f s = s := by
  unfold access32
  rw [if_neg (fun ⟨hn, hx⟩ => h4 hn hx), if_neg (fun ⟨hn, hx⟩ => h8 hn hx)]

end

/-- A store to a register page, CMD_OP apart, goes to the page's register. -/
theorem windowWrite_of_page (s : State) (r : Requester) {p o : Nat} (ho : o < 4096) (hqdb : isQdb p = false)
    (hop : (p, o) ≠ (Pg.cmd, Rg.CMD_OP)) (w : Word) :
    s.windowWrite r (p * 4096 + o) w = s.onWrite r p o (fun g a => a.regStore (bankOf r) g p o w) := by
  have hdiv : (p * 4096 + o) / 0x1000 = p := by omega
  have hmod : (p * 4096 + o) % 0x1000 = o := by omega
  have hnop : ¬ (p = Pg.cmd ∧ o = Rg.CMD_OP) := fun ⟨hpage, hoff⟩ => hop (Prod.ext hpage hoff)
  unfold State.windowWrite
  simp only [hdiv, hmod, hqdb, if_neg hnop, Bool.false_eq_true, if_false]

/-- An aligned 32-bit store to a register page. -/
theorem access_store_of_page (s : State) (r : Requester) {p o : Nat} (hp : p < 4096) (ho : o < 4096) (halign : o % 4 = 0)
    (hqdb : isQdb p = false) (hop : (p, o) ≠ (Pg.cmd, Rg.CMD_OP)) (v : DWord) :
    s.access r (windowBase r + (p * 4096 + o)) 4 (some v)
      = s.onWrite r p o (fun g a => a.regStore (bankOf r) g p o (v.setWidth 32)) :=
  calc s.access r (windowBase r + (p * 4096 + o)) 4 (some v)
    _ = access32 4 (p * 4096 + o) v (fun a o w => a.windowWrite r o w) s := writeAt_window s r (by omega) 4 v
    _ = s.windowWrite r (p * 4096 + o) (v.setWidth 32) := access32_word v _ s (by omega)
    _ = _ := windowWrite_of_page s r ho hqdb hop _

/-- A write that the glove may not make is counted against it, and has no other effect (spec/03 R66, spec/05 R121). -/
theorem onWrite_denied {s : State} {r : Requester} {g p off : Nat} (hup : s.coreUp = true) (hpage : s.hasPage p = true)
    (hglove : s.gloveOf r = some g) (hdenied : (s.active g && s.mayWrite g p off) = false) (f : Nat → State → State) :
    s.onWrite r p off f = s.violation g := by
  simp [State.onWrite, hup, hpage, hglove, hdenied]

section
variable {p o : Nat} {x : RegRow} (hrow : regRow p o = some x) (hw1c : x.w1c = 0) (s : State) (w : Word)
include hrow hw1c

/-- RWS comes before RW (spec/00 R8, spec/03 R64). -/
theorem putReg_of_row : s.putReg p o w =
    if x.rws ≠ 0 then
      if s.stopped p = true then s.setReg p o (stored p o ((s.reg p o &&& ~~~x.rws) ||| (w &&& x.rws)))
      else s.bump p Hd.drop
    else if x.rw ≠ 0 then s.setReg p o (stored p o ((s.reg p o &&& ~~~x.rw) ||| (w &&& x.rw)))
    else s := by
  unfold State.putReg
  rw [hrow]
  exact if_neg (not_not_intro hw1c)

theorem putReg_dropped (hrws : x.rws ≠ 0) (hrun : s.stopped p = false) : s.putReg p o w = s.bump p Hd.drop := by
  rw [putReg_of_row hrow hw1c, if_pos hrws, if_neg (Bool.eq_false_iff.mp hrun)]

theorem putReg_stopped (hrws : x.rws ≠ 0) (hstop : s.stopped p = true) :
    s.putReg p o w = s.setReg p o (stored p o ((s.reg p o &&& ~~~x.rws) ||| (w &&& x.rws))) := by
  rw [putReg_of_row hrow hw1c, if_pos hrws, if_pos hstop]

theorem putReg_rw (hrws : x.rws = 0) (hrw : x.rw ≠ 0) :
    s.putReg p o w = s.setReg p o (stored p o ((s.reg p o &&& ~~~x.rw) ||| (w &&& x.rw))) := by
  rw [putReg_of_row hrow hw1c, if_neg (not_not_intro hrws), if_pos hrw]

theorem putReg_readOnly (hrws : x.rws = 0) (hrw : x.rw = 0) : s.putReg p o w = s := by
  rw [putReg_of_row hrow hw1c, if_neg (not_not_intro hrws), if_neg (not_not_intro hrw)]

end

theorem length_leBytes : ∀ n v, (leBytes n v).length = n
  | 0, _ => rfl
  | n + 1, v => by rw [leBytes, List.length_cons, length_leBytes]

theorem windowRead_word (s : State) (r : Requester) {x : Nat} (hx : x % 4 = 0) :
    s.windowRead r x 4 = (leBytes 4 (s.readFor r x).toNat, s.readEffect r x) := by
  have hbase : x / 4 * 4 = x := by omega
  have hall : (leBytes 4 (s.readFor r x).toNat).take 4 = leBytes 4 (s.readFor r x).toNat :=
    List.take_of_length_le (Nat.le_of_eq (length_leBytes 4 _))
  simp [State.windowRead, State.readWord, hx, hbase, hall]

theorem windowRead_misaligned (s : State) (r : Requester) {x n : Nat} (hx : x % n ≠ 0) :
    s.windowRead r x n = (leBytes n 0, s) := if_pos hx

/-- A read of the window: what it returns leaves the module. -/
theorem access_read_of_window {s t : State} {r : Requester} {x n : Nat} {b : List Byte} (hup : s.coreUp = true)
    (hx : x < 0x1000000) (hread : s.windowRead r x n = (b, t)) :
    s.access r (windowBase r + x) n none = t.emit (.read r b) := by
  unfold State.access
  simp only [readAt_window hup r hx, hread]

theorem gloveEcc_of_up {s : State} (hup : s.coreUp = true) : s.gloveEcc = s.raiseSrc Pg.glv 0 := whenUp_of_up hup _

theorem exec_registerWrite (r : Requester) (a n : Nat) (v : Option DWord) (ecc : Bool) (s : State) :
    exec (.registerWrite r a n v ecc) s = finish s ((if ecc then s.gloveEcc else s).access r a n v) := rfl

/-- Settles O19: an access gets to its register by the window, and each access kind is the equation of that kind. -/
theorem registersAreWritten : Obligations.RegistersAreWritten := by
  refine ⟨?store, ?denied, ?header, ?kinds, ?double, ?read, ?ecc⟩
  case store =>
    intro s r g p o v hp ho halign hqdb hop hw
    exact congrArg (finish s) ((access_store_of_page s r hp ho halign hqdb hop v).trans (onWrite_writes hw _))
  case denied =>
    intro s r g p o v hp ho halign hqdb hop hup hpage hglove hdenied
    exact congrArg (finish s)
      ((access_store_of_page s r hp ho halign hqdb hop v).trans (onWrite_denied hup hpage hglove hdenied _))
  case header => exact fun s b g p w => ⟨rfl, rfl, rfl, rfl⟩
  case kinds =>
    intro s p o w x hrow hw1c
    exact ⟨putReg_dropped hrow hw1c s w, putReg_stopped hrow hw1c s w, putReg_rw hrow hw1c s w,
      putReg_readOnly hrow hw1c s w⟩
  case double =>
    intro s r x v hx
    refine ⟨fun halign => ?_, fun n h4 h8 => ?_⟩
    · exact congrArg (finish s) ((writeAt_window s r hx 8 v).trans (access32_double v _ s halign))
    · exact congrArg (finish s) ((writeAt_window s r hx n v).trans (access32_ignored v _ s h4 h8))
  case read =>
    intro s r x hup hx
    refine ⟨fun halign => ?_, fun n hmis => ?_⟩
    · exact congrArg (finish s) (access_read_of_window hup hx (windowRead_word s r halign))
    · exact congrArg (finish s) (access_read_of_window hup hx (windowRead_misaligned s r hmis))
  case ecc =>
    intro s r a n v hup
    rw [exec_registerWrite, if_pos rfl, gloveEcc_of_up hup]
    rfl

-- The journal of CONFIG (spec/03 R74, spec/22 R577)

theorem cfgSaveBody_saves {c : Ctx} {t : State} (htenant : c.tenant = false) (hfatal : t.isFatal = false)
    (hsaving : t.savingNow = false) : cfgSaveBody c t = t.journalAdd (some c.slot) (.save t.saveRec) := by
  simp [cfgSaveBody, htenant, hfatal, hsaving]

theorem fltSaveBody_saves {c : Ctx} {t : State} (htenant : c.tenant = false) (hfatal : t.isFatal = false) :
    fltSaveBody c t = t.journalAdd (some c.slot) (.severities t.flt.sev) := by
  simp [fltSaveBody, htenant, hfatal]

/-- The CFG_SAVE at the head of the journal becomes the CONFIG generation: a save names no loop and no task to be lost. -/
theorem journalDone_saved {s : State} {n : Nat} {r : CfgRec} {rest : List Journal}
    (hhead : s.nv.journal = ⟨some n, .save r⟩ :: rest) :
    s.journalDone true =
      ({ s with nv := { s.nv with journal := rest, cfg := (CfgEdit.save r).renewed s.nv.cfg } } : State).complete n 0
        (wd (s.nv.cfg.gen + 1)) 0 0 := by
  unfold State.journalDone
  rw [hhead]
  rfl

/-- A journal write that fails leaves CONFIG as it was. -/
theorem journalDone_failed {s : State} {n : Nat} {e : CfgEdit} {rest : List Journal}
    (hhead : s.nv.journal = ⟨some n, e⟩ :: rest) :
    s.journalDone false = ({ s with nv := { s.nv with journal := rest } } : State).complete n
      (if s.journalLost ⟨some n, e⟩ then St.aborted else 0x0203) 0 0 0 := by
  unfold State.journalDone
  rw [hhead]
  cases hlost : s.journalLost ⟨some n, e⟩ <;> simp [hlost]

/-- Settles O22: each save adds its change to the journal, whose head is made or fails. -/
theorem savingTakesTheJournal : Obligations.SavingTakesTheJournal := by
  refine ⟨?cfg, ?flt, ?made, ?failed⟩
  case cfg =>
    refine takes_of (body := cfgSaveBody) (fun _ _ => rfl) ?_
    rintro c t ⟨htenant, hfatal, hsaving⟩
    exact cfgSaveBody_saves htenant hfatal hsaving
  case flt =>
    refine takes_of (body := fltSaveBody) (fun _ _ => rfl) ?_
    rintro c t ⟨htenant, hfatal⟩
    exact fltSaveBody_saves htenant hfatal
  case made =>
    intro s n r rest hup hhead
    exact congrArg (finish s) ((whenUp_of_up hup _).trans (journalDone_saved hhead))
  case failed =>
    intro s n e rest hup hhead
    exact congrArg (finish s) ((whenUp_of_up hup _).trans (journalDone_failed hhead))

end Sys2Proof.Machine
end

section
/-! Commands and queues (spec/04): the ticket of an accepted command, what a completion without a completion queue leaves, and
one equation per case of the queue commands, of polls and slots, of submission entries and of doorbells, with the statements
on them. -/

namespace Sys2Proof.Machine

-- Acceptance: the slot, its generation and the ticket (spec/04 R90, R91)

theorem breg_setBreg_same {s : State} (h : Sparse.wf regReset s.win = true) (b p off : Nat) (v : Word) :
    (s.setBreg b p off v).breg b p off = v :=
  Sparse.get_set_same regReset (Sparse.wf_sorted h) _ _

theorem get_setBreg_ne {s : State} (h : Sparse.wf regReset s.win = true) {b p off k : Nat} (v : Word)
    (hk : k ≠ bkey b p off) : Sparse.get regReset (s.setBreg b p off v).win k = Sparse.get regReset s.win k :=
  Sparse.get_set_ne regReset (Sparse.wf_sorted h) _ hk

section
variable (s : State) (r : Requester) (op g n : Nat)

theorem taken_gen : ((s.taken r op g n).slotOf n).gen = if (s.slotOf n).gen = 0x3FFF then 1 else (s.slotOf n).gen + 1 :=
  congrArg Slot.gen (taken_slot s r op g n)

theorem taken_gen_pos : 1 ≤ ((s.taken r op g n).slotOf n).gen := by
  rw [taken_gen]
  split <;> omega

/-- GEN stays within its 14 bits: after the largest comes 1. -/
theorem taken_gen_le (h : (s.slotOf n).gen ≤ 0x3FFF) : ((s.taken r op g n).slotOf n).gen ≤ 0x3FFF := by
  rw [taken_gen]
  split <;> omega

theorem taken_handle : ((s.taken r op g n).slotOf n).handle n =
    g * 2 ^ 26 + ((s.taken r op g n).slotOf n).gen * 2 ^ 12 + n := by
  rw [Slot.handle, taken_slot]

variable {s} (hcanon : s.canon = true)
include hcanon

theorem taken_ticket : (s.taken r op g n).breg (bankOf r) Pg.cmd Rg.CMD_TICKET =
    wd (((s.taken r op g n).slotOf n).handle n) := by
  rw [taken_slotOf]
  exact breg_setBreg_same (by rw [alloc_win]; exact State.canon_win hcanon) _ _ _ _

theorem get_taken_ne {k : Nat} (hk : k ≠ bkey (bankOf r) Pg.cmd Rg.CMD_TICKET) :
    Sparse.get regReset (s.taken r op g n).win k = Sparse.get regReset s.win k := by
  unfold State.taken
  dsimp only
  rw [get_setBreg_ne (by rw [alloc_win]; exact State.canon_win hcanon) _ hk, alloc_win]

end

/-- Settles O7: the slot is the record that `alloc` writes, and of the registers CMD_TICKET alone is written. -/
theorem acceptanceTakesASlot : Obligations.AcceptanceTakesASlot := by
  intro s r op g n hcanon _ t x
  have hslot : x = _ := taken_slot s r op g n
  have hgen : 1 ≤ x.gen := taken_gen_pos s r op g n
  refine ⟨?phase, ?op, ?glove, ?args, ?cq, Nat.one_le_iff_ne_zero.mp hgen, taken_gen s r op g n, ?ticket,
    taken_outer s r op g n, taken_mem s r op g n, fun k hk => get_taken_ne r op g n hcanon hk⟩
  case phase | op | glove | args | cq => rw [hslot]
  case ticket => rw [taken_ticket r op g n hcanon, taken_handle]

section
variable {g gen n : Nat} (hglove : g < 64) (hgen : gen ≤ 0x3FFF) (hslot : n < 4096)
include hglove hgen hslot

/-- A handle fits a register. -/
theorem toNat_handle : (wd (g * 2 ^ 26 + gen * 2 ^ 12 + n)).toNat = g * 2 ^ 26 + gen * 2 ^ 12 + n := by
  rw [BitVec.toNat_ofNat]
  omega

theorem bf_handle_glove : bf (wd (g * 2 ^ 26 + gen * 2 ^ 12 + n)) 26 6 = g := by
  rw [bf, toNat_handle hglove hgen hslot]
  omega

theorem bf_handle_gen : bf (wd (g * 2 ^ 26 + gen * 2 ^ 12 + n)) 12 14 = gen := by
  rw [bf, toNat_handle hglove hgen hslot]
  omega

theorem bf_handle_slot : bf (wd (g * 2 ^ 26 + gen * 2 ^ 12 + n)) 0 12 = n := by
  rw [bf, toNat_handle hglove hgen hslot]
  omega

theorem handle_ne_zero (hpos : 1 ≤ gen) : wd (g * 2 ^ 26 + gen * 2 ^ 12 + n) ≠ 0 := by
  intro hzero
  have hnat : 0 = g * 2 ^ 26 + gen * 2 ^ 12 + n :=
    (congrArg BitVec.toNat hzero).symm.trans (toNat_handle hglove hgen hslot)
  omega

end

/-- Settles O10: the ticket is the handle, whose fields do not overlap, and GEN is never 0. -/
theorem handlesHaveTheirFields : Obligations.HandlesHaveTheirFields := by
  intro s r op g n hcanon _ hg hn hold t h
  have hgen : (t.slotOf n).gen ≤ 0x3FFF := taken_gen_le s r op g n hold
  have hpos : 1 ≤ (t.slotOf n).gen := taken_gen_pos s r op g n
  have hticket : h = wd (g * 2 ^ 26 + (t.slotOf n).gen * 2 ^ 12 + n) := by
    rw [← taken_handle]
    exact taken_ticket r op g n hcanon
  rw [hticket]
  exact ⟨bf_handle_glove hg hgen hn, bf_handle_gen hg hgen hn, hpos, hgen, bf_handle_slot hg hgen hn,
    handle_ne_zero hg hgen hn hpos⟩

-- Completion (spec/04 R91 to R93, R111, R112)

theorem complete_of_pfw {s : State} (h : s.pfw = true) (n status : Nat) (r0 r1 r2 : Word) :
    s.complete n status r0 r1 r2 = s := by
  simp [State.complete, h]

theorem recordOf_complete (s : State) (x : Slot) (status : Nat) (r0 r1 r2 : Word) :
    (s.recordOf x status r0 r1 r2).complete = true := checked_complete _

theorem slotOf_congr {s t : State} (h : t.cmd = s.cmd) (k : Nat) : t.slotOf k = s.slotOf k := by
  unfold State.slotOf
  rw [h]

/-- A slot in use is listed, so the write of its record leaves every other slot. -/
theorem slotOf_setSlot_ne {s : State} {n k : Nat} {x : Slot} (hx : x.phase ≠ .free) (hk : k ≠ n) :
    (s.setSlot n x).slotOf k = s.slotOf k :=
  Sparse.get_set_put_ne _ _ (fun h => hx (congrArg Slot.phase h)) hk

section
variable {s : State} {n : Nat} (hhand : (s.slotOf n).phase = .inHand) (hpfw : s.pfw = false)
  (hpoll : (s.slotOf n).cq = .poll) (status : Nat) (r0 r1 r2 : Word)
include hhand hpfw hpoll

/-- Without a completion queue the slot keeps the record. -/
theorem complete_poll : s.complete n status r0 r1 r2 =
    (if (s.slotOf n).spoilt then s.raiseSrc Pg.cmd 0 else s).setSlot n
      { s.recordOf (s.slotOf n) status r0 r1 r2 with phase := .done } := by
  unfold State.complete
  dsimp only
  rw [if_pos ⟨hhand, hpfw⟩, hpoll]

theorem complete_poll_phase : ((s.complete n status r0 r1 r2).slotOf n).phase = .done := by
  rw [complete_poll hhand hpfw hpoll, complete_record _ n (recordOf_complete s _ status r0 r1 r2)]

theorem complete_poll_mem : (s.complete n status r0 r1 r2).mem = s.mem := by
  rw [complete_poll hhand hpfw hpoll, setSlot_mem, apply_ite State.mem, raiseSrc_mem, ite_self]

theorem complete_poll_win (hwhole : (s.slotOf n).spoilt = false) : (s.complete n status r0 r1 r2).win = s.win := by
  rw [complete_poll hhand hpfw hpoll, hwhole]
  rfl

theorem complete_poll_slotOf_ne {k : Nat} (hk : k ≠ n) : (s.complete n status r0 r1 r2).slotOf k = s.slotOf k := by
  have hcmd : (if (s.slotOf n).spoilt then s.raiseSrc Pg.cmd 0 else s).cmd = s.cmd := by
    rw [apply_ite State.cmd, raiseSrc_cmd, ite_self]
  rw [complete_poll hhand hpfw hpoll, slotOf_setSlot_ne SlotPhase.noConfusion hk]
  exact slotOf_congr hcmd k

end

/-- Settles O8: the laws of a completion, wherever it goes, and the equation of one that goes nowhere. -/
theorem completionRecordsTheResult : Obligations.CompletionRecordsTheResult := by
  refine ⟨fun s n status r0 r1 r2 => ⟨?pfw, ?hand⟩, ?poll⟩
  case pfw => exact fun hpfw => complete_of_pfw hpfw n status r0 r1 r2
  case hand =>
    intro hhand hpfw
    refine ⟨complete_ended s n status r0 r1 r2 hhand hpfw, complete_phase s n status r0 r1 r2 hhand hpfw, fun hsound => ?_⟩
    obtain ⟨houter, hregs⟩ := complete_sound hsound n status r0 r1 r2
    exact ⟨houter, fun p off hreg => hregs (rkey p off) hreg⟩
  case poll =>
    intro s n status r0 r1 r2 hhand hpfw hpoll
    exact ⟨complete_poll_phase hhand hpfw hpoll status r0 r1 r2, complete_poll_mem hhand hpfw hpoll status r0 r1 r2,
      complete_poll_win hhand hpfw hpoll status r0 r1 r2,
      fun k hk => congrArg Slot.complete (complete_poll_slotOf_ne hhand hpfw hpoll status r0 r1 r2 hk).symm⟩

-- The queue commands (spec/04 R96, R108 to R110)

theorem cmdByOp_of_unassigned {op : Nat} {fails : Bool} (h : ∀ e ∈ cmdTable fails, e.1 ≠ op) :
    cmdByOp fails op = noOpBody := by
  have hnone : (cmdTable fails).find? (fun e => e.1 == op) = none :=
    List.find?_eq_none.mpr fun e he => by simpa using h e he
  unfold cmdByOp
  rw [hnone]

/-- A queue that passes the checks is created: none of its resources is another glove's, and its QID is free. -/
theorem queueCreateBody_creates {c : Ctx} {t : State} (hshape : queueShape (c.f 1 0 3) (c.b 1 8) (c.f 1 16 5) = true)
    (hbase : c.addr 2 % 4096 = 0) (hselector : queueSelector c (c.f 1 0 3) = true)
    (howner : t.queueOwner (c.f 0 0 15) = c.g)
    (hsource : (c.f 1 0 3 = 3 ∨ c.f 1 0 3 = 4) → canSource (c.f 5 0 8) = true → t.owner (c.f 5 0 8) = c.g)
    (hpair : (c.f 1 0 3 = 0 ∨ c.f 1 0 3 = 4) → c.b 4 31 = true → t.queueOwner (c.f 4 0 15) = c.g)
    (hfree : (t.queue (c.f 0 0 15)).live = false) (hclash : t.queueClash c (c.f 1 0 3) = false) :
    queueCreateBody c t =
      (({ t with ptb := { t.ptb with posted := Sparse.keep (fun k => k / 65536 != c.f 0 0 15) t.ptb.posted } }).setQueue
        (c.f 0 0 15)
        { live := true, kind := c.f 1 0 3, wide := c.b 1 8, log2n := c.f 1 16 5, base := c.addr 2,
          pair := if (c.f 1 0 3 = 0 ∨ c.f 1 0 3 = 4) ∧ c.b 4 31 = true then some (c.f 4 0 15) else none,
          arg5 := c.arg 5, arg6 := c.arg 6, arg7 := c.arg 7 }).complete c.slot 0 (wd (c.f 0 0 15)) 0 0 := by
  have hfits : (!queueShape (c.f 1 0 3) (c.b 1 8) (c.f 1 16 5) || c.addr 2 % 4096 != 0
      || !queueSelector c (c.f 1 0 3)) = false := by
    simp [hshape, hbase, hselector]
  have hmine : (t.queueOwner (c.f 0 0 15) != c.g
      || ((c.f 1 0 3 == 3 || c.f 1 0 3 == 4) && canSource (c.f 5 0 8) && t.owner (c.f 5 0 8) != c.g)
      || ((c.f 1 0 3 == 0 || c.f 1 0 3 == 4) && c.b 4 31 && t.queueOwner (c.f 4 0 15) != c.g)) = false := by
    simpa [howner] using ⟨hsource, hpair⟩
  have hroom : ((t.queue (c.f 0 0 15)).live || t.queueClash c (c.f 1 0 3)) = false := by
    rw [hfree, hclash]
    rfl
  unfold queueCreateBody
  simp only [hfits, hmine, hroom, Bool.false_eq_true, if_false, Bool.and_eq_true, Bool.or_eq_true, beq_iff_eq]
  rfl

theorem queueDestroyBody_destroys {c : Ctx} {t : State} (howner : t.queueOwner (c.f 0 0 15) = c.g)
    (hlive : (t.queue (c.f 0 0 15)).live = true) :
    queueDestroyBody c t =
      ((t.queueChecked (c.f 0 0 15)).queueGone (c.f 0 0 15)).complete c.slot 0 (wd (t.queue (c.f 0 0 15)).hw) := by
  simp [queueDestroyBody, howner, hlive, State.done, State.fin]

theorem queueQueryBody_answers {c : Ctx} {t : State} (howner : t.queueOwner (c.f 0 0 15) = c.g)
    (hlive : (t.queue (c.f 0 0 15)).live = true) :
    queueQueryBody c t = (t.queueChecked (c.f 0 0 15)).complete c.slot 0 (wd (t.queue (c.f 0 0 15)).hw)
      (wd (t.queue (c.f 0 0 15)).sw) (t.queue (c.f 0 0 15)).drops := by
  simp [queueQueryBody, howner, hlive, State.done, State.fin]

/-- Settles O11: each command passes its checks, and its body is the equation of that case. -/
theorem queueCommandsComplete : Obligations.QueueCommandsComplete := by
  refine ⟨?nop, ?create, ?destroy, ?query, ?unassigned⟩
  case nop => exact takes_of (body := nopBody) (fun _ _ => rfl) fun _ _ _ => rfl
  case create =>
    refine takes_of (body := queueCreateBody) (fun _ _ => rfl) ?_
    rintro c t ⟨hshape, hbase, hselector, howner, hsource, hpair, hfree, hclash⟩
    exact queueCreateBody_creates hshape hbase hselector howner hsource hpair hfree hclash
  case destroy =>
    refine takes_of (body := queueDestroyBody) (fun _ _ => rfl) ?_
    rintro c t ⟨howner, hlive⟩
    exact queueDestroyBody_destroys howner hlive
  case query =>
    refine takes_of (body := queueQueryBody) (fun _ _ => rfl) ?_
    rintro c t ⟨howner, hlive⟩
    exact queueQueryBody_answers howner hlive
  case unassigned =>
    intro op hop
    refine takes_of (body := cmdByOp false op) (fun _ _ => rfl) fun c t _ => ?_
    rw [cmdByOp_of_unassigned hop]
    rfl

-- Polls and slots (spec/04 R91, R92, R107, R111)

theorem pollRead_of_polled {s : State} {b g n : Nat} (h : s.polled b g = some n) (parity : Bool) :
    s.pollRead b g parity = if parity = true ∨ (s.slotOf n).spoilt = true then s.slotParity n
      else if (s.slotOf n).phase = .done then s.freeSlot n else s := by
  unfold State.pollRead
  rw [h]
  simp only [Bool.or_eq_true]

theorem slotTimeout_of_done {s : State} {n : Nat} (h : (s.slotOf n).phase = .done) : s.slotTimeout n = s.freeSlot n :=
  if_pos h

theorem postSlot_of_queue {s : State} {n q : Nat} (h : (s.slotOf n).cq = .queue q) :
    s.postSlot n = (s.post q (fun ph => s.slotEntry n ph)).freeSlot n := by
  unfold State.postSlot
  rw [h]

/-- The first held completion of a queue with space is posted there. -/
theorem postHeld_of_first {s : State} {n q : Nat} (hheld : (s.slotOf n).phase = .held) (hcq : (s.slotOf n).cq = .queue q)
    (hfirst : s.cmd.held.find? (fun k => decide ((s.slotOf k).cq = .queue q)) = some n) (hspace : s.canComplete n = true) :
    s.postHeld n = ((s.slotChecked n).post q (fun ph => (s.slotChecked n).slotEntry n ph)).freeSlot n := by
  have hchecked : ((s.slotChecked n).slotOf n).cq = .queue q := (slotChecked_cq s n hheld).trans hcq
  unfold State.postHeld
  dsimp only
  rw [hcq, if_pos ⟨hheld, hfirst, hspace⟩, postSlot_of_queue hchecked]

/-- Settles O12: the read gets to CMD_POLL_STAT, and the slot's condition holds in each case. -/
theorem slotsAreFreed : Obligations.SlotsAreFreed := by
  refine ⟨?poll, ?time, ?posted⟩
  case poll =>
    intro s r g n hread hpolled parity
    exact congrArg (finish s) ((onRead_reads hread _).trans (pollRead_of_polled hpolled parity))
  case time =>
    intro s n hup hdone
    exact congrArg (finish s) ((whenUp_of_up hup _).trans (slotTimeout_of_done hdone))
  case posted =>
    intro s n q hup hheld hcq hfirst hspace
    exact congrArg (finish s) ((whenUp_of_up hup _).trans (postHeld_of_first hheld hcq hfirst hspace))

-- Submission entries and CMD requests (spec/04 R100, spec/19 R504)

section
variable {s : State} {q n : Nat} (hup : s.coreUp = true) (hpfw : s.pfw = false) (htake : s.canTake q = true)
  (hkind : (s.queue q).kind = 0) (hactive : s.active (s.queueOwner q) = true)
  (hissue : s.canIssue (s.queueOwner q) = true)
include hup hpfw htake hkind hactive hissue

theorem entryDue_of_canTake : s.entryDue q = true := by
  simp [State.entryDue, hup, hpfw, htake, hkind, hactive, hissue]

variable (hslot : s.nextSlot = some n) (fails : Bool)
include hslot

theorem submit_readable :
    s.submit q fails false = cmdByOp fails (getLE (s.headEntry q) 0 2)
      ⟨n, s.queueOwner q, getLE (s.headEntry q) 0 2, leWords 8 ((s.headEntry q).drop 8)⟩
      ((s.consume q).alloc n (s.queueOwner q) (getLE (s.headEntry q) 0 2) (leWords 8 ((s.headEntry q).drop 8)) (.queue q)
        (s.queue q).pairCq (wd (getLE (s.headEntry q) 4 4))) := by
  have htaken : s.takeEntry q = some _ := if_pos (entryDue_of_canTake hup hpfw htake hkind hactive hissue)
  unfold State.submit
  rw [htaken, hslot]
  rfl

theorem submit_unreadable :
    s.submit q fails true = (((s.draw.2.consume q).alloc n (s.queueOwner q) 0 [] (.queue q) (s.queue q).pairCq
      (wd s.draw.1)).queueEcc q).complete n 0x02FF 0 0 0 := by
  have hdue := entryDue_of_canTake hup hpfw htake hkind hactive hissue
  unfold State.submit State.takeSpoilt
  rw [if_pos rfl, if_pos hdue, hslot]
  rfl

end

theorem onVendor_of_awake {s : State} (hawake : s.usbAwake = true) (hmode : s.sys.mode ≠ .recovery) (f : State → State) :
    s.onVendor f = f s := by
  unfold State.onVendor
  rw [if_pos hawake, if_neg hmode]

theorem usbSubmit_of_session {s : State} {g n : Nat} (hsession : s.usb.session = some g) (hactive : s.active g = true)
    (hpfw : s.pfw = false) (hissue : s.canIssue g = true) (hslot : s.nextSlot = some n) (b : List Byte) (fails : Bool) :
    s.usbSubmit b fails = cmdByOp fails (getLE b 0 2) ⟨n, g, getLE b 0 2, leWords 8 (b.drop 8)⟩
      (s.alloc n g (getLE b 0 2) (leWords 8 (b.drop 8)) .usb .usbRing (wd (getLE b 4 4))) := by
  unfold State.usbSubmit
  simp only [hsession, hslot, hpfw, hactive, hissue, Option.getD_some, Bool.not_true, Bool.false_eq_true, if_false, if_true]

/-- Settles O13: the entry is due, and the request reaches a session that may issue. -/
theorem entriesBecomeCommands : Obligations.EntriesBecomeCommands := by
  refine ⟨?entry, ?request⟩
  case entry =>
    intro s q n fails hup hpfw htake hkind hactive hissue hslot
    exact ⟨congrArg (finish s) (submit_readable hup hpfw htake hkind hactive hissue hslot fails),
      congrArg (finish s) (submit_unreadable hup hpfw htake hkind hactive hissue hslot fails)⟩
  case request =>
    intro s g n b fails hawake hmode hsession hactive hpfw hissue hslot
    exact congrArg (finish s)
      ((onVendor_of_awake hawake hmode _).trans (usbSubmit_of_session hsession hactive hpfw hissue hslot b fails))

-- Doorbells (spec/04 R103 to R106, R111)

theorem onBell_of_up {s : State} {r : Requester} {g : Nat} (hup : s.coreUp = true) (hglove : s.gloveOf r = some g)
    (hfatal : s.isFatal = false) (f : Nat → State → State) : s.onBell r f = f g s := by
  unfold State.onBell
  rw [if_pos hup, hglove]
  simp only [hfatal, Bool.false_eq_true, if_false]

/-- A doorbell access that gets to its queue has its effect there. -/
theorem onBell_rings {s : State} {r : Requester} {g q : Nat} (h : s.rings r g q = true) (f : Nat → State → State) :
    s.onBell r f = f g s := by
  simp only [State.rings, Bool.and_eq_true, Bool.not_eq_true', decide_eq_true_eq] at h
  obtain ⟨⟨⟨⟨hup, hglove⟩, hfatal⟩, -⟩, -⟩ := h
  exact onBell_of_up hup hglove hfatal f

theorem State.rings_mine {s : State} {r : Requester} {g q : Nat} (h : s.rings r g q = true) :
    s.bellMine g q = true ∧ (s.queue q).live = true := by
  simp only [State.rings, Bool.and_eq_true] at h
  obtain ⟨⟨-, hmine⟩, hlive⟩ := h
  exact ⟨hmine, hlive⟩

section
variable {s : State} {g q : Nat} (v : Word) (ecc : Bool)

theorem bellChecked_of_live (hlive : (s.queue q).live = true) :
    s.bellChecked q ecc = if ecc = true ∨ (s.queue q).spoilt = true then s.queueEcc q else s := by
  cases ecc <;> simp [State.bellChecked, State.queueChecked, hlive]

theorem bellIndex_mine (hmine : s.bellMine g q = true) (hlive : (s.queue q).live = true) :
    let s1 := if ecc = true ∨ (s.queue q).spoilt = true then s.queueEcc q else s
    s.bellIndex g q v ecc = if (s1.queue q).indexOk v.toNat = true
      then (s1.setQueue q { s1.queue q with sw := v.toNat }).checkQueue q
      else s1.setQueue q { s1.queue q with badidx := true } := by
  simp [State.bellIndex, hmine, hlive, bellChecked_of_live ecc hlive]

theorem bellCtrl_mine (hmine : s.bellMine g q = true) (hlive : (s.queue q).live = true) :
    let s1 := if ecc = true ∨ (s.queue q).spoilt = true then s.queueEcc q else s
    s.bellCtrl g q v ecc = (s1.setQueue q { s1.queue q with
      arm := bit v 0, ovf := (s1.queue q).ovf && !bit v 8, badidx := (s1.queue q).badidx && !bit v 9 }).checkQueue q := by
  simp [State.bellCtrl, hmine, hlive, bellChecked_of_live ecc hlive]

variable (hforeign : s.bellMine g q = false)
include hforeign

theorem bellIndex_foreign : s.bellIndex g q v ecc = s.violation g := by
  simp [State.bellIndex, hforeign]

theorem bellCtrl_foreign : s.bellCtrl g q v ecc = s.violation g := by
  simp [State.bellCtrl, hforeign]

end

/-- Settles O14: the access gets to its queue, whose context is checked before the write, or it is another glove's. -/
theorem doorbellsWork : Obligations.DoorbellsWork := by
  refine ⟨⟨?index, ?ctrl⟩, ?foreign⟩
  case index =>
    intro s r g q v hrings ecc
    obtain ⟨hmine, hlive⟩ := State.rings_mine hrings
    exact congrArg (finish s) ((onBell_rings hrings _).trans (bellIndex_mine v ecc hmine hlive))
  case ctrl =>
    intro s r g q v hrings ecc
    obtain ⟨hmine, hlive⟩ := State.rings_mine hrings
    exact congrArg (finish s) ((onBell_rings hrings _).trans (bellCtrl_mine v ecc hmine hlive))
  case foreign =>
    intro s r g q v hup hglove hfatal hforeign
    exact ⟨fun ecc => congrArg (finish s) ((onBell_of_up hup hglove hfatal _).trans (bellIndex_foreign v ecc hforeign)),
      fun ecc => congrArg (finish s) ((onBell_of_up hup hglove hfatal _).trans (bellCtrl_foreign v ecc hforeign))⟩

end Sys2Proof.Machine
end

section
/-! Gloves and memory (spec/05): the canonical form that every step keeps, commands that are turned away, the glove commands
and the zero fill of a reclaim, and stores of requesters to memory, with the statements on them. -/

namespace Sys2Proof.Machine

-- The canonical form (spec/05 R118, spec/03 R54)

theorem step_of_no_command {s : State} (h : s.pending = []) : step s = .next (idleStep s) := by
  unfold step
  rw [h]

theorem step_of_command {s : State} {c : Instr} {rest : List Instr} (h : s.pending = c :: rest) :
    step s = exec c { s with pending := rest } := by
  unfold step
  rw [h]

/-- Settles O2: an idle step keeps the canonical form, and so does every command, which does not look at the queue's rest. -/
theorem canonicalFormIsKept : Obligations.CanonicalFormIsKept := by
  intro s t hcanon hstep
  cases hqueue : s.pending with
  | nil =>
    cases (step_of_no_command hqueue).symm.trans hstep
    exact (idleStep_keeps (Keeps.refl s)).canon hcanon
  | cons c rest => exact (keeps_of_exec_next ((step_of_command hqueue).symm.trans hstep)).canon hcanon

-- Commands of a glove that is not active, and commands without a slot (spec/04 R88, spec/05 R115, spec/22 R572)

section
variable {s : State} {r : Requester} {g : Nat} (hup : s.coreUp = true) (hglove : s.gloveOf r = some g) (op : Nat)
  (body : Ctx → State → State)
include hup hglove

/-- The command of an inactive glove takes its slot, and is then a foreign one (log entry 48). -/
theorem issue_of_inactive {n : Nat} (hpfw : s.pfw = false) (hidle : s.active g = false)
    (hquota : s.heldBy g < (s.glove g).quota) (hslot : s.nextSlot = some n) :
    s.issue r op body = ((s.taken r op g n).violation g).complete n 0 := by
  unfold State.issue
  simp only [hup, hglove, hpfw, hidle, hslot, State.canIssue, hquota, Option.isSome_some, Option.getD_some, decide_true,
    Bool.and_self, Bool.false_eq_true, if_true, if_false]
  rfl

variable (hactive : s.active g = true)
include hactive

theorem issue_of_pfw (hpfw : s.pfw = true) : s.issue r op body = s.setBreg (bankOf r) Pg.cmd Rg.CMD_TICKET 0 := by
  unfold State.issue
  simp only [hup, hglove, hpfw, hactive, if_true]

theorem issue_of_no_slot (hpfw : s.pfw = false) (hissue : s.canIssue g = false) :
    s.issue r op body = (s.setBreg (bankOf r) Pg.cmd Rg.CMD_TICKET 0).setBreg (bankOf r) Pg.cmd Rg.CMD_NOSLOT
      (satInc (s.breg (bankOf r) Pg.cmd Rg.CMD_NOSLOT)) := by
  unfold State.issue
  simp only [hup, hglove, hpfw, hactive, hissue, Bool.false_eq_true, if_true, if_false]

end

theorem breg_setBreg_ne {s : State} (h : Sparse.wf regReset s.win = true) {b p off off' : Nat} (v : Word) (hoff : off' ≠ off) :
    (s.setBreg b p off v).breg b p off' = s.breg b p off' :=
  get_setBreg_ne h v fun hkey => hoff (Nat.add_left_cancel (Nat.add_left_cancel hkey))

theorem setBreg_wf {s : State} (h : Sparse.wf regReset s.win = true) (b p off : Nat) (v : Word) :
    Sparse.wf regReset (s.setBreg b p off v).win = true := Sparse.wf_set h _ _

/-- A command that has just been taken is whole, and its violation does not touch it: its completion shows DONE and zeros. -/
theorem taken_violation_done {s : State} (hpfw : s.pfw = false) (r : Requester) (op g n : Nat) :
    (((s.taken r op g n).violation g).complete n 0).ended n 0 0 0 0 := by
  have hslot : ((s.taken r op g n).violation g).slotOf n = _ :=
    (slotOf_congr (violation_cmd _ g) n).trans (taken_slot s r op g n)
  have hphase : (((s.taken r op g n).violation g).slotOf n).phase = .inHand := by rw [hslot]
  have hwhole : (((s.taken r op g n).violation g).slotOf n).spoilt = false := by rw [hslot]
  have hlive : ((s.taken r op g n).violation g).pfw = false := by
    rw [State.pfw, violation_pwr, taken_pwr]
    exact hpfw
  have hended := complete_ended _ n 0 0 0 0 hphase hlive
  rwa [hwhole] at hended

/-- Step 3 of spec/04 R96 in a command's body: the command is foreign where `pre` holds. -/
theorem takes_foreign {i : Requester → Instr} {op : Nat} {body : Ctx → State → State} {pre : Ctx → State → Prop}
    (hi : ∀ r s, exec (i r) s = finish s (s.issue r op body)) (hbody : ∀ c t, pre c t → body c t = t.foreign c) :
    Takes i op pre (fun c t => (t.violation c.g).complete c.slot 0 0 0 0) :=
  takes_of hi hbody

section
variable {c : Ctx} (t : State) (htenant : c.tenant = true)
include htenant

/-- The arguments are checked before the glove. -/
theorem gloveSetBody_of_tenant (hquota : c.f 1 0 13 ≤ 4096)
    (hfits : c.f 0 0 6 ≠ 0 → c.f 2 0 13 + c.f 2 16 13 ≤ 4096) : gloveSetBody c t = t.foreign c := by
  by_cases hn : c.f 0 0 6 = 0
  · simp [gloveSetBody, htenant, hquota, hn]
  · simp [gloveSetBody, htenant, hquota, hn, hfits hn]

theorem gloveReclaimBody_of_tenant (hn : c.f 0 0 6 ≠ 0) : gloveReclaimBody c t = t.foreign c := by
  simp [gloveReclaimBody, htenant, hn]

end

/-- Settles O9: which way the command is turned away, and what is left of it. -/
theorem commandsAreTurnedAway : Obligations.CommandsAreTurnedAway := by
  refine ⟨?inactive, ?untaken, ⟨?set, ?qblock, ?reclaim⟩, ?run, ?commission, ?safe, ?save, ?severities⟩
  case inactive =>
    intro s r g n op body hup hpfw hglove hidle hquota hslot t
    have heq : t = _ := issue_of_inactive hup hglove op body hpfw hidle hquota hslot
    exact ⟨heq, heq ▸ taken_violation_done hpfw r op g n⟩
  case untaken =>
    intro s r g op body hcanon hup hglove hactive hwhy t
    have hwin := State.canon_win hcanon
    by_cases hpfw : s.pfw = true
    · have heq : t = _ := issue_of_pfw hup hglove op body hactive hpfw
      rw [heq, if_pos hpfw]
      exact ⟨breg_setBreg_same hwin _ _ _ _, breg_setBreg_ne hwin _ (by decide), setBreg_cmd .., setBreg_mem ..,
        setBreg_outer ..⟩
    · have heq : t = _ := issue_of_no_slot hup hglove op body hactive (Bool.eq_false_iff.mpr hpfw) (hwhy.resolve_left hpfw)
      have hwin' := setBreg_wf hwin (bankOf r) Pg.cmd Rg.CMD_TICKET 0
      rw [heq, if_neg hpfw, breg_setBreg_ne hwin' _ (by decide), breg_setBreg_same hwin, breg_setBreg_same hwin']
      simp only [setBreg_cmd, setBreg_mem, setBreg_outer, and_self]
  case set =>
    refine takes_foreign (body := gloveSetBody) (fun _ _ => rfl) ?_
    rintro c t ⟨htenant, hquota, hfits⟩
    exact gloveSetBody_of_tenant t htenant hquota hfits
  case qblock => exact takes_foreign (body := gloveQblockBody) (fun _ _ => rfl) fun _ _ htenant => if_pos htenant
  case reclaim =>
    refine takes_foreign (body := gloveReclaimBody) (fun _ _ => rfl) ?_
    rintro c t ⟨htenant, hn⟩
    exact gloveReclaimBody_of_tenant t htenant hn
  case run => exact takes_foreign (body := sysEnterRunBody) (fun _ _ => rfl) fun _ _ htenant => if_pos htenant
  case commission =>
    exact takes_foreign (body := sysEnterCommissionBody) (fun _ _ => rfl) fun _ _ htenant => if_pos htenant
  case safe => exact takes_foreign (body := sysEnterSafeBody) (fun _ _ => rfl) fun _ _ htenant => if_pos htenant
  case save => exact takes_foreign (body := cfgSaveBody) (fun _ _ => rfl) fun _ _ htenant => if_pos htenant
  case severities => exact takes_foreign (body := fltSaveBody) (fun _ _ => rfl) fun _ _ htenant => if_pos htenant

-- The glove commands (spec/05 R127, R128)

/-- GLOVE_SET stores the entry `e` of glove `n`, tells the glove if it changed, keeps it in CONFIG, and completes. -/
def State.gloveStored (t : State) (c : Ctx) (n : Nat) (e : Glove) : State :=
  let s2 := if e = t.glove n then t.setGlove n e else (t.setGlove n e).assign n
  let s3 := s2.cfgNow (.gloves s2.gloveCfg s2.glv.qmap)
  s3.complete c.slot (if e.quota < s3.heldBy n then 0x0001 else 0) (s3.glvCtrl n) (s3.glvMem n) (s3.glvSlots n)

/-- The region of an active glove is apart from those of the other gloves. -/
theorem no_overlap_of_apart {c : Ctx} {t : State} {r : Nat × Nat}
    (hapart : c.b 0 8 = true → ∀ k < 63, k + 1 ≠ c.f 0 0 6 → (t.glove (k + 1)).active = true →
      overlaps r (t.region (k + 1)) = false) :
    (c.b 0 8 && (List.range 63).any (fun k => k + 1 != c.f 0 0 6 && (t.glove (k + 1)).active && overlaps r (t.region (k + 1))))
      = false := by
  rw [Bool.and_eq_false_imp]
  intro hact
  rw [List.any_eq_false]
  intro k hk hall
  simp only [Bool.and_eq_true, bne_iff_ne] at hall
  obtain ⟨⟨hne, hactive⟩, hover⟩ := hall
  exact Bool.false_ne_true ((hapart hact k (List.mem_range.mp hk) hne hactive).symm.trans hover)

theorem gloveSetBody_stores {c : Ctx} {t : State} (htenant : c.tenant = false) (hn : c.f 0 0 6 ≠ 0)
    (hquota : c.f 1 0 13 ≤ 4096) (hfits : c.f 2 0 13 + c.f 2 16 13 ≤ 4096)
    (hapart : c.b 0 8 = true → ∀ k < 63, k + 1 ≠ c.f 0 0 6 → (t.glove (k + 1)).active = true →
      overlaps (dramBase + c.f 2 0 13 * 0x200000, c.f 2 16 13 * 0x200000) (t.region (k + 1)) = false)
    (howns : (t.glove (c.f 0 0 6)).active = true → c.b 0 8 = false → t.ownsAny (c.f 0 0 6) = false)
    (hring : t.ringOutside (c.f 0 0 6) (dramBase + c.f 2 0 13 * 0x200000, c.f 2 16 13 * 0x200000) = false)
    (hreclaim : t.reclaiming (c.f 0 0 6) = false) :
    gloveSetBody c t = t.gloveStored c (c.f 0 0 6) ⟨c.b 0 8, c.f 2 0 13, c.f 2 16 13, c.f 1 0 13⟩ := by
  have hargs : (decide (4096 < c.f 1 0 13) || decide (4096 < c.f 2 0 13 + c.f 2 16 13)) = false := by simp [hquota, hfits]
  have hkept : ((t.glove (c.f 0 0 6)).active && !c.b 0 8 && t.ownsAny (c.f 0 0 6)) = false := by
    simpa using howns
  have hone : (c.f 0 0 6 == 0) = false := beq_false_of_ne hn
  have hother : (c.f 0 0 6 != 0) = true := bne_iff_ne.mpr hn
  unfold gloveSetBody
  simp only [hone, hother, if_neg hn, hargs, htenant, no_overlap_of_apart hapart, hkept, hring, hreclaim, Bool.true_and,
    Bool.false_or, Bool.or_self, Bool.false_eq_true, if_false]
  rfl

/-- Glove 0 stays active and without a region: of its entry the quota alone is stored. -/
theorem gloveSetBody_stores_glove0 {c : Ctx} {t : State} (htenant : c.tenant = false) (hn : c.f 0 0 6 = 0)
    (hquota : c.f 1 0 13 ≤ 4096) (hreclaim : t.reclaiming 0 = false) :
    gloveSetBody c t = t.gloveStored c 0 { t.glove 0 with active := true, quota := c.f 1 0 13 } := by
  simp [gloveSetBody, hn, htenant, hquota, hreclaim, State.gloveStored, State.fin]

theorem gloveQblockBody_gives {c : Ctx} {t : State} (htenant : c.tenant = false)
    (hempty : t.queuesWith (fun q _ => q / 128 == c.f 0 0 8) = []) :
    let old := Sparse.get (dflt 0) t.glv.qmap (c.f 0 0 8)
    let s1 := { t with glv := { t.glv with qmap := Sparse.set (dflt 0) t.glv.qmap (c.f 0 0 8) (c.f 1 0 6) } }
    let s2 := if old = c.f 1 0 6 then s1 else (s1.assign old).assign (c.f 1 0 6)
    gloveQblockBody c t = (s2.cfgNow (.gloves s2.gloveCfg s2.glv.qmap)).complete c.slot 0 (wd old) 0 0 := by
  unfold gloveQblockBody
  simp only [htenant, hempty, List.isEmpty_nil, Bool.not_true, Bool.false_eq_true, if_false]
  rfl

/-- GLOVE_RECLAIM of glove `n`, up to its zero fill: deactivated, its commands aborted, its queues gone, all it owns given
up, and the reclaim in hand with the count of what was moved (log entry 113). -/
def State.gloveReclaimed (t : State) (c : Ctx) (n : Nat) : State :=
  let s1 := (t.setGlove n { t.glove n with active := false }).assign n
  let s2 := s1.abortWhere (fun x => x.glove == n)
  let qs := s2.queuesWith (fun q _ => s2.queueOwner q == n)
  let s3 := qs.foldl State.queueGone s2
  let moved := s3.objectsOf n
  let s4 := if moved = 0 then s3.giveUp n else (s3.giveUp n).assign 0
  let s5 := s4.cfgNow (.reclaim n (Sparse.set gloveDflt s4.gloveCfg n {}) s4.glv.qmap (s3.hadBy n))
  { s5 with glv := { s5.glv with reclaims := s5.glv.reclaims ++ [⟨n, some c.slot, qs.length, moved⟩] },
            nv := { s5.nv with reclaims := addN s5.nv.reclaims n } }

theorem gloveReclaimBody_reclaims {c : Ctx} {t : State} (hn : c.f 0 0 6 ≠ 0) (htenant : c.tenant = false)
    (hworks : t.worksFor (c.f 0 0 6) = false)
    (hstopped : ∀ p ∈ t.pagesOf (c.f 0 0 6), runCtrl p = true → t.stopped p = true)
    (hreclaim : t.reclaiming (c.f 0 0 6) = false) : gloveReclaimBody c t = t.gloveReclaimed c (c.f 0 0 6) := by
  have hpages : (t.pagesOf (c.f 0 0 6)).any (fun p => runCtrl p && !t.stopped p) = false := by
    simpa using hstopped
  unfold gloveReclaimBody
  simp only [if_neg hn, htenant, hworks, hpages, hreclaim, Bool.or_self, Bool.false_eq_true, if_false]
  rfl

/-- What the end of the zero fill of glove `m`'s reclaim leaves, but for the completion. -/
def State.zeroFilled (s : State) (m : Nat) : State :=
  let s1 := { s with mem := zeroRange s.mem (s.region m).1 (s.region m).2 }.setGlove m {}
  let s2 := if s.glove m = {} then s1 else s1.assign m
  { s2 with glv := { s2.glv with reclaims := s2.glv.reclaims.filter (fun x => x.glove != m) },
            nv := { s2.nv with reclaims := delN s2.nv.reclaims m } }

section
variable {s : State} {k : Reclaim} {m : Nat} (hfound : s.glv.reclaims.find? (fun r => r.glove == m) = some k)
include hfound

theorem reclaimFilled_of_slot {n : Nat} (hslot : k.slot = some n) : s.reclaimFilled m =
    (s.zeroFilled m).complete n 0 (wd k.queues) (wd ((s.zeroFilled m).keygen m)) (wd k.moved) := by
  unfold State.reclaimFilled
  simp only [hfound, hslot]
  rfl

/-- The command of a reclaim that a loss of power interrupted is gone. -/
theorem reclaimFilled_of_no_slot (hslot : k.slot = none) : s.reclaimFilled m = s.zeroFilled m := by
  unfold State.reclaimFilled
  simp only [hfound, hslot]
  rfl

end

/-- Of what the end of a command looks at, a zero fill changes memory alone. -/
theorem zeroFilled_stores (s : State) (m : Nat) :
    (s.zeroFilled m).mem = zeroRange s.mem (s.region m).1 (s.region m).2 ∧ (s.zeroFilled m).idle = s.idle := by
  unfold State.zeroFilled
  dsimp only
  split <;> exact ⟨rfl, rfl⟩

/-- Zero-filled bytes read zero, and the others as before. -/
theorem rd8_zeroRange {l : List Host.Cell} (h : Memory.wf l = true) (a n x : Nat) :
    rd8 (zeroRange l a n) x = if a ≤ x ∧ x < a + n then 0 else rd8 l x := by
  have hread := get_filter_keep memDflt (fun k => !(decide (a ≤ k) && decide (k < a + n))) (Sparse.wf_sorted h) x
  rw [rd8, zeroRange, hread]
  by_cases hin : a ≤ x ∧ x < a + n
  · simp [hin, memDflt, dflt]
  · simp [hin, rd8]

theorem State.canon_mem {s : State} (h : s.canon = true) : Memory.wf s.mem = true := by
  simp only [State.canon, Bool.and_eq_true] at h
  obtain ⟨hmem, -⟩ := h
  exact hmem

/-- A command whose effect leaves nothing waiting ends with the memory of its effect. -/
theorem settled_mem {s u : State} (h : u.idle = true) : (s.settled u).mem = u.mem := by
  obtain ⟨hmem, -, -⟩ := idle_settled s u h
  exact hmem

/-- Settles O15: each command passes its checks, and a zero fill keeps every byte outside the region. -/
theorem gloveCommandsComplete : Obligations.GloveCommandsComplete := by
  refine ⟨⟨?set, ?set0, ?qblock, ?reclaim, ?filled⟩, ?zero⟩
  case set =>
    refine takes_of (body := gloveSetBody) (fun _ _ => rfl) ?_
    rintro c t ⟨htenant, hn, hquota, hfits, hapart, howns, hring, hreclaim⟩
    exact gloveSetBody_stores htenant hn hquota hfits hapart howns hring hreclaim
  case set0 =>
    refine takes_of (body := gloveSetBody) (fun _ _ => rfl) ?_
    rintro c t ⟨htenant, hn, hquota, hreclaim⟩
    exact gloveSetBody_stores_glove0 htenant hn hquota hreclaim
  case qblock =>
    refine takes_of (body := gloveQblockBody) (fun _ _ => rfl) ?_
    rintro c t ⟨htenant, hempty⟩
    exact gloveQblockBody_gives htenant hempty
  case reclaim =>
    refine takes_of (body := gloveReclaimBody) (fun _ _ => rfl) ?_
    rintro c t ⟨hn, htenant, hworks, hstopped, hreclaim⟩
    exact gloveReclaimBody_reclaims hn htenant hworks hstopped hreclaim
  case filled =>
    intro s k m n hup hfound hslot
    exact congrArg (finish s) ((whenUp_of_up hup _).trans (reclaimFilled_of_slot hfound hslot))
  case zero =>
    intro s k m hcanon hidle hup hfound hslot
    obtain ⟨hmem, hkept⟩ := zeroFilled_stores s m
    refine ⟨_, congrArg (finish s) ((whenUp_of_up hup _).trans (reclaimFilled_of_no_slot hfound hslot)), fun a => ?_⟩
    rw [settled_mem (hkept.trans hidle), hmem, rd8_zeroRange (State.canon_mem hcanon)]

-- Stores and reads of requesters in memory (spec/05 R118, R121, spec/19 R488)

/-- A little-endian number written at `a`, read byte by byte. -/
theorem rd8_wrBytes_leBytes {n k : Nat} (hk : k < n) {l : List Host.Cell} (h : Memory.wf l = true) (a v : Nat) :
    rd8 (wrBytes l a (leBytes n v)) (a + k) = BitVec.ofNat 8 (v / 256 ^ k) := by
  induction n generalizing k l a v with
  | zero => exact absurd hk (Nat.not_lt_zero k)
  | succ n ih =>
    have hwf := Memory.wf_wr8 h a (BitVec.ofNat 8 v)
    rw [leBytes, wrBytes]
    cases k with
    | zero => rw [rd8_wrBytes_ne _ hwf (a + 1) (a + 0) (.inl (by omega)), Nat.add_zero, rd8_wr8_same h, pow_zero, Nat.div_one]
    | succ k =>
      rw [show a + (k + 1) = a + 1 + k by omega, ih (by omega) hwf, Nat.div_div_eq_div_mul, ← Nat.pow_succ']

theorem windowBase_le (r : Requester) : windowBase r ≤ 0x40000000 := by
  cases r with
  | core c => exact Nat.le_refl _
  | pf | vf | usb => exact Nat.zero_le _

section
variable {r : Requester} {a n : Nat} (h : inDram a n = true)
include h

theorem le_of_inDram : 0x100000000 ≤ a := by
  simp only [inDram, Bool.and_eq_true, decide_eq_true_eq] at h
  obtain ⟨hbase, -⟩ := h
  exact hbase

/-- DRAM lies above the window, whoever looks at it. -/
theorem windowOff_of_inDram : windowOff r a = none := by
  have hbase := le_of_inDram h
  have hwindow : windowBase r ≤ 0x40000000 := windowBase_le r
  exact if_neg (by omega)

theorem bar4Off_of_inDram : bar4Off r a = none := by
  have hbase := le_of_inDram h
  unfold bar4Off
  split
  · exact if_neg (by omega)
  · rfl

end

section
variable {s : State} {r : Requester} {a n : Nat} (hwindow : windowOff r a = none) (hbar : bar4Off r a = none)
  (hcle : ∀ c, r = .core c → ¬ (0x41000000 ≤ a ∧ a < 0x41001000))
include hwindow hbar hcle

/-- What is neither the window nor the CLE block nor BAR4 is memory (log entry 47). -/
theorem writeAt_memory (v : DWord) : s.writeAt r a n v = s.memWrite r a (leBytes n v.toNat) := by
  unfold State.writeAt
  rw [hwindow]
  cases r with
  | core c => exact if_neg (hcle c rfl)
  | pf | vf | usb => simp only [hbar]

theorem readAt_memory (hup : s.coreUp = true) : s.readAt r a n = s.memRead r a n := by
  unfold State.readAt
  rw [hup, hwindow]
  cases r with
  | core c => exact if_neg (hcle c rfl)
  | pf | vf | usb => simp only [hbar]; rfl

end

section
variable {s : State} {r : Requester} {g a : Nat} (hglove : s.gloveOf r = some g) (husb : r ≠ .usb)
include hglove husb

theorem memWrite_of_mine (hup : s.coreUp = true) (hactive : s.active g = true) {b : List Byte} (hdram : inDram a b.length = true)
    (hmine : s.memOk g a b.length = true) : s.memWrite r a b = s.store a b := by
  unfold State.memWrite
  simp only [hup, hglove, husb, hactive, hdram, hmine, Bool.not_true, Bool.false_eq_true, if_true, if_false]

theorem memWrite_of_foreign (hup : s.coreUp = true) {b : List Byte}
    (hforeign : s.active g = false ∨ inDram a b.length = true ∧ s.memOk g a b.length = false) :
    s.memWrite r a b = s.violation g := by
  unfold State.memWrite
  simp only [hup, hglove, husb, Bool.not_true, Bool.false_eq_true, if_false]
  obtain hidle | ⟨hdram, hother⟩ := hforeign
  · simp only [hidle, Bool.not_false, if_true]
  · simp only [hdram, hother, Bool.false_eq_true, if_true, if_false, ite_self]

theorem memRead_of_foreign {n : Nat} (hforeign : s.active g = false ∨ inDram a n = true ∧ s.memOk g a n = false) :
    s.memRead r a n = (leBytes n 0, s.violation g) := by
  unfold State.memRead
  simp only [hglove, husb, if_false]
  obtain hidle | ⟨hdram, hother⟩ := hforeign
  · simp only [hidle, Bool.not_false, if_true]
  · simp only [hdram, hother, Bool.false_eq_true, if_true, if_false, ite_self]

end

/-- What a read returns leaves the module. -/
theorem access_of_readAt {s t : State} {r : Requester} {a n : Nat} {b : List Byte} (h : s.readAt r a n = (b, t)) :
    s.access r a n none = t.emit (.read r b) := by
  unfold State.access
  rw [h]

/-- Settles O20: the access gets to memory, where it is the glove's own, or is counted against it. -/
theorem memoryIsWritten : Obligations.MemoryIsWritten := by
  refine ⟨?mine, ?foreign⟩
  case mine =>
    intro s r g a n v hcanon hidle hup hglove hactive husb hdram hmine
    have hlen := length_leBytes n v.toNat
    have hcle : ∀ c, r = .core c → ¬ (0x41000000 ≤ a ∧ a < 0x41001000) := fun _ _ => by
      have hbase := le_of_inDram hdram
      omega
    have hstore : s.access r a n (some v) = s.store a (leBytes n v.toNat) :=
      (writeAt_memory (windowOff_of_inDram hdram) (bar4Off_of_inDram hdram) hcle v).trans
        (memWrite_of_mine hglove husb hup hactive (by rwa [hlen]) (by rwa [hlen]))
    have hmem : (s.settled (s.store a (leBytes n v.toNat))).mem = wrBytes s.mem a (leBytes n v.toNat) := settled_mem hidle
    refine ⟨_, congrArg (finish s) hstore, fun k hk => ?_, fun x hx => ?_⟩
    · rw [hmem, rd8_wrBytes_leBytes hk (State.canon_mem hcanon)]
    · rw [hmem, rd8_wrBytes_ne _ (State.canon_mem hcanon) a x (by rwa [hlen])]
  case foreign =>
    intro s r g a n v hup hglove husb hforeign hwindow hbar hcle
    refine ⟨congrArg (finish s) ?store, congrArg (finish s) ?read⟩
    case store =>
      exact (writeAt_memory hwindow hbar hcle v).trans
        (memWrite_of_foreign hglove husb hup (by rwa [length_leBytes]))
    case read =>
      have hread : s.readAt r a n = (leBytes n 0, s.violation g) :=
        (readAt_memory hwindow hbar hcle hup).trans (memRead_of_foreign hglove husb hforeign)
      exact access_of_readAt hread

end Sys2Proof.Machine
end

section
/-! Control cups (spec/06): the loop commands, tick boundaries, the ends of cup steps and of unit tests, with the statements
on them. -/

namespace Sys2Proof.Machine

-- The loop commands (spec/06 R150 to R154)

/-- ROLE = 1 alone leaves the owner out, and ROLE = 0 alone the shadow. -/
theorem contains_rolesOf (role : Nat) (sh : Bool) : (rolesOf role).contains sh = (role != if sh then 0 else 1) := by
  unfold rolesOf
  split
  · next howner => cases sh <;> simp [howner]
  · next hother =>
    split
    · next hshadow => cases sh <;> simp [hshadow]
    · next hboth => cases sh <;> simp [hother, hboth]

/-- What a ROLE field names, of the roles that `p` holds of. -/
theorem contains_filter_rolesOf (role : Nat) (p : Bool → Bool) (sh : Bool) :
    ((rolesOf role).filter p).contains sh = ((role != if sh then 0 else 1) && p sh) := by
  rw [← contains_rolesOf, Bool.eq_iff_iff]
  simp

/-- LOOP_LATE is the owner's, or that of a shadow without an owner (log entry 102). -/
theorem role_lead (x : LoopSt) :
    x.role x.lead = if x.owner.started = false ∧ x.shadow.started = true then x.shadow else x.owner := by
  simp [LoopSt.role, LoopSt.lead]

/-- What LOOP_WRITE stores for loop `l`: the descriptor at ARG1; a tenant's keeps the glove of the entry (spec/06 R151). -/
def State.loopCopy (t : State) (c : Ctx) (l : Nat) : List Byte :=
  let b := t.load (c.addr 1) 128
  patchB b 3 (leBytes 1 (if c.g = 0 then getLE b 3 1 else (getLE (t.ltEntry l) 3 1 % 64) + getLE b 3 1 / 64 * 64))

section
variable {c : Ctx} {t : State} (hmine : t.loopMine c (c.f 0 0 16) = true)
include hmine

theorem loopWriteBody_stores (hbuf : t.bufOk c (c.addr 1) 128 = true) (hdesc : Desc.writable (t.load (c.addr 1) 128) = true)
    (hfatal : t.isFatal = false) (hbusy : t.loopBusy c (c.f 0 0 16) = false) :
    let l := c.f 0 0 16
    let b := t.loopCopy c l
    let s1 := t.store (t.ltAddr l) b
    loopWriteBody c t = if c.b 0 16 = true then (s1.journalAdd (some c.slot) (.loop l b)).relayOut false l b
      else s1.complete c.slot 0 := by
  unfold loopWriteBody
  simp only [hmine, hbuf, hdesc, hfatal, hbusy, Bool.not_true, Bool.or_self, Bool.false_eq_true, if_false]
  rfl

theorem loopReadBody_table (hsource : c.f 0 16 2 = 0) (hbuf : t.bufOk c (c.addr 1) 128 = true) (hfatal : t.isFatal = false) :
    loopReadBody c t = (t.store (c.addr 1) (t.ltEntry (c.f 0 0 16))).complete c.slot 0 1 := by
  simp [loopReadBody, hmine, hsource, hbuf, hfatal, State.done, State.fin]

theorem loopReadBody_role (hsource : c.f 0 16 2 = 1 ∨ c.f 0 16 2 = 2) (hbuf : t.bufOk c (c.addr 1) 128 = true)
    (hfatal : t.isFatal = false) :
    let r := (t.loop (c.f 0 0 16)).role (c.f 0 16 2 == 2)
    loopReadBody c t = if r.started = true then (t.store (c.addr 1) r.copy).complete c.slot 0 1 else t.complete c.slot 0 := by
  have htable : c.f 0 16 2 ≠ 0 := by omega
  have hknown : c.f 0 16 2 ≠ 3 := by omega
  simp [loopReadBody, hmine, htable, hknown, hbuf, hfatal, State.done, State.fin]

end

section
variable {c : Ctx} {t : State} {l : Nat} (hloop : c.f 0 0 16 = l) (hmine : t.loopMine c l = true) (hrole : c.f 0 16 2 ≠ 3)
include hloop hmine hrole

/-- The roles named and not yet started are started, as copies where the other role stands (spec/06 R152, spec/03 R78). -/
theorem loopStartBody_starts {d : Desc} {todo : List Bool} (hdesc : Desc.read (t.ltEntry l) = d)
    (htodo : (rolesOf (c.f 0 16 2)).filter (fun sh => !((t.loop l).role sh).started) = todo)
    (hlive : t.live = true) (hsome : todo ≠ []) (hbusy : t.loopBusy c l = false)
    (hdefined : d.defined = true) (hpasses : Desc.passes (t.ltEntry l) = true)
    (hready : ∀ sh ∈ todo, t.lse.fenced.contains (t.startChan (t.loop l) d sh) = false
      ∧ t.running (Pg.cea (t.startChan (t.loop l) d sh)) = true)
    (hlimit : t.loopFull (t.loop l).adopted l d = false)
    (hroom : ∀ sh ∈ todo, (t.rolesIn (t.startChan (t.loop l) d sh)).length
      + (todo.filter (fun u => t.startChan (t.loop l) d u == t.startChan (t.loop l) d sh)).length ≤ 34816) :
    let s1 := todo.foldl (fun (a : State) sh =>
      a.makeRole l sh (t.startChan (t.loop l) d sh) (t.ltEntry l) (t.loop l).any false) t
    loopStartBody false c t = s1.complete c.slot (if (t.loop l).any = true then 0 else 0x0001) (wd (t.firstRelease d l))
      (wd ((s1.loop l).owner.started.toNat + 2 * (s1.loop l).shadow.started.toNat)) := by
  have hempty : todo.isEmpty = false := by simpa using hsome
  have hfenced : todo.any (fun sh => t.lse.fenced.contains (t.startChan (t.loop l) d sh)) = false :=
    List.any_eq_false.mpr fun sh hsh => Bool.eq_false_iff.mp (hready sh hsh).1
  have hrunning : todo.any (fun sh => !t.running (Pg.cea (t.startChan (t.loop l) d sh))) = false :=
    List.any_eq_false.mpr fun sh hsh => by simp [(hready sh hsh).2]
  have hfull : todo.any (fun sh => decide (34816 < (t.rolesIn (t.startChan (t.loop l) d sh)).length
      + (todo.filter (fun u => t.startChan (t.loop l) d u == t.startChan (t.loop l) d sh)).length)) = false :=
    List.any_eq_false.mpr fun sh hsh => by simpa using hroom sh hsh
  unfold loopStartBody
  simp only [hloop, hdesc, htodo, if_neg hrole, hmine, hlive, hempty, hbusy, hdefined, hpasses, hfenced, hrunning, hlimit, hfull,
    Bool.not_true, Bool.not_not, Bool.or_self, Bool.false_eq_true, if_false]
  cases (t.loop l).any <;> rfl

/-- Of the roles named, those that are started are the ones to stop, at the next boundary. -/
theorem loopStopBody_waits {todo : List Bool}
    (htodo : (rolesOf (c.f 0 16 2)).filter (fun sh => ((t.loop l).role sh).started) = todo)
    (hfatal : t.isFatal = false) (hsome : todo ≠ []) (halone : c.f 0 16 2 = 0 → (t.loop l).shadow.started = false)
    (hrunning : ∀ sh ∈ todo, t.running (Pg.cea ((t.loop l).role sh).chan) = true) (hbusy : t.loopBusy c l = false) :
    loopStopBody c t = t.setLoop l { t.loop l with stop := some ⟨some c.slot, (c.f 0 16 2 != 1) && (t.loop l).owner.started,
      (c.f 0 16 2 != 0) && (t.loop l).shadow.started⟩ } := by
  have hempty : todo.isEmpty = false := by simpa using hsome
  have hshadow : (c.f 0 16 2 == 0 && (t.loop l).shadow.started) = false := by simpa using halone
  have hstopped : todo.any (fun sh => !t.running (Pg.cea ((t.loop l).role sh).chan)) = false := by simpa using hrunning
  have howner : todo.contains false = ((c.f 0 16 2 != 1) && (t.loop l).owner.started) :=
    htodo ▸ contains_filter_rolesOf _ _ _
  have hother : todo.contains true = ((c.f 0 16 2 != 0) && (t.loop l).shadow.started) :=
    htodo ▸ contains_filter_rolesOf _ _ _
  unfold loopStopBody
  simp only [hloop, htodo, if_neg hrole, hmine, hfatal, hempty, hshadow, hstopped, hbusy, howner, hother, Bool.not_true,
    Bool.or_self, Bool.false_eq_true, if_false]

end

section
variable {c : Ctx} {t : State} {l : Nat} (hloop : c.f 0 0 16 = l) (hmine : t.loopMine c l = true)
include hloop hmine

theorem loopHandoverBody_waits (hlive : t.live = true) (hbusy : t.loopBusy c l = false)
    (howner : (t.loop l).owner.started = true) (hshadow : (t.loop l).shadow.started = true)
    (hownerPage : t.running (Pg.cea (t.loop l).owner.chan) = true)
    (hshadowPage : t.running (Pg.cea (t.loop l).shadow.chan) = true) :
    loopHandoverBody c t = t.setLoop l { t.loop l with handover := some (some c.slot) } := by
  simp [loopHandoverBody, hloop, hmine, hlive, hbusy, howner, hshadow, hownerPage, hshadowPage]

theorem loopQueryBody_answers :
    let x := t.loop l
    let o := x.owner
    let lead := x.role x.lead
    loopQueryBody c t = t.complete c.slot 0
      (wd (o.started.toNat + 2 * x.shadow.started.toNat + 4 * o.chan + 16 * x.shadow.chan + 64 * x.window.toNat
        + 128 * x.latePending.toNat
        + 256 * (o.line.satAcc.toNat + 2 * o.line.satInt.toNat + 4 * o.line.satOut.toNat + 8 * o.line.satSp.toNat)
        + 4096 * lead.line.late.toNat))
      (wd lead.line.latePeriods) (wd x.lastPub) := by
  unfold loopQueryBody
  simp only [hloop, hmine, Bool.not_true, Bool.false_eq_true, if_false]
  rfl

variable (hfatal : t.isFatal = false) (hbusy : t.loopBusy c l = false)
include hfatal hbusy

theorem loopClearBody_waits (hany : (t.loop l).any = true) :
    loopClearBody c t = t.setLoop l { t.loop l with clear := some (c.slot, c.f 1 0 5) } := by
  simp [loopClearBody, hloop, hmine, hfatal, hbusy, hany]

/-- Without a started role there is no line to clear. -/
theorem loopClearBody_of_none (hany : (t.loop l).any = false) : loopClearBody c t = t.complete c.slot 0 := by
  simp [loopClearBody, hloop, hmine, hfatal, hbusy, hany, State.done, State.fin]

end

/-- Settles O29: each command passes its checks, and its body is the equation of that case. -/
theorem loopCommandsComplete : Obligations.LoopCommandsComplete := by
  refine ⟨?write, ?table, ?copy, ?start, ?unreadable, ?stop, ?handover, ?query, ?clear, ?none⟩
  case write =>
    refine takes_of (body := loopWriteBody) (fun _ _ => rfl) ?_
    rintro c t ⟨hbuf, hdesc, hmine, hfatal, hbusy⟩
    exact loopWriteBody_stores hmine hbuf hdesc hfatal hbusy
  case table =>
    refine takes_of (body := loopReadBody) (fun _ _ => rfl) ?_
    rintro c t ⟨hsource, hbuf, hmine, hfatal⟩
    exact loopReadBody_table hmine hsource hbuf hfatal
  case copy =>
    refine takes_of (body := loopReadBody) (fun _ _ => rfl) ?_
    rintro c t ⟨hsource, hbuf, hmine, hfatal⟩
    exact loopReadBody_role hmine hsource hbuf hfatal
  case start =>
    refine takes_of (body := loopStartBody false) (fun _ _ => rfl) ?_
    rintro c t ⟨hrole, hmine, hlive, hsome, hbusy, hdefined, hpasses, hready, hlimit, hroom⟩
    exact loopStartBody_starts rfl hmine hrole rfl rfl hlive hsome hbusy hdefined hpasses hready hlimit hroom
  case unreadable => exact takes_of (body := loopStartBody true) (fun _ _ => rfl) fun _ _ hrole => if_neg hrole
  case stop =>
    refine takes_of (body := loopStopBody) (fun _ _ => rfl) ?_
    rintro c t ⟨hrole, hmine, hfatal, hsome, halone, hrunning, hbusy⟩
    exact loopStopBody_waits rfl hmine hrole rfl hfatal hsome halone hrunning hbusy
  case handover =>
    refine takes_of (body := loopHandoverBody) (fun _ _ => rfl) ?_
    rintro c t ⟨hmine, hlive, hbusy, howner, hshadow, hownerPage, hshadowPage⟩
    exact loopHandoverBody_waits rfl hmine hlive hbusy howner hshadow hownerPage hshadowPage
  case query =>
    refine takes_of (body := loopQueryBody) (fun _ _ => rfl) fun c t hmine => ?_
    simp only [← role_lead]
    exact loopQueryBody_answers rfl hmine
  case clear =>
    refine takes_of (body := loopClearBody) (fun _ _ => rfl) ?_
    rintro c t ⟨hmine, hfatal, hbusy, hany⟩
    exact loopClearBody_waits rfl hmine hfatal hbusy hany
  case none =>
    refine takes_of (body := loopClearBody) (fun _ _ => rfl) ?_
    rintro c t ⟨hmine, hfatal, hbusy, hany⟩
    exact loopClearBody_of_none rfl hmine hfatal hbusy hany

-- Tick boundaries (spec/06 R138, R158, spec/22 R572)

theorem confirmResume_of_unburnt {s : State} (h : s.upd.burnt = false) : s.confirmResume = s := by
  simp [State.confirmResume, h]

theorem unfinished_of_finished {s : State} (hcut : s.key.cut = none) (hburnt : s.upd.burnt = false) : s.unfinished = s := by
  unfold State.unfinished
  rw [lcsResume_of_uncut hcut, confirmResume_of_unburnt hburnt, ite_self]

/-- What boundary `k` ends is checked and published in any case; from PFW on nothing is released there (spec/22 R572). -/
theorem boundary_eq {s s1 s5 : State} {k : Nat} {a b : State × List (Nat × Bool)}
    {r : State × List (Nat × Bool) × List (Nat × Bool)} (himage : s.takeImage k = s1)
    (hloops : s1.fieldTick.loopsCheck k = a) (htasks : a.1.tasksCheck k = b) (hback : b.1.readmit k (a.2, b.2) = r)
    (hreleased : ((r.1.loopsRelease k r.2.1).tasksRelease k s1.lcResults r.2.2).lcAdvance = s5) :
    s.boundary k = if s.pfw = true then b.1
      else if s.live = true then (if s5.sys.safeWait = .tick then s5.safeOff else s5) else r.1.lcAdvance := by
  obtain ⟨s2, loops⟩ := a
  obtain ⟨s3, tasks⟩ := b
  obtain ⟨s4, goLoops, goTasks⟩ := r
  simp only at htasks hback hreleased
  simp only [State.boundary, himage, hloops, htasks, hback, hreleased]

/-- The tick of the boundary is counted, after what was left unfinished and what struck since the last one (log entries 150,
160). -/
def State.ticked (s : State) (strikes : List Strike) : State :=
  let h := strikes.foldl State.struck s.unfinished
  { h with ces := { h.ces with tick := s.ces.tick + 1 } }

/-- `x` after the boundary that began in `s`: in a power-fail sequence it was boundary k (spec/22 R572). -/
def State.passedIn (s x : State) : State := { x with pwr := { x.pwr with kPassed := s.pfw && s.sys.mode != .recovery } }

section
variable {s : State} (hup : s.coreUp = true) (strikes : List Strike)
include hup

/-- Past boundary k of the power-fail sequence the tick goes on for the field pages alone. -/
theorem tickBoundary_of_passed (hpassed : s.pwr.kPassed = true) : s.tickBoundary strikes = (s.ticked strikes).fieldTick := by
  simp only [State.tickBoundary, State.ticked, if_pos hup, if_pos hpassed]

/-- The windows of occupancy end before what begins at the boundary. -/
theorem tickBoundary_of_not_passed {k : Nat} {s0 : State} (htick : s.ces.tick + 1 = k)
    (hwindows : ((s.ticked strikes).occupancy k).kettleOccupancy k = s0) (hpassed : s.pwr.kPassed = false) :
    s.tickBoundary strikes = s.passedIn (s0.boundary k) := by
  subst hwindows htick
  simp only [State.tickBoundary, State.ticked, State.passedIn, if_pos hup, hpassed, Bool.false_eq_true, if_false]

end

-- Cups and unit tests (spec/06 R142, R146, spec/09 R218)

section
variable {s : State} {c u : Nat} {e : DqEntry} (hup : s.coreUp = true) (hruns : s.cupRuns c u = some e) (stall : Nat)
include hup hruns

theorem exec_cupStepDone (upset : Upset) : exec (.cupStepDone c u upset stall) s =
    .next (s.settled ((s.bumpBy (Pg.cea c) Rg.CEA_STALL stall).stepEnd c u e upset)) := by
  refine congrArg (finish s) ((whenUp_of_up hup _).trans ?_)
  unfold State.cupDone
  rw [hruns]

theorem exec_stepTimeout : exec (.stepTimeout c u stall) s = .next (s.settled
    ((((s.bumpBy (Pg.cea c) Rg.CEA_STALL stall).addBusy c (4096 - stall - s.stepBooked c e)).raiseSrc (Pg.cea c) 3).cupRetry
      c u e)) := by
  refine congrArg (finish s) ((whenUp_of_up hup _).trans ?_)
  unfold State.cupTimeout
  rw [hruns]

end

/-- The result of a unit's test goes into every open test of that unit, and what is decided by it is concluded. -/
theorem unitTested_of_open {s : State} {task : Bool} {item : Nat} {t : UnitTest}
    (hopen : s.lse.tests.find? (fun t => t.task == task && t.item == item) = some t) (shadow pass : Bool) :
    let c := if shadow then t.shChan else t.ownChan
    let u := if shadow then t.shCup else t.ownCup
    let hitO (x : UnitTest) : Bool := x.task == task && x.ownChan == c && x.ownCup == u && x.ownDone.isNone
    let hitS (x : UnitTest) : Bool := x.task == task && x.shChan == c && x.shCup == u && x.shDone.isNone
    let put (x : UnitTest) : UnitTest :=
      { x with ownDone := if hitO x = true then some pass else x.ownDone,
               shDone := if hitS x = true then some pass else x.shDone }
    s.unitTested task item shadow pass =
      ({ s with lse := { s.lse with tests := s.lse.tests.map put } } : State).fenceMany 5 [] := by
  unfold State.unitTested
  rw [hopen]

/-- Settles O31: each row's condition holds, and the effect is the equation of that case. -/
theorem ticksRunTheLoops : Obligations.TicksRunTheLoops := by
  refine ⟨⟨?passed, ?tick, ?finished, ?latch⟩, ?cups, ?tested⟩
  case passed =>
    intro s strikes hup hpassed
    exact congrArg (finish s) (tickBoundary_of_passed hup strikes hpassed)
  case tick =>
    intro s strikes hup hpassed k h put s0 s1 a b r s5
    have hput : s.passedIn = put := rfl
    have hboundary := boundary_eq (s := s0) (k := k) (s1 := s1) (a := a) (b := b) (r := r) (s5 := s5) rfl rfl rfl rfl rfl
    have htick := tickBoundary_of_not_passed (k := k) (s0 := s0) hup strikes rfl rfl hpassed
    rw [hput, hboundary] at htick
    exact congrArg (finish s) htick
  case finished => exact fun s hcut hburnt => unfinished_of_finished hcut hburnt
  case latch =>
    intro s r g hread
    exact congrArg (finish s) (onRead_reads hread _)
  case cups =>
    intro s c u stall e hup hruns
    have hend := exec_cupStepDone hup hruns stall
    exact ⟨hend .none, fun m => hend (.flip m), hend .corrected, hend .lockstep, hend .romParity, hend .dequeParity,
      hend .lineEcc, hend .copyEcc, exec_stepTimeout hup hruns stall⟩
  case tested =>
    intro s task item shadow pass t hup hopen
    exact congrArg (finish s) ((whenUp_of_up hup _).trans (unitTested_of_open hopen shadow pass))

end Sys2Proof.Machine
end

section
/-! Control laws (spec/07): what an invocation captures of its inputs, with the statement on it. -/

namespace Sys2Proof.Machine

-- Usable inputs (spec/07 R178)

theorem usableQ_iff (q : Nat) : usableQ q = true ↔ q = 1 ∨ q = 3 ∨ q = 4 ∨ q = 5 := by
  simp [usableQ, or_assoc]

-- The inputs one by one (spec/07 R178, spec/09 R231)

section
variable (s : State) (d : Desc) (primes : Bool)

theorem captureIns_measOk : (s.captureIns d primes).1.measOk = usableQ (s.imagePoint d.glove d.meas).qual := rfl

theorem captureIns_meas : (s.captureIns d primes).1.meas = (s.imagePoint d.glove d.meas).value.toNat := rfl

variable {d} in
theorem captureIns_srcOk_of_point (huses : d.usesSp = true) (hpoint : d.spsrc = 1) :
    (s.captureIns d primes).1.srcOk = usableQ (s.imagePoint d.glove d.spPt).qual := by
  simp [State.captureIns, huses, hpoint]

variable {d} in
theorem captureIns_auxOk_of_select (hselect : d.kind = 8) :
    (s.captureIns d primes).1.auxOk = usableQ (s.imagePoint d.glove d.aux).qual := by
  simp [State.captureIns, hselect]

theorem captureIns_outV_of_primes : (s.captureIns d true).1.outV = (s.imagePoint d.glove d.out).value.toNat := rfl

end

-- States whose map, points' values and qualities, and input results agree (spec/07 R178)

section
variable {s t : State}

theorem mayReadPoint_congr (hmap : ∀ p, t.mapW p = s.mapW p) (g p : Nat) : t.mayReadPoint g p = s.mayReadPoint g p := by
  simp only [State.mayReadPoint, hmap]

/-- A reader that may not read a point sees it all-zero in both states (spec/05 R119). -/
theorem imagePoint_congr (hmap : ∀ p, t.mapW p = s.mapW p)
    (hpoints : ∀ p, (Sparse.get (dflt {}) t.ptb.image.points p).value = (Sparse.get (dflt {}) s.ptb.image.points p).value
      ∧ (Sparse.get (dflt {}) t.ptb.image.points p).qual = (Sparse.get (dflt {}) s.ptb.image.points p).qual) (g p : Nat) :
    (t.imagePoint g p).value = (s.imagePoint g p).value ∧ (t.imagePoint g p).qual = (s.imagePoint g p).qual := by
  unfold State.imagePoint State.pointFor
  rw [mayReadPoint_congr hmap]
  split
  · exact hpoints p
  · exact ⟨rfl, rfl⟩

theorem imageInput_congr (hinputs : t.ptb.image.inputs = s.ptb.image.inputs) (n : Nat) : t.imageInput n = s.imageInput n := by
  unfold State.imageInput
  rw [hinputs]

/-- All that an invocation reads of a state: which points its glove may read, the value and quality of a point as its glove sees
it, and the input results. -/
theorem captureIns_congr (hmay : ∀ g p, t.mayReadPoint g p = s.mayReadPoint g p)
    (hvalue : ∀ g p, (t.imagePoint g p).value = (s.imagePoint g p).value)
    (hqual : ∀ g p, (t.imagePoint g p).qual = (s.imagePoint g p).qual)
    (hinput : ∀ n, t.imageInput n = s.imageInput n) (d : Desc) (primes : Bool) :
    t.captureIns d primes = s.captureIns d primes := by
  simp only [State.captureIns, apply_ite Point.value, apply_ite Point.qual, hmay, hvalue, hqual, hinput]

end

/-- Settles O33: an invocation reads a point through its value and quality only, as its glove sees it. -/
theorem inputsAreValueAndQuality : Obligations.InputsAreValueAndQuality := by
  refine ⟨?usable, ?inputs, ?nothingElse⟩
  case usable => exact fun q _ => usableQ_iff q
  case inputs =>
    intro s d primes
    refine ⟨captureIns_measOk s d primes, captureIns_meas s d primes, captureIns_srcOk_of_point s primes,
      captureIns_auxOk_of_select s primes, ?_⟩
    rintro rfl
    exact captureIns_outV_of_primes s d
  case nothingElse =>
    intro s t d primes hmap hpoints hinputs
    exact captureIns_congr (mayReadPoint_congr hmap) (fun g p => (imagePoint_congr hmap hpoints g p).1)
      (fun g p => (imagePoint_congr hmap hpoints g p).2) (imageInput_congr hinputs) d primes

end Sys2Proof.Machine
end

section
/-! The Kettles (spec/08): the task commands, call entries, the ends of commits, overruns and the integrator commit of the
loops (spec/01), with the statements on them. -/

namespace Sys2Proof.Machine

-- The task commands (spec/08 R213, R214)

/-- What TASK_WRITE stores for task `k`: the copy at ARG1; a tenant's keeps the glove of the entry (log entry 61). -/
def State.taskCopy (t : State) (c : Ctx) (k : Nat) : TaskCopy :=
  let b := t.taskBuf (c.addr 1)
  let g := if c.g = 0 then b.d.glove else (t.taskEntry k).d.glove
  { b with desc := patchB b.desc 0 (leBytes 4 (setBf (wd (getLE b.desc 0 4)) 8 6 g).toNat) }

/-- TASK_START of a task without a role starts it cold (spec/08 R212): nothing stays of its LOOPCTL calls. -/
def State.startCold (t : State) (k : Nat) : State :=
  if !(t.task k).any then
    { t with ktl := { t.ktl with lc := Sparse.keep (fun i => i / 65536 != k) t.ktl.lc,
                                 lcDone := Sparse.keep (fun i => i / 65536 != k) t.ktl.lcDone } }
  else t

section
variable {c : Ctx} {t : State} {k : Nat} (htask : c.f 0 0 4 = k) (hmine : t.taskMine c k = true)
include htask hmine

theorem taskWriteBody_stores (hbuf : t.taskBufOk c (c.addr 1) = true) (hcopy : TaskCopy.passes (t.taskBuf (c.addr 1)) = true)
    (hfatal : t.isFatal = false) (hbusy : t.taskBusy c k = false)
    (hprio : t.prioFree k (t.taskBuf (c.addr 1)).d.prio = true) :
    let b := t.taskCopy c k
    let s1 := t.setTaskEntry k b
    taskWriteBody c t = if c.b 0 16 = true then (s1.journalAdd (some c.slot) (.task k b)).relayOut true k b.bytes
      else s1.complete c.slot 0 := by
  unfold taskWriteBody
  simp only [htask, hmine, hbuf, hcopy, hfatal, hbusy, hprio, Bool.not_true, Bool.or_self, Bool.false_eq_true, if_false]
  rfl

section
variable (hbuf : t.bufOk c (c.addr 1) (c.arg 3).toNat = true) (hfatal : t.isFatal = false)
include hbuf hfatal

theorem taskReadBody_table (hsource : c.f 0 16 2 = 0) :
    let b := (t.taskEntry k).bytes.take (c.arg 3).toNat
    taskReadBody c t = (t.store (c.addr 1) b).complete c.slot 0 (wd b.length) := by
  simp [taskReadBody, htask, hmine, hsource, hbuf, hfatal, State.done, State.fin]

theorem taskReadBody_role (hsource : c.f 0 16 2 = 1 ∨ c.f 0 16 2 = 2) :
    let r := (t.task k).role (c.f 0 16 2 == 2)
    let b := r.copy.bytes.take (c.arg 3).toNat
    taskReadBody c t = if r.started = true then (t.store (c.addr 1) b).complete c.slot 0 (wd b.length)
      else t.complete c.slot 0 := by
  have htable : c.f 0 16 2 ≠ 0 := by omega
  have hknown : c.f 0 16 2 ≠ 3 := by omega
  simp [taskReadBody, htask, hmine, htable, hknown, hbuf, hfatal, State.done, State.fin]

end

section
variable (hrole : c.f 0 16 2 ≠ 3)
include hrole

/-- The roles named and not yet started are started, as copies where the other role stands (spec/08 R212, spec/03 R78). -/
theorem taskStartBody_starts {b : TaskCopy} {todo : List Bool} (hentry : t.taskEntry k = b)
    (htodo : (rolesOf (c.f 0 16 2)).filter (fun sh => !((t.task k).role sh).started) = todo)
    (hlive : t.live = true) (hsome : todo ≠ []) (hbusy : t.taskBusy c k = false)
    (hdefined : b.d.defined = true) (hpasses : TaskCopy.passes b = true) (hprio : t.prioFree k b.d.prio = true)
    (hready : ∀ sh ∈ todo, t.lse.fenced.contains (t.startTaskChan (t.task k) b.d sh) = false
      ∧ t.kettleOk (t.startTaskChan (t.task k) b.d sh) = true) :
    let s1 := todo.foldl (fun (a : State) sh =>
      a.makeTaskRole k sh (t.startTaskChan (t.task k) b.d sh) b (t.task k).any) (t.startCold k)
    let y := s1.task k
    taskStartBody c t = s1.complete c.slot (if todo.any (fun sh => !(y.role sh).copyFrom) = true then 0x0001 else 0)
      (wd (t.firstTaskRelease b.d)) (wd (y.owner.started.toNat + 2 * y.shadow.started.toNat)) := by
  have hempty : todo.isEmpty = false := by simpa using hsome
  have hfenced : todo.any (fun sh => t.lse.fenced.contains (t.startTaskChan (t.task k) b.d sh)) = false :=
    List.any_eq_false.mpr fun sh hsh => Bool.eq_false_iff.mp (hready sh hsh).1
  have hkettles : todo.any (fun sh => !t.kettleOk (t.startTaskChan (t.task k) b.d sh)) = false :=
    List.any_eq_false.mpr fun sh hsh => by simp [(hready sh hsh).2]
  unfold taskStartBody
  simp only [htask, hentry, htodo, if_neg hrole, hmine, hlive, hempty, hbusy, hdefined, hpasses, hprio, hfenced, hkettles,
    Bool.not_true, Bool.not_not, Bool.or_self, Bool.false_eq_true, if_false]
  rfl

/-- Of the roles named, those that are started are the ones to stop, at a boundary. -/
theorem taskStopBody_waits {todo : List Bool}
    (htodo : (rolesOf (c.f 0 16 2)).filter (fun sh => ((t.task k).role sh).started) = todo)
    (hfatal : t.isFatal = false) (hsome : todo ≠ []) (halone : c.f 0 16 2 = 0 → (t.task k).shadow.started = false)
    (hrunning : ∀ sh ∈ todo, t.running (Pg.ktl ((t.task k).role sh).chan) = true) (hbusy : t.taskBusy c k = false) :
    taskStopBody c t = t.setTask k { t.task k with stop := some ⟨some c.slot, (c.f 0 16 2 != 1) && (t.task k).owner.started,
      (c.f 0 16 2 != 0) && (t.task k).shadow.started⟩ } := by
  have hempty : todo.isEmpty = false := by simpa using hsome
  have hshadow : (c.f 0 16 2 == 0 && (t.task k).shadow.started) = false := by simpa using halone
  have hstopped : todo.any (fun sh => !t.running (Pg.ktl ((t.task k).role sh).chan)) = false := by simpa using hrunning
  have howner : todo.contains false = ((c.f 0 16 2 != 1) && (t.task k).owner.started) :=
    htodo ▸ contains_filter_rolesOf _ _ _
  have hother : todo.contains true = ((c.f 0 16 2 != 0) && (t.task k).shadow.started) :=
    htodo ▸ contains_filter_rolesOf _ _ _
  unfold taskStopBody
  simp only [htask, htodo, if_neg hrole, hmine, hfatal, hempty, hshadow, hstopped, hbusy, howner, hother, Bool.not_true,
    Bool.or_self, Bool.false_eq_true, if_false]

end

theorem taskHandoverBody_waits (hlive : t.live = true) (hbusy : t.taskBusy c k = false)
    (howner : (t.task k).owner.started = true) (hshadow : (t.task k).shadow.started = true)
    (hownerPage : t.running (Pg.ktl (t.task k).owner.chan) = true)
    (hshadowPage : t.running (Pg.ktl (t.task k).shadow.chan) = true) :
    taskHandoverBody c t = t.setTask k { t.task k with handover := some (some c.slot) } := by
  simp [taskHandoverBody, htask, hmine, hlive, hbusy, howner, hshadow, hownerPage, hshadowPage]

/-- RES2 is the sequence number of the newest complete commit in MRAM (log entry 148). -/
theorem taskQueryBody_answers :
    let x := t.task k
    taskQueryBody c t = t.complete c.slot 0
      (wd (x.owner.started.toNat + 2 * x.shadow.started.toNat + 4 * x.owner.chan + 16 * x.shadow.chan + 64 * x.window.toNat
        + 128 * x.latePending.toNat))
      (wd x.lateCount) (wd ((t.kNewest k).elim x.lastSeq KSlot.seq)) := by
  subst htask
  have hforeign : ¬ (!t.taskMine c (c.f 0 0 4)) = true := by simp [hmine]
  refine (if_neg hforeign).trans ?_
  cases t.kNewest (c.f 0 0 4) <;> rfl

end

/-- Settles O30: each command passes its checks, and its body is the equation of that case. -/
theorem taskCommandsComplete : Obligations.TaskCommandsComplete := by
  refine ⟨?write, ?table, ?copy, ?start, ?stop, ?handover, ?query⟩
  case write =>
    refine takes_of (body := taskWriteBody) (fun _ _ => rfl) ?_
    rintro c t ⟨hbuf, hcopy, hmine, hfatal, hbusy, hprio⟩
    exact taskWriteBody_stores rfl hmine hbuf hcopy hfatal hbusy hprio
  case table =>
    refine takes_of (body := taskReadBody) (fun _ _ => rfl) ?_
    rintro c t ⟨hsource, hbuf, hmine, hfatal⟩
    exact taskReadBody_table rfl hmine hbuf hfatal hsource
  case copy =>
    refine takes_of (body := taskReadBody) (fun _ _ => rfl) ?_
    rintro c t ⟨hsource, hbuf, hmine, hfatal⟩
    exact taskReadBody_role rfl hmine hbuf hfatal hsource
  case start =>
    refine takes_of (body := taskStartBody) (fun _ _ => rfl) ?_
    rintro c t ⟨hrole, hmine, hlive, hsome, hbusy, hdefined, hpasses, hprio, hready⟩
    simp only [Bool.not_not]
    exact taskStartBody_starts rfl hmine hrole rfl rfl hlive hsome hbusy hdefined hpasses hprio hready
  case stop =>
    refine takes_of (body := taskStopBody) (fun _ _ => rfl) ?_
    rintro c t ⟨hrole, hmine, hfatal, hsome, halone, hrunning, hbusy⟩
    exact taskStopBody_waits rfl hmine hrole rfl hfatal hsome halone hrunning hbusy
  case handover =>
    refine takes_of (body := taskHandoverBody) (fun _ _ => rfl) ?_
    rintro c t ⟨hmine, hlive, hbusy, howner, hshadow, hownerPage, hshadowPage⟩
    exact taskHandoverBody_waits rfl hmine hlive hbusy howner hshadow hownerPage hshadowPage
  case query =>
    refine takes_of (body := taskQueryBody) (fun _ _ => rfl) fun c t hmine => ?_
    refine (taskQueryBody_answers rfl hmine).trans ?_
    cases t.kNewest (c.f 0 0 4) <;> rfl

-- Call entries (spec/08 R195, R216)

/-- What comes of the entry that is the turn of role `sh` of task `t` in channel `c`. -/
def State.entryMet (s : State) (c t : Nat) (sh : Bool) : Upset → State
  | .none => s.runEntry c t sh 0
  | .flip m => s.runEntry c t sh m
  | .corrected => ((s.bump (Pg.ktl c) Rg.KTL_WORK_CE).raiseSrc (Pg.ktl c) 2).runEntry c t sh 0
  | .lineEcc | .copyEcc => s.raiseSrc (Pg.ktl c) 1
  | .romParity => s.raiseSrc (Pg.ktl c) 3
  | .badEntry => s.raiseSrc (Pg.ktl c) 4
  | .lockstep | .dequeParity => s

theorem kettleCall_of_pick {s : State} {c t : Nat} {sh : Bool} (hready : s.kettleOk c = true)
    (htesting : s.ktl.testing.contains c = false) (hpick : s.kettlePick c = some (t, sh)) (u : Upset) :
    s.kettleCall c u = s.entryMet c t sh u := by
  unfold State.kettleCall
  rw [hready, htesting, hpick]
  cases u <;> rfl

-- Commits (spec/08 R207, R208, R216)

/-- The commit of task `t` is no longer in hand, whatever its end. -/
def State.commitOver (s : State) (t : Nat) : State :=
  { s with ktl := { s.ktl with commits := Sparse.set (dflt none) s.ktl.commits t none } }

theorem slotDone_pendingC (s : State) (b t : Nat) (k : KCommit) : (s.slotDone b t k).ktl.pendingC = s.ktl.pendingC := by
  simp [State.slotDone, State.setTask, State.setKslot]

section
variable {s : State} {t : Nat} {k : KCommit} (hcommit : Sparse.get (dflt none) s.ktl.commits t = some k)
  (halone : s.ktl.pendingC = [])
include hcommit halone

/-- A verified commit fills the slot that it went to; with none pending, no other begins after it. -/
theorem commitDone_verified : s.commitDone t true = (s.commitOver t).slotDone ((s.commitOver t).commitTo t k) t k := by
  have hpending : ((s.commitOver t).slotDone ((s.commitOver t).commitTo t k) t k).ktl.pendingC = [] :=
    (slotDone_pendingC _ _ t k).trans halone
  unfold State.commitOver at hpending ⊢
  simp only [State.commitDone, hcommit, hpending, if_true]
  rfl

theorem commitDone_failed : s.commitDone t false = (s.commitOver t).raiseSrc (Pg.ktl k.chan) 5 := by
  simp only [State.commitDone, State.commitOver, hcommit, raiseSrc_ktl, halone, Bool.false_eq_true, if_false]
  rfl

end

-- Overruns (spec/08 R210) and the integrator commit (spec/01 R13)

theorem overrun_of_late {s : State} {t : Nat} {sh : Bool} (hstarted : ((s.task t).role sh).started = true)
    (hbusy : ((s.task t).role sh).busy = true) (hfenced : s.lse.fenced.contains ((s.task t).role sh).chan = false)
    (hlate : ((s.task t).role sh).deadline ≤ s.ces.tick) : s.overrun t sh = true := by
  simp only [State.overrun, hstarted, hbusy, hfenced, decide_eq_true hlate, Bool.not_false, Bool.and_self]

theorem integratorTick_commits {s : State} (hup : s.coreUp = true) (hseq : s.pwr.seq = .off) (hclock : s.clk.gated = false)
    (hstarted : s.sys.mode ≠ .startup) (hrunning : s.sys.mode ≠ .recovery) (ok : Bool) :
    s.integratorTick ok = s.commitIntegrators ok := by
  simp [State.integratorTick, State.pfw, hup, hseq, hclock, hstarted, hrunning]

/-- Settles O32: each row's condition holds, and the effect is the equation of that case. -/
theorem kettlesRunAndCommit : Obligations.KettlesRunAndCommit := by
  refine ⟨?calls, ?commits, ?overrun, ?integrators⟩
  case calls =>
    intro s c t sh hup hready htesting hpick
    have hcall (u : Upset) : exec (.kettleCallEntry c u) s = .next (s.settled (s.entryMet c t sh u)) :=
      congrArg (finish s) ((whenUp_of_up hup _).trans (kettleCall_of_pick hready htesting hpick u))
    refine ⟨hcall .none, fun m => hcall (.flip m), hcall .corrected, ?_, hcall .romParity, hcall .badEntry⟩
    rintro u (rfl | rfl)
    · exact hcall .lineEcc
    · exact hcall .copyEcc
  case commits =>
    intro s t k hup hcommit halone
    exact ⟨congrArg (finish s) ((whenUp_of_up hup _).trans (commitDone_verified hcommit halone)),
      congrArg (finish s) ((whenUp_of_up hup _).trans (commitDone_failed hcommit halone))⟩
  case overrun =>
    intro s t sh hup r hstarted hbusy hfenced hlate
    exact congrArg (finish s) ((whenUp_of_up hup _).trans (if_pos (overrun_of_late hstarted hbusy hfenced hlate)))
  case integrators =>
    intro s ok hup hseq hclock hstarted hrunning
    exact congrArg (finish s) (integratorTick_commits hup hseq hclock hstarted hrunning ok)

end Sys2Proof.Machine
end

section
/-! Redundancy (spec/09) and the Hatstand (spec/22): heartbeats and the loss of them, the channel and lease commands, the lease
engine at the send instant and at the nodes' answers, and the relayed writes, with the statements on them. -/

namespace Sys2Proof.Machine

-- Heartbeats (spec/09 R225, R226)

section
variable {s : State} (hup : s.coreUp = true) (hfatal : s.isFatal = false)
include hup hfatal

/-- Gaps between heartbeats are measured while the Hatstand is armed alone (spec/22 R566). -/
theorem heartbeat_of_unarmed (hclock : s.clk.gated = false) (hsome : s.unfenced ≠ []) (harmed : s.hst.armed = false) :
    s.heartbeat = { s with hst := { s.hst with beating := s.unfenced, supSeen := true, last := none } } := by
  have hempty : s.unfenced.isEmpty = false := by simpa using hsome
  simp [State.heartbeat, hup, hfatal, hclock, hempty, harmed]

theorem beatLost_of_unfenced {c : Nat} (hmem : c ∈ s.unfenced) (hother : s.supervisor ≠ some c) :
    s.beatLost c = (s.fence c).raiseSrc Pg.lse 8 := by
  simp [State.beatLost, hup, hfatal, hmem, hother]

/-- The channel next to the supervisor has no silent channel before it but the supervisor's. -/
theorem takeover_of_next {c k : Nat} {rest : List Nat} (hunfenced : s.unfenced = k :: c :: rest) (hkc : k ≠ c) :
    s.takeover c = ((s.fence k).raiseSrc Pg.lse 3).bump Pg.lse Rg.LSE_SUP_CHANGES := by
  have hbefore : s.unfenced.takeWhile (fun j => j != c) = [k] := by simp [hunfenced, hkc]
  have hmem : s.unfenced.contains c = true := by simp [hunfenced]
  unfold State.takeover
  simp only [hbefore, hup, hfatal, hmem]
  rfl

end

-- The Hatstand (spec/22 R567 to R570)

theorem hatstandGone_of_beating {s : State} {c : Nat} (hup : s.coreUp = true) (hsup : s.supervisor = some c)
    (hbeat : s.hst.beatOk = true) :
    s.hatstandGone = ({ s with hst := { s.hst with beatOk := false } } : State).raiseSrc Pg.hst 1 := by
  simp [State.hatstandGone, hup, hsup, hbeat]

/-- Settles O26: each row's condition holds, and the effect is the equation of that case. -/
theorem channelsAndHatstandAreWatched : Obligations.ChannelsAndHatstandAreWatched := by
  refine ⟨⟨?heartbeat, ?silent, ?takeover⟩, ?acts, ?beat, ?lost, ?measure⟩
  case heartbeat =>
    intro s hup hfatal hclock hsome harmed
    exact congrArg (finish s) (heartbeat_of_unarmed hup hfatal hclock hsome harmed)
  case silent =>
    intro s c hup hfatal hmem hother
    exact congrArg (finish s) (beatLost_of_unfenced hup hfatal hmem hother)
  case takeover =>
    intro s c k rest hup hfatal hunfenced hkc
    exact congrArg (finish s) (takeover_of_next hup hfatal hunfenced hkc)
  case acts => exact fun s harmed => congrArg (finish s) (if_pos harmed)
  case beat => exact fun _ => rfl
  case lost =>
    intro s c hup hsup hbeat
    exact congrArg (finish s) (hatstandGone_of_beating hup hsup hbeat)
  case measure => exact fun s khz hup => congrArg (finish s) (if_pos hup)

-- The channel commands (spec/09 R222, R248)

theorem selftests_any_eq_false {l : List (Nat × Nat)} {n : Nat} (h : ∀ e ∈ l, e.1 ≠ n) :
    l.any (fun e => e.1 == n) = false := by
  simpa using h

section
variable {c : Ctx} {t : State} {n : Nat} (hchan : c.f 0 0 2 = n) (htenant : c.tenant = false)
  (htested : ∀ e ∈ t.lse.selftests, e.1 ≠ n)
include hchan htenant htested

theorem chSelftestBody_begins (hfatal : t.isFatal = false) (hfenced : t.lse.fenced.contains n = true)
    (hcups : t.stopped (Pg.cea n) = true) (hkettle : t.stopped (Pg.ktl n) = true) :
    chSelftestBody c t = { t with lse := { t.lse with selftests := t.lse.selftests ++ [(n, c.slot)] } } := by
  unfold chSelftestBody
  simp only [hchan, htenant, hfatal, hfenced, hcups, hkettle, selftests_any_eq_false htested, Bool.not_true, Bool.or_self,
    Bool.false_eq_true, if_false]

/-- The last unfenced channel is not fenced by command. -/
theorem chFenceBody_fences (hlive : t.live = true) (hlast : t.lse.fenced.contains n = false → t.unfenced ≠ [n]) :
    chFenceBody c t = (t.fence n).complete c.slot 0 (wd (t.fence n).fencedBits) 0 0 := by
  have hother : (!t.lse.fenced.contains n && decide (t.unfenced = [n])) = false := by
    cases hfenced : t.lse.fenced.contains n with
    | true => rfl
    | false => simp [hlast hfenced]
  unfold chFenceBody
  simp only [hchan, htenant, hlive, hother, selftests_any_eq_false htested, Bool.not_true, Bool.or_self, Bool.false_eq_true,
    if_false]
  rfl

end

section
variable {s : State} {n slot : Nat} (hfind : s.lse.selftests.find? (fun e => e.1 == n) = some (n, slot))
  (hhit : s.lse.selftestHit = [])
include hfind hhit

theorem selftestEnd_passed (hfenced : s.lse.fenced.contains n = true) :
    s.selftestEnd n 0 = ({ s with lse := { s.lse with
      selftests := s.lse.selftests.filter (fun e => e.1 != n), testPass := addN s.lse.testPass n } } : State).complete
        slot 0 1 0 0 := by
  have hnone : wd (0 / 2 % 512 * 2) ||| bitsWord [] = 0 := by decide
  unfold State.selftestEnd
  simp only [hfind, hhit, List.filter_nil, List.map_nil, hnone, hfenced, if_true]

/-- The failed parts stand in bits 1 to 9, those of RES0 (spec/09 R248). -/
theorem selftestEnd_failed {m : Nat} (hm : m < 512) (hsome : m ≠ 0) :
    s.selftestEnd n (2 * m) = (({ s with lse := { s.lse with
      selftests := s.lse.selftests.filter (fun e => e.1 != n) } } : State).raiseSrc Pg.lse 7).complete
        slot 0x0201 (wd (2 * m)) 0 0 := by
  have hparts : 2 * m / 2 % 512 * 2 = 2 * m := by omega
  have hword : wd (2 * m) ||| bitsWord [] = wd (2 * m) := BitVec.or_zero
  have hfailed : wd (2 * m) ≠ 0 := fun h => by
    have hzero : (wd (2 * m)).toNat = 0 := by rw [h]; rfl
    rw [wd, BitVec.toNat_ofNat] at hzero
    omega
  unfold State.selftestEnd
  simp only [hfind, hhit, List.filter_nil, List.map_nil, hparts, hword, hfailed, if_false]

end

-- The lease commands (spec/09 R232, R248 to R250)

/-- The LOST own groups of glove `g`: those that LSE_CLAIM with ALL_LOST claims (log entry 66). -/
def State.lostGroups (t : State) (g : Nat) : List Nat :=
  t.defined.filter (fun i => ownGroup i && (t.group i).st == .lost
    && (match t.row i with | some r => r.glove == g | none => false))

/-- The LSE_CLAIM in hand, of the groups `gs`; its retries end after the time in ARG1. -/
def State.claimCmd (t : State) (c : Ctx) (all : Bool) (gs : List Nat) : ClaimCmd :=
  { slot := c.slot, all := all, left := gs,
    until_ := if c.f 1 0 16 = 0 then none else some (t.now1 + c.f 1 0 16 * 1000000) }

/-- Group `i` is claimed by LSE_CLAIM, one that the mode entry claims anew (log entry 107); FORCE is glove 0's alone. -/
def State.claimGroup (c : Ctx) (a : State) (i : Nat) : State :=
  let g := { a.group i with prior := if (a.group i).st = GrpState.claiming then .idle else (a.group i).st, cmd := some c.slot }
  a.setGroup i (g.claim (a.ptb.cycle + 1) true 0 (c.b 0 16 && c.g == 0))

/-- The groups `gs` are claimed by an LSE_CLAIM, which waits for them. -/
def State.claimAll (t : State) (c : Ctx) (all : Bool) (gs : List Nat) : State :=
  gs.foldl (State.claimGroup c) { t with lse := { t.lse with claims := t.lse.claims ++ [t.claimCmd c all gs] } }

theorem lseClaimBody_named {c : Ctx} {t : State} {i : Nat} {r : GroupRow} (hgroup : c.f 0 0 11 = i) (hall : c.b 0 15 = false)
    (hlive : t.leaseLive = true) (hheld : (t.group i).st ≠ .held) (hcmd : (t.group i).cmd = none) (hrow : t.row i = some r)
    (hglove : r.glove = c.g) : lseClaimBody c t = t.claimAll c false [i] := by
  have hidle : ((t.group i).st == .held) = false := by simpa using hheld
  have hmine : (r.glove != c.g) = false := by simpa using hglove
  unfold lseClaimBody
  simp only [hgroup, hall, hlive, hidle, hcmd, hrow, hmine, List.any_cons, List.any_nil, List.isEmpty_cons, Option.isNone_some,
    Option.isSome_none, Bool.not_false, Bool.not_true, Bool.true_and, Bool.or_self, Bool.false_eq_true, if_false]
  rfl

/-- With no own LOST group of the issuer there is nothing to wait for. -/
theorem lseClaimBody_lost {c : Ctx} {t : State} (hall : c.b 0 15 = true) (hlive : t.leaseLive = true)
    (hcmd : ∀ i ∈ t.defined, ownGroup i = true → (t.group i).st = .lost → (t.group i).cmd = none) :
    lseClaimBody c t = if t.lostGroups c.g = [] then t.complete c.slot 0 0 0 0
      else t.claimAll c true (t.lostGroups c.g) := by
  have hfree : (t.lostGroups c.g).any (fun i => (t.group i).cmd.isSome) = false := by
    rw [List.any_eq_false]
    intro i hi
    simp only [State.lostGroups, List.mem_filter, Bool.and_eq_true, beq_iff_eq] at hi
    obtain ⟨hdefined, ⟨hown, hlost⟩, -⟩ := hi
    simp [hcmd i hdefined hown hlost]
  have hunfold : lseClaimBody c t = if (t.lostGroups c.g).any (fun i => (t.group i).cmd.isSome) = true then t.fin c St.busy
      else if (t.lostGroups c.g).isEmpty = true then t.done c else t.claimAll c true (t.lostGroups c.g) := by
    unfold lseClaimBody
    simp only [hall, hlive, Bool.not_true, Bool.false_and, Bool.or_self, Bool.false_eq_true, if_false, if_true]
    rfl
  rw [hunfold, hfree]
  simp only [List.isEmpty_iff, Bool.false_eq_true, if_false]
  rfl

section
variable {c : Ctx} {t : State} {i : Nat} {r : GroupRow} (hgroup : c.f 0 0 11 = i) (hrow : t.row i = some r)
  (hglove : r.glove = c.g)
include hgroup hrow hglove

/-- A partner group released may be the last one of an adoption (spec/09 R232). -/
theorem lseReleaseBody_releases (hlive : t.leaseLive = true) (hheld : (t.group i).st = .held)
    (hcmd : (t.group i).cmd = none) :
    let s1 := t.setGroup i { (t.group i).release (c.b 0 16) with cmd := some c.slot }
    lseReleaseBody c t = if ownGroup i = true then s1 else s1.checkAdopt := by
  have hst : ((t.group i).st != .held) = false := by simpa using hheld
  unfold lseReleaseBody
  simp only [hgroup, hrow, hglove, hlive, hst, hcmd, Option.isSome_none, ne_eq, not_true_eq_false, Bool.not_true, Bool.or_self,
    Bool.false_eq_true, if_false]

theorem lseQueryBody_answers :
    lseQueryBody c t = t.complete c.slot 0 (wd ((t.group i).st.code + 256 * (t.group i).nak)) (wd (t.group i).epoch)
      (wd (t.group i).nodeEpoch) := by
  unfold lseQueryBody
  simp only [hgroup, hrow, hglove, ne_eq, not_true_eq_false, if_false]
  rfl

end

/-- A partner group at the end of an adoption: HELD it releases, and a claim in hand ends (log entry 149). -/
def State.unadoptGroup (a : State) (i : Nat) : State :=
  if (a.group i).st = .held then a.setGroup i ((a.group i).release false)
  else if (a.group i).st = .claiming then
    match (a.group i).cmd with
    | some m => a.claimFail i m none
    | none => a.setGroup i { a.group i with st := .idle }
  else a

theorem lseUnadoptBody_unadopts {c : Ctx} {t : State} (htenant : c.tenant = false) (hlive : t.leaseLive = true)
    (hadopting : t.lse.adopting = true) :
    let gs := t.defined.filter (fun i => !ownGroup i)
    let n := (gs.filter (fun i => (t.group i).st == .held)).length
    let s1 := (gs.foldl State.unadoptGroup t).endAdopt
    lseUnadoptBody c t = if n = 0 then s1.complete c.slot 0 0 0 0
      else { s1 with lse := { s1.lse with unadopt := some (c.slot, n) } } := by
  unfold lseUnadoptBody
  simp only [htenant, hlive, hadopting, Bool.not_true, Bool.or_self, Bool.false_eq_true, if_false]
  rfl

theorem lseWarmTaskBody_stores {c : Ctx} {t : State} (hbuf : t.taskBufOk c (c.addr 1) = true)
    (hcopy : TaskCopy.passes (t.taskBuf (c.addr 1)) = true) (htenant : c.tenant = false) (hfatal : t.isFatal = false) :
    lseWarmTaskBody c t = (t.setTaskEntry (16 + c.f 0 0 4) (t.taskBuf (c.addr 1))).complete c.slot 0 t.lse.warmGen 0 0 := by
  simp [lseWarmTaskBody, hbuf, hcopy, htenant, hfatal, State.done, State.fin]

/-- Settles O34: each command passes its checks, and its body is the equation of that case. -/
theorem leaseCommandsComplete : Obligations.LeaseCommandsComplete := by
  refine ⟨⟨?selftest, ?fence, ?tested⟩, ?named, ?lost, ?release, ?unadopt, ?query, ?warm⟩
  case selftest =>
    refine takes_of (body := chSelftestBody) (fun _ _ => rfl) ?_
    rintro c t ⟨htenant, hfatal, hfenced, hcups, hkettle, htested⟩
    exact chSelftestBody_begins rfl htenant htested hfatal hfenced hcups hkettle
  case fence =>
    refine takes_of (body := chFenceBody) (fun _ _ => rfl) ?_
    rintro c t ⟨htenant, hlive, hlast, htested⟩
    exact chFenceBody_fences rfl htenant htested hlive hlast
  case tested =>
    intro s n slot hup hfind hhit hfenced
    exact ⟨congrArg (finish s) ((whenUp_of_up hup _).trans (selftestEnd_passed hfind hhit hfenced)), fun m hm hsome =>
      congrArg (finish s) ((whenUp_of_up hup _).trans (selftestEnd_failed hfind hhit hm hsome))⟩
  case named =>
    refine takes_of (body := lseClaimBody) (fun _ _ => rfl) ?_
    rintro c t ⟨hall, hlive, hheld, hcmd, r, hrow, hglove⟩
    exact lseClaimBody_named rfl hall hlive hheld hcmd hrow hglove
  case lost =>
    refine takes_of (body := lseClaimBody) (fun _ _ => rfl) ?_
    rintro c t ⟨hall, hlive, hcmd⟩
    exact lseClaimBody_lost hall hlive hcmd
  case release =>
    refine takes_of (body := lseReleaseBody) (fun _ _ => rfl) ?_
    rintro c t ⟨hlive, hheld, hcmd, r, hrow, hglove⟩
    exact lseReleaseBody_releases rfl hrow hglove hlive hheld hcmd
  case unadopt =>
    refine takes_of (body := lseUnadoptBody) (fun _ _ => rfl) ?_
    rintro c t ⟨htenant, hlive, hadopting⟩
    exact lseUnadoptBody_unadopts htenant hlive hadopting
  case query =>
    refine takes_of (body := lseQueryBody) (fun _ _ => rfl) ?_
    rintro c t ⟨r, hrow, hglove⟩
    exact lseQueryBody_answers rfl hrow hglove
  case warm =>
    refine takes_of (body := lseWarmTaskBody) (fun _ _ => rfl) ?_
    rintro c t ⟨hbuf, hcopy, htenant, hfatal⟩
    exact lseWarmTaskBody_stores hbuf hcopy htenant hfatal

-- The send instant (spec/09 R238)

/-- Every DEFINED group has sent what its state asks for, and a stop of LSE waits for the send instant no longer. -/
def State.groupsSent (s : State) : State :=
  let ok := s.leaseOk && !s.stopped Pg.lse
  let live := ok && s.running Pg.lse && (s.sys.mode == .run || s.sys.mode == .degraded)
  let s1 := s.defined.foldl (fun (a : State) i => a.groupSend ok live i) s
  { s1 with lse := { s1.lse with stopWait := false } }

theorem leaseSend_of_no_unadopt {s : State} (h : s.groupsSent.lse.unadopt = none) : s.leaseSend = s.groupsSent := by
  unfold State.leaseSend
  unfold State.groupsSent at h ⊢
  simp only at h ⊢
  rw [h]

-- Answers of nodes (spec/09 R239)

/-- A group that is not IDLE reads as it was set. -/
theorem group_setGroup_same {s : State} {i : Nat} {g : GroupSt} (h : g.st ≠ .idle) : (s.setGroup i g).group i = g := by
  have hdflt : g ≠ dflt {} i := by
    rintro rfl
    exact h rfl
  exact Sparse.get_set_put (dflt {}) s.lse.groups hdflt

section
variable {s : State} {can : Bool} {port node vlan i : Nat} {pdu : List Byte} (hrunning : s.running Pg.lse = true)
  (hsilent : s.lse.silentSafe = false) (hseq : s.pwr.seq = .off) (hlen : 24 ≤ pdu.length) (hmagic : getLE pdu 0 1 = 0x4C)
  (hanswer : s.answerFor can port node vlan pdu = some i)
include hrunning hsilent hseq hlen hmagic hanswer

theorem leaseAnswer_of_nak (hop : getLE pdu 1 1 = 4) :
    s.leaseAnswer can port node vlan pdu = s.nakked i (getLE pdu 3 1) (beNat (sliceB pdu 8 4)) := by
  simp [State.leaseAnswer, State.pfw, hrunning, hsilent, hseq, hlen, hmagic, hanswer, hop]

theorem leaseAnswer_of_grant {r : GroupRow} (hop : getLE pdu 1 1 = 3) (hrow : s.row i = some r)
    (hst : (s.group i).st = .claiming) :
    let e := beNat (sliceB pdu 8 4)
    s.leaseAnswer can port node vlan pdu = (s.setGroup i { s.group i with nodeEpoch := e }).granted i r e := by
  simp [State.leaseAnswer, State.pfw, hrunning, hsilent, hseq, hlen, hmagic, hanswer, hop, hrow, hst]

end

/-- FENCED is reason 1 (spec/09 R239). -/
theorem nakked_of_fenced {s : State} {i epoch : Nat} {g : GroupSt} (hg : { s.group i with nak := 1, nodeEpoch := epoch } = g)
    (hst : g.st = .held) (hown : ownGroup i = true) :
    s.nakked i 1 epoch = ((s.bump Pg.lse Rg.LSE_NAKS).setGroup i g).groupLost i := by
  have hgroup : ((s.bump Pg.lse Rg.LSE_NAKS).setGroup i g).group i = g := group_setGroup_same (by simp [hst])
  unfold State.nakked
  simp [hg, hgroup, hst, hown]

-- Relayed writes (spec/09 R228)

section
variable {s : State} {f : List Byte} (hkind : getLE f 14 1 = 0x57) (hfrom : getLE f 16 1 = bf (s.reg Pg.lse Rg.LSE_CTRL) 8 7)
include hkind hfrom

theorem relayIn_of_loop (htable : getLE f 15 1 = 0) (hdesc : Desc.writable (f.drop 20) = true) (hlen : f.length = 148) :
    let s1 := { s with lse := { s.lse with warmGen := s.lse.warmGen + 1 } }
    s.relayIn f = (s1.store (s1.ltAddr (beNat (sliceB f 18 2))) (f.drop 20)).markAdopt (beNat (sliceB f 18 2)) := by
  simp [State.relayIn, hkind, hfrom, htable, hdesc, hlen]

theorem relayIn_of_task (htable : getLE f 15 1 = 1) (hsome : 20 < f.length)
    (hcopy : TaskCopy.passes (TaskCopy.ofBytes (f.drop 20)) = true) (hlen : (f.drop 20).length = taskLen (f.drop 20)) :
    let s1 := { s with lse := { s.lse with warmGen := s.lse.warmGen + 1 } }
    s.relayIn f = s1.setTaskEntry (16 + beNat (sliceB f 18 2) % 16) (TaskCopy.ofBytes (f.drop 20)) := by
  rw [List.length_drop] at hlen
  simp [State.relayIn, hkind, hfrom, htable, hsome, hcopy, hlen]

end

theorem exec_relayWriteRx {s : State} (hup : s.coreUp = true) (hseq : s.pwr.seq = .off) (f : List Byte) :
    exec (.relayWriteRx f) s = .next (s.settled (s.relayIn f)) := by
  have hpfw : ¬ s.pfw = true := by simp [State.pfw, hseq]
  exact congrArg (finish s) ((whenUp_of_up hup _).trans (if_neg hpfw))

/-- Settles O35: each row's condition holds, and the effect is the equation of that case. -/
theorem leasesAreKept : Obligations.LeasesAreKept := by
  refine ⟨?send, ?nak, ?grant, ?loop, ?task⟩
  case send =>
    intro s hup _ ok live s1 s2 hnone
    exact congrArg (finish s) ((whenUp_of_up hup _).trans (leaseSend_of_no_unadopt hnone))
  case nak =>
    intro s can port node vlan i pdu hup hrunning hsilent hseq hlen hmagic hop hreason hanswer hst hown
    have hnak := leaseAnswer_of_nak hrunning hsilent hseq hlen hmagic hanswer hop
    rw [hreason, nakked_of_fenced rfl hst hown] at hnak
    exact congrArg (finish s) ((whenUp_of_up hup _).trans hnak)
  case grant =>
    intro s can port node vlan i pdu r hup hrunning hsilent hseq hlen hmagic hop hanswer hrow hst
    exact congrArg (finish s)
      ((whenUp_of_up hup _).trans (leaseAnswer_of_grant hrunning hsilent hseq hlen hmagic hanswer hop hrow hst))
  case loop =>
    intro s f hup hseq hkind hfrom htable hdesc hlen
    rw [exec_relayWriteRx hup hseq, relayIn_of_loop hkind hfrom htable hdesc hlen]
  case task =>
    intro s f hup hseq hkind hfrom htable hsome hcopy hlen
    rw [exec_relayWriteRx hup hseq, relayIn_of_task hkind hfrom htable hsome hcopy hlen]

end Sys2Proof.Machine
end

section
/-! The Caddy's log, power, seal and clocks (spec/10, spec/11): what storing an entry keeps, one equation per case of what
happens to the Caddy, and the statements on them. -/

namespace Sys2Proof.Machine

-- The log (spec/10 R278, R279)

namespace CdySt

/-- An entry that gives way to a later one is operational. -/
theorem mem_store_of_legal {l : List EvEntry} {x : EvEntry} (hmem : x ∈ l) (hlegal : x.legal = true) (e : EvEntry) :
    x ∈ store l e := by
  unfold store
  split
  · exact List.mem_append_left _ hmem
  · split
    next v hfind =>
      have hv : v.legal = false := by simpa using List.find?_some hfind
      have hne : x ≠ v := fun h => by rw [h, hv] at hlegal; contradiction
      exact List.mem_append_left _ ((List.mem_erase_of_ne hne).mpr hmem)
    next => exact hmem

/-- A full log stores an entry only in the place of another. -/
theorem length_store_le {l : List EvEntry} (h : l.length ≤ 1024) (e : EvEntry) : (store l e).length ≤ 1024 := by
  unfold store
  split
  next hfree => simpa using hfree
  next =>
    split
    next v hfind =>
      have hv : v ∈ l := List.mem_of_find?_eq_some hfind
      have hpos := List.length_pos_of_mem hv
      rw [List.length_append, List.length_erase_of_mem hv, List.length_singleton]
      omega
    next => exact h

end CdySt

/-- Settles O45: of the log an event changes SEQ, and what `CdySt.store` changes. -/
theorem legalEntriesStay : Obligations.LegalEntriesStay := by
  intro c typ subject duration data t fb ho
  refine ⟨rfl, fun hevt => ?seq, fun e hmem hlegal => CdySt.mem_store_of_legal hmem hlegal _,
    fun hlen => CdySt.length_store_le hlen _⟩
  case seq =>
    change c.evt ≤ min (c.evt + 1) 0xFFFFFFFF
    omega

-- What happens to the Caddy (spec/10 R284)

/-- A command that acts on the Caddy alone is known by what it makes of the Caddy. -/
theorem finish_onCaddy_congr {s : State} {f g : CdySt → CdySt} (h : f s.cdy = g s.cdy) :
    finish s (s.onCaddy f) = .next (s.settled (s.onCaddy g)) :=
  congrArg (finish s) (onCaddy_congr h)

/-- A command that needs the clocks has its effect where they run (spec/23 R593). -/
theorem finish_whenUp {s t : State} {f : State → State} (hup : s.coreUp = true) (h : f s = t) :
    finish s (s.whenUp f) = .next (s.settled t) :=
  congrArg (finish s) ((whenUp_of_up hup f).trans h)

theorem caddyUp_of_unpowered {s : State} (hmetrology : s.metrology = true) (hmode : s.cdy.mode = .unpowered) (fault : Nat)
    (isOpen : Bool) :
    s.caddyUp fault isOpen =
      ({ s with pwr := { s.pwr with vmetOk := true } } : State).onCaddy (fun c => c.start fault isOpen) := by
  unfold State.caddyUp
  rw [if_pos hmetrology]
  exact onCaddy_congr (if_pos hmode)

theorem caddyDown_of_metrology {s : State} (hmetrology : s.metrology = true) (hold torn : Bool) :
    s.caddyDown hold torn =
      ({ s with pwr := { s.pwr with vmetOk := false } } : State).onCaddy (fun c => c.vmetTrip hold torn) := by
  unfold State.caddyDown
  rw [if_pos hmetrology]

namespace CdySt

variable {c : CdySt}

/-- The ways in which a powered Caddy stops: in good order, with what is being written torn, or as it is. -/
theorem vmetTrip_of_powered (hmode : c.mode ≠ .unpowered) (hold torn : Bool) :
    let c1 := if hold = true ∧ c.mode ≠ .halted then ({ c.endPaths with dark := true } : CdySt).orderlyStop
      else if torn = true ∧ hold = false then
        { c.tearCommit with dark := true, paths := c.paths.map (fun (e : Nat × PathSt) => (e.1, e.2.tear c.ticks)) }
      else { c with dark := true }
    c.vmetTrip hold torn =
      { c1.dropMail with mode := .unpowered, restart := 1, pulse := [], drivers := [],
                         paths := c1.paths.map (fun (e : Nat × PathSt) => (e.1, e.2.idle)) } := by
  unfold vmetTrip
  simp only [if_neg hmode, Bool.and_eq_true, decide_eq_true_eq, Bool.not_eq_true']

theorem sealChange_opens (hmode : c.mode ≠ .unpowered) (hseal : c.sealOpen = false) :
    c.sealChange true = ({ c.showIdent with
      sealOpen := true, sealSince := c.ticks, fbSeal := c.fallback, hdrFlags := c.hdrFlags ||| 8 } : CdySt).logEv 0x10 := by
  simp [sealChange, hmode, hseal]

theorem sealChange_closes (hmode : c.mode ≠ .unpowered) (hseal : c.sealOpen = true) :
    c.sealChange false =
      (({ c.showIdent with sealOpen := false } : CdySt).logSpan 0x11 c.sealSince c.fbSeal).refuseDeliveries := by
  simp [sealChange, hmode, hseal]

theorem clkFallback_of_root (hmode : c.mode ≠ .unpowered) (hroot : c.fallback = false) :
    c.clkFallback = ({ c with
      fallback := true, fbSince := c.ticks, fbSeal := true, fbHo := true, fbSplit := true, fbLost := true,
      hdrFlags := c.hdrFlags ||| 1, sums := c.sums.map (fun (x : CdySum) => { x with fb := true }) } : CdySt).logEv 0x30
        [wd (unsigned 32 (clampI (-100000) 100000 c.clkErr))] := by
  simp [clkFallback, hmode, hroot]

theorem clkRoot_of_fallback (hmode : c.mode ≠ .unpowered) (hfallback : c.fallback = true) :
    c.clkRoot = { c.logSpan 0x31 c.fbSince true with fallback := false, hdrFlags := c.hdrFlags ||| 1 } := by
  simp [clkRoot, hmode, hfallback]

theorem measured_of_root (hmode : c.mode ≠ .unpowered) (hroot : c.fallback = false) (ppb : Int) :
    c.measured ppb = { c with clkErr := ppb } := by
  simp [measured, hmode, hroot]

theorem timeHoldover_begins (hmode : c.mode ≠ .unpowered) (hlocked : c.holdover = false) :
    c.timeHoldover = ({ c with
      holdover := true, hoSince := c.ticks, fbHo := c.fallback, hdrFlags := c.hdrFlags ||| 2 } : CdySt).logEv 0x32 := by
  simp [timeHoldover, hmode, hlocked]

/-- Legal time set to `t`, and the holdover ended that was in progress (spec/10 R261). -/
def timed (c : CdySt) (t : LTime) : CdySt :=
  { (if c.holdover = true then { c.logAt 0x33 0xFFFF (c.ticks - c.hoSince) [] c.time (c.fbHo || c.fallback) true
      with holdover := false, hdrFlags := c.hdrFlags ||| 2 } else c) with time := t }

/-- A copy that moves legal time by more than 1 s is logged, with what it moves it by. -/
theorem timeCopy_of_powered (hmode : c.mode ≠ .unpowered) (t : LTime) :
    let ns := (t.diff c.time).tdiv (2 ^ 32)
    c.timeCopy t = if 1000000000 * 2 ^ 32 < (t.diff c.time).natAbs then (c.timed t).logEv 0x34
        [wd (unsigned 64 (ns.tdiv 1000000000) % 2 ^ 32), wd (unsigned 64 (ns.tdiv 1000000000) / 2 ^ 32),
         wd (unsigned 32 (ns.tmod 1000000000))]
      else c.timed t := by
  unfold timeCopy
  rw [if_neg hmode]
  cases hho : c.holdover with
  | false => simp only [timed, hho]; rfl
  | true => simp only [timed, logSpan, hho]

end CdySt

/-- Settles O42: in each case the Caddy is powered and its clock or seal as the event asks, and what becomes of it is the
equation of that case. -/
theorem theCaddyStartsAndKeepsTime : Obligations.TheCaddyStartsAndKeepsTime := by
  refine ⟨⟨?start, ?trip, ?opens, ?closes⟩, ?fallback, ?root, ?measure, ?copy, ?holdover⟩
  case start =>
    intro s o hmetrology hmode
    exact congrArg (finish s) (caddyUp_of_unpowered hmetrology hmode 0 o)
  case trip =>
    intro s hold torn hmetrology hmode
    exact congrArg (finish s)
      ((caddyDown_of_metrology hmetrology hold torn).trans (onCaddy_congr (CdySt.vmetTrip_of_powered hmode hold torn)))
  case opens =>
    intro s hmode hseal
    exact finish_onCaddy_congr (CdySt.sealChange_opens hmode hseal)
  case closes =>
    intro s hmode hseal
    exact finish_onCaddy_congr (CdySt.sealChange_closes hmode hseal)
  case fallback =>
    intro s hmode hroot
    exact finish_onCaddy_congr (CdySt.clkFallback_of_root hmode hroot)
  case root =>
    intro s hup hmode hfallback
    exact finish_whenUp hup (onCaddy_congr (CdySt.clkRoot_of_fallback hmode hfallback))
  case measure =>
    intro s ppb hmode hroot
    exact finish_onCaddy_congr (CdySt.measured_of_root hmode hroot ppb)
  case copy =>
    intro s hup hmode t d ns move
    have hcopy := CdySt.timeCopy_of_powered hmode t
    constructor
    · intro hsmall
      exact finish_whenUp hup (onCaddy_congr (hcopy.trans (if_neg (Nat.not_lt.mpr hsmall))))
    · intro hlarge
      exact finish_whenUp hup (onCaddy_congr (hcopy.trans (if_pos hlarge)))
  case holdover =>
    intro s hmode hlocked
    exact finish_onCaddy_congr (CdySt.timeHoldover_begins hmode hlocked)

end Sys2Proof.Machine
end

section
/-! Samples, windows and pulses of the Caddy (spec/10 to spec/12): one equation per case of what ends a sample period, an
episode, a window or a pulse, with the statement on them. -/

namespace Sys2Proof.Machine

namespace CdySt

variable {c : CdySt}

/-- The inputs take their bits first; what the drivers do depends on the Caddy before the sample. -/
theorem sample_of_metering (hmode : c.mode = .metering) (l : List (Nat × BitVec 1250)) (differs : List Nat) :
    let c1 := (List.range 152).foldl (fun a i => a.sampleInput i (c.streamOf l i)) c
    let c2 := (List.range 40).foldl (fun a p => a.setDrv p (c.stepDriver differs p)) c1
    c.sample l differs = { c2 with
      time := c.time.add 125000, ticks := c.ticks + 1, discard := c.discard - 1, n := c.n + 1,
      lfsr := if c.n % 64 = 63 then lfsrNext c.lfsr else c.lfsr, samples := c.samples + c.counts.toNat,
      winSince := if c.counts = true then c.winSince else c.time.add 125000,
      durs := if c.counts = true then (if c.fallback = true then some c.clkErr else none) :: c.durs else c.durs } := by
  unfold sample
  rw [hmode]

theorem setLoss_begins {i : Nat} (hloss : (c.inp i).loss = false) (n : Nat) :
    let c1 := if (c.inp i).ovr = true then c.sumDrop 0x40 i (c.inp i).ovrN else c
    c.setLoss i n = ({ c1.setInp i { c.inp i with loss := true, left := 0, ovr := false, ovrN := 0 } with lossHit := true }
      : CdySt).sumEpisode 0x41 i (c.bitTime n 640) := by
  unfold setLoss
  rw [if_neg (Bool.eq_false_iff.mp hloss)]

theorem setOvr_begins {i : Nat} (hloss : (c.inp i).loss = false) (hovr : (c.inp i).ovr = false) (n : Nat) :
    c.setOvr i n = ({ c.setInp i { c.inp i with ovr := true, ovrN := 0 } with ovrHit := true } : CdySt).sumEpisode 0x40 i
      (c.bitTime n 16) := by
  simp [setOvr, hloss, hovr]

/-- An episode that goes on opens the next summary at once (log entry 138). -/
theorem sumDue_of_due {typ subject : Nat} {x : CdySum}
    (hopen : c.sums.find? (fun y => y.typ == typ && y.subject == subject) = some x) (hdue : x.since + 480000 ≤ c.ticks)
    (hmode : c.mode ≠ .unpowered) :
    let c1 := c.sumWrite x
    c.sumDue typ subject =
      if typ = 0x40 ∧ (c1.inp subject).ovr = true then
        (c1.setInp subject { c1.inp subject with ovrN := 0 }).sumEpisode typ subject c1.time
      else if typ = 0x41 ∧ (c1.inp subject).loss = true then c1.sumEpisode typ subject c1.time
      else c1 := by
  unfold sumDue
  rw [hopen]
  exact if_pos ⟨hdue, hmode⟩

/-- The samples beyond the window's 1,600 are left to the next one (log entry 137). -/
theorem windowBoundary_of_full (hmode : c.mode = .metering) (hfull : 1600 ≤ c.samples) (market : Nat) (fails : Bool) :
    let m := c.samples - 1600
    let c1 := ((((c.early m).closeWindow 1600 true).startIntervals).turnInputs).late c m
    c.windowBoundary market fails = ((c1.serveCal.serveSnaps market).serveCommit fails).nextDeliveries market :=
  if_pos ⟨hmode, hfull⟩

theorem pulseStart_of_pending {q : Nat} (hmode : c.mode = .metering) (hq : q ≤ 31) (hidle : c.pulseOf q = .idle)
    (hpending : c.pending q ≠ 0) (hsel : prmPulseSel c.prm q ≠ 8) (hcirc : (c.circ q).typ ≠ 0) :
    c.pulseStart q = { c with pulse := Sparse.set (dflt .idle) c.pulse q .high,
                              pend := Sparse.set (dflt 0) c.pend q (c.pending q - 1) } :=
  if_pos ⟨hmode, hq, hidle, hpending, hsel, hcirc⟩

theorem pulseEnd_of_high {q : Nat} (hphase : c.pulseOf q = .high) :
    c.pulseEnd q = { c with pulse := Sparse.set (dflt .idle) c.pulse q .low } := by
  unfold pulseEnd
  rw [hphase]

theorem pulseEnd_of_low {q : Nat} (hphase : c.pulseOf q = .low) :
    c.pulseEnd q = { c with pulse := Sparse.set (dflt .idle) c.pulse q .idle } := by
  unfold pulseEnd
  rw [hphase]

end CdySt

/-- Settles O43: in each case the Caddy is as the event asks, and what becomes of it is the equation of that case. -/
theorem windowsAreClosed : Obligations.WindowsAreClosed := by
  refine ⟨⟨?sample, ?loss, ?ovr, ?summary⟩, ?window, ?pulse, ?high, ?low⟩
  case sample =>
    intro s l d hmode
    exact finish_onCaddy_congr (CdySt.sample_of_metering hmode l d)
  case loss =>
    intro s i n hloss
    exact finish_onCaddy_congr (CdySt.setLoss_begins hloss n)
  case ovr =>
    intro s i n hloss hovr
    exact finish_onCaddy_congr (CdySt.setOvr_begins hloss hovr n)
  case summary =>
    intro s typ subj x hopen hdue hmode
    exact finish_onCaddy_congr (CdySt.sumDue_of_due hopen hdue hmode)
  case window =>
    intro s fails hmode hfull
    exact finish_onCaddy_congr (CdySt.windowBoundary_of_full hmode hfull s.market fails)
  case pulse =>
    intro s q hmode hq hidle hpending hsel hcirc
    exact finish_onCaddy_congr (CdySt.pulseStart_of_pending hmode hq hidle hpending hsel hcirc)
  case high =>
    intro s q hphase
    exact finish_onCaddy_congr (CdySt.pulseEnd_of_high hphase)
  case low =>
    intro s q hphase
    exact finish_onCaddy_congr (CdySt.pulseEnd_of_low hphase)

end Sys2Proof.Machine
end

section
/-! The core die's side of the Caddy (spec/10 to spec/12): published points and events, the commands that go to the Caddy, its
answers and those that never come, with the statement on them. -/

namespace Sys2Proof.Machine

theorem cdyPublishPoints_of_enabled {s : State} (hup : s.coreUp = true) (hmetrology : s.metrology = true)
    (henabled : bit s.nv.cfg.publish 16 = true) :
    s.cdyPublishPoints = ((List.range 64).filter (fun k => (s.cdy.circ k).typ != 0)).foldl
      (fun (a : State) k => a.cdyPoints (bf s.nv.cfg.publish 0 16) k) s := by
  simp [State.cdyPublishPoints, hup, hmetrology, henabled]

theorem cdyPost_of_up {s : State} (hup : s.coreUp = true) :
    s.cdyPost = s.cdy.post.foldl (fun (a : State) p =>
      (p.queues.getD []).foldl (fun (b : State) q => b.cdyPostTo p.e q) a) { s with cdy := { s.cdy with post := [] } } :=
  if_pos hup

-- Commands on their way to the Caddy (spec/10 R285, R286)

/-- What is done at once counts only for what a powered Caddy with the command in its mailbox makes of it. -/
theorem handed_congr {s : State} {c : Ctx} {f g : CdySt → CdySt}
    (h : f { s.cdy with mail := s.cdy.mail ++ [s.cdy.mailFor c] } = g { s.cdy with mail := s.cdy.mail ++ [s.cdy.mailFor c] }) :
    s.handed c f = s.handed c g :=
  onCaddy_congr (by dsimp only; rw [h])

section
variable {c : Ctx} {t : State}

theorem cdyCheck_passed (hmetrology : t.metrology = true) (go : State) : t.cdyCheck c true true go = go := by
  simp [State.cdyCheck, hmetrology]

theorem cdyHand_hands (hfatal : t.isFatal = false) (hroom : t.cdyInHand < 16) (afterFatal : Bool) (run : CdySt → CdySt) :
    t.cdyHand c afterFatal run = t.handed c run := by
  have hfree : ¬ 16 ≤ t.cdyInHand := Nat.not_le.mpr hroom
  unfold State.cdyHand
  rw [hfatal, Bool.false_and, if_neg Bool.false_ne_true, if_neg hfree]
  rfl

/-- A powered Caddy's view or publication edit waits for the CONFIG journal (spec/10 R288). -/
theorem cdyJournal_journals (hfatal : t.isFatal = false) (hroom : t.cdyInHand < 16) (hpowered : t.cdy.mode ≠ .unpowered)
    (e : CfgEdit) : t.cdyJournal c e = t.journalAdd (some c.slot) e := by
  have hfree : ¬ 16 ≤ t.cdyInHand := Nat.not_le.mpr hroom
  unfold State.cdyJournal
  rw [hfatal, if_neg Bool.false_ne_true, if_neg hfree, if_neg hpowered]

variable (hmetrology : t.metrology = true) (hfatal : t.isFatal = false) (hroom : t.cdyInHand < 16)
include hmetrology hfatal hroom

/-- A Caddy command whose arguments and issuer are found good is handed over. -/
theorem cdyCheck_cdyHand {argOk mine : Bool} (hargs : argOk = true) (hmine : mine = true) (afterFatal : Bool)
    (run : CdySt → CdySt) : t.cdyCheck c argOk mine (t.cdyHand c afterFatal run) = t.handed c run := by
  rw [hargs, hmine, cdyCheck_passed hmetrology, cdyHand_hands hfatal hroom]

/-- A command that the core die carries out itself, its arguments and issuer found good. -/
theorem cdyCheck_cdyJournal {argOk mine : Bool} (hargs : argOk = true) (hmine : mine = true)
    (hpowered : t.cdy.mode ≠ .unpowered) (e : CfgEdit) :
    t.cdyCheck c argOk mine (t.cdyJournal c e) = t.journalAdd (some c.slot) e := by
  rw [hargs, hmine, cdyCheck_passed hmetrology, cdyJournal_journals hfatal hroom hpowered]

theorem cdyIdentBody_hands :
    cdyIdentBody c t = t.handed c (fun k =>
      let k1 := if c.b 0 0 = true ∧ c.g = 0 then { k with identAt := k.ticks, ident := k.ticks + 480000 } else k
      k1.answer c.slot 0 (wd k.fwVer) (wd k.check) (wd (t.market + 256 * k.stateNo))) := by
  refine (cdyCheck_cdyHand hmetrology hfatal hroom rfl rfl _ _).trans ?_
  simp only [Bool.and_eq_true, beq_iff_eq]
  rfl

/-- The lowest SEQ of an empty log is drawn (log entry 7). -/
theorem cdyLogReadBody_hands (hsome : 1 ≤ c.f 1 0 11) (hmost : c.f 1 0 11 ≤ 1024)
    (hbuf : t.bufOk c (c.addr 2) (64 * c.f 1 0 11) = true) :
    cdyLogReadBody c t = t.draw.2.handed c (fun k =>
      let l := k.logRead t.viewOf c.g (c.arg 0).toNat (c.f 1 0 11)
      k.answer c.slot 0 (wd l.length) (wd (((k.logRead t.viewOf c.g 0 1).head?.map EvEntry.seq).getD t.draw.1)) (wd k.evt)
        (c.addr 2) (l.flatMap EvEntry.bytes)) := by
  have hargs : (decide (1 ≤ c.f 1 0 11) && decide (c.f 1 0 11 ≤ 1024) && t.bufOk c (c.addr 2) (64 * c.f 1 0 11)) = true := by
    simp [hsome, hmost, hbuf]
  unfold cdyLogReadBody
  dsimp only
  rw [hargs, cdyCheck_passed hmetrology]
  refine (cdyHand_hands (t := t.draw.2) hfatal hroom _ _).trans (handed_congr ?_)
  dsimp only
  cases CdySt.logRead _ t.viewOf c.g 0 1 with
  | nil => rfl
  | cons e l => rfl

theorem cdySnapshotBody_hands (hbuf : t.bufOk c (c.addr 0) 8256 = true) : cdySnapshotBody c t = t.handed c id :=
  cdyCheck_cdyHand hmetrology hfatal hroom hbuf rfl _ _

theorem cdyCommitBody_hands :
    cdyCommitBody c t = t.handed c (fun k => if k.mode = .halted then k else { k with commitReq := true }) :=
  cdyCheck_cdyHand hmetrology hfatal hroom rfl rfl _ _

theorem cdyHarmonicsBody_hands (hcirc : c.f 0 0 32 ≤ 63) (hbuf : t.bufOk c (c.addr 1) 1792 = true)
    (hview : c.g = 0 ∨ t.viewOf (c.f 0 0 32) = c.g) :
    cdyHarmonicsBody c t = t.handed c (fun k => if k.mode = .metering then
      k.answer c.slot 0 (wd k.window) 0 0 (c.addr 1) (k.harmonics (c.f 0 0 32)) else k) := by
  refine (cdyCheck_cdyHand hmetrology hfatal hroom (by simp [hcirc, hbuf]) (by simpa using hview) _ _).trans ?_
  simp only [CdySt.meters, decide_eq_true_eq]

theorem cdyParamReadBody_hands (hbuf : t.bufOk c (c.addr 0) 31008 = true) :
    cdyParamReadBody c t = t.handed c (fun k => if k.mode = .halted then k else
      k.answer c.slot 0 (wd k.paramId) 0 0 (c.addr 0) k.prm) :=
  cdyCheck_cdyHand hmetrology hfatal hroom hbuf rfl _ _

theorem cdyPilotStatusBody_hands (hpath : c.f 0 0 8 ≤ 151) (hmine : t.pathMine c.g (c.f 0 0 8) = true) :
    cdyPilotStatusBody c t = t.handed c (fun k => if k.mode = .halted then k else
      let p := k.path (c.f 0 0 8)
      k.answer c.slot 0
        (wd (k.pathState (c.f 0 0 8) + 4 * (k.pathHeld (c.f 0 0 8)).toNat + 16 * prmSteep k.prm (c.f 0 0 8) + 256 * p.noest))
        (wd (unsigned 32 p.tau)) (wd (k.asubOf (c.f 0 0 8)))) :=
  cdyCheck_cdyHand hmetrology hfatal hroom (decide_eq_true hpath) hmine _ _

variable (htenant : c.tenant = false)
include htenant

theorem cdyParamLoadBody_hands (hbuf : t.bufOk c (c.addr 0) 31008 = true) (fails : Bool) :
    cdyParamLoadBody fails c t = t.handed c (fun k => if k.mode = .halted then k else
      k.deliverBlock t.market c.slot (t.load (c.addr 0) 31008) fails) :=
  cdyCheck_cdyHand hmetrology hfatal hroom hbuf (by simp [htenant]) _ _

theorem cdyImageLoadBody_hands (hsome : 1 ≤ (c.arg 2).toNat) (hmost : (c.arg 2).toNat ≤ 0x100000)
    (hbuf : t.bufOk c (c.addr 0) (c.arg 2).toNat = true) (fails : Bool) :
    cdyImageLoadBody fails c t = t.handed c (fun k => if k.mode = .halted then k else
      k.deliverImage t.market c.slot (t.load (c.addr 0) (c.arg 2).toNat) fails) :=
  cdyCheck_cdyHand hmetrology hfatal hroom (by simp [hsome, hmost, hbuf]) (by simp [htenant]) _ _

/-- With the seal open a Caddy that is not HALTED takes the measurement in hand (spec/12 R340). -/
theorem cdyCalBody_hands (hpath : c.f 0 0 8 ≤ 151) (hleast : 64 ≤ c.f 0 16 16) (hmost : c.f 0 16 16 ≤ 32768)
    (hwhole : c.f 0 16 16 % 64 = 0) (hbuf : t.bufOk c (c.addr 3) 4928 = true) (hcal : t.cdy.cal = none)
    (hseal : t.cdy.sealOpen = true) (hmode : t.cdy.mode ≠ .halted) :
    cdyCalBody c t = t.handed c (fun k =>
      let forced := ((List.range 32).filter (fun n => c.b 1 n)) ++ (((List.range 8).filter (fun n => c.b 2 n)).map (· + 32))
      { k with cal := some { slot := c.slot, reference := c.f 0 0 8, total := c.f 0 16 16, left := c.f 0 16 16,
                             forced := forced, start := k.time } }) := by
  unfold cdyCalBody
  dsimp only
  have hidle : ¬ (t.cdy.cal.isSome && !t.isFatal) = true := by simp [hcal]
  rw [if_neg hidle]
  refine (cdyCheck_cdyHand hmetrology hfatal hroom (by simp [hpath, hleast, hmost, hwhole, hbuf]) (by simp [htenant])
    _ _).trans (handed_congr ?_)
  exact (if_neg hmode).trans (if_pos hseal)

theorem cdyViewSetBody_journals (hpowered : t.cdy.mode ≠ .unpowered) (hcirc : c.f 0 0 8 ≤ 63)
    (hglove : c.f 0 8 24 ≤ 63) :
    cdyViewSetBody c t = t.journalAdd (some c.slot) (.view (c.f 0 0 8) (c.f 0 8 24)) :=
  cdyCheck_cdyJournal hmetrology hfatal hroom (by simp [hcirc, hglove]) (by simp [htenant]) hpowered _

theorem cdyPublishBody_journals (hpowered : t.cdy.mode ≠ .unpowered) (hbase : c.f 0 0 16 % 16 = 0)
    (hlast : c.f 0 0 16 ≤ 64512) :
    cdyPublishBody c t = t.journalAdd (some c.slot) (.publish (wd (c.f 0 0 16 + 65536 * (c.b 0 16).toNat))) :=
  cdyCheck_cdyJournal hmetrology hfatal hroom (by simp [hbase, hlast]) (by simp [htenant]) hpowered _

end

-- Answers (spec/05 R129, spec/10 R285, R286)

section
variable {s : State} {n : Nat} {m : Mail} (hready : s.cdy.mail.find? (fun x => x.slot == n && x.ready) = some m)
  (hphase : (s.slotOf n).phase = .inHand)
include hready hphase

/-- A snapshot alone is cut to the issuer's view (spec/11 R306). -/
theorem cdyDeliver_of_mine (hmine : s.mailMine m = true) (hplain : m.op ≠ 0x0610 ∨ m.status ≠ 0) :
    s.cdyDeliver n false = ((s.unmail n).store m.buf m.data).complete n m.status m.res0 m.res1 m.res2 := by
  have hsnap : ¬ (m.op = 0x0610 ∧ m.status = 0) := by rwa [not_and_or]
  unfold State.cdyDeliver
  simp only [hready, hphase, hmine, if_neg hsnap, Bool.not_true, Bool.false_eq_true, if_false, if_true]

/-- Over a failing link any data may have been stored. -/
theorem cdyDeliver_of_link_failure (hmine : s.mailMine m = true) :
    let f := (s.unmail n).freeBytes m.data.length
    s.cdyDeliver n true = ((f.2.store m.buf f.1).raiseSrc Pg.cdy 9).complete n 0x202 0 0 0 := by
  unfold State.cdyDeliver
  simp only [hready, hphase, hmine, Bool.not_true, Bool.false_eq_true, if_false, if_true]

theorem cdyDeliver_of_lost (hlost : s.mailMine m = false) (fails : Bool) :
    s.cdyDeliver n fails = (s.unmail n).complete n 0x10 0 0 0 := by
  unfold State.cdyDeliver
  simp only [hready, hphase, hlost, Bool.not_false, if_true]

end

/-- The Caddy reads UNPOWERED from now on, and the source is raised where it did not read so before. -/
theorem cdyTimeout_of_waiting {s : State} {n : Nat}
    (hwaits : ∃ x ∈ s.cdy.mail, x.slot = n ∧ x.ready = false ∧ (s.cdy.mode ≠ .metering ∨ x.cold = true)) :
    let s1 := { s with link := { s.link with silent := true },
                       cdy := { s.cdy with cal := s.cdy.cal.filter (fun m => m.slot != n) } }
    s.cdyTimeout n = ((if s.cdyGone = true then s1 else s1.raiseSrc Pg.cdy 0).unmail n).complete n 0x201 0 0 0 := by
  have hany : s.cdy.mail.any (fun m => m.slot == n && !m.ready && (!s.cdy.meters || m.cold)) = true := by
    obtain ⟨x, hmem, hslot, hready, hcold⟩ := hwaits
    exact List.any_eq_true.mpr ⟨x, hmem, by simpa [CdySt.meters, hslot, hready] using hcold⟩
  exact if_pos hany

/-- Settles O47: each command passes its checks, and each answer finds its command; the effect is the equation of that case. -/
theorem caddyCommandsComplete : Obligations.CaddyCommandsComplete := by
  refine ⟨⟨?points, ?events⟩, ⟨?ident, ?logRead, ?snapshot, ?viewSet, ?publish, ?commit, ?harmonics, ?paramLoad, ?paramRead,
    ?pilotStatus, ?cal, ?imageLoad⟩, ?answer, ?timeout⟩
  case points =>
    intro s hup hmetrology henabled
    exact finish_whenUp hup (cdyPublishPoints_of_enabled hup hmetrology henabled)
  case events =>
    intro s hup
    exact finish_whenUp hup (cdyPost_of_up hup)
  case ident =>
    refine takes_of (body := cdyIdentBody) (fun _ _ => rfl) ?_
    rintro c t ⟨hmetrology, hfatal, hroom⟩
    exact cdyIdentBody_hands hmetrology hfatal hroom
  case logRead =>
    refine takes_of (body := cdyLogReadBody) (fun _ _ => rfl) ?_
    rintro c t ⟨hmetrology, hfatal, hroom, hsome, hmost, hbuf⟩
    exact cdyLogReadBody_hands hmetrology hfatal hroom hsome hmost hbuf
  case snapshot =>
    refine takes_of (body := cdySnapshotBody) (fun _ _ => rfl) ?_
    rintro c t ⟨hmetrology, hfatal, hroom, hbuf⟩
    exact cdySnapshotBody_hands hmetrology hfatal hroom hbuf
  case viewSet =>
    refine takes_of (body := cdyViewSetBody) (fun _ _ => rfl) ?_
    rintro c t ⟨hmetrology, hcirc, hglove, htenant, hfatal, hroom, hpowered⟩
    exact cdyViewSetBody_journals hmetrology hfatal hroom htenant hpowered hcirc hglove
  case publish =>
    refine takes_of (body := cdyPublishBody) (fun _ _ => rfl) ?_
    rintro c t ⟨hmetrology, htenant, hfatal, hroom, hpowered, hbase, hlast⟩
    exact cdyPublishBody_journals hmetrology hfatal hroom htenant hpowered hbase hlast
  case commit =>
    refine takes_of (body := cdyCommitBody) (fun _ _ => rfl) ?_
    rintro c t ⟨hmetrology, hfatal, hroom⟩
    exact cdyCommitBody_hands hmetrology hfatal hroom
  case harmonics =>
    refine takes_of (body := cdyHarmonicsBody) (fun _ _ => rfl) ?_
    rintro c t ⟨hmetrology, hfatal, hroom, hcirc, hbuf, hview⟩
    exact cdyHarmonicsBody_hands hmetrology hfatal hroom hcirc hbuf hview
  case paramLoad =>
    intro fails
    refine takes_of (body := cdyParamLoadBody fails) (fun _ _ => rfl) ?_
    rintro c t ⟨hmetrology, hfatal, hroom, hbuf, htenant⟩
    exact cdyParamLoadBody_hands hmetrology hfatal hroom htenant hbuf fails
  case paramRead =>
    refine takes_of (body := cdyParamReadBody) (fun _ _ => rfl) ?_
    rintro c t ⟨hmetrology, hfatal, hroom, hbuf⟩
    exact cdyParamReadBody_hands hmetrology hfatal hroom hbuf
  case pilotStatus =>
    refine takes_of (body := cdyPilotStatusBody) (fun _ _ => rfl) ?_
    rintro c t ⟨hmetrology, hfatal, hroom, hpath, hmine⟩
    exact cdyPilotStatusBody_hands hmetrology hfatal hroom hpath hmine
  case cal =>
    refine takes_of (body := cdyCalBody) (fun _ _ => rfl) ?_
    rintro c t ⟨hmetrology, hfatal, hroom, hpath, hleast, hmost, hwhole, hbuf, htenant, hcal, hseal, hmode⟩
    exact cdyCalBody_hands hmetrology hfatal hroom htenant hpath hleast hmost hwhole hbuf hcal hseal hmode
  case imageLoad =>
    intro fails
    refine takes_of (body := cdyImageLoadBody fails) (fun _ _ => rfl) ?_
    rintro c t ⟨hmetrology, hfatal, hroom, hsome, hmost, hbuf, htenant⟩
    exact cdyImageLoadBody_hands hmetrology hfatal hroom htenant hsome hmost hbuf fails
  case answer =>
    intro s n m hup hready hphase s1
    refine ⟨fun hmine hplain => ?mine, fun hmine => ?link, fun hlost fails => ?lost⟩
    case mine =>
      exact finish_whenUp hup (cdyDeliver_of_mine hready hphase hmine hplain)
    case link => exact finish_whenUp hup (cdyDeliver_of_link_failure hready hphase hmine)
    case lost => exact finish_whenUp hup (cdyDeliver_of_lost hready hphase hlost fails)
  case timeout =>
    intro s n hup hwaits
    exact finish_whenUp hup (cdyTimeout_of_waiting hwaits)

end Sys2Proof.Machine
end

section
/-! The accumulators (spec/11 R299, R301): what a booking and a change of QUANTUM keep, with the statement on them. -/

namespace Sys2Proof.Machine

theorem accD_pos {quantum : Nat} (hquantum : 0 < quantum) : 0 < accD quantum :=
  Nat.mul_pos (by decide) hquantum

namespace Acc

section
variable (a : Acc) (quantum n : Nat)

theorem book_f_lt : (a.book quantum n).1.f < 2 ^ 32 :=
  Nat.mod_lt _ (by decide)

theorem book_rem_lt {quantum : Nat} (hquantum : 0 < quantum) : (a.book quantum n).1.rem < accD quantum :=
  Nat.mod_lt _ (accD_pos hquantum)

theorem book_reg : (a.book quantum n).1.reg = a.reg + (a.book quantum n).2 * quantum := rfl

/-- Steps 2 and 3 of R299: the quanta that leave F are those that reach REG. -/
theorem book_carry : (a.book quantum n).2 * 2 ^ 32 + (a.book quantum n).1.f
    = a.f + (2 ^ 32 * n + a.rem) / accD quantum :=
  Nat.div_add_mod' _ _

/-- Step 1 of R299: what the numerator and the old remainder hold goes into ΔF, and the rest into the new remainder. -/
theorem book_divide : (2 ^ 32 * n + a.rem) / accD quantum * accD quantum + (a.book quantum n).1.rem
    = 2 ^ 32 * n + a.rem :=
  Nat.div_add_mod' _ _

theorem book_conserves :
    ((a.book quantum n).1.reg * 2 ^ 32 + (a.book quantum n).1.f * quantum) * (2 ^ 60 * 28800000)
        + (a.book quantum n).1.rem
      = (a.reg * 2 ^ 32 + a.f * quantum) * (2 ^ 60 * 28800000) + a.rem + 2 ^ 32 * n := by
  have hcarry := a.book_carry quantum n
  have hdivide := a.book_divide quantum n
  rw [book_reg]
  generalize (a.book quantum n).2 = k at *
  generalize (a.book quantum n).1 = b at *
  generalize (2 ^ 32 * n + a.rem) / accD quantum = df at *
  calc ((a.reg + k * quantum) * 2 ^ 32 + b.f * quantum) * (2 ^ 60 * 28800000) + b.rem
      = (a.reg * 2 ^ 32 + (k * 2 ^ 32 + b.f) * quantum) * (2 ^ 60 * 28800000) + b.rem := by ring
    _ = (a.reg * 2 ^ 32 + (a.f + df) * quantum) * (2 ^ 60 * 28800000) + b.rem := by rw [hcarry]
    _ = (a.reg * 2 ^ 32 + a.f * quantum) * (2 ^ 60 * 28800000) + (df * accD quantum + b.rem) := by
      rw [accD]; ring
    _ = (a.reg * 2 ^ 32 + a.f * quantum) * (2 ^ 60 * 28800000) + a.rem + 2 ^ 32 * n := by
      rw [hdivide]; ring

end

section
variable (a : Acc) (old new : Nat)

/-- The whole µWh of F go to REG; what is left of them is what the new quantum divides. -/
theorem rescale_conserves : (a.rescale old new).reg * 2 ^ 32 + a.f * old % 2 ^ 32 = a.reg * 2 ^ 32 + a.f * old := by
  rw [rescale, Nat.add_mul, Nat.add_assoc, Nat.div_add_mod']

theorem rescale_le : (a.rescale old new).reg * 2 ^ 32 + (a.rescale old new).f * new ≤ a.reg * 2 ^ 32 + a.f * old := by
  rw [← a.rescale_conserves old new]
  exact Nat.add_le_add_left (Nat.div_mul_le_self _ _) _

theorem lt_rescale_add {new : Nat} (hnew : 0 < new) :
    a.reg * 2 ^ 32 + a.f * old < (a.rescale old new).reg * 2 ^ 32 + (a.rescale old new).f * new + new := by
  rw [← a.rescale_conserves old new, Nat.add_assoc]
  exact Nat.add_lt_add_left (Nat.lt_div_mul_add hnew) _

end

end Acc

/-- Settles O44: a booking moves exact quotients and keeps their remainders, and a change of QUANTUM drops less than one part of
the new F. -/
theorem bookingLosesNothing : Obligations.BookingLosesNothing := by
  refine ⟨fun a quantum n hquantum => ?book, fun a old new hnew _ => ?rescale⟩
  case book =>
    have hgrows : a.reg ≤ (a.book quantum n).1.reg := Nat.le_add_right _ _
    exact ⟨a.book_conserves quantum n, a.book_f_lt quantum n, a.book_rem_lt n hquantum, hgrows, a.book_reg quantum n⟩
  case rescale =>
    exact ⟨rfl, rfl, rfl, a.rescale_le old new, a.lt_rescale_add old hnew⟩

end Sys2Proof.Machine
end

section
/-! The rollback count and the bar of a trial (spec/21 R547), the end of a command (spec/22 R559) and the queue of commands, with
the statements on them. -/

namespace Sys2Proof.Machine

-- The rollback count (spec/21 R547)

/-- Time passing and every command keep what `Keeps` says; a command does not look at the queue's rest. -/
theorem step_rollback {s t : State} (hbound : s.upd.rollback ≤ 64) (hstep : step s = .next t) :
    s.upd.rollback ≤ t.upd.rollback ∧ t.upd.rollback ≤ 64 := by
  cases hqueue : s.pending with
  | nil =>
    cases (step_of_no_command hqueue).symm.trans hstep
    have hkeeps := idleStep_keeps (Keeps.refl s)
    exact ⟨hkeeps.rollback, hkeeps.bound hbound⟩
  | cons c rest =>
    have hkeeps := keeps_of_exec_next ((step_of_command hqueue).symm.trans hstep)
    exact ⟨hkeeps.rollback, hkeeps.bound hbound⟩

/-- A trial, armed or running, is found at the fourth check, whether or not the page runs (spec/04 R96). -/
theorem updBeginBody_on_trial {c : Ctx} {t : State}
    (hbuf : t.bufOk c (c.addr 1) (512 + (if hdrFormat (t.load (c.addr 1) 512) = true
      then 48 * hdrChunks (t.load (c.addr 1) 512) else 0)) = true)
    (hremain : c.b 0 0 = true → c.f 0 8 7 ≠ 0) (htenant : c.tenant = false)
    (htrial : t.sys.trial = true ∨ t.upd.record.armed ≠ none) : updBeginBody c t = t.complete c.slot 0x0101 0 0 0 := by
  have hargs : (c.b 0 0 && c.f 0 8 7 == 0) = false := by simpa using hremain
  have hbarred : t.onTrial = true := by simpa [State.onTrial, Option.isSome_iff_ne_none] using htrial
  unfold updBeginBody
  simp only [hbuf, hargs, htenant, hbarred, Bool.not_true, Bool.or_false, Bool.or_true, Bool.false_eq_true, if_false, if_true]
  rfl

/-- Settles O4: the count is among what every step keeps, and UPD_BEGIN's fourth check asks for a trial. -/
theorem rollbackNeverFalls : Obligations.RollbackNeverFalls := by
  refine ⟨fun s t => step_rollback, Nat.zero_le 64, ?barred⟩
  case barred =>
    refine takes_of (body := updBeginBody) (fun _ _ => rfl) ?_
    rintro c t ⟨hbuf, hremain, htenant, htrial⟩
    exact updBeginBody_on_trial hbuf hremain htenant htrial

/-- Settles O6: the laws of the end of a command, of one that raised no fault and of one that leaves nothing waiting. -/
theorem endOfCommandFrame : Obligations.EndOfCommandFrame := by
  refine ⟨fun s u hocc hsound => finish_same hocc hsound, fun s u hidle => ?idle⟩
  case idle =>
    obtain ⟨hmem, hcmd, hcan⟩ := idle_settled s u hidle
    exact ⟨s.settled u, rfl, fun a => congrArg (rd8 · a) hmem, hcmd, hcan⟩

/-- Settles O1: the two equations of a step. -/
theorem stepRunsTheFrontCommand : Obligations.StepRunsTheFrontCommand :=
  ⟨fun _ _ _ => step_of_command, fun _ => step_of_no_command⟩

end Sys2Proof.Machine
end

section
/-! Faults, power and clocks (spec/22, spec/23), and the VBAT domain (spec/15 R425, spec/23 R608): one equation per case of what
happens to the supplies, the clocks and the records, what a power cycle keeps, and the statements on them. -/

namespace Sys2Proof.Machine

/-- A write that gets to its register ends in the state that it makes. -/
theorem finish_onWrite {s t : State} {r : Requester} {g p off : Nat} {f : Nat → State → State}
    (hw : s.writes r g p off = true) (h : f g s = t) : finish s (s.onWrite r p off f) = .next (s.settled t) :=
  congrArg (finish s) ((onWrite_writes hw f).trans h)

-- Severities (spec/22 R561, R576)

theorem sevWrite_of_source {s : State} {src : Nat} (hsrc : (srcRow src).isSome = true) (v : Nat) :
    s.sevWrite src v = { s with flt := { s.flt with
      sev := Sparse.set srcDefault s.flt.sev src (if 5 ≤ v then 4 else max v (srcFloor src)) } } := if_pos hsrc

theorem sevDefaults_keyed {s : State} {v : Word} (hkey : bf v 16 16 = 0x5EB0) (hcmd : bit v 0 = true) :
    s.sevDefaults v = { s with flt := { s.flt with sev := [] } } := if_pos ⟨hkey, hcmd⟩

/-- Settles O23: the write gets to its register, where a spoilt word first returns to its default. -/
theorem severitiesAreWritten : Obligations.SeveritiesAreWritten := by
  refine ⟨?severity, ?defaults⟩
  case severity =>
    intro s r g v hw src hsrc w ecc s1
    exact finish_onWrite hw (sevWrite_of_source hsrc _)
  case defaults =>
    intro s r g v hw hkey hcmd
    exact finish_onWrite hw (sevDefaults_keyed hkey hcmd)

-- Loss of power and its return (spec/22 R571 to R573, spec/02 R49, spec/23 R605)

theorem pfwAssert_of_off {s : State} (hpowered : s.powered = true) (hseq : s.pwr.seq = .off) :
    s.pfwAssert = if s.sys.mode = .startup then { s with pwr := { s.pwr with seq := .startupHalt } } else s.seqBegin none := by
  simp [State.pfwAssert, hpowered, hseq]

/-- With no Kettle commit in progress the integrators and the record are left to write. -/
theorem seqEnd_of_running {s : State} {cause : Option Nat} (hseq : s.pwr.seq = .running cause) (hclock : s.clk.gated = false)
    (hroot : s.clk.rootLocked = true) (hrecovery : s.sys.mode ≠ .recovery) (hstartup : s.sys.mode ≠ .startup)
    (hcommits : s.ktl.commits = []) (ok : Bool) :
    let s1 := { s with ktl := { s.ktl with pendingC := [] } }.commitIntegrators ok
    s.seqEnd ok = { s1 with
      nv := { s1.nv with restart := { s1.nv.restart with lastStop := if cause = none then 1 else 3 } },
      pwr := { s1.pwr with seq := .done cause } } := by
  simp [State.seqEnd, hseq, hclock, hroot, hrecovery, hstartup, hcommits, Sparse.keys]

theorem seqRestart_of_done {s : State} {cause : Option Nat} (hseq : s.pwr.seq = .done cause) :
    s.seqRestart = s.powerCycle .regulators .startup (cause.getD 1) := by
  unfold State.seqRestart
  rw [hseq]

theorem resetRelease_of_low {s : State} (hlow : s.clk.resetLow = true) (hmode : s.sys.mode ≠ .backup) :
    s.resetRelease = { s with clk := { s.clk with resetLow := false },
                              sys := { s.sys with stage := .regulators, bootCause := 2 } } := by
  simp [State.resetRelease, hlow, hmode]

-- What a power cycle keeps of the groups (spec/09 R252)

/-- What MRAM keeps of a group: a group HELD or CLAIMING is IDLE after the cycle, with its epochs as they were. -/
def GroupSt.kept (g : GroupSt) : GroupSt :=
  { st := if g.st = .held ∨ g.st = .claiming then .idle else g.st, epoch := g.epoch, known := g.known, nodeEpoch := g.nodeEpoch }

section
variable {α : Type} [DecidableEq α] (d : Nat → α) (f : α → α)

/-- A table written again entry by entry, over the table `m`. -/
def Sparse.rewrite (l m : Sparse α) : Sparse α := l.foldl (fun m e => Sparse.set d m e.1 (f e.2)) m

variable {d f}

/-- Keys below those written stay. -/
theorem Sparse.get_rewrite_below {l : Sparse α} : ∀ {m : Sparse α} {lo k : Nat}, Sparse.sortedFrom lo l = true → k < lo →
    Sparse.wf d m = true → Sparse.get d (Sparse.rewrite d f l m) k = Sparse.get d m k := by
  induction l with
  | nil => intros; rfl
  | cons e t ih =>
    intro m lo k hsorted hk hm
    simp only [Sparse.sortedFrom, Bool.and_eq_true, decide_eq_true_eq] at hsorted
    obtain ⟨hlo, hrest⟩ := hsorted
    refine (ih hrest (by omega) (Sparse.wf_set hm _ _)).trans ?_
    exact Sparse.get_set_ne d (Sparse.wf_sorted hm) _ (by omega)

/-- Of a sorted table, over one that holds nothing from its first key on, each entry reads as it was written again. -/
theorem Sparse.get_rewrite (hd : ∀ k, f (d k) = d k) {l : Sparse α} : ∀ {m : Sparse α} {lo k : Nat},
    Sparse.sortedFrom lo l = true → lo ≤ k → Sparse.wf d m = true → (∀ j, lo ≤ j → Sparse.get d m j = d j) →
    Sparse.get d (Sparse.rewrite d f l m) k = f (Sparse.get d l k) := by
  induction l with
  | nil =>
    intro m lo k _ hk _ hempty
    exact (hempty k hk).trans (hd k).symm
  | cons e t ih =>
    intro m lo k hsorted hk hm hempty
    obtain ⟨i, v⟩ := e
    simp only [Sparse.sortedFrom, Bool.and_eq_true, decide_eq_true_eq] at hsorted
    obtain ⟨hlo, hrest⟩ := hsorted
    have hset : Sparse.wf d (Sparse.set d m i (f v)) = true := Sparse.wf_set hm _ _
    have hother {j : Nat} (hj : j ≠ i) : Sparse.get d (Sparse.set d m i (f v)) j = Sparse.get d m j :=
      Sparse.get_set_ne d (Sparse.wf_sorted hm) _ hj
    change Sparse.get d (Sparse.rewrite d f t (Sparse.set d m i (f v))) k = _
    obtain hbelow | rfl | habove := Nat.lt_trichotomy k i
    · rw [Sparse.get_rewrite_below hrest (by omega) hset, hother (by omega), hempty k hk,
        Sparse.get_below d (lo := i) (by simpa [Sparse.sortedFrom] using hrest) hbelow, hd]
    · rw [Sparse.get_rewrite_below hrest (by omega) hset, Sparse.get_set_same d (Sparse.wf_sorted hm)]
      simp [Sparse.get]
    · rw [ih hrest (by omega) hset fun j hj => (hother (by omega)).trans (hempty j (by omega))]
      simp [Sparse.get, habove.ne', habove.not_gt]

end

theorem powerCycle_groups (s : State) (st : Stage) (m : Mode) (cause : Nat) :
    (s.powerCycle st m cause).lse.groups = Sparse.rewrite (dflt {}) GroupSt.kept s.lse.groups [] := rfl

theorem powerCycle_epoch {s : State} (hwf : Sparse.wf (dflt {}) s.lse.groups = true) (st : Stage) (m : Mode) (cause n : Nat) :
    (Sparse.get (dflt {}) (s.powerCycle st m cause).lse.groups n).epoch = (Sparse.get (dflt {}) s.lse.groups n).epoch := by
  rw [powerCycle_groups, Sparse.get_rewrite (f := GroupSt.kept) (fun _ => by rfl) (Sparse.wf_sorted hwf) (Nat.zero_le n)
    (Sparse.wf_nil _) fun _ _ => rfl]
  rfl

/-- Settles O25: each row's condition holds, and the effect is the equation of that case; a power cycle is written field by
field. -/
theorem powerIsLostAndComesBack : Obligations.PowerIsLostAndComesBack := by
  refine ⟨⟨?pfw, ?retry, ?commit, ?restart, ?dark, ?assert, ?release⟩, ?kept⟩
  case pfw =>
    intro s hpowered hseq
    exact congrArg (finish s) (pfwAssert_of_off hpowered hseq)
  case retry => exact fun s hseq => congrArg (finish s) (if_pos hseq)
  case commit =>
    intro s cause hseq hclock hroot hrecovery hstartup hcommits ok
    exact congrArg (finish s) (seqEnd_of_running hseq hclock hroot hrecovery hstartup hcommits ok)
  case restart => exact fun s cause hseq => congrArg (finish s) (seqRestart_of_done hseq)
  case dark => exact fun s hmode => congrArg (finish s) (if_neg hmode)
  case assert => exact fun s hmode => congrArg (finish s) (if_neg hmode)
  case release => exact fun s hlow hmode => congrArg (finish s) (resetRelease_of_low hlow hmode)
  case kept =>
    intro s st m cause
    exact ⟨rfl, rfl, rfl, rfl, rfl, rfl, rfl, rfl, rfl, rfl, rfl, rfl, rfl, rfl, rfl, rfl, rfl, rfl, rfl,
      fun hwf n => powerCycle_epoch hwf st m cause n⟩

-- Clocks, supplies and temperature (spec/22 R579, R580, spec/23 R593, R595)

theorem vioChange_lost {s : State} {b : Nat} (hgood : s.fio.vio.contains b = true) :
    s.vioChange b false = ({ s with fio := { s.fio with vio := delN s.fio.vio b, bankOff := addN s.fio.bankOff b } }
      : State).raiseSrc Pg.dio 1 := if_pos hgood

/-- Settles O27: each row's condition holds, and the effect is the equation of that case. -/
theorem clocksAndSuppliesAreWatched : Obligations.ClocksAndSuppliesAreWatched := by
  refine ⟨⟨?lost, ?back, ?measure⟩, ?supplies, ?battery, ?bank⟩
  case lost => exact fun s hup => congrArg (finish s) (if_pos hup)
  case back => exact fun _ => rfl
  case measure => exact fun s v hup => congrArg (finish s) (if_pos hup)
  case supplies =>
    intro s v hpowered
    refine ⟨?_, ?_, ?_, ?_, ?_, ?_, ?_, ?_, ?_⟩ <;> exact congrArg (finish s) (if_pos hpowered)
  case battery =>
    intro s v hpowered hok
    exact congrArg (finish s) ((if_pos hpowered).trans (if_pos hok))
  case bank => exact fun s b hgood => congrArg (finish s) (vioChange_lost hgood)

-- The VBAT domain (spec/15 R425, spec/20 R531, spec/23 R608)

theorem vbmReadBody_answers {c : Ctx} {t : State} (htenant : c.tenant = false) :
    vbmReadBody c t =
      (if c.b 0 0 = true then { t with vbat := { t.vbat with openings := 0 } } else t).complete c.slot 0
        (wd (t.vbat.csealOpen.toNat + 2 * t.vbat.tamperOpen.toNat + 65536 * t.vbat.openings)) t.vbat.chDate t.vbat.chTime := by
  simp [vbmReadBody, htenant, State.done, State.fin]

theorem tamperIn_of_powered {s : State} (hpowered : s.powered = true) (vbat : Bool) : s.tamperIn vbat = s.tamperNow :=
  if_pos hpowered

/-- Settles O28: each row's condition holds, and the effect is the equation of that case. -/
theorem theVbatDomainRecords : Obligations.TheVbatDomainRecords := by
  refine ⟨fun _ => rfl, ?cover, ?read, ?tamper⟩
  case cover => exact fun s o hchange => congrArg (finish s) (if_neg hchange)
  case read => exact takes_of (body := vbmReadBody) (fun _ _ => rfl) fun _ _ => vbmReadBody_answers
  case tamper => exact fun s hpowered => ⟨congrArg (finish s) (tamperIn_of_powered hpowered false), rfl⟩

end Sys2Proof.Machine
end

section
/-! The Caddy's pilots and references (spec/12): the end of a pilot interval, the references, the drivers and the parameter blocks,
with the statements on them. -/

namespace Sys2Proof.Machine

namespace CdySt

variable {c : CdySt}

-- The end of a pilot interval (spec/12 R323 to R327, R333)

theorem endInterval_broken {i broken : Nat} {bs : List (Option Nat)} (hended : (c.path i).ended = some (broken, bs))
    (hwhy : broken ≠ 0 ∨ estimate bs = none) :
    c.endInterval i = (c.setPath i { c.path i with ended := none }).noEstimate i (if broken = 0 then 1 else broken) := by
  unfold endInterval
  by_cases hbroken : broken = 0
  · simp [hended, hbroken, hwhy.resolve_left (not_not_intro hbroken)]
  · simp [hended, hbroken]

section
variable {i est spread : Nat} {bs : List (Option Nat)} (hended : (c.path i).ended = some (0, bs))
  (hest : estimate bs = some (est, spread))
include hended hest

theorem endInterval_spread (hspread : accepted spread (prmPilotRef c.prm i) = false) :
    c.endInterval i = (c.setPath i { c.path i with ended := none }).noEstimate i 2 := by
  simp [endInterval, hended, hest, hspread]

/-- The path with an accepted estimate, before its trim moves. -/
def estimated (c : CdySt) (i est : Nat) : PathSt :=
  { c.path i with ended := none, asub := some est, lastAcc := c.time.sec, lastStale := c.time.sec }

variable (hspread : accepted spread (prmPilotRef c.prm i) = true)
include hspread

theorem endInterval_held (hheld : c.pathHeld i = true) :
    c.endInterval i
      = c.setTrim i { c.estimated i est with st := if (c.path i).st = 1 then 2 else (c.path i).st } := by
  simp [endInterval, estimated, hended, hest, hspread, hheld]

variable (hfree : c.pathHeld i = false)
include hfree

/-- Past the drift limit the trim goes on to the bound on its side. -/
theorem endInterval_drifted (hst : (c.path i).st = 3) :
    c.endInterval i = c.setTrim i { c.estimated i est with
      tau := trimMove (c.path i).tau (if (c.path i).low = true then 0 else 2 ^ 40) } := by
  simp [endInterval, estimated, hended, hest, hspread, hfree, hst]

variable (hst : (c.path i).st ≠ 3)
include hst

theorem endInterval_within (hdrift : driftOut est (prmPilotRef c.prm i) = false) :
    c.endInterval i = c.setTrim i { c.estimated i est with
      st := 2, tau := trimMove (c.path i).tau (trimTarget est (prmPilotRef c.prm i)) } := by
  simp [endInterval, estimated, hended, hest, hspread, hfree, hst, hdrift]

theorem endInterval_drifts (hdrift : driftOut est (prmPilotRef c.prm i) = true) :
    let ref := prmPilotRef c.prm i
    c.endInterval i = ((c.logEv 0x50 [wd (unsigned 32 (driftPpm est ref)), wd (c.path i).tau.toNat] i).setTrim i
      { c.estimated i est with
        st := 3, low := decide (ref < est), tau := trimMove (c.path i).tau (if ref < est then 0 else 2 ^ 40) }).raiseRows
        (fun r => if c.rowUses r i = true then 4 else 0) := by
  simp [endInterval, estimated, hended, hest, hspread, hfree, hst, hdrift]

end

theorem accepted_eq_false {spread ref : Nat} (h : ref * 1349 * 8 < spread * 1000 * 2 ^ 15) : accepted spread ref = false :=
  decide_eq_false (Nat.not_le.mpr h)

-- References, drivers and overdue estimates (spec/12 R330 to R333)

/-- Without a calibration in hand no measurement takes the ratio; one out by more than 20 ppm opens a split. -/
theorem vrefMeasure_splits {b : List Byte} {rho : Nat} (hparam : c.param = some b) (hmode : c.mode = .metering)
    (hcal : c.cal = none) (hsplit : c.split = false)
    (hout : prmVref b * 50 < ((rho : Int) - prmVref b).natAbs * 1000000) :
    c.vrefMeasure rho =
      ({ c with split := true, splitSince := c.ticks, fbSplit := c.fallback, agree := 0 } : CdySt).logEv 0x51
        [wd (unsigned 32 (if prmVref b = 0 then 0
          else freeRound (((rho : Int) - prmVref b) * 1000000000) (prmVref b)))] := by
  unfold vrefMeasure
  simp only [hparam, hmode, hcal, hout, hsplit, decide_true, Option.map_none, Bool.false_eq_true, if_true, if_false]

theorem driverEvent_fails {p : Nat} (hgood : (c.drv p).fault = false) (hbad : 8 ≤ (c.drv p).bad) :
    c.driverEvent p true = (c.served p).foldl (fun (a : CdySt) i => a.setPath i { a.path i with broken := 3 })
      ((c.setDrv p { c.drv p with fault := true, clean := 0, dirty := true, trying := false }).logEv 0x54 [1] (0x200 + p)) :=
  if_pos ⟨hgood, hbad⟩

theorem driverEvent_recovers {p : Nat} (hfault : (c.drv p).fault = true) (hclean : 64 ≤ (c.drv p).clean) :
    c.driverEvent p false = (c.served p).foldl (fun (a : CdySt) i => a.setPath i { a.path i with broken := 3 })
      ((c.setDrv p { c.drv p with fault := false, bad := 0, clean := 0, trying := false }).logEv 0x54 [0] (0x200 + p)) :=
  if_pos ⟨hfault, hclean⟩

theorem pilotStale_of_overdue {i : Nat} (hmode : c.mode = .metering) (hstate : c.pathState i ≠ 0)
    (hover : (c.path i).lastStale + 2592000 ≤ c.time.sec) :
    c.pilotStale i = (c.setPath i { c.path i with lastStale := c.time.sec }).logEv 0x55
      [wd ((c.time.sec - (c.path i).lastAcc) / 86400)] i := if_pos ⟨hmode, hstate, hover⟩

end CdySt

/-- Settles O46: in each case the Caddy's path, reference or driver is as the event asks, and what becomes of it is the equation
of that case. -/
theorem pilotsAreWatched : Obligations.PilotsAreWatched := by
  refine ⟨⟨?broken, ?split, ?fails, ?recovers, ?stale⟩, ?interval⟩
  case broken =>
    intro s i broken bs hended hwhy
    exact finish_onCaddy_congr (CdySt.endInterval_broken hended hwhy)
  case split =>
    intro s rho b hparam hmode hcal hsplit hout
    exact finish_onCaddy_congr (CdySt.vrefMeasure_splits hparam hmode hcal hsplit hout)
  case fails =>
    intro s p hgood hbad
    exact finish_onCaddy_congr (CdySt.driverEvent_fails hgood hbad)
  case recovers =>
    intro s p hfault hclean
    exact finish_onCaddy_congr (CdySt.driverEvent_recovers hfault hclean)
  case stale =>
    intro s i hmode hstate hover
    exact finish_onCaddy_congr (CdySt.pilotStale_of_overdue hmode hstate hover)
  case interval =>
    intro s i bs est spread hended hest x ref y move out
    refine ⟨fun hspread => ?spread, fun hspread => ?accepted⟩
    case spread => exact finish_onCaddy_congr (CdySt.endInterval_spread hended hest (CdySt.accepted_eq_false hspread))
    case accepted =>
      have hok : accepted spread (prmPilotRef s.cdy.prm i) = true := decide_eq_true hspread
      refine ⟨fun hheld => ?_, fun hfree hst => ?_, fun hfree hst hout => ?_, fun hfree hst hout => ?_⟩
      · exact finish_onCaddy_congr (CdySt.endInterval_held hended hest hok hheld)
      · exact finish_onCaddy_congr (CdySt.endInterval_drifted hended hest hok hfree hst)
      · exact finish_onCaddy_congr (CdySt.endInterval_within hended hest hok hfree hst (decide_eq_false hout))
      · exact finish_onCaddy_congr (CdySt.endInterval_drifts hended hest hok hfree hst (decide_eq_true hout))

-- Parameter blocks (spec/12 R337)

/-- The PARAM_ID is a value of one word, which no latch holds. -/
theorem readReg_cdy_paramId {s : State} (hgone : s.cdyGone = false) (b g : Nat) :
    s.readReg b g Pg.cdy Rg.CDY_PARAM_ID = wd s.cdy.paramId := by
  have hlive : s.liveCdy Rg.CDY_PARAM_ID = wd s.cdy.paramId := by
    unfold State.liveCdy
    rw [hgone]
    rfl
  have hread : s.readReg b g Pg.cdy Rg.CDY_PARAM_ID = s.readCdy b Rg.CDY_PARAM_ID := rfl
  rw [hread, State.readCdy]
  split
  · exact (if_neg fun ⟨hbase, _⟩ => hbase rfl).trans hlive
  · exact hlive

namespace CdySt

variable {c : CdySt} {b : List Byte} (hold : getLE b 8 4 ≤ c.paramId)
include hold

/-- Of the checks before that of the PARAM_ID each that fails has its own reason. -/
theorem blockReason_of_older (market : Nat) (fails : Bool) : (c.blockReason market b fails).isSome = true := by
  unfold blockReason
  simp only [hold, if_true]
  split_ifs <;> rfl

theorem deliverBlock_of_older (market slot : Nat) (fails : Bool) :
    (c.deliverBlock market slot b fails).param = c.param
      ∧ (c.deliverBlock market slot b fails).paramPend = c.paramPend
      ∧ (c.deliverBlock market slot b fails).acc = c.acc := by
  obtain ⟨r, hreason⟩ := Option.isSome_iff_exists.mp (blockReason_of_older hold market fails)
  unfold deliverBlock
  rw [hreason]
  split <;> exact ⟨rfl, rfl, rfl⟩

end CdySt

/-- Settles O48: the register shows the block in force, and an older block waits or is refused. -/
theorem olderBlocksAreRefused : Obligations.OlderBlocksAreRefused := by
  refine ⟨?read, ?older⟩
  case read =>
    intro s b _ hgone hparam r g
    rw [readReg_cdy_paramId hgone, CdySt.paramId, hparam]
  case older =>
    intro c market slot b fails hold
    exact ⟨CdySt.blockReason_of_older hold market fails, CdySt.deliverBlock_of_older hold market slot fails⟩

end Sys2Proof.Machine
end

section
/-! Points (spec/13): the cycle of the point image and its frames, the records of frames, and the point commands, with the
statements on them. -/

namespace Sys2Proof.Machine

/-- A read that gets to its register ends in the state that it makes. -/
theorem finish_onRead {s t : State} {r : Requester} {g p off : Nat} {f : Nat → State → State}
    (hr : s.reads r g p off = true) (h : f g s = t) : finish s (s.onRead r p off f) = .next (s.settled t) :=
  congrArg (finish s) ((onRead_reads hr f).trans h)

-- The cycle and its frames (spec/13 R354, R359 to R363)

/-- Whether the clocks run is not changed by an error in the point table. -/
theorem pointCheck_coreUp (s : State) (e : Ecc) : (s.pointCheck e).coreUp = s.coreUp := by
  cases e <;> rfl

theorem tpiBoundary_of_up {s : State} (hup : s.coreUp = true) (spoilt : List Nat) :
    let s1 := { s with ptb := { s.ptb with cycle := s.cycleNo, boundAt := some s.now1 } }
    let s2 := s1.closeRing.agePoints.leaseBoundary spoilt
    s.tpiBoundary spoilt = (if s.pfw = true then s2 else s2.publish).postCov := if_pos hup

theorem pointCheck_pfw (s : State) (e : Ecc) : (s.pointCheck e).pfw = s.pfw := by
  cases e <;> rfl

section
variable {s : State} {b : List Byte} (hrunning : s.running Pg.tpi = true) (west : Bool)
include hrunning

theorem tpiReceive_own (hown : tpiField b 6 1 = s.ptb.addr) :
    s.tpiReceive west b
      = { s with ptb := { s.ptb with backE := s.ptb.backE || west, backW := s.ptb.backW || !west } } := by
  simp [State.tpiReceive, hrunning, hown]

variable (hother : tpiField b 6 1 ≠ s.ptb.addr)
include hother

theorem tpiReceive_bad (hbad : s.tpiGood b = false) :
    s.tpiReceive west b = (s.bump Pg.tpi Rg.TPI_BAD_HDR).raiseSrc Pg.tpi 2 := by
  simp [State.tpiReceive, hrunning, hother, hbad]

theorem tpiReceive_good (hgood : s.tpiGood b = true) :
    let f : RxFrame := { west := west, adopt := tpiField b 2 1 % 2 == 1, src := tpiField b 6 1, origin := tpiField b 7 1,
                         cyc := tpiField b 8 4 }
    let s1 := s.bump Pg.tpi Rg.TPI_RX_FRAMES
    let s2 := (rxRuns b (tpiField b 0x0E 2) 46).foldl (fun (a : State) r => a.rxRun f b r) s1
    s.tpiReceive west b = if f.src = bf (s.reg Pg.lse Rg.LSE_CTRL) 8 7 ∧ f.adopt = false then
      { s2 with lse := { s2.lse with partnerNow := true } } else s2 := by
  simp [State.tpiReceive, hrunning, hother, hgood]

end

/-- Settles O36: the boundary comes after the table's error, and each frame is its own, a good one or a bad one. -/
theorem pointsGoRound : Obligations.PointsGoRound := by
  refine ⟨?boundary, ?good, ?own, ?bad, ?latch⟩
  case boundary =>
    intro s e spoilt hup s0 s1 s2
    have hboundary := tpiBoundary_of_up ((pointCheck_coreUp s e).trans hup) spoilt
    rw [pointCheck_pfw] at hboundary
    have hcheck : s.pointCheck e = s0 := by cases e <;> rfl
    rw [hcheck] at hboundary
    exact finish_whenUp hup (hcheck ▸ hboundary)
  case good =>
    intro s west b hup hrunning hother hgood
    exact finish_whenUp hup (tpiReceive_good hrunning west hother hgood)
  case own =>
    intro s west b hup hrunning hown
    exact finish_whenUp hup (tpiReceive_own hrunning west hown)
  case bad =>
    intro s west b hup hrunning hother hbad
    exact finish_whenUp hup (tpiReceive_bad hrunning west hother hbad)
  case latch => exact fun s r g hread => finish_onRead hread rfl

-- Records of frames (spec/13 R352, R361, R362, R372, R373)

/-- The record does not fit its point's entry in the map (spec/13 R361 conditions 3 and 4). -/
def State.rxMismatch (s : State) (p tag : Nat) : Prop :=
  bf (wd tag) 16 6 ≠ mGlove (s.mapW p) ∨ bf (wd tag) 4 3 ≠ mType (s.mapW p) ∨ 5 < bf (wd tag) 0 4

theorem rxCounts_of_fitting {s : State} {f : RxFrame} {p tag : Nat} (hfits : ¬ s.rxMismatch p tag)
    (htakes : s.roleTakes f p = true) : s.rxCounts f p tag = s := by
  simp only [State.rxMismatch, not_or, not_not, Nat.not_lt] at hfits
  obtain ⟨hglove, htype, hqual⟩ := hfits
  simp [State.rxCounts, hglove, htype, htakes, Nat.not_lt.mpr hqual]

/-- Nothing is written, for one of the reasons that the statement lists. -/
def State.rxIdle (s : State) (f : RxFrame) (p tag : Nat) : Prop :=
  s.unused p = true ∨ s.roleTakes f p = false ∨ s.rxMismatch p tag ∨ (s.pointOf p).forced = true ∨ s.running Pg.ptb = false
    ∨ takesEffect (s.pointOf p).held f = false

theorem rxIdle_iff (s : State) (f : RxFrame) (p tag : Nat) :
    s.rxIdle f p tag
      ↔ (s.rxValid f p tag && s.running Pg.ptb && takesEffect (s.pointOf p).held f) = false := by
  simp only [State.rxIdle, State.rxMismatch, State.rxValid, Bool.and_eq_false_iff, Bool.not_eq_false', beq_eq_false_iff_ne,
    decide_eq_false_iff_not, Nat.not_le, ne_eq]
  tauto

/-- What a record that takes effect makes of its point. -/
def State.rxPoint (s : State) (f : RxFrame) (p v tag : Nat) : Point :=
  { (s.pointOf p).put s.tchgNow (wd v) (bf (wd tag) 0 4) with
    age := bf (wd tag) 8 8, ptype := mType (s.mapW p), glove := mGlove (s.mapW p), owner := f.src, dirW := f.west,
    adopted := f.adopt, miss := 0, seen := true, held := some (f.adopt, f.cyc) }

section
variable {s : State} {f : RxFrame} {p tag : Nat} (v : Nat)

theorem rxRecord_idle (h : s.rxIdle f p tag) : s.rxRecord f p v tag = s.rxCounts f p tag := by
  unfold State.rxRecord
  simp only [(rxIdle_iff s f p tag).mp h, Bool.false_eq_true, if_false]

variable (h : ¬ s.rxIdle f p tag)
include h

theorem rxRecord_takes : s.rxRecord f p v tag =
    let s3 := s.setPoint p (s.rxPoint f p v tag)
    if bf (wd tag) 0 4 = 2 ∧ (s.pointOf p).qual ≠ 2 then s3.raiseSrc Pg.tpi 3 else s3 := by
  have hcounts : s.rxCounts f p tag = s := by
    simp only [State.rxIdle, not_or] at h
    obtain ⟨-, htakes, hfits, -⟩ := h
    exact rxCounts_of_fitting hfits (Bool.not_eq_false _ ▸ htakes)
  unfold State.rxRecord
  simp only [hcounts, Bool.not_eq_false _ ▸ mt (rxIdle_iff s f p tag).mpr h, if_true]
  rfl

theorem rxRecord_points : (s.rxRecord f p v tag).ptb = (s.setPoint p (s.rxPoint f p v tag)).ptb := by
  rw [rxRecord_takes v h]
  dsimp only
  split
  · exact raiseSrc_ptb _ _ _
  · rfl

end

theorem put_value (x : Point) (t v : Word) (q : Nat) : (x.put t v q).value = v := by
  unfold Point.put
  split
  · next hsame => exact hsame.1
  · rfl

theorem put_qual (x : Point) (t v : Word) (q : Nat) : (x.put t v q).qual = q := by
  unfold Point.put
  split
  · next hsame => exact hsame.2
  · rfl

theorem pointOf_congr {s t : State} (h : t.ptb = s.ptb) (p : Nat) : t.pointOf p = s.pointOf p := by
  unfold State.pointOf
  rw [h]

section
variable {s : State} (hwf : Sparse.wf (dflt {}) s.ptb.points = true) (p : Nat) (x : Point)
include hwf

theorem pointOf_setPoint_same : (s.setPoint p x).pointOf p = x :=
  Sparse.get_set_same (dflt ({} : Point)) (Sparse.wf_sorted hwf) p x

theorem pointOf_setPoint_ne {q : Nat} (hq : q ≠ p) : (s.setPoint p x).pointOf q = s.pointOf q :=
  Sparse.get_set_ne (dflt ({} : Point)) (Sparse.wf_sorted hwf) x hq

end

-- The point commands (spec/13 R367, R368)

theorem ptReadBody_copies {c : Ctx} {t : State} (hsome : 0 < c.f 1 0 13) (hmost : c.f 1 0 13 ≤ 4096)
    (hlast : c.f 0 0 16 + c.f 1 0 13 ≤ 65536) (hbuf : t.bufOk c (c.addr 2) (16 * c.f 1 0 13) = true) :
    ptReadBody c t = (t.store (c.addr 2) ((List.range (c.f 1 0 13)).flatMap
      (fun k => (t.pointFor t.ptb.points c.g (c.f 0 0 16 + k)).bytes))).complete c.slot 0 (wd (c.f 1 0 13)) (wd t.cycleNo) 0 := by
  have hargs : ¬ (c.f 1 0 13 = 0 ∨ 4096 < c.f 1 0 13 ∨ 65536 < c.f 0 0 16 + c.f 1 0 13
      ∨ (!t.bufOk c (c.addr 2) (16 * c.f 1 0 13)) = true) := by
    rw [hbuf]
    simp only [Bool.not_true, Bool.false_eq_true, or_false]
    omega
  unfold ptReadBody
  simp only [if_neg hargs]
  rfl

/-- The checks of PT_WRITE that do not look at what is written. -/
def State.ptOpen (t : State) (c : Ctx) : Bool :=
  !(t.isFatal
    || !(t.sys.mode == .commission || t.sys.mode == .run || t.sys.mode == .degraded || t.sys.mode == .safe)
    || !t.running Pg.ptb || t.unused (c.f 0 0 16) || !(mRole (t.mapW (c.f 0 0 16)) == 1 || mRole (t.mapW (c.f 0 0 16)) == 3))

section
variable {c : Ctx} {t : State} (hmine : t.ptMine c)
include hmine

theorem ptOpen_of_mine : t.ptOpen c = true := by
  obtain ⟨-, hfatal, hmode, hrunning, hunused, hrole⟩ := hmine
  simp only [List.mem_cons, List.not_mem_nil, or_false] at hmode hrole
  simp [State.ptOpen, hfatal, hmode, hrunning, hunused, hrole, or_assoc]

/-- A write, a force or a release that fits its point's state is carried out. -/
theorem ptWriteBody_mine {force rel : Bool} (hforce : c.b 0 16 = force) (hrel : c.b 0 17 = rel)
    (hone : (force && rel) = false)
    (hplain : (!force && !rel) = true → c.f 2 0 4 ∈ [0, 1, 3, 4] ∧ mKind (t.mapW (c.f 0 0 16)) = 7
      ∧ (t.pointOf (c.f 0 0 16)).forced = false)
    (hforced : rel = true → (t.pointOf (c.f 0 0 16)).forced = true) {y : Point}
    (hy : y = if rel = true then
        { (t.pointOf (c.f 0 0 16)).put t.tchgNow (t.pointOf (c.f 0 0 16)).value 0 with forced := false }
      else if force = true then { t.written (c.f 0 0 16) (c.arg 1) 5 with forced := true }
      else t.written (c.f 0 0 16) (c.arg 1) (c.f 2 0 4)) :
    ptWriteBody c t = (t.setPoint (c.f 0 0 16) y).complete c.slot 0 y.tchg 0 0 := by
  have hopen := ptOpen_of_mine hmine
  obtain ⟨hglove, -⟩ := hmine
  simp only [State.ptOpen, Bool.not_eq_true'] at hopen
  have hargs : (force && rel || (!force && !rel)
      && !(c.f 2 0 4 == 0 || c.f 2 0 4 == 1 || c.f 2 0 4 == 3 || c.f 2 0 4 == 4)) = false := by
    rw [hone, Bool.false_or, Bool.and_eq_false_imp]
    intro h
    obtain ⟨hqual, -, -⟩ := hplain h
    simp only [List.mem_cons, List.not_mem_nil, or_false] at hqual
    simp only [Bool.not_eq_false', Bool.or_eq_true, beq_iff_eq]
    omega
  have hkind : ((!force && !rel) && mKind (t.mapW (c.f 0 0 16)) != 7) = false := by
    rw [Bool.and_eq_false_imp]
    intro h
    obtain ⟨-, hkind, -⟩ := hplain h
    simp [hkind]
  have hfree : ((!force && !rel) && (t.pointOf (c.f 0 0 16)).forced) = false := by
    rw [Bool.and_eq_false_imp]
    intro h
    obtain ⟨-, -, hfree⟩ := hplain h
    exact hfree
  have hheld : (rel && !(t.pointOf (c.f 0 0 16)).forced) = false := by
    rw [Bool.and_eq_false_imp]
    intro h
    simp [hforced h]
  subst hy
  unfold ptWriteBody
  simp only [hforce, hrel, hargs, hglove, hopen, hkind, hfree, hheld, ne_eq, not_true_eq_false, Bool.or_self,
    Bool.false_eq_true, if_false]
  rfl

end

/-- Settles O37: a record is counted or takes effect, and each point command passes its checks. -/
theorem pointCommandsComplete : Obligations.PointCommandsComplete := by
  refine ⟨?record, ?read, ?write, ?force, ?release⟩
  case record =>
    intro s f p v tag m t wrong out s1 s2 none
    refine ⟨fun h => ?idle, fun h => rxRecord_takes v h, fun h hwf => ?point⟩
    case idle =>
      refine (rxRecord_idle v h).trans ?_
      simp [State.rxCounts, s2, s1, wrong, out, m, t, or_assoc, and_assoc]
    case point =>
      intro x
      have hpoint : x = s.rxPoint f p v tag :=
        (pointOf_congr (rxRecord_points v h) p).trans (pointOf_setPoint_same hwf p _)
      rw [hpoint]
      exact ⟨put_value .., put_qual .., rfl, rfl, rfl, rfl, rfl, fun q hq =>
        (pointOf_congr (rxRecord_points v h) q).trans (pointOf_setPoint_ne hwf p _ hq)⟩
  case read =>
    refine takes_of (body := ptReadBody) (fun _ _ => rfl) ?_
    rintro c t ⟨hsome, hmost, hlast, hbuf⟩
    exact ptReadBody_copies hsome hmost hlast hbuf
  case write =>
    refine takes_of (body := ptWriteBody) (fun _ _ => rfl) ?_
    rintro c t ⟨hmine, hforce, hrel, hqual, hkind, hfree⟩
    exact ptWriteBody_mine hmine hforce hrel rfl (fun _ => ⟨hqual, hkind, hfree⟩) nofun rfl
  case force =>
    refine takes_of (body := ptWriteBody) (fun _ _ => rfl) ?_
    rintro c t ⟨hmine, hforce, hrel⟩
    exact ptWriteBody_mine hmine hforce hrel rfl nofun nofun rfl
  case release =>
    refine takes_of (body := ptWriteBody) (fun _ _ => rfl) ?_
    rintro c t ⟨hmine, hforce, hrel, hforced⟩
    exact ptWriteBody_mine hmine hforce hrel rfl nofun (fun _ => hforced) rfl

end Sys2Proof.Machine
end

section
/-! Time (spec/15): what a time base counts, reading and capturing, the servo, and the real-time clock with its calendar, with the
statements on them. -/

namespace Sys2Proof.Machine

-- Time bases as numbers (spec/15 R397)

namespace TmbSt

/-- A time base wraps after 2^64 s. -/
abbrev period : Int := 2 ^ 64 * 1000000000 * 2 ^ 32

theorem toNat_emod_period (v : Int) : (((v % period).toNat : Nat) : Int) = v % period :=
  Int.toNat_of_nonneg (Int.emod_nonneg _ (by decide))

theorem value_setValue (t : TmbSt) (v : Int) : ((t.setValue v).value : Int) = v % period := by
  have hwhole (u : Nat) : (u / 2 ^ 32 / 1000000000 * 1000000000 + u / 2 ^ 32 % 1000000000) * 2 ^ 32 + u % 2 ^ 32 = u := by
    rw [Nat.div_add_mod', Nat.div_add_mod']
  rw [value, setValue, hwhole]
  exact toNat_emod_period v

theorem setValue_ns_lt (t : TmbSt) (v : Int) : (t.setValue v).ns < 1000000000 := Nat.mod_lt _ (by decide)

theorem setValue_frac_lt (t : TmbSt) (v : Int) : (t.setValue v).frac < 2 ^ 32 := Nat.mod_lt _ (by decide)

theorem setValue_sec_lt (t : TmbSt) (v : Int) : (t.setValue v).sec < 2 ^ 64 := by
  have hlt : (v % period).toNat < 2 ^ 64 * 1000000000 * 2 ^ 32 := by
    have hmod := Int.emod_lt_of_pos v (show (0 : Int) < period by decide)
    rw [period] at hmod ⊢
    omega
  exact Nat.div_lt_of_lt_mul (by rw [Nat.mul_comm]; exact Nat.div_lt_of_lt_mul (by rw [Nat.mul_comm]; exact hlt))

end TmbSt

-- Reading and capturing (spec/15 R398, R417)

/-- Time base `k` as it stands goes to the capture registers of page `n`. -/
def State.captured (s : State) (n : Nat) (a : State) (k : Nat) : State :=
  let p := Pg.tmb n
  (((a.setReg p (Rg.TMB_CAP_NS + 16 * k) (wd (s.tmb k).ns)).setReg p (Rg.TMB_CAP_SEC_LO + 16 * k) (wd (s.tmb k).sec)).setReg
    p (Rg.TMB_CAP_SEC_HI + 16 * k) (wd ((s.tmb k).sec / 2 ^ 32))).setReg p (Rg.TMB_CAP_FRAC + 16 * k) (wd (s.tmb k).frac)

theorem captured_tmb (s : State) (n : Nat) (a : State) (k j : Nat) : (s.captured n a k).tmb j = a.tmb j := by
  simp only [State.captured, State.tmb, setReg_tmb0, setReg_tmb1, setReg_tmb2, setReg_tmb3]

theorem captured_congr {s t : State} {k : Nat} (h : t.tmb k = s.tmb k) (n : Nat) (a : State) :
    t.captured n a k = s.captured n a k := by
  unfold State.captured
  rw [h]

/-- No capture register is a time base's own, so each base is taken as it stood before. -/
theorem capture_of_bit {w : Word} (hbit : bit w 0 = true) (s : State) (n : Nat) :
    s.capture n w = s.captured n (s.captured n (s.captured n (s.captured n s 0) 1) 2) 3 := by
  have hfold : s.capture n w = (List.range 4).foldl (fun a k => a.captured n a k) s := if_pos hbit
  have hbases (k : Nat) (a : State) (h : ∀ j, a.tmb j = s.tmb j) :
      a.captured n a k = s.captured n a k ∧ ∀ j, (s.captured n a k).tmb j = s.tmb j :=
    ⟨captured_congr (h k) n a, fun j => (captured_tmb s n a k j).trans (h j)⟩
  obtain ⟨h0, k0⟩ := hbases 0 s fun _ => rfl
  obtain ⟨h1, k1⟩ := hbases 1 _ k0
  obtain ⟨h2, k2⟩ := hbases 2 _ k1
  obtain ⟨h3, -⟩ := hbases 3 _ k2
  rw [hfold, ← h3, ← h2, ← h1, ← h0]
  rfl

/-- Settles O38: one TCLK edge is exact in the base's own number, and time passing is an edge of each base. -/
theorem timeBasesCount : Obligations.TimeBasesCount := by
  refine ⟨⟨?edge, ?runs, ?gated⟩, ?now, ?capture⟩
  case edge =>
    intro t
    exact ⟨t.value_setValue _, t.setValue_ns_lt _, t.setValue_frac_lt _, t.setValue_sec_lt _, rfl, rfl, rfl⟩
  case runs =>
    intro s hqueue hup
    refine ⟨idleStep s, step_of_no_command hqueue, ?_⟩
    have hidle : idleStep s = { s.tclk with rtc := s.tclk.rtc.edge } := by rw [idleStep, if_pos hup]
    rw [hidle]
    exact ⟨rfl, rfl, rfl, rfl, rfl, rfl, rfl, rfl, rfl, rfl, rfl⟩
  case gated =>
    intro s hqueue hup
    rw [step_of_no_command hqueue, idleStep, hup]
    rfl
  case now => exact fun s r g n hread => finish_onRead hread rfl
  case capture => exact fun s r g n w hw hbit => finish_onWrite hw (capture_of_bit hbit s n)

-- The servo (spec/15 R400 to R404)

section
variable {s : State} {n : Nat} (hbase : n ≠ 1) (hrunning : s.running (Pg.tmb n) = true) (hauto : (s.tmb n).manual = false)
include hbase hrunning hauto

theorem sample_steps {o : Int} (hlocked : (s.tmb n).locked = false)
    (hfar : 10 * s.fld (Pg.tmb n) Rg.TMB_LOCK 0 16 * 65536 < o.natAbs) :
    let t := { s.tmb n with hold := false, last := o }
    s.sample n o = ((s.setTmb n t).setTmb n (t.setValue ((t.value : Int) - o * 65536))).stepped n := by
  unfold State.sample
  simp only [hbase, hrunning, hauto, hlocked, decide_eq_true hfar, Bool.not_true, Bool.not_false, Bool.and_self, Bool.true_or,
    Bool.false_eq_true, or_self, if_true, if_false]

/-- No step is due within ten times LOCK_NS, nor of a locked base within 1 s. -/
theorem sample_slews {o : Int} (hnear : o.natAbs ≤ 10 * s.fld (Pg.tmb n) Rg.TMB_LOCK 0 16 * 65536)
    (hsecond : (s.tmb n).locked = true → o.natAbs ≤ 1000000000 * 65536) :
    let p := Pg.tmb n
    let t := { s.tmb n with hold := false, last := o }
    let kp : Int := s.fld p Rg.TMB_KP_KI 0 16
    let ki : Int := s.fld p Rg.TMB_KP_KI 16 16
    let iNew := t.integ - ki * o
    let rNew := iNew - kp * o
    let i := if (rNew.natAbs : Int) ≤ ppbLimit ∨ iNew.natAbs < t.integ.natAbs then clampI (-ppbLimit) ppbLimit iNew
             else t.integ
    let rr := clampI (-ppbLimit) ppbLimit (i - kp * o)
    let good := if o.natAbs ≤ s.fld p Rg.TMB_LOCK 0 16 * 65536 then min (t.good + 1) 255 else 0
    let lk := t.locked || decide (s.fld p Rg.TMB_LOCK 16 8 ≤ good)
    s.sample n o = ((s.setTmb n t).setTmb n { t with integ := i, good := good, locked := lk }).setRate n (rateOf rr)
      (decide ((rr.natAbs : Int) = ppbLimit)) := by
  have hstay : ((!(s.tmb n).locked && decide (10 * s.fld (Pg.tmb n) Rg.TMB_LOCK 0 16 * 65536 < o.natAbs))
      || ((s.tmb n).locked && decide (1000000000 * 65536 < o.natAbs) && s.flag (Pg.tmb n) Rg.TMB_CTRL 1)) = false := by
    rw [decide_eq_false (Nat.not_lt.mpr hnear), Bool.and_false, Bool.false_or]
    cases hlocked : (s.tmb n).locked with
    | false => rfl
    | true => rw [decide_eq_false (Nat.not_lt.mpr (hsecond hlocked))]; rfl
  unfold State.sample
  simp only [hbase, hrunning, hauto, hstay, Bool.not_true, Bool.false_eq_true, or_self, if_false]

theorem holdover_begins (hup : s.coreUp = true) (hfree : (s.tmb n).hold = false) :
    s.holdover n = ((s.setTmb n { s.tmb n with hold := true }).setRate n (rateOf (s.tmb n).integ)
      (decide (((s.tmb n).integ.natAbs : Int) = ppbLimit))).raiseSrc (Pg.tmb n) 0 := by
  simp [State.holdover, hbase, hrunning, hauto, hup, hfree]

end

section
variable {s : State} {n : Nat} (hmanual : (s.tmb n).manual = true)
include hmanual

theorem sample_of_manual (o : Int) : s.sample n o = s := if_pos (.inr (.inr hmanual))

theorem holdover_of_manual : s.holdover n = s := if_pos (.inr (.inr (.inl hmanual)))

end

/-- Settles O39: the sample reaches the servo, which steps or slews; a base in MANUAL is left alone. -/
theorem theServoSlewsAndSteps : Obligations.TheServoSlewsAndSteps := by
  refine ⟨?sample, ?holdover, ?manual⟩
  case sample =>
    intro s r g n lo hw hbase hrunning hauto p o t s1 lockNs
    refine ⟨fun hlocked hfar => ?step, fun hnear => ?slew⟩
    case step => exact finish_onWrite hw (sample_steps hbase hrunning hauto hlocked hfar)
    case slew =>
      intro kp ki iNew rNew i rr good lk s2 hsecond
      exact finish_onWrite hw (sample_slews hbase hrunning hauto hnear hsecond)
  case holdover =>
    intro s n hup hbase hrunning hauto hfree
    exact congrArg (finish s) (holdover_begins hbase hrunning hauto hup hfree)
  case manual =>
    intro s r g n lo hw hmanual
    exact ⟨finish_onWrite hw (sample_of_manual hmanual _), congrArg (finish s) (holdover_of_manual hmanual)⟩

-- The real-time clock (spec/15 R422 to R425)

namespace RtcSt

variable {r : RtcSt}

theorem loaded_of_busy (hbusy : r.loadBusy = true) (hedges : r.xtalStop = false) (t d : Word) :
    r.loaded t d = { r with
      phase := 0, subsec := bf t 0 15, sec := bf t 15 6, min := bf t 21 6, hour := bf t 27 5, year := bf d 0 12,
      month := bf d 12 4, day := bf d 16 5, weekday := bf d 21 3, loadBusy := false, nudge := none, lost := false } := by
  unfold loaded
  rw [hbusy, hedges]
  rfl

theorem nudged_of_some {k : Int} (hnudge : r.nudge = some k) (hedges : r.xtalStop = false) :
    r.nudged = if 0 ≤ k then ({ r with subsec := k.toNat, phase := 0, nudge := none } : RtcSt).carry
      else { r with subsec := (32768 + k).toNat, phase := 0, nudge := none } := by
  unfold nudged
  rw [hnudge, hedges]
  rfl

theorem wrap_of_none (hnudge : r.nudge = none) (hedges : r.xtalStop = false) :
    r.wrap = ({ r with subsec := 0, phase := 0 } : RtcSt).carry := by
  unfold wrap
  rw [hnudge, hedges]
  rfl

-- Carries (spec/15 R424)

theorem carry_sec (hsec : r.sec < 59) : r.carry = { r with sec := r.sec + 1 } := if_pos (by omega)

section
variable (hsec : r.sec = 59)
include hsec

theorem carry_min (hmin : r.min < 59) : r.carry = { r with sec := 0, min := r.min + 1 } :=
  (if_neg (by omega)).trans (if_pos (show r.min ≠ 59 ∧ r.min ≠ 63 by omega))

variable (hmin : r.min = 59)
include hmin

theorem carry_hour (hhour : r.hour < 23) : r.carry = { r with sec := 0, min := 0, hour := r.hour + 1 } := by
  have hbelow : r.hour ≠ 23 ∧ r.hour ≠ 31 := by omega
  simp [carry, hsec, hmin, hbelow]

theorem carry_nextDay (hhour : r.hour = 23) : r.carry = ({ r with sec := 0, min := 0, hour := 0 } : RtcSt).nextDay := by
  simp [carry, hsec, hmin, hhour]

end

theorem nextDay_within (hweekday : r.weekday < 6) (hday : r.day < monthLen r.year r.month) :
    r.nextDay = { r with weekday := r.weekday + 1, day := r.day + 1 } := by
  have hweek : ¬ (r.weekday = 6 ∨ r.weekday = 7) := by omega
  simp [nextDay, hweek, hday]

/-- December has 31 days in every year. -/
theorem nextDay_of_year_end (hweekday : r.weekday = 6) (hmonth : r.month = 12) (hday : r.day = 31) (hyear : r.year < 4095) :
    r.nextDay = { r with weekday := 0, day := 1, month := 1, year := r.year + 1 } := by
  have hlast : ¬ r.day < monthLen r.year 12 := by simp [monthLen, hday]
  have hwrap : (r.year + 1) % 4096 = r.year + 1 := Nat.mod_eq_of_lt (by omega)
  unfold nextDay
  simp only [hmonth, if_neg hlast, hweekday, hwrap, true_or, if_true]

end RtcSt

theorem leapYear_iff (y : Nat) : leapYear y = true ↔ (4 ∣ y ∧ ¬ 100 ∣ y) ∨ 400 ∣ y := by
  simp only [leapYear, Bool.and_eq_true, Bool.or_eq_true, beq_iff_eq, bne_iff_ne]
  omega

theorem monthLen_february (y : Nat) : monthLen y 2 = if (4 ∣ y ∧ ¬ 100 ∣ y) ∨ 400 ∣ y then 29 else 28 := by
  simp only [monthLen, leapYear_iff, if_true]

theorem nudgeWrite_of_none {s : State} (hnudge : s.rtc.nudge = none) (v : Word) :
    let k := clampI (-16384) 16384 (signed 16 v.toNat)
    s.nudgeWrite v
      = { s.setReg Pg.rtc Rg.RTC_NUDGE (wd (unsigned 16 k)) with rtc := { s.rtc with nudge := some k } } := by
  unfold State.nudgeWrite
  rw [hnudge]
  rfl

theorem xtalGone_of_running {s : State} (hup : s.coreUp = true) (hedges : s.rtc.xtalStop = false) :
    s.xtalGone = ({ s with rtc := { s.rtc with xtalStop := true } } : State).raiseSrc Pg.rtc 1 := by
  simp [State.xtalGone, hup, hedges]

/-- An event of the clock alone leaves everything else. -/
theorem finish_rtc {s : State} {r r' : RtcSt} (h : r = r') :
    finish s { s with rtc := r } = .next (s.settled { s with rtc := r' }) :=
  congrArg (fun x => finish s { s with rtc := x }) h

/-- Settles O40: what the clock's events make of it, and its carries one after the other. -/
theorem theClockCounts : Obligations.TheClockCounts := by
  refine ⟨⟨?load, ?loaded, ?nudge, ?nudged, ?wrap, ?stop, fun _ => rfl⟩, fun r => RtcSt.carry_sec, fun r => RtcSt.carry_min,
    fun r => RtcSt.carry_hour, ?day, ?year, monthLen_february⟩
  case load => exact fun s r g v hw hbit => finish_onWrite hw (if_pos hbit)
  case loaded => exact fun s hbusy hedges => finish_rtc (RtcSt.loaded_of_busy hbusy hedges _ _)
  case nudge => exact fun s r g v hw hnudge => finish_onWrite hw (nudgeWrite_of_none hnudge v)
  case nudged => exact fun s k hnudge hedges => finish_rtc (RtcSt.nudged_of_some hnudge hedges)
  case wrap => exact fun s hnudge hedges => finish_rtc (RtcSt.wrap_of_none hnudge hedges)
  case stop => exact fun s hup hedges => congrArg (finish s) (xtalGone_of_running hup hedges)
  case day =>
    intro r hsec hmin hhour hweekday hday
    exact (RtcSt.carry_nextDay hsec hmin hhour).trans (RtcSt.nextDay_within hweekday hday)
  case year =>
    intro r hsec hmin hhour hweekday hmonth hday hyear
    exact (RtcSt.carry_nextDay hsec hmin hhour).trans (RtcSt.nextDay_of_year_end hweekday hmonth hday hyear)

end Sys2Proof.Machine
end

section
/-! The riser link (spec/14): what a change of a port leaves, bring-up and authentication, and the frames of the ring, with the
statements on them. -/

namespace Sys2Proof.Machine

-- Ports (spec/14 R390)

section
variable (s : State) (w : Bool) (x y : RsPort)

@[simp] theorem rsPort_setRsPort_same : (s.setRsPort w x).rsPort w = x := by cases w <;> rfl

@[simp] theorem setRsPort_setRsPort : (s.setRsPort w x).setRsPort w y = s.setRsPort w y := by cases w <;> rfl

@[simp] theorem setRsPort_rsAlive : (s.setRsPort w x).rsAlive = s.rsAlive := by cases w <;> rfl

@[simp] theorem setRsPort_rsRunning (v : Bool) : (s.setRsPort w x).rsRunning v = s.rsRunning v := by cases w <;> rfl

end

theorem rsPort_congr {s t : State} (h : t.rs = s.rs) (w : Bool) : t.rsPort w = s.rsPort w := by
  unfold State.rsPort
  rw [h]

/-- A command of the riser has its effect where the module still forwards (spec/14 R394). -/
theorem finish_whenRs {s t : State} {f : State → State} (halive : s.rsAlive = true) (h : f s = t) :
    finish s (s.whenRs f) = .next (s.settled t) :=
  congrArg (finish s) ((if_pos halive).trans h)

/-- What a decoder found concerns the counters and the source alone. -/
@[simp] theorem rsFec_rs (s : State) (w : Bool) (x : Fec) : (s.rsFec w x).rs = s.rs := by
  unfold State.rsFec State.bumpBy
  dsimp only
  split <;> simp only [raiseSrc_rs, setReg_rs]

-- Bring-up (spec/14 R386, R388)

theorem rsTrain_begins {s : State} {w : Bool} (halive : s.rsAlive = true) (hrunning : s.rsRunning w = true)
    (hdown : (s.rsPort w).st = 0) :
    s.rsTrain w true = s.setRsPort w { s.rsPort w with present := true, st := 1, first := false } := by
  simp [State.rsTrain, State.onPort, halive, hrunning, hdown]

theorem rsTimeout_of_auth {s : State} {w : Bool} (hauth : (s.rsPort w).st = 3) (bad : Nat) :
    s.rsTimeout w bad = s.authFail w 1 := by
  simp [State.rsTimeout, hauth]

theorem rsHears_of_up {s : State} {w : Bool} (halive : s.rsAlive = true) (hrunning : s.rsRunning w = true)
    (hport : (s.rsPort w).st = 4) : s.rsHears w = true := by
  simp [State.rsHears, halive, hrunning, hport]

/-- An UP port that goes down for its markers. -/
theorem rsDown_marker {s : State} {w : Bool} (hport : (s.rsPort w).st = 4) (bad : Nat) :
    s.rsDown w .marker bad
      = (((s.bump (rsPage w) Rg.RS_LINK_DOWNS).raiseSrc (rsPage w) 0).rsFall w true).rsNarrow w bad := by
  simp [State.rsDown, hport]

/-- The frame that an UP port is sending as it loses its markers is cut (spec/14 R395). -/
theorem rsLost_marker {s : State} {w : Bool} (halive : s.rsAlive = true) (hrunning : s.rsRunning w = true)
    (hport : (s.rsPort w).st = 4) (bad : Nat) (fec : Fec) (cut : Bool) {s2 : State}
    (hs2 : s2 = if cut = true ∧ (s.rsPort w).flight.isSome = true
      then ((s.rsFec w fec).emit (.riserCut w.toNat)).bump (rsPage w) Rg.RS_DROP_DOWN else s.rsFec w fec) :
    s.rsLost w .marker bad fec cut none
      = (((s2.bump (rsPage w) Rg.RS_LINK_DOWNS).raiseSrc (rsPage w) 0).rsFall w true).rsNarrow w bad := by
  have hrs : s2.rs = s.rs := by
    rw [hs2]
    split <;> simp only [bump_rs, emit_rs, rsFec_rs]
  have hcut : s.rsLost w .marker bad fec cut none = s2.rsDown w .marker bad := by
    unfold State.rsLost
    simp only [rsHears_of_up halive hrunning hport, if_true, Option.bind_none, rsPort_congr (rsFec_rs s w fec), hs2,
      Bool.and_eq_true]
  rw [hcut, rsDown_marker ((congrArg RsPort.st (rsPort_congr hrs w)).trans hport)]

-- Authentication (spec/14 R387)

section
variable {s : State} {w : Bool} {k : List Byte} (hkey : s.rsKey w = some k) (hauth : (s.rsPort w).st = 3)
  (pdu : List Byte)
include hkey hauth

theorem challengeRx_answers (hfirst : (s.rsPort w).answered = false) (hrng : s.key.rngOk = true) :
    let r := s.random 32
    let head := r.2.linkHead w 2 (s.authOk w) ++ r.1
    let s1 := r.2.onPort w (fun y => { y with challenged := true, answered := true })
    s.challengeRx w pdu = s1.linkSend w (head ++ linkMac k (pdu.take 0x30 ++ head)) := by
  simp [State.challengeRx, hkey, hauth, hfirst, hrng]

/-- The MAC of the RESPONSE is that of this port's CHALLENGE with AUTH_OK = `ok`. -/
def State.responseFits (s : State) (w : Bool) (k pdu : List Byte) (ok : Nat) : Prop :=
  linkMac k (s.challenge w ok ++ pdu.take 0x30) = sliceB pdu 0x30 48

theorem responseRx_forged (hforged : ∀ ok < 2, ¬ s.responseFits w k pdu ok) : s.responseRx w pdu = s.authFail w 2 := by
  have hnone : (linkMac k (s.challenge w 0 ++ pdu.take 0x30) == sliceB pdu 0x30 48
      || linkMac k (s.challenge w 1 ++ pdu.take 0x30) == sliceB pdu 0x30 48) = false := by
    rw [Bool.or_eq_false_iff]
    exact ⟨beq_false_of_ne (hforged 0 (by decide)), beq_false_of_ne (hforged 1 (by decide))⟩
  simp [State.responseRx, hkey, hauth, hnone]

theorem responseRx_good (hring : beNat (sliceB pdu 4 2) = s.ringParams.1) (hcycle : getLE pdu 6 1 = s.ringParams.2)
    (haddr : getLE pdu 3 1 ≠ (s.rsPort w).addr) (hfits : s.responseFits w k pdu 0 ∨ s.responseFits w k pdu 1) :
    s.responseRx w pdu = (s.setRsPort w { s.rsPort w with
      verified := true, okSeen := (s.rsPort w).okSeen || (getLE pdu 7 1 % 2 == 1), peer := getLE pdu 3 1 % 128 }).tryUp w := by
  have hgood : (linkMac k (s.challenge w 0 ++ pdu.take 0x30) == sliceB pdu 0x30 48
      || linkMac k (s.challenge w 1 ++ pdu.take 0x30) == sliceB pdu 0x30 48) = true := by
    rw [Bool.or_eq_true, beq_iff_eq, beq_iff_eq]
    exact hfits
  simp [State.responseRx, hkey, hauth, hgood, hring, hcycle, haddr]

end

/-- Settles O49: each row finds its port in the state that it asks for, and a RESPONSE fits a CHALLENGE or is forged. -/
theorem portsComeUp : Obligations.PortsComeUp := by
  refine ⟨⟨?train, ?trained, ?aligned, ?timeout, ?retry, ?challenge, ?response, ?lost⟩, ?forged⟩
  case train =>
    intro s w halive hrunning hdown
    exact finish_whenRs halive (rsTrain_begins halive hrunning hdown)
  case trained => exact fun s w halive hst => finish_whenRs halive (if_pos hst)
  case aligned => exact fun s w d halive hst => finish_whenRs halive (if_pos hst)
  case timeout => exact fun s w bad halive hauth => finish_whenRs halive (rsTimeout_of_auth hauth bad)
  case retry => exact fun s w halive hst => finish_whenRs halive (if_pos hst)
  case challenge =>
    intro s w pdu k halive hkey hauth hfirst hrng
    exact finish_whenRs halive (challengeRx_answers hkey hauth pdu hfirst hrng)
  case response =>
    intro s w pdu k halive hkey hauth hring hcycle haddr ok
    refine finish_whenRs halive ?_
    split
    · next hfits => exact responseRx_good hkey hauth pdu hring hcycle haddr hfits
    · next hforged =>
      rw [not_or] at hforged
      obtain ⟨h0, h1⟩ := hforged
      refine responseRx_forged hkey hauth pdu fun ok hok => ?_
      obtain rfl | rfl : ok = 0 ∨ ok = 1 := by omega
      · exact h0
      · exact h1
  case lost =>
    intro s w bad fec cut halive hrunning hport p down s0 s1 s2
    exact finish_whenRs halive (rsLost_marker halive hrunning hport bad fec cut rfl)
  case forged =>
    intro s w pdu k halive hkey hauth hforged
    exact finish_whenRs halive (responseRx_forged hkey hauth pdu hforged)

-- Receiving and routing (spec/14 R375, R382, R389)

/-- An UP port takes a frame by its tag, whatever was counted before. -/
theorem rsTake_of_up {s t : State} {w : Bool} (hport : (s.rsPort w).st = 4) (h : t.rs = s.rs) (f : RFrame) (ago : Nat) :
    t.rsTake w f ago = t.rsRoute w f ago :=
  if_pos ((congrArg RsPort.st (rsPort_congr h w)).trans hport)

section
variable {s : State} {w : Bool} (halive : s.rsAlive = true) (hrunning : s.rsRunning w = true) (hport : (s.rsPort w).st = 4)
  {tag b : List Byte} {fec : Fec} (ago : Nat)
include halive hrunning hport

theorem riserReceive_good {f : RFrame} (hgood : fcsGood b = true ∧ fec.hit = false)
    (htag : RFrame.ofTag tag (fcsBody b) false = some f) :
    s.riserReceive w tag b fec ago = ((s.rsFec w fec).bump (rsPage w) Rg.RS_RX_FRAMES).rsRoute w f ago := by
  obtain ⟨hfcs, hhit⟩ := hgood
  unfold State.riserReceive
  simp only [rsHears_of_up halive hrunning hport, hfcs, hhit, htag, Bool.not_false, Bool.and_self, Bool.not_true, if_true]
  exact rsTake_of_up hport (by simp only [bump_rs, rsFec_rs]) f ago

theorem riserReceive_poisoned {f : RFrame} (hbad : ¬ (fcsGood b = true ∧ fec.hit = false))
    (htag : RFrame.ofTag tag (fcsBody b) true = some f) :
    s.riserReceive w tag b fec ago = (((s.rsFec w fec).bump (rsPage w) Rg.RS_RX_FRAMES).bump (rsPage w)
      (if fcsPoison b = true ∧ fec.hit = false then Rg.RS_POISON_RX else Rg.RS_FCS_ERR)).rsRoute w f ago := by
  have hwrong : (fcsGood b && !fec.hit) = false := by simpa using hbad
  unfold State.riserReceive
  simp only [rsHears_of_up halive hrunning hport, hwrong, htag, Bool.not_false, if_true, Bool.false_eq_true, if_false,
    Bool.and_eq_true, Bool.not_eq_true']
  rw [← apply_ite (fun r => ((s.rsFec w fec).bump (rsPage w) Rg.RS_RX_FRAMES).bump (rsPage w) r)]
  exact rsTake_of_up hport (by simp only [bump_rs, rsFec_rs]) f ago

theorem riserReceive_untagged (htag : ∀ q, RFrame.ofTag tag (fcsBody b) q = none) :
    s.riserReceive w tag b fec ago = ((s.rsFec w fec).bump (rsPage w) Rg.RS_TAG_ERR).raiseSrc (rsPage w) 6 := by
  unfold State.riserReceive
  simp only [rsHears_of_up halive hrunning hport, htag, if_true]

end

section
variable {s : State} {w : Bool} {f : RFrame} (hsrc : f.src ≠ (s.rsPort w).addr) (ago : Nat)
include hsrc

theorem rsRoute_here (hdest : f.dest = (s.rsPort w).addr) : s.rsRoute w f ago = s.rsDeliver w f ago :=
  (if_neg hsrc).trans (if_pos (.inr hdest))

variable (hdest : f.dest ≠ (s.rsPort w).addr) (hhops : f.hop + 1 < f.limit)
include hdest hhops

theorem rsRoute_onward (hmember : f.dest < 0xFE) : s.rsRoute w f ago = s.rsTransit (!w) f.onward := by
  have hone : ¬ (f.dest = 0xFE ∨ f.dest = (s.rsPort w).addr) := by omega
  have hall : ¬ (f.dest = 0xFF ∧ f.hop < f.limit) := by omega
  simp only [State.rsRoute, if_neg hsrc, if_neg hone, if_neg hall, if_pos hhops]

theorem rsRoute_all (hall : f.dest = 0xFF) : s.rsRoute w f ago = (s.rsDeliver w f ago).rsTransit (!w) f.onward := by
  have hone : ¬ (f.dest = 0xFE ∨ f.dest = (s.rsPort w).addr) := by omega
  have hbelow : f.dest = 0xFF ∧ f.hop < f.limit := ⟨hall, by omega⟩
  simp only [State.rsRoute, if_neg hsrc, if_neg hone, if_pos hbelow, if_pos hhops]

end

-- Sending (spec/14 R376, R378, R380)

theorem rsUp_of_up {s : State} {w : Bool} (hport : (s.rsPort w).st = 4) : s.rsUp w = true := beq_iff_eq.mpr hport

/-- A stamp looks at the lanes in use and at the time base alone. -/
theorem rsStamp_setRsPort {s : State} {w : Bool} {x : RsPort} (hlanes : x.lanes = (s.rsPort w).lanes) (tx : Bool) (ago : Nat) :
    (s.setRsPort w x).rsStamp w tx ago = s.rsStamp w tx ago := by
  have hbase (n : Nat) (k : Int) : (s.setRsPort w x).stampAt n k = s.stampAt n k := by cases w <;> rfl
  unfold State.rsStamp State.rsTenths
  simp only [hbase, rsPort_setRsPort_same, hlanes]

/-- Out of the window the first CONTROL frame in transit goes. -/
theorem riserTransmit_control {s : State} {w : Bool} {f : RFrame} {l : List RFrame} (halive : s.rsAlive = true)
    (hport : (s.rsPort w).st = 4) (hwindow : s.inWindow = false) (hctl : (s.rsPort w).ctlT = f :: l) :
    s.riserTransmit w = (s.setRsPort w { s.rsPort w with ctlT := l }).rsEmit w false f := by
  simp [State.riserTransmit, halive, rsUp_of_up hport, hwindow, State.rsNext, hctl]

theorem rsOut_setRsPort (s : State) (w : Bool) (x : RsPort) (f : RFrame) :
    (s.setRsPort w x).rsOut w f
      = ((s.setRsPort w { x with flight := some f }).emit (.riser w.toNat f.wire)).bump (rsPage w) Rg.RS_TX_FRAMES := by
  simp only [State.rsOut, rsPort_setRsPort_same, setRsPort_setRsPort]

theorem rsEmit_transit_unowned {f : RFrame} (hown : f.own = none) (s : State) (w : Bool) :
    s.rsEmit w false f = s.rsOut w f := by
  unfold State.rsEmit
  rw [hown]
  rfl

/-- The entry of a frame that is this port's copy completes with this port's stamp. -/
theorem rsEmit_transit_owned {f : RFrame} {t : TxFlight} (hown : f.own = some t) (s : State) (w : Bool) :
    s.rsEmit w false f
      = (s.rsOut w f).txDone t.queue t.glove t.pair 0 (s.rsStamp w true 0) t.len t.tag := by
  unfold State.rsEmit
  rw [hown]
  rfl

theorem riserSpoil_of_next {s : State} {w : Bool} {c : Nat} (hnext : s.transitNext w = some c) :
    s.riserSpoil w = s.spoilTransit w c := by
  unfold State.riserSpoil
  rw [hnext]

/-- The east port alone is UP and the west port DOWN. -/
theorem helloSend_east {s : State} (heast : (s.rsPort false).st = 4) (hwest : (s.rsPort true).st = 0) :
    s.helloSend = s.linkSend false (s.linkHead false 3 (s.authOk false)) := by
  have hsent : s.linkSend false (s.linkHead false 3 (s.authOk false))
      = s.rsLocal false (s.ownFrame false 1 0xFE 1
        (ownEth linkDest (rsMac false) (s.linkHead false 3 (s.authOk false)))) := if_pos (rsUp_of_up heast)
  have hother (f : RFrame) : (s.rsLocal false f).rsPort true = s.rsPort true := by
    simp only [State.rsLocal, rsUp_of_up heast, if_true]
    split_ifs <;> rfl
  unfold State.helloSend
  simp only [List.foldl_cons, List.foldl_nil, heast, if_true]
  rw [hsent, hother, hwest]
  rfl

/-- Settles O50: the port hears the frame and its tag routes it; a port that may send sends its next frame. -/
theorem theRingCarriesFrames : Obligations.TheRingCarriesFrames := by
  refine ⟨?receive, ?route, ?transmit, ?spoil, ?hello, ?announce, ?expire, ?clash⟩
  case receive =>
    intro s w tag b fec ago halive hrunning hport p c s0 body good
    refine ⟨fun f hgood htag => ?_, fun f hbad htag => ?_, fun htag => ?_⟩
    · exact finish_whenRs halive (riserReceive_good halive hrunning hport ago hgood htag)
    · exact finish_whenRs halive (riserReceive_poisoned halive hrunning hport ago hbad htag)
    · exact finish_whenRs halive (riserReceive_untagged halive hrunning hport ago htag)
  case route =>
    intro s w f ago hsrc
    exact ⟨rsRoute_here hsrc ago, fun hdest hmember hhops => rsRoute_onward hsrc ago hdest hhops hmember,
      fun hdest hall hhops => rsRoute_all hsrc ago hdest hhops hall⟩
  case transmit =>
    intro s w f l halive hport hwindow hctl
    refine finish_whenRs halive ((riserTransmit_control halive hport hwindow hctl).trans ?_)
    split
    · next hown => rw [rsEmit_transit_unowned hown, rsOut_setRsPort]
    · next t hown => rw [rsEmit_transit_owned hown, rsOut_setRsPort, rsStamp_setRsPort (by rfl)]
  case spoil =>
    intro s w c halive hport hnext
    refine finish_whenRs halive ?_
    simp only [rsUp_of_up hport, riserSpoil_of_next hnext, Bool.and_self, if_true]
  case hello => exact fun s halive heast hwest => finish_whenRs halive (helloSend_east heast hwest)
  case announce => exact fun s halive => finish_whenRs halive rfl
  case expire => exact fun s w a halive => finish_whenRs halive rfl
  case clash => exact fun s halive => finish_whenRs halive rfl

end Sys2Proof.Machine
end

section
/-! Floor ports (spec/16): what a MAC receives and sends, the link that falls, low-power idle, MDIO and launches, with the statement
on them. -/

namespace Sys2Proof.Machine

theorem fpOf_congr {s t : State} (h : t.fp = s.fp) (p : Nat) : t.fpOf p = s.fpOf p := by
  unfold State.fpOf
  rw [h]

@[simp] theorem bump_fpOf (s : State) (q off p : Nat) : (s.bump q off).fpOf p = s.fpOf p := fpOf_congr (bump_fp s q off) p

/-- A MAC that passes frames of a module whose ports are on takes frames in (spec/16 R427, R430). -/
theorem fpHears_of_passes {s : State} {p : Nat} (hon : s.portsOn = true) (hpass : s.fpPasses p = true) :
    s.fpHears p = true := by
  simp only [State.fpPasses, Bool.and_eq_true, Bool.not_eq_true'] at hpass
  obtain ⟨⟨⟨hrunning, hlink⟩, hduplex⟩, hrate⟩ := hpass
  simp [State.fpHears, hon, hrunning, hlink, hduplex, hrate]

-- Receiving (spec/16 R430, R441), in the order of its steps

section
variable {s : State} {p : Nat} {b : List Byte} (hears : s.fpHears p = true)
include hears

theorem fpReceive_without_room (ago : Nat) (ecc : Bool) (l : List NodeInput) :
    s.fpReceive p b false ago ecc l = (s.bump (Pg.fp p) Rg.FP_RX_OVF).raiseSrc (Pg.fp p) 2 := by
  simp [State.fpReceive, State.fpDrop, hears]

theorem fpReceive_spoilt (ago : Nat) (l : List NodeInput) :
    s.fpReceive p b true ago true l = (s.bump (Pg.fp p) Rg.FP_RX_FCS_ERR).raiseSrc (Pg.fp p) 3 := by
  simp [State.fpReceive, State.fpDrop, hears]

theorem fpReceive_of_fcs (hfcs : fcsGood b = false) (ago : Nat) (l : List NodeInput) :
    s.fpReceive p b true ago false l = s.bump (Pg.fp p) Rg.FP_RX_FCS_ERR := by
  simp [State.fpReceive, State.fpDrop, hears, hfcs]

theorem fpReceive_of_length (hfcs : fcsGood b = true) (hlen : b.length < 64 ∨ 9600 < b.length) (ago : Nat)
    (l : List NodeInput) : s.fpReceive p b true ago false l = s.bump (Pg.fp p) Rg.FP_RX_LEN_ERR := by
  unfold State.fpReceive
  simp only [hears, hfcs, Bool.not_true, Bool.false_eq_true, if_false, if_pos hlen]
  rfl

/-- A frame for the port that is no answer of a lease writes the inputs that it carries and goes on to its glove. -/
theorem fpReceive_of_accepted (hfcs : fcsGood b = true) (hshort : 64 ≤ b.length) (hlong : b.length ≤ 9600)
    (haccept : s.fpAccepts p (Eth.read (fcsBody b)).dest = true)
    (hlease : ¬ ((Eth.read (fcsBody b)).etype = 0x88B5 ∧ (Eth.read (fcsBody b)).payload.headD 0 = 0x4C)) (ago : Nat)
    (l : List NodeInput) :
    s.fpReceive p b true ago false l
      = (s.nodeInputs false p (leNat (Eth.read (fcsBody b)).src) (Eth.read (fcsBody b)).vid l).fpDeliver p
          (Eth.read (fcsBody b)) false ago := by
  have hlen : ¬ (b.length < 64 ∨ 9600 < b.length) := by omega
  unfold State.fpReceive
  simp only [hears, hfcs, haccept, Bool.not_true, Bool.false_and, Bool.false_eq_true, if_false, if_neg hlen, if_neg hlease]

end

/-- Outside RECOVERY a frame is the port's own (spec/21 R550). -/
theorem finish_fpFrame {s t : State} {p : Nat} {b : List Byte} {room ecc : Bool} {ago : Nat} {l : List NodeInput}
    (hmode : s.sys.mode ≠ .recovery) (h : s.fpReceive p b room ago ecc l = t) :
    exec (.fpFrameRx p b room ago ecc l) s = .next (s.settled t) :=
  congrArg (finish s) ((if_neg hmode).trans h)

-- Sending (spec/16 R435, R436)

theorem running_of_fpPasses {s : State} {p : Nat} (hpass : s.fpPasses p = true) : s.running (Pg.fp p) = true := by
  simp only [State.fpPasses, Bool.and_eq_true] at hpass
  exact hpass.1.1.1

theorem fpTransmit_lease {s : State} {p : Nat} {f : List Byte} {l : List (List Byte)} (hon : s.portsOn = true)
    (hpass : s.fpPasses p = true) (hfree : (s.fpOf p).flight = none) (hawake : (s.fpOf p).lpiTx = false)
    (hlease : (s.fpOf p).lease = f :: l) :
    s.fpTransmit p
      = ((s.setFp p { s.fpOf p with lease := l }).emit (.fp p (macFrame f))).bump (Pg.fp p) Rg.FP_TX_FRAMES := by
  unfold State.fpTransmit
  simp only [hon, hpass, hawake, hlease, hfree, running_of_fpPasses hpass, Bool.not_true, Bool.or_self, Option.isSome_none,
    Bool.false_eq_true, if_false, if_true]

theorem fpTxDone_of_sent {s : State} {p : Nat} {f : TxFlight} (hflight : (s.fpOf p).flight = some f) (hreal : f.real = true) :
    s.fpTxDone p true
      = ((s.setFp p { s.fpOf p with flight := none }).bump (Pg.fp p) Rg.FP_TX_FRAMES).txDone f.queue f.glove f.pair
          (if f.late = true then 0x0001 else 0) f.stamp f.len f.tag := by
  unfold State.fpTxDone
  simp only [hflight, hreal, Bool.true_or, if_true, St.note]

theorem fpTxDone_of_cut {s : State} {p : Nat} {f : TxFlight} (hflight : (s.fpOf p).flight = some f) (hreal : f.real = true) :
    s.fpTxDone p false
      = (s.setFp p { s.fpOf p with flight := none }).txDone f.queue f.glove f.pair 0x203 f.left f.len f.tag := by
  unfold State.fpTxDone
  simp only [hflight, hreal, Bool.not_true, Bool.or_self, Bool.false_eq_true, if_false]

-- The link that falls (spec/16 R427, R441, R442)

/-- The state in which a port whose link falls has dropped the frame that it was receiving. -/
def State.fpCutRx (s : State) (p : Nat) (cut : Bool) : State :=
  if cut = true ∧ s.fpHears p = true then s.bump (Pg.fp p) Rg.FP_RX_FCS_ERR else s

@[simp] theorem fpCutRx_fpOf (s : State) (p : Nat) (cut : Bool) (q : Nat) : (s.fpCutRx p cut).fpOf q = s.fpOf q := by
  unfold State.fpCutRx
  split <;> simp only [bump_fpOf]

theorem fpCut_of_idle {s : State} {p : Nat} (hfree : (s.fpOf p).flight = none) (cut : Bool) :
    s.fpCut p cut = s.fpCutRx p cut := by
  unfold State.fpCut State.fpDrop
  simp only [Bool.and_eq_true]
  rw [← State.fpCutRx]
  simp only [fpCutRx_fpOf, hfree]

theorem fpCut_of_flight {s : State} {p : Nat} {f : TxFlight} (hflight : (s.fpOf p).flight = some f) (hreal : f.real = true)
    (cut : Bool) :
    s.fpCut p cut = ((s.fpCutRx p cut).setFp p { s.fpOf p with flight := none }).txDone f.queue f.glove f.pair 0x203 f.left
      f.len f.tag := by
  have hf : ((s.fpCutRx p cut).fpOf p).flight = some f := by rw [fpCutRx_fpOf, hflight]
  unfold State.fpCut State.fpDrop
  simp only [Bool.and_eq_true]
  rw [← State.fpCutRx]
  simp only [hf, hreal, if_true]
  rw [fpTxDone_of_cut hf hreal, fpCutRx_fpOf]

/-- The port's state once its link is down. -/
def State.fpOff (a : State) (p rate : Nat) : State :=
  (a.setFp p { a.fpOf p with link := false, phyRate := rate % 8, half := false, lpiTx := false, lpiRx := false }).fpIdleEnd p

theorem fpLink_falls {s : State} {p : Nat} (hlink : (s.fpOf p).link = true) (hrunning : s.running (Pg.fp p) = true) (rate : Nat)
    (cut : Bool) :
    s.fpLink p false rate false cut
      = (let off := (s.fpCut p cut).fpOff p rate
         let s2 := if off.rateMismatch p = true ∧ s.rateMismatch p = false then off.raiseSrc (Pg.fp p) 1 else off
         if ((s.fpCut p cut).fpOf p).link = true then s2.raiseSrc (Pg.fp p) 0 else s2) := by
  unfold State.fpLink State.fpOff
  simp only [hlink, hrunning, Bool.not_false, Bool.and_true, Bool.and_false, Bool.false_and, Bool.false_or, if_true,
    Bool.and_eq_true, Bool.not_eq_true']

-- Low-power idle and MDIO (spec/16 R428, R437)

theorem fpLpi_begins {s : State} {p : Nat} (hup : s.coreUp = true) (hon : s.flag (Pg.fp p) Rg.FP_EEE_CTL 0 = true)
    (hpass : s.fpPasses p = true) (hawake : (s.fpOf p).lpiTx = false) (hquiet : s.fpWaiting p = false) :
    s.fpLpi p = (s.setFp p { s.fpOf p with lpiTx := true }).bump (Pg.fp p) Rg.FP_LPI_ENTRIES := by
  simp [State.fpLpi, hup, hon, hpass, hawake, hquiet]

theorem mdioWrite_read {s : State} {p : Nat} {v : Word} (hfree : (s.fpOf p).mdioBusy = false) (hgo : bit v 31 = true)
    (hop : bf v 26 2 = 2) :
    s.mdioWrite p v = ((s.setReg (Pg.fp p) Rg.FP_MDIO_CTL (v &&& 0x1FFFFFFF)).setFp p
      { s.fpOf p with mdioBusy := true, mdioOp := v &&& 0x1FFFFFFF }).emit (.mdio p (v &&& 0x1FFFFFFF)) := by
  unfold State.mdioWrite
  simp only [hfree, hgo, hop, beq_self_eq_true, Bool.or_true, Bool.and_self, Bool.false_eq_true, if_false, if_true]

theorem mdioEnd_read {s : State} {p : Nat} (hbusy : (s.fpOf p).mdioBusy = true) (hop : bf (s.fpOf p).mdioOp 26 2 = 2)
    (data : Nat) :
    s.mdioEnd p data = s.setFp p { s.fpOf p with mdioBusy := false, mdioData := data % 65536 } := by
  unfold State.mdioEnd
  simp only [hbusy, hop, beq_self_eq_true, Bool.true_or, if_true]

-- Launches (spec/15 R413)

theorem launchDue_now {s : State} {q src : Nat} {e : TxEntry} (hsrc : bf (s.queue q).arg5 0 8 = src)
    (he : TxEntry.read (s.headEntry q) = e) (hon : s.portsOn = true) (hlo : 0x18 ≤ src) (hhi : src < 0x20)
    (hheld : (s.fpOf (src - 0x18)).held.contains q = true) (htake : s.canTake q = true) (hpass : s.fpPasses (src - 0x18) = true)
    (hfree : (s.fpOf (src - 0x18)).flight = none) (hlease : (s.fpOf (src - 0x18)).lease = [])
    (hawake : (s.fpOf (src - 0x18)).lpiTx = false) (hdue : s.launchDelta e ≤ 0)
    (hlawful : s.txLawful (src - 0x18) (s.queueOwner q) e = true) (hjudge : s.judge e = .now) :
    s.launchDue q = (s.countLaunch (s.queueOwner q) e .now).fpStart (src - 0x18) q e false true := by
  subst hsrc he
  unfold State.launchDue
  simp only [hon, hlo, hhi, hheld, htake, hpass, hfree, hlease, hawake, hdue, hlawful, hjudge, decide_true, Bool.and_self,
    Option.isNone_none, List.isEmpty_nil, Bool.not_false, if_true]
  rfl

/-- Settles O51: what a MAC does with a frame is its first step that applies, and the link that falls cuts both directions. -/
theorem floorPortsWork : Obligations.FloorPortsWork := by
  refine ⟨⟨?receive, ?lease, ?sent, ?link, ?idle, ?wake, ?mdio, ?mdioEnds⟩, ?launch⟩
  case receive =>
    intro s p b ago hmode hon hpass
    have hears := fpHears_of_passes hon hpass
    refine ⟨fun ecc l => finish_fpFrame hmode (fpReceive_without_room hears ago ecc l),
      fun l => finish_fpFrame hmode (fpReceive_spoilt hears ago l),
      fun hfcs l => finish_fpFrame hmode (fpReceive_of_fcs hears hfcs ago l),
      fun hfcs hlen l => finish_fpFrame hmode (fpReceive_of_length hears hfcs hlen ago l), ?_⟩
    intro hfcs hshort hlong e haccept hlease l
    exact finish_fpFrame hmode (fpReceive_of_accepted hears hfcs hshort hlong haccept hlease ago l)
  case lease =>
    intro s p f l hon hpass hfree hawake hlease
    exact congrArg (finish s) (fpTransmit_lease hon hpass hfree hawake hlease)
  case sent =>
    intro s p f hup hflight hreal
    exact finish_whenUp hup (fpTxDone_of_sent hflight hreal)
  case link =>
    intro s p rate cut hup hlink hrunning a0 off mismatch
    refine ⟨fun f hflight hreal => ?flight, fun hfree => ?unsent⟩
    case flight =>
      refine finish_whenUp hup ?_
      rw [fpLink_falls hlink hrunning, fpCut_of_flight hflight hreal]
      rfl
    case unsent =>
      refine finish_whenUp hup ?_
      rw [fpLink_falls hlink hrunning, fpCut_of_idle hfree]
      exact if_pos (by rw [fpCutRx_fpOf, hlink])
  case idle =>
    intro s p hup hon hpass hawake hquiet
    exact congrArg (finish s) (fpLpi_begins hup hon hpass hawake hquiet)
  case wake =>
    intro s p hup
    exact ⟨finish_whenUp hup rfl, fun on => finish_whenUp hup rfl⟩
  case mdio =>
    intro s r g p v hw hfree hgo hop
    exact finish_onWrite hw (mdioWrite_read hfree hgo hop)
  case mdioEnds =>
    intro s p data hup hbusy hop
    exact finish_whenUp hup (mdioEnd_read hbusy hop data)
  case launch =>
    intro s q src p e hon hlo hhi hheld htake hpass hfree hlease hawake hdue hlawful hjudge
    exact congrArg (finish s)
      (launchDue_now rfl rfl hon hlo hhi hheld htake hpass hfree hlease hawake hdue hlawful hjudge)

end Sys2Proof.Machine
end

section
/-! CAN FD channels (spec/17): receiving, sending, errors, time-triggered operation and rate detection, with the statements on
them. -/

namespace Sys2Proof.Machine

-- Channels

theorem canOf_congr {s t : State} (h : t.can = s.can) (c : Nat) : t.canOf c = s.canOf c := by
  unfold State.canOf
  rw [h]

@[simp] theorem bump_canOf (s : State) (p off c : Nat) : (s.bump p off).canOf c = s.canOf c := canOf_congr (bump_can s p off) c

@[simp] theorem raiseSrc_canOf (s : State) (p b c : Nat) : (s.raiseSrc p b).canOf c = s.canOf c :=
  canOf_congr (raiseSrc_can s p b) c

theorem canOf_setCan_same {s : State} (hwf : Sparse.wf (dflt {}) s.can = true) (c : Nat) (x : CanCh) :
    (s.setCan c x).canOf c = x := Sparse.get_set_same _ (Sparse.wf_sorted hwf) c x

-- Receiving (spec/17 R448, R449, R451, R463)

theorem canReceive_spoilt {s : State} {c : Nat} (hlive : s.canLive c = true) (hmode : s.canMode c ≠ 2) (f : CanFrame)
    (ago : Nat) (bad : List Nat) (l : List NodeInput) :
    s.canReceive c f ago true bad l = ((s.canRecDown c).canRefIn c f (s.canStamp c ago)).raiseSrc (Pg.can c) 4 := by
  simp [State.canReceive, hlive, hmode]

/-- A whole frame goes on, with the filter entries that cannot be read told. -/
theorem canReceive_good {s s1 : State} {c : Nat} {f : CanFrame} {ago : Nat} {bad l : List Nat} (hlive : s.canLive c = true)
    (hmode : s.canMode c ≠ 2) (hs1 : (s.canRecDown c).canRefIn c f (s.canStamp c ago) = s1)
    (hl : bad ++ (s1.canOf c).badFilters = l) (inputs : List NodeInput) :
    s.canReceive c f ago false bad inputs
      = ((if l = [] then s1 else s1.raiseSrc (Pg.can c) 4).nodeInputs true c (canNode f) 0 inputs).canAccept c f
          (s.canStamp c ago) l := by
  subst hs1 hl
  unfold State.canReceive
  simp only [hlive, bne_iff_ne.2 hmode, Bool.and_self, if_true, Bool.false_or, Bool.not_eq_true', Bool.false_eq_true, if_false]
  cases bad ++ (((s.canRecDown c).canRefIn c f (s.canStamp c ago)).canOf c).badFilters <;> rfl

section
variable {s : State} {c : Nat} {f : CanFrame} {bad : List Nat} (hlease : s.canLeaseId c f = false) (st : Nat)
include hlease

theorem canAccept_of_none (hfilter : (s.canOf c).filter f bad = none) :
    s.canAccept c f st bad = s.bump (Pg.can c) Rg.CAN_RX_NOMATCH := by
  simp [State.canAccept, hlease, hfilter]

theorem canAccept_of_drop {n : Nat} (hfilter : (s.canOf c).filter f bad = some (0, n)) : s.canAccept c f st bad = s := by
  simp [State.canAccept, hlease, hfilter]

theorem canAccept_of_fifo0 {n : Nat} (hfilter : (s.canOf c).filter f bad = some (1, n)) :
    s.canAccept c f st bad = s.canToFifo c false f st := by
  simp [State.canAccept, hlease, hfilter]

theorem canAccept_of_fifo1 {n : Nat} (hfilter : (s.canOf c).filter f bad = some (2, n)) :
    s.canAccept c f st bad = s.canToFifo c true f st := by
  simp [State.canAccept, hlease, hfilter]

theorem canAccept_of_buffer {n : Nat} (hfilter : (s.canOf c).filter f bad = some (3, n)) :
    s.canAccept c f st bad = s.canToBuf c n f st := by
  simp [State.canAccept, hlease, hfilter]

end

theorem canToFifo_of_room {s : State} {c : Nat} {one : Bool} (hroom : ((s.canOf c).fifo one).fill < 64) (f : CanFrame) (st : Nat) :
    s.canToFifo c one f st
      = (((s.setCan c ((s.canOf c).setFifo one { (s.canOf c).fifo one with
            fill := ((s.canOf c).fifo one).fill + 1, put := (((s.canOf c).fifo one).put + 1) % 64 })).canElement c
          (fifoAt one ((s.canOf c).fifo one).put) f st).bump (Pg.can c) Rg.CAN_RX_FRAMES).canMove c one := if_pos hroom

theorem canToFifo_full {s : State} {c : Nat} {one : Bool} (hbound : s.canBound c one = none)
    (hfull : 64 ≤ ((s.canOf c).fifo one).fill) (hkeep : bit (s.canCfg c) (20 + one.toNat) = false) (f : CanFrame) (st : Nat) :
    s.canToFifo c one f st = (s.bump (Pg.can c) Rg.CAN_RX_LOST).raiseSrc (Pg.can c) 2 := by
  unfold State.canToFifo
  simp only [if_neg (Nat.not_lt.2 hfull), hbound, hkeep, Bool.false_eq_true, if_false]
  rfl

theorem canToBuf_of_receive {s : State} {c n : Nat} (hrx : s.canIsTx c n = false) (f : CanFrame) (st : Nat) :
    s.canToBuf c n f st
      = ((if (s.canElement c (128 * n) f st).flag (Pg.can c) (Rg.CAN_NEWDAT + 4 * (n / 32)) (n % 32) = true then
            (s.canElement c (128 * n) f st).canMark c Rg.CAN_MSGLOST n
          else s.canElement c (128 * n) f st).canMark c Rg.CAN_NEWDAT n).bump (Pg.can c) Rg.CAN_RX_FRAMES :=
  if_neg (by rw [hrx]; exact Bool.false_ne_true)

/-- The acknowledgement of an unbound FIFO frees its elements up to the index read; of an index that it does not hold, none. -/
theorem canAck_frees {s : State} {c k : Nat} {w : Word} (hbound : s.canBound c false = none)
    (hk : (bf w 0 6 + 64 - (s.canOf c).fifo0.get) % 64 = k) (hfill : k < (s.canOf c).fifo0.fill) :
    s.canAck c false w = s.setCan c { s.canOf c with fifo0 := { (s.canOf c).fifo0 with
      fill := (s.canOf c).fifo0.fill - (k + 1), get := ((s.canOf c).fifo0.get + k + 1) % 64 } } := by
  subst hk
  unfold State.canAck CanCh.fifo
  simp only [hbound, Bool.false_eq_true, if_false, Option.isNone_none, decide_eq_true hfill, Bool.and_self, if_true]
  rfl

theorem canAck_keeps {s : State} {c : Nat} {w : Word}
    (hfill : (s.canOf c).fifo0.fill ≤ (bf w 0 6 + 64 - (s.canOf c).fifo0.get) % 64) : s.canAck c false w = s := by
  unfold State.canAck CanCh.fifo
  simp only [Bool.false_eq_true, if_false, decide_eq_false (Nat.not_lt.2 hfill), Bool.and_false]

-- Requests (spec/17 R453)

/-- A write of CAN_TXREQ adds the transmit buffers written to the requests that stand. -/
theorem mem_canTxReq {s : State} {c half n : Nat} {w : Word} (hwf : Sparse.wf (dflt {}) s.can = true) (hn : n < 64) :
    n ∈ ((s.canTxReq c half w).canOf c).txPend ↔
      n ∈ (s.canOf c).txPend ∨ (s.canIsTx c n = true ∧ n / 32 = half ∧ bit w (n % 32) = true) := by
  have hwritten : (∃ a, (a < 32 ∧ bit w a = true) ∧ a + 32 * half = n) ↔ n / 32 = half ∧ bit w (n % 32) = true := by
    constructor
    · rintro ⟨a, ⟨ha, hbit⟩, rfl⟩
      refine ⟨by omega, ?_⟩
      rwa [show (a + 32 * half) % 32 = a by omega]
    · rintro ⟨hhalf, hbit⟩
      exact ⟨n % 32, ⟨Nat.mod_lt _ (by norm_num), hbit⟩, by omega⟩
  unfold State.canTxReq
  rw [canOf_setCan_same hwf]
  simp only [List.mem_filter, List.mem_range, Bool.or_eq_true, List.mem_map, hwritten,
    Bool.and_eq_true, Bool.not_eq_true', decide_eq_false_iff_not, List.contains_eq_mem, decide_eq_true_eq]
  tauto

theorem mem_canTxCancel {s : State} {c half n : Nat} {w : Word} (hwf : Sparse.wf (dflt {}) s.can = true) :
    n ∈ ((s.canTxCancel c half w).canOf c).txPend ↔
      n ∈ (s.canOf c).txPend ∧ ¬ (n / 32 = half ∧ bit w (n % 32) = true ∧ (s.canOf c).offered ≠ some (.buf n)) := by
  unfold State.canTxCancel
  rw [canOf_setCan_same hwf]
  simp only [List.mem_filter, Bool.not_eq_true', ← Bool.not_eq_true, Bool.and_eq_true, beq_iff_eq, bne_iff_ne, and_assoc]

-- Arbitration (spec/17 R453)

theorem lowestArb_none {l : List (CanSrc × CanFrame)} (h : lowestArb l = none) : l = [] := by
  cases l with
  | nil => rfl
  | cons a t =>
    unfold lowestArb at h
    split at h
    · cases h
    · split at h <;> cases h

/-- The frame offered is the first of the lowest field: every earlier one is above it, every later one not below. -/
theorem lowestArb_splits {l : List (CanSrc × CanFrame)} : ∀ {a : CanSrc × CanFrame}, lowestArb l = some a →
    ∃ before after, l = before ++ a :: after ∧ (∀ b ∈ before, canArb a.2 < canArb b.2)
      ∧ ∀ b ∈ after, canArb a.2 ≤ canArb b.2 := by
  induction l with
  | nil => intro a h; cases h
  | cons x t ih =>
    intro a h
    unfold lowestArb at h
    split at h
    next hnone =>
      cases h
      exact ⟨[], t, rfl, by simp, by simp [lowestArb_none hnone]⟩
    next b hb =>
      obtain ⟨before, after, hsplit, hbefore, hafter⟩ := ih hb
      split at h
      next hlt =>
        cases h
        refine ⟨x :: before, after, by rw [hsplit]; rfl, ?_, hafter⟩
        exact List.forall_mem_cons.2 ⟨hlt, hbefore⟩
      next hge =>
        cases h
        have hxb : canArb x.2 ≤ canArb b.2 := Nat.not_lt.1 hge
        refine ⟨[], t, rfl, by simp, ?_⟩
        rw [hsplit]
        intro y hy
        rcases List.mem_append.1 hy with hy | hy
        · exact hxb.trans (hbefore y hy).le
        · rcases List.mem_cons.1 hy with rfl | hy
          · exact hxb
          · exact hxb.trans (hafter y hy)

theorem lowestArb_mem {l : List (CanSrc × CanFrame)} {a : CanSrc × CanFrame} (h : lowestArb l = some a) : a ∈ l := by
  obtain ⟨before, after, rfl, -⟩ := lowestArb_splits h
  simp

/-- A channel without transmit queues offers no queue's frame. -/
theorem canCands_without_queues {s : State} {c q : Nat} {f : CanFrame} (hqueues : s.canQueues c = []) :
    (CanSrc.queue q, f) ∉ s.canCands c := by
  unfold State.canCands
  simp only [hqueues, List.filter_nil, List.map_nil, List.append_nil, List.mem_append, not_or]
  refine ⟨⟨?_, ?_⟩, ?_⟩
  · split <;> simp
  · split <;> simp
  · simp

/-- Where no buffer that waits holds an error, none is discarded. -/
theorem canBufCheck_of_whole {s : State} {c : Nat} (hwhole : ∀ n ∈ (s.canOf c).txPend, (s.canOf c).lostIn (128 * n) 128 = false) :
    s.canBufCheck c = s :=
  if_pos (List.filter_eq_nil_iff.2 fun n hn => by
    rw [show (s.canOf c).lostIn (bufAt n) 128 = false from hwhole n hn]
    exact Bool.false_ne_true)

theorem canArbitrate_offers {s : State} {c : Nat} {src : CanSrc} {f : CanFrame} (hon : s.portsOn = true)
    (hrunning : s.running (Pg.can c) = true) (hfree : (s.canOf c).offered = none) (hmode : s.canMode c ≠ 1)
    (hbus : (s.canOf c).busOff = false) (hqueues : s.canQueues c = [])
    (hwhole : ∀ n ∈ (s.canOf c).txPend, (s.canOf c).lostIn (128 * n) 128 = false)
    (hlow : lowestArb (s.canCands c) = some (src, f)) :
    s.canArbitrate c = s.setCan c { s.canOf c with
      offered := some src, frame := some { f with brs := f.brs && f.fdf && bit (s.canCfg c) 3 }, sof := s.canEdge c } := by
  unfold State.canArbitrate
  simp only [hon, hrunning, hfree, Option.isNone_none, bne_iff_ne.2 hmode, Bool.and_self, if_true, hqueues, List.foldl_nil,
    canBufCheck_of_whole hwhole]
  rw [if_neg (by rw [hbus]; exact Bool.false_ne_true), hlow]
  cases src with
  | queue q => exact absurd (lowestArb_mem hlow) (canCands_without_queues hqueues)
  | lease _ | reference | late | buf _ => rfl

theorem canSpoil_of_buffer {s : State} {c n : Nat} {f : CanFrame} (hon : s.portsOn = true)
    (hrunning : s.running (Pg.can c) = true) (hfree : (s.canOf c).offered = none) (hmode : s.canMode c ≠ 1)
    (hlow : lowestArb (s.canCands c) = some (.buf n, f)) :
    s.canSpoil c = (s.setCan c { s.canOf c with
      txPend := delN (s.canOf c).txPend n, ready := delN (s.canOf c).ready n }).raiseSrc (Pg.can c) 4 := by
  unfold State.canSpoil
  simp only [hon, hrunning, hfree, Option.isNone_none, bne_iff_ne.2 hmode, Bool.and_self, if_true, hlow]

theorem exec_canArbitration_whole (c : Nat) (s : State) : exec (.canArbitration c false) s = finish s (s.canArbitrate c) := rfl

theorem exec_canArbitration_spoilt (c : Nat) (s : State) :
    exec (.canArbitration c true) s = finish s ((s.canSpoil c).canArbitrate c) := rfl

theorem canSent_of_buffer {s : State} {c n : Nat} {f : CanFrame} (hlive : s.canLive c = true) (hmode : s.canMode c ≠ 2)
    (hsrc : (s.canOf c).offered = some (.buf n)) (hframe : (s.canOf c).frame = some f) :
    s.canSent c
      = (let x := s.canOf c
         let s1 := ((s.setCan c { x with offered := none, frame := none, tec := x.tec - 1 }).emit (.can c f)).bump (Pg.can c)
           Rg.CAN_TX_FRAMES
         let y := (s1.canOf c).wr (128 * n + 8) (leBytes 8 x.sof)
         (s1.setCan c { y with txPend := delN y.txPend n, ready := delN y.ready n }).canMark c Rg.CAN_TXDONE n) := by
  unfold State.canSent
  simp only [hsrc, hframe, hlive, Bool.not_true, Bool.false_eq_true, if_false, if_neg hmode]
  rfl

/-- Settles O52: a frame goes where the first filter that matches sends it, and the first waiting frame of the lowest field is
offered, by the recursion of the search for it. -/
theorem canFramesMove : Obligations.CanFramesMove := by
  refine ⟨⟨?receive, ?accept, ?fifo, ?buffer, ?ack⟩, ?request, ?requested, ?cancel, ?cancelled, ?offer, ?spoil, ?lowest, ?sent⟩
  case receive =>
    intro s c f ago bad inputs hlive hmode st s1 l
    exact ⟨congrArg (finish s) (canReceive_spoilt hlive hmode f ago bad inputs),
      congrArg (finish s) (canReceive_good hlive hmode rfl rfl inputs)⟩
  case accept =>
    intro s c f st bad hlease
    exact ⟨canAccept_of_none hlease st, fun n => ⟨canAccept_of_drop hlease st, canAccept_of_fifo0 hlease st,
      canAccept_of_fifo1 hlease st, canAccept_of_buffer hlease st⟩⟩
  case fifo =>
    intro s c one f st x q s1 hbound
    exact ⟨fun hroom => ⟨_, canToFifo_of_room hroom f st, rfl⟩, fun hfull hkeep => canToFifo_full hbound hfull hkeep f st⟩
  case buffer =>
    intro s c n f st hrx
    exact canToBuf_of_receive hrx f st
  case ack =>
    intro s r g c w hw hbound x k
    exact ⟨fun hfill => finish_onWrite hw (canAck_frees hbound rfl hfill), fun hfill => finish_onWrite hw (canAck_keeps hfill)⟩
  case request =>
    intro s r g c half w hw
    exact finish_onWrite hw rfl
  case requested =>
    intro s c half w hwf n hn
    exact mem_canTxReq hwf hn
  case cancel =>
    intro s r g c half w hw
    exact finish_onWrite hw rfl
  case cancelled =>
    intro s c half w n hwf
    exact mem_canTxCancel hwf
  case offer =>
    intro s c src f hon hrunning hfree hmode hbus hqueues hwhole hlow
    rw [exec_canArbitration_whole, canArbitrate_offers hon hrunning hfree hmode hbus hqueues hwhole hlow]
    rfl
  case spoil =>
    intro s c n f hon hrunning hfree hmode hlow
    rw [exec_canArbitration_spoilt, canSpoil_of_buffer hon hrunning hfree hmode hlow]
    rfl
  case lowest =>
    intro l a h
    exact lowestArb_splits h
  case sent =>
    intro s c n f hup hlive hmode hsrc hframe
    exact finish_whenUp hup (canSent_of_buffer hlive hmode hsrc hframe)

end Sys2Proof.Machine
end

section
/-! CAN FD channels (spec/17): fault confinement, time-triggered operation and rate detection, with the statement on them. -/

namespace Sys2Proof.Machine

-- Errors (spec/17 R458, R459)

/-- Which counter an error moves (ISO 11898-1, log entry 155). -/
theorem afterError_eq (x : CanCh) (lec more : Nat) (excepted : Bool) :
    x.afterError lec more excepted
      = (if x.offered.isSome = true then
          x.tec + (if excepted = true ∧ (lec = 3 ∧ x.passive = true ∨ lec = 1) then 0 else 8) + 8 * more else x.tec,
        if x.offered.isSome = true then x.rxc else x.rxc + 1 + 8 * more) := by
  unfold CanCh.afterError
  simp only [Bool.and_eq_true, Bool.or_eq_true, beq_iff_eq]
  split <;> rfl

theorem canError_of_live {s : State} {c lec : Nat} (hlive : s.canLive c = true) (hlec : lec ≠ 0) (hmode : s.canMode c ≠ 1)
    (more : Nat) (data excepted : Bool) :
    s.canError c lec data more excepted false
      = (((s.setCan c { s.canOf c with lec := lec, lecData := data }).bump (Pg.can c) Rg.CAN_ERR_FRAMES).canUnoffer c).canCounters
          c ((s.canOf c).afterError lec more excepted).1 ((s.canOf c).afterError lec more excepted).2 := by
  unfold State.canError
  simp only [hlive, Bool.not_true, Bool.false_eq_true, if_false, if_neg hlec, if_neg hmode]

/-- Bus-off ends what the channel had on offer, its recovery and its lease frames (spec/17 R458). -/
theorem canCounters_busOff {s : State} {c tec : Nat} (hwf : Sparse.wf (dflt {}) s.can = true) (htec : 255 < tec)
    (hbus : (s.canOf c).busOff = false) (rxc : Nat) :
    ((s.canCounters c tec rxc).canOf c).busOff = true ∧ ((s.canCounters c tec rxc).canOf c).recovering = false
      ∧ ((s.canCounters c tec rxc).canOf c).offered = none ∧ ((s.canCounters c tec rxc).canOf c).frame = none
      ∧ ((s.canCounters c tec rxc).canOf c).lease = [] := by
  have hraised : ∀ (b : Bool) (x : CanCh),
      (if b = true then (s.setCan c x).raiseSrc (Pg.can c) 1 else s.setCan c x).can = (s.setCan c x).can := by
    intro b x
    split
    · exact raiseSrc_can _ _ _
    · rfl
  have hset : ∀ x : CanCh, Sparse.wf (dflt {}) (s.setCan c x).can = true := fun x => Sparse.wf_set hwf c x
  unfold State.canCounters
  simp only [decide_eq_true htec, hbus, Bool.not_false, Bool.and_self, Bool.or_true, if_true, raiseSrc_canOf, bump_canOf]
  rw [canOf_setCan_same (by rw [hraised]; exact hset _), canOf_congr (hraised _ _), canOf_setCan_same hwf]
  exact ⟨rfl, rfl, rfl, rfl, rfl⟩

theorem canRecoverWrite_of_busOff {s : State} {c : Nat} {w : Word} (hrecover : bit w 0 = true)
    (hbus : (s.canOf c).busOff = true) :
    s.canRecoverWrite c w = s.setCan c { s.canOf c with recovering := true } :=
  if_pos (by rw [hrecover, hbus]; rfl)

theorem canRecovered_ends {s : State} {c : Nat} (hrecovering : (s.canOf c).recovering = true) (hon : s.portsOn = true)
    (hrunning : s.running (Pg.can c) = true) :
    s.canRecovered c = s.setCan c { s.canOf c with recovering := false, busOff := false, tec := 0, rxc := 0 } :=
  if_pos (by rw [hrecovering, hon, hrunning]; rfl)

-- Time-triggered operation (spec/17 R455 to R457)

theorem canBoundary_of_master {s : State} {c : Nat} (hon : s.portsOn = true) (hrunning : s.running (Pg.can c) = true)
    (htt : s.canTt c = 1) :
    s.canBoundary c
      = (let s1 := if (s.canOf c).refPend = true then s.bump (Pg.can c) Rg.CAN_TT_MISSED else s
         let o := (s.canOf c).offered
         s1.setCan c { s1.canOf c with refPend := true, ttClash := false, refAt := false, tried := [], ready := [],
                                       offered := if o = some .reference then some .late else o }) := by
  have hmissed : (if (s.canOf c).refPend = true then s.bump (Pg.can c) Rg.CAN_TT_MISSED else s).canOf c = s.canOf c := by
    split <;> simp only [bump_canOf]
  unfold State.canBoundary
  simp only [hon, hrunning, htt, beq_self_eq_true, Bool.and_self, if_true, hmissed]

theorem canRecDown_at_zero {s : State} {c : Nat} (hrec : (s.canOf c).rxc = 0) : s.canRecDown c = s := if_pos (Or.inr hrec)

/-- A slave's cycle starts at its reference. -/
theorem canRefIn_of_slave {s : State} {c : Nat} {f : CanFrame} (htt : s.canTt c = 2) (href : s.canIsRef c f = true) (st : Nat) :
    s.canRefIn c f st = s.setCan c { s.canOf c with
      ttStamp := st, ttCount := (f.data.headD 0).toNat % 64, ttSync := true, refAt := true, tried := [], ready := [] } := by
  unfold State.canRefIn State.canCycle
  simp only [href, htt, beq_self_eq_true, Bool.or_true, if_true]

theorem canReference_of_slave {s : State} {c : Nat} {f : CanFrame} {ago : Nat} {y : State} (hlive : s.canLive c = true)
    (hmode : s.canMode c ≠ 2) (href : s.canIsRef c f = true) (hrec : (s.canOf c).rxc = 0)
    (hy : s.canRefIn c f (s.canStamp c ago) = y) :
    s.canReference c f ago
      = (if (y.canOf c).badFilters = [] then y else y.raiseSrc (Pg.can c) 4).canAccept c f (s.canStamp c ago)
          (y.canOf c).badFilters := by
  unfold State.canReference
  rw [if_pos href, canReceive_good (s1 := y) hlive hmode (by rw [canRecDown_at_zero hrec, hy]) rfl]
  rfl

theorem canSyncLost_of_slave {s : State} {c : Nat} (htt : s.canTt c = 2) (hsync : (s.canOf c).ttSync = true)
    (hon : s.portsOn = true) (hrunning : s.running (Pg.can c) = true) :
    s.canSyncLost c = (s.setCan c { s.canOf c with ttSync := false, refAt := false }).raiseSrc (Pg.can c) 3 :=
  if_pos ⟨htt, hsync, hon, Or.inl hrunning⟩

theorem canTrigger_offers {s : State} {c n : Nat} (hon : s.portsOn = true) (hrunning : s.running (Pg.can c) = true)
    (htimed : s.canTimed c n = true) (htx : s.canIsTx c n = true) (hpend : n ∈ (s.canOf c).txPend)
    (href : (s.canOf c).refAt = true) (hfresh : n ∉ (s.canOf c).tried) :
    s.canTrigger c n = s.setCan c { s.canOf c with
      tried := addN (s.canOf c).tried n, ready := addN (s.canOf c).ready n } :=
  if_pos (by simp [hon, hrunning, htimed, htx, hpend, href, hfresh])

-- Rate detection (spec/17 R460)

theorem canRateDetectBody_begins {c : Ctx} {t : State} (hlo : 10 ≤ c.f 1 0 16) (hhi : c.f 1 0 16 ≤ 10000)
    (howner : t.owner (Pg.can (c.f 0 0 3)) = c.g) (hrates : t.canRates (c.f 0 0 3) ≠ [])
    (hstopped : t.stopped (Pg.can (c.f 0 0 3)) = true) (hidle : (t.canOf (c.f 0 0 3)).detect = none) :
    canRateDetectBody c t = t.setCan (c.f 0 0 3) { t.canOf (c.f 0 0 3) with
      detect := some { slot := c.slot, apply := c.b 0 8, dwell := c.f 1 0 16, total := (c.arg 2).toNat,
                       cand := (t.canRates (c.f 0 0 3)).headD 0 } } := by
  obtain ⟨k, l, hk⟩ := List.exists_cons_of_ne_nil hrates
  have hdwell : ¬ (c.f 1 0 16 < 10 ∨ 10000 < c.f 1 0 16) := by omega
  unfold canRateDetectBody
  simp only [if_neg hdwell, howner, bne_self_eq_false, Bool.false_eq_true, if_false, hk, hstopped, hidle, Bool.not_true,
    Option.isSome_none, List.headD_cons]

/-- A channel that does not take part in the bus hears frames for its detection alone. -/
theorem canReceive_of_detect {s : State} {c : Nat} {d : CanDetect} (hon : s.portsOn = true) (hlive : s.canLive c = false)
    (hdetect : (s.canOf c).detect = some d) (f : CanFrame) (ago : Nat) (ecc : Bool) (bad : List Nat) (l : List NodeInput) :
    s.canReceive c f ago ecc bad l = s.canHeard c d := by
  simp [State.canReceive, hlive, hdetect, hon]

theorem canHeard_first {s : State} {c : Nat} {d : CanDetect} (hgood : d.good = 0) :
    s.canHeard c d = s.setCan c { s.canOf c with
      detect := some { d with
        frames := Sparse.set (dflt 0) d.frames d.cand (Sparse.get (dflt 0) d.frames d.cand + 1), good := 1 } } := by
  unfold State.canHeard
  rw [if_neg (by omega), hgood]

theorem canHeard_confirms {s : State} {c : Nat} {d : CanDetect} (hgood : 1 ≤ d.good) :
    s.canHeard c d
      = (let s1 := s.setCan c { s.canOf c with detect := none }
         let w := s1.reg (Pg.can c) (Rg.CAN_ABD + 4 * d.cand)
         let s2 := if d.apply = true then s1.setReg (Pg.can c) Rg.CAN_NBT (canTiming w) else s1
         s2.complete d.slot 0 (wd d.cand) (wd (Sparse.get (dflt 0) d.frames d.cand + 1)) (wd d.errors)) := if_pos hgood

theorem canError_of_detect {s : State} {c lec : Nat} {d : CanDetect} (hon : s.portsOn = true) (hlive : s.canLive c = false)
    (hdetect : (s.canOf c).detect = some d) (hlec : lec ≠ 0) (more : Nat) (excepted : Bool) :
    s.canError c lec false more excepted false
      = s.setCan c { s.canOf c with detect := some { d with errors := d.errors + 1, good := 0 } } := by
  unfold State.canError
  simp only [hlive, hdetect, hon, bne_iff_ne.2 hlec, Bool.not_false, Bool.and_self, if_true]
  rfl

theorem canDwell_times_out {s : State} {c : Nat} {d : CanDetect} (hdetect : (s.canOf c).detect = some d) :
    s.canDwell c true = (s.setCan c { s.canOf c with detect := none }).complete d.slot 0x201 0xFF 0 0 := by
  unfold State.canDwell
  simp only [hdetect, if_true]

theorem canDwell_moves_on {s : State} {c k : Nat} {d : CanDetect} (hdetect : (s.canOf c).detect = some d)
    (hnext : (s.canRates c).find? (fun j => decide (d.cand < j)) = some k) :
    s.canDwell c false = s.setCan c { s.canOf c with detect := some { d with cand := k, good := 0 } } := by
  unfold State.canDwell
  simp only [hdetect, hnext, Bool.false_eq_true, if_false, Option.orElse_some, Option.getD_some]

/-- Settles O53: each event of a channel has one effect, and bus-off is where the counters leave their range. -/
theorem canErrorsAndTiming : Obligations.CanErrorsAndTiming := by
  refine ⟨?error, ?busOff, ?recover, ?recovered, ?boundary, ?reference, ?syncLost, ?trigger, ?detect, ?heard, ?unheard, ?dwell⟩
  case error =>
    intro s c lec more data excepted hup hlive hlec hmode x s1 spared tec rxc
    refine finish_whenUp hup ((canError_of_live hlive hlec hmode more data excepted).trans ?_)
    rw [afterError_eq]
  case busOff =>
    intro s c tec rxc hwf htec hbus
    exact canCounters_busOff hwf htec hbus rxc
  case recover =>
    intro s r g c w hw hrecover hbus
    exact finish_onWrite hw (canRecoverWrite_of_busOff hrecover hbus)
  case recovered =>
    intro s c hrecovering hon hrunning
    exact congrArg (finish s) (canRecovered_ends hrecovering hon hrunning)
  case boundary =>
    intro s c hon hrunning htt
    exact congrArg (finish s) (canBoundary_of_master hon hrunning htt)
  case reference =>
    intro s c f ago hlive hmode htt href hrec
    exact congrArg (finish s) (canReference_of_slave hlive hmode href hrec (canRefIn_of_slave htt href _))
  case syncLost =>
    intro s c htt hsync hon hrunning
    exact congrArg (finish s) (canSyncLost_of_slave htt hsync hon hrunning)
  case trigger =>
    intro s c n hon hrunning htimed htx hpend href hfresh
    exact congrArg (finish s) (canTrigger_offers hon hrunning htimed htx hpend href hfresh)
  case detect =>
    refine takes_of (body := canRateDetectBody) (fun _ _ => rfl) ?_
    rintro c t ⟨hlo, hhi, howner, hrates, hstopped, hidle⟩
    exact canRateDetectBody_begins hlo hhi howner hrates hstopped hidle
  case heard =>
    intro s c f ago ecc bad inputs d hon hlive hdetect
    have hheard := canReceive_of_detect hon hlive hdetect f ago ecc bad inputs
    exact ⟨fun hgood => congrArg (finish s) (hheard.trans (canHeard_first hgood)),
      fun hgood => congrArg (finish s) (hheard.trans (canHeard_confirms hgood))⟩
  case unheard =>
    intro s c lec more excepted d hup hon hlive hdetect hlec
    exact finish_whenUp hup (canError_of_detect hon hlive hdetect hlec more excepted)
  case dwell =>
    intro s c d hup hdetect
    exact ⟨finish_whenUp hup (canDwell_times_out hdetect), fun k hnext => finish_whenUp hup (canDwell_moves_on hdetect hnext)⟩

end Sys2Proof.Machine
end

section
/-! Direct field inputs and outputs (spec/18): conversions, pulse inputs, indices and outputs, with the statement on them. -/

namespace Sys2Proof.Machine

-- Analogue inputs (spec/18 R465 to R469)

/-- The exact value of a level as a fraction of codes, by the range (spec/18 R466). -/
theorem ainExact_eq (range : Nat) (level : Int) :
    ainExact range level
      = (if range = 3 then level * 1600 else level * 32768, if range = 3 then 1000000000 else 10000000000) := by
  unfold ainExact
  split <;> rfl

/-- A converter's slots follow in ascending order. -/
theorem ainSlot_of_turn {s : State} {n : Nat} (hslot : Sparse.get (dflt 0) s.fio.slots (n / 4) = n % 4) (level : Int) :
    s.ainSlot n level = ({ s with
      fio := { s.fio with slots := Sparse.set (dflt 0) s.fio.slots (n / 4) ((n + 1) % 4) } } : State).ainConvert n level :=
  if_pos hslot

theorem ainConvert_of_discard {s : State} {n : Nat} (hdiscard : s.fio.discard.contains (n / 4) = true) (level : Int) :
    s.ainConvert n level = ({ s with fio := { s.fio with discard := delN s.fio.discard (n / 4) } } : State).bump Pg.ain
      Rg.AIN_DISCARDS := if_pos hdiscard

section
variable {s : State} {n den : Nat} {level num : Int} (hdiscard : s.fio.discard.contains (n / 4) = false)
  (hrange : s.ainRange n ≠ 0) (hclamp : s.fio.clamp.contains n = false) (htry : s.fio.shuntTry.contains n = false)
  (hexact : ainExact (s.ainRange n) level = (num, den))
include hdiscard hrange hclamp htry hexact

/-- A level within the range of an input whose shunt is closed. -/
theorem ainConvert_of_good (hshunt : ¬ (s.ainRange n = 3 ∧ s.flag Pg.ain Rg.AIN_SHUNT n = true)) (hlo : -32768 * den ≤ num)
    (hhi : num ≤ 32767 * den) :
    s.ainConvert n level = ({ s with
      fio := { s.fio with shuntTry := delN s.fio.shuntTry n, clamp := delN s.fio.clamp n } } : State).ainUse n
        (nearestInt num den) 1 := by
  have hclosed : (s.ainRange n == 3 && s.flag Pg.ain Rg.AIN_SHUNT n) = false := by
    simpa [Bool.and_eq_true] using hshunt
  unfold State.ainConvert
  simp only [hdiscard, hclamp, htry, hexact, hclosed, if_neg hrange, decide_eq_false (not_lt.2 hlo),
    decide_eq_false (not_lt.2 hhi), Bool.false_and, Bool.or_self, Bool.false_eq_true, if_false]

/-- A level beyond the range, or any while the shunt is open, begins a clamp. -/
theorem ainConvert_of_overrange
    (hover : (s.ainRange n = 3 ∧ s.flag Pg.ain Rg.AIN_SHUNT n = true) ∨ 32767 * den < num ∨ num < -32768 * den) :
    s.ainConvert n level
      = (let s1 : State := { s with fio := { s.fio with
           shuntTry := delN s.fio.shuntTry n, clamp := addN s.fio.clamp n, discard := addN s.fio.discard (n / 4) } }
         ((s1.setReg Pg.ain Rg.AIN_OVR (s1.reg Pg.ain Rg.AIN_OVR ||| oneBit n)).raiseSrc Pg.ain 0).ainUse n
           (if (s.ainRange n = 3 ∧ s.flag Pg.ain Rg.AIN_SHUNT n = true) ∨ 0 ≤ num then 32767 else -32768) 3) := by
  have habove : (s.ainRange n == 3 && s.flag Pg.ain Rg.AIN_SHUNT n || decide (32767 * (den : Int) < num)
      || decide (num < -32768 * den)) = true := by
    simpa [or_assoc] using hover
  unfold State.ainConvert
  simp only [hdiscard, hclamp, htry, hexact, if_neg hrange, Bool.not_false, Bool.and_true, Bool.false_and, Bool.or_false,
    habove, Bool.false_eq_true, if_false, if_true, Bool.or_eq_true, Bool.and_eq_true, beq_iff_eq, decide_eq_true_eq]
  rfl

end

theorem shuntOpen_of_closed {s : State} {n : Nat} (hon : s.ainOn = true) (hrange : s.ainRange n = 3)
    (hclosed : s.flag Pg.ain Rg.AIN_SHUNT n = false) :
    s.shuntOpen n = (s.setReg Pg.ain Rg.AIN_SHUNT (s.reg Pg.ain Rg.AIN_SHUNT ||| oneBit n)).raiseSrc Pg.ain 1 :=
  if_pos (by rw [hon, hrange, hclosed]; rfl)

theorem shuntRetry_of_open {s : State} {n : Nat} (hon : s.ainOn = true) (hopen : s.flag Pg.ain Rg.AIN_SHUNT n = true) :
    s.shuntRetry n = { s with fio := { s.fio with shuntTry := addN s.fio.shuntTry n } } :=
  if_pos (by rw [hon, hopen]; rfl)

/-- A conversion of an input of a running page is one of its slot. -/
theorem finish_ain {s t : State} {n : Nat} {level : Int} (hon : s.ainOn = true)
    (hslot : Sparse.get (dflt 0) s.fio.slots (n / 4) = n % 4)
    (h : ({ s with fio := { s.fio with slots := Sparse.set (dflt 0) s.fio.slots (n / 4) ((n + 1) % 4) } } : State).ainConvert n
      level = t) : exec (.ainConversion n level) s = .next (s.settled t) :=
  congrArg (finish s) ((if_pos hon).trans ((ainSlot_of_turn hslot level).trans h))

-- Pulse inputs (spec/18 R471 to R475)

theorem finish_whenPin {s t : State} {f : State → State} (hup : s.coreUp = true) (hrunning : s.running Pg.pin = true)
    (h : f s = t) : finish s (s.whenPin f) = .next (s.settled t) :=
  congrArg (finish s) ((if_pos (by rw [hup, hrunning]; rfl)).trans h)

theorem filterTakes_iff {filt d : Nat} : filterTakes filt d = true ↔ filt = 0 ∨ 2 ^ filt ≤ d := by
  simp [filterTakes]

theorem filterTakes_false_iff {filt d : Nat} : filterTakes filt d = false ↔ filt ≠ 0 ∧ d < 2 ^ filt := by
  simp [filterTakes]

/-- A level that has not held for the filter's time is only timed. -/
theorem run_of_short {w : PinWave} {l : Bool} (hl : l ≠ w.level) {filt d : Nat} (hshort : filterTakes filt (w.cand + d) = false) :
    w.run filt l d = ({ w with cand := w.cand + d }, []) := by
  simp [PinWave.run, hl, hshort]

/-- One that has is the level, and a rise ends the period that a rise began. -/
theorem run_of_held {w : PinWave} {l : Bool} (hl : l ≠ w.level) {filt d : Nat} (hheld : filterTakes filt (w.cand + d) = true)
    (hseen : w.seen = true) :
    (w.run filt l d).1.level = l ∧ (w.run filt l d).2 = (if l = true then [(w.t, w.hi)] else []) := by
  unfold PinWave.run PinWave.pass
  simp only [if_neg hl, hheld, hseen, Bool.and_true, if_true]
  cases l <;> simp

/-- The results of a millisecond in FREQ: its periods' count over their length. -/
theorem pinUpdate_of_freq {s : State} {n : Nat} {wave : List (Bool × Nat)} {u : PinWave} {l : List (Nat × Nat)} {x : Nat × Nat}
    (hmode : s.pinMode n = 1) (hfirst : s.fio.pinFirst.contains n = false) (hruns : s.pinRuns n wave = (u, x :: l)) :
    s.pinUpdate n wave = ({ s with fio := { s.fio with
        waves := Sparse.set (dflt {}) s.fio.waves n u, pinFirst := delN s.fio.pinFirst n } } : State).setPin n
      (wd (nearestDiv ((l.length + 1) * 25000000000) ((x :: l).foldl (fun k p => k + p.1) 0))) 1 := by
  have hperiodic : periodic (s.pinMode n) = true := by rw [hmode]; rfl
  obtain ⟨p, hlast⟩ : ∃ p, (x :: l).getLast? = some p := ⟨_, List.getLast?_eq_some_getLast (List.cons_ne_nil x l)⟩
  have hresult : ∀ a : State, a.pinMode n = 1 → a.fio.pinFirst.contains n = false →
      a.pinResult n (x :: l) = ({ a with fio := { a.fio with pinFirst := delN a.fio.pinFirst n } } : State).setPin n
        (wd (nearestDiv ((l.length + 1) * 25000000000) ((x :: l).foldl (fun k p => k + p.1) 0))) 1 := by
    intro a hmode hfirst
    unfold State.pinResult
    simp only [hmode, hfirst, periodic, beq_self_eq_true, Bool.true_or, if_true, Bool.false_eq_true, if_false, hlast,
      List.length_cons]
  unfold State.pinUpdate
  rw [if_pos hperiodic, hruns]
  exact hresult _ hmode hfirst

theorem pinLate_of_periodic {s : State} {n : Nat} (hmode : periodic (s.pinMode n) = true)
    (htmo : bf (s.reg Pg.pin (pinOff Rg.PIN_TMO n)) 0 16 ≠ 0) :
    s.pinLate n = (let s1 := s.setPin n (s.pinVal n) 2
      ({ s1 with fio := { s1.fio with pinFirst := addN s1.fio.pinFirst n } } : State).raiseSrc Pg.pin 1) :=
  if_pos (by rw [hmode, decide_eq_true htmo]; rfl)

theorem pinCount_up (s : State) (n : Nat) : s.pinCount n 1 = s.setReg Pg.pin (pinOff Rg.PIN_VAL n) (s.pinVal n + 1) := by
  have h : BitVec.ofInt 32 ((s.pinVal n).toNat + 1) = s.pinVal n + 1 := by
    rw [BitVec.ofInt_add, BitVec.ofInt_natCast, BitVec.ofNat_toNat, BitVec.setWidth_eq]
    rfl
  unfold State.pinCount
  rw [h]

/-- The even input of the pair of one that counts is not in QUAD (spec/18 R483). -/
theorem pair_of_count {s : State} {n : Nat} (hmode : s.pinMode n = 2) :
    bf (s.reg Pg.pin (pinOff Rg.PIN_CFG (n - n % 2))) 0 3 ≠ 4 := by
  unfold State.pinMode at hmode
  split at hmode
  · omega
  · next hpair =>
    rcases Nat.mod_two_eq_zero_or_one n with heven | hodd
    · rw [heven, Nat.sub_zero, hmode]
      decide
    · rw [hodd]
      exact fun h => hpair ⟨hodd, h⟩

theorem addN_self (l : List Nat) (n : Nat) : (addN l n).contains n = true := by
  unfold addN
  split
  · assumption
  · simp

/-- Input `n` is high after its filter. -/
def State.pinRise (s : State) (n : Nat) : State := { s with fio := { s.fio with pinHigh := addN s.fio.pinHigh n } }

@[simp] theorem pinRise_reg (s : State) (n p off : Nat) : (s.pinRise n).reg p off = s.reg p off := rfl

@[simp] theorem pinRise_pinMode (s : State) (n k : Nat) : (s.pinRise n).pinMode k = s.pinMode k := rfl

/-- A filtered rise of an input that counts rises up. -/
theorem pinMove_counts {s : State} {n : Nat} (hlow : s.fio.pinHigh.contains n = false) (hmode : s.pinMode n = 2)
    (hedge : bf (s.reg Pg.pin (pinOff Rg.PIN_CFG n)) 4 2 = 0) (hup : bit (s.reg Pg.pin (pinOff Rg.PIN_CFG n)) 6 = false) :
    s.pinMove n true false = (s.pinRise n).setReg Pg.pin (pinOff Rg.PIN_VAL n) (s.pinVal n + 1) := by
  have hsee := addN_self s.fio.pinHigh n
  unfold State.pinMove
  simp only [hlow, Bool.false_eq_true, if_false, hsee]
  rw [if_neg (pair_of_count hmode), ← State.pinRise]
  simp only [pinRise_reg, pinRise_pinMode, hmode, hedge, hup, decide_true, beq_self_eq_true, Bool.and_self, Bool.or_true,
    Bool.true_or, Bool.false_eq_true, if_false, if_true]
  exact pinCount_up (s.pinRise n) n

/-- A change that its filter takes moves the input to the level after INV. -/
theorem pinFilter_of_held {s : State} {n held : Nat} (hheld : filterTakes (s.pinFilt n) held = true) (level : Bool) :
    s.pinFilter n level false held = s.pinMove n (xor level (s.pinInv n)) false := by
  unfold State.pinFilter
  simp only [hheld, Bool.false_and, if_true]

theorem pinFilter_of_short {s : State} {n held : Nat} (hshort : filterTakes (s.pinFilt n) held = false) (level : Bool) :
    s.pinFilter n level false held = s := by
  unfold State.pinFilter
  simp only [hshort, Bool.false_and, Bool.false_eq_true, if_false]

theorem pinLoad_of_count {s : State} {n : Nat} (hmode : s.pinMode n = 2) (v : Word) :
    s.pinLoad n v = s.setReg Pg.pin (pinOff Rg.PIN_VAL n) v := if_pos (Or.inl hmode)

/-- An index edge within the tolerance of the expected count. -/
theorem pinIdx_within {s : State} {k : Nat} {e : Int} (hmode : s.pinMode (2 * k) = 4)
    (hindex : bit (s.reg Pg.pin (pinOff Rg.PIN_CFG (2 * k))) 12 = true)
    (he : expectedAt (s.pinVal (2 * k)).toInt (s.reg Pg.pin (pinOff Rg.PIN_IDXEXP k)).toInt
      (s.reg Pg.pin (pinOff Rg.PIN_IDXPER k)).toNat = e)
    (hwithin : ((s.pinVal (2 * k)).toInt - e).natAbs ≤ bf (s.reg Pg.pin (pinOff Rg.PIN_IDXTOL k)) 0 16) :
    s.pinIdx k
      = (((s.setReg Pg.pin (pinOff Rg.PIN_IDXSTAT k) (s.reg Pg.pin (pinOff Rg.PIN_IDXSTAT k) ||| 2)).setReg Pg.pin
          (pinOff Rg.PIN_VAL (2 * k)) (BitVec.ofInt 32 e)).setReg Pg.pin (pinOff Rg.PIN_IDXDRIFT k)
          (BitVec.ofInt 32 (sat32 ((s.reg Pg.pin (pinOff Rg.PIN_IDXDRIFT k)).toInt + ((s.pinVal (2 * k)).toInt - e))))) := by
  subst he
  unfold State.pinIdx
  simp only [hmode, hindex]
  exact if_pos hwithin

-- Outputs (spec/18 R479)

/-- The duty of pin `k` of a bank that follows nothing. -/
def State.pwmLow (b : Nat) (a : State) (k : Nat) : State :=
  { a with fio := { a.fio with pwmDuty := Sparse.set (dflt 0) a.fio.pwmDuty (8 * b + k) 0 } }

theorem follows_in_safe {s : State} (hmode : s.sys.mode = .safe) (page off : Nat) : s.follows page off = none := by
  unfold State.follows
  simp only [hmode]
  rfl

/-- In SAFE no pin follows its point, whatever the duties that the bank's earlier pins got. -/
theorem pwmPeriod_in_safe {s : State} (hmode : s.sys.mode = .safe) (b : Nat) :
    s.pwmPeriod b = (List.range 8).foldl (State.pwmLow b) s := by
  unfold State.pwmPeriod
  generalize List.range 8 = l
  generalize (s.reg Pg.dio (Rg.DIO_PWMPER + 4 * b)).toNat * 250 = per
  induction l generalizing s with
  | nil => rfl
  | cons k l ih =>
    rw [List.foldl_cons, List.foldl_cons, ← ih (s := s.pwmLow b k) hmode]
    simp only [follows_in_safe hmode]
    rfl

/-- Settles O41: each clause is the branch of the conversion, the filter or the edge that its case names. -/
theorem fieldSignalsAreTaken : Obligations.FieldSignalsAreTaken := by
  refine ⟨⟨?convert, ?shunt, ?retry⟩, ⟨?filter, ?freq, ?timeout, ?count, ?load, ?index⟩, ?overload, ?readback, ?debounced, ?pwm⟩
  case convert =>
    intro s n level hon hslot s0 num den opened fio
    have hexact : ainExact (s0.ainRange n) level = (num, den) := ainExact_eq _ level
    refine ⟨fun hdiscard => finish_ain hon hslot (ainConvert_of_discard (s := s0) hdiscard level), ?_, ?_⟩
    · intro hdiscard hrange hclamp hshunt htry hlo hhi
      exact finish_ain hon hslot (ainConvert_of_good (s := s0) hdiscard hrange hclamp htry hexact hshunt hlo hhi)
    · intro hdiscard hrange hclamp htry hover s1
      exact finish_ain hon hslot (ainConvert_of_overrange (s := s0) hdiscard hrange hclamp htry hexact hover)
  case shunt =>
    intro s n hon hrange hclosed
    exact congrArg (finish s) (shuntOpen_of_closed hon hrange hclosed)
  case retry =>
    intro s n hon hopen
    exact congrArg (finish s) (shuntRetry_of_open hon hopen)
  case filter =>
    intro w filt l d hl
    exact ⟨fun hfilt hshort => run_of_short hl (filterTakes_false_iff.2 ⟨hfilt, hshort⟩),
      fun hheld hseen => run_of_held hl (filterTakes_iff.2 hheld) hseen⟩
  case freq =>
    intro s n wave u l x hup hrunning hmode hfirst hruns
    exact finish_whenPin hup hrunning (pinUpdate_of_freq hmode hfirst hruns)
  case timeout =>
    intro s n hup hrunning hmode htmo
    exact finish_whenPin hup hrunning (pinLate_of_periodic hmode htmo)
  case count =>
    intro s n held hup hrunning hlow hmode hedge hcount cfg level raw
    have hlevel : xor level (s.pinInv n) = true := by simp [level, cfg, State.pinInv]
    let a : State := s.pinSees n level false
    have hpage : a.whenPin (fun b => b.pinFilter n level false held) = a.pinFilter n level false held :=
      if_pos (show (s.coreUp && (s.running Pg.pin || s.cur Pg.pin == 3)) = true by rw [hup, hrunning]; rfl)
    refine ⟨fun hheld => finish_whenUp hup (hpage.trans ?held), fun hfilt hshort => finish_whenUp hup (hpage.trans ?short)⟩
    case held =>
      rw [pinFilter_of_held (s := a) (filterTakes_iff.2 hheld), show a.pinInv n = s.pinInv n from rfl, hlevel]
      exact pinMove_counts (s := a) hlow hmode hedge hcount
    case short => exact pinFilter_of_short (s := a) (filterTakes_false_iff.2 ⟨hfilt, hshort⟩) level
  case load =>
    intro s r g n v hw hmode
    exact finish_onWrite hw (pinLoad_of_count hmode v)
  case index =>
    intro s k hup hrunning hmode hindex o s1 c e hwithin
    exact finish_whenPin hup hrunning (pinIdx_within hmode hindex rfl hwithin)
  case overload =>
    intro s k hup
    exact finish_whenUp hup rfl
  case readback =>
    intro s n hup hn
    exact finish_whenUp hup (if_pos hn)
  case debounced =>
    intro s n l hup
    exact finish_whenUp hup rfl
  case pwm =>
    intro s b hup hmode
    exact finish_whenUp hup (pwmPeriod_in_safe hmode b)

end Sys2Proof.Machine
end

section
/-! Cores and PCI Express (spec/19 R490 to R500, R511): claims, messages, the MSI-X table, resets and the link, with the statement
on them. -/

namespace Sys2Proof.Machine

-- Events of cores (spec/19 R491, R492)

/-- A claim finds the lowest event routed to the core. -/
theorem claimed_least {s : State} {c e : Nat} (h : s.claimed c = some e) : e ∈ s.eventsOf c ∧ ∀ d ∈ s.eventsOf c, e ≤ d := by
  have hmin : (s.eventsOf c).min? = some e := by
    unfold State.claimed at h
    cases hl : s.eventsOf c with
    | nil => rw [hl] at h; cases h
    | cons a t => rw [hl] at h; exact List.min?_cons'.trans h
  exact List.min?_eq_some_iff.1 hmin

theorem claimRead_of_claimed {s : State} {c e : Nat} (h : s.claimed c = some e) :
    s.claimRead c = if e < 0x1000 then s else
      { s with pci := { s.pci with coreLatch := s.pci.coreLatch.filter (fun q => q + 0x1000 != e) } } := by
  unfold State.claimRead
  rw [h]

theorem coreIrq_iff (s : State) (c : Nat) : s.coreIrq c = true ↔ c ∈ s.pci.enable ∧ s.eventsOf c ≠ [] := by
  simp [State.coreIrq]

-- Messages (spec/19 R494, R495)

theorem linkUp_of_msixReady {s : State} {f v : Nat} (h : s.msixReady f v = true) : s.pci.linkUp = true := by
  simp only [State.msixReady, State.fnAwake, Bool.and_eq_true] at h
  obtain ⟨⟨⟨⟨-, ⟨hlink, -⟩, -⟩, -⟩, -⟩, -⟩ := h
  exact hlink

theorem msixEmit_of_entry (s : State) (f v : Nat) :
    s.msixEmit f v = s.emit (.msix f v (Sparse.get (dflt 0) s.pci.table (f * 256 + v * 4))
      (Sparse.get (dflt 0) s.pci.table (f * 256 + v * 4 + 1)) (Sparse.get (dflt 0) s.pci.table (f * 256 + v * 4 + 2))) := by
  have hword : ∀ k, k ≠ 3 → s.msixWord f v k = Sparse.get (dflt 0) s.pci.table (f * 256 + v * 4 + k) := fun k hk => if_neg hk
  unfold State.msixEmit
  rw [hword 0 (by decide), hword 1 (by decide), hword 2 (by decide), Nat.add_zero]

/-- A vector that is ready sends the first queue event due on it. -/
theorem msixStep_sends {s : State} {f v q : Nat} (hup : s.coreUp = true) (hready : s.msixReady f v = true) (hv : v ≠ 0)
    (hdue : s.pci.fnLatch.find? (fun x => x.1 == f && queueVector x.2 == v) = some (f, q)) :
    s.msixStep f v none = ({ s with pci := { s.pci with fnLatch := s.pci.fnLatch.filter (fun x => x != (f, q)) } } : State).emit
      (.msix f v (Sparse.get (dflt 0) s.pci.table (f * 256 + v * 4)) (Sparse.get (dflt 0) s.pci.table (f * 256 + v * 4 + 1))
        (Sparse.get (dflt 0) s.pci.table (f * 256 + v * 4 + 2))) := by
  unfold State.msixStep State.msixSend
  simp only [hup, linkUp_of_msixReady hready, hready, Bool.and_self, if_true, if_neg hv, hdue, msixEmit_of_entry]

-- The table in BAR4 (spec/19 R494)

theorem fnOf_of_function {r : Requester} {f : Nat} (h : r = .pf ∧ f = 0 ∨ ∃ n, r = .vf n ∧ f = n.val + 1) :
    fnOf r = some f := by
  obtain ⟨rfl, rfl⟩ | ⟨n, rfl, rfl⟩ := h <;> rfl

section
variable {s : State} {r : Requester} {f x : Nat} (hfn : fnOf r = some f) (hx : x < 0x4000)
include hfn hx

theorem bar4Off_of_function : bar4Off r (0x2000000 + x) = some (f, x) := by
  unfold bar4Off
  simp only [hfn]
  rw [if_pos (by omega), Nat.add_sub_cancel_left]

omit hx in
theorem windowOff_of_function : windowOff r (0x2000000 + x) = none := by
  cases r with
  | core _ | usb => cases hfn
  | pf | vf _ => exact if_neg (show ¬ (0 ≤ 0x2000000 + x ∧ 0x2000000 + x < 0 + 0x1000000) by omega)

/-- A function reads its BAR4. -/
theorem readAt_bar4 (hup : s.coreUp = true) (n : Nat) : s.readAt r (0x2000000 + x) n = (s.bar4At r f x n, s) := by
  have hwindow := windowOff_of_function (x := x) hfn
  have hbar := bar4Off_of_function hfn hx
  unfold State.readAt
  cases r with
  | core _ | usb => cases hfn
  | pf | vf _ => simp only [hup, hwindow, hbar, Bool.not_true, Bool.false_eq_true, if_false]

/-- A function writes its BAR4. -/
theorem writeAt_bar4 (hup : s.coreUp = true) {g : Nat} (hglove : s.gloveOf r = some g) (n : Nat) (v : DWord) :
    s.writeAt r (0x2000000 + x) n v = access32 n x v (fun a o w => a.bar4Write f o w) s := by
  have hwindow := windowOff_of_function (x := x) hfn
  have hbar := bar4Off_of_function hfn hx
  unfold State.writeAt
  cases r with
  | core _ | usb => cases hfn
  | pf | vf _ => simp only [hwindow, hbar, hup, hglove, Option.isSome_some, Bool.and_self, if_true]

end

section
variable (s : State) (f : Nat) {v k : Nat} (hv : v < 64) (hk : k < 3)
include hv hk

/-- The three words of a vector that are no mask bit are those of its table entry. -/
theorem bar4Read_table : s.bar4Read f (v * 16 + 4 * k) = Sparse.get (dflt 0) s.pci.table (f * 256 + v * 4 + k) := by
  unfold State.bar4Read State.msixWord
  rw [if_pos (by omega), if_neg (by omega), show (v * 16 + 4 * k) / 16 = v by omega,
    show (v * 16 + 4 * k) % 16 / 4 = k by omega]

theorem bar4Write_table (w : Word) :
    s.bar4Write f (v * 16 + 4 * k) w = { s with pci := { s.pci with
      table := Sparse.set (dflt 0) s.pci.table (f * 256 + v * 4 + k) (if k = 0 then w &&& 0xFFFFFFFC else w) } } := by
  unfold State.bar4Write
  simp only [show (v * 16 + 4 * k) / 16 = v by omega, show (v * 16 + 4 * k) % 16 / 4 = k by omega]
  rw [if_neg (by omega), if_neg (by omega)]

end

theorem bar4At_word {s : State} {r : Requester} {g : Nat} (hglove : s.gloveOf r = some g) {x : Nat} (halign : x % 4 = 0)
    (f : Nat) : s.bar4At r f x 4 = leBytes 4 (s.bar4Read f x).toNat := by
  simp [State.bar4At, hglove, halign]

-- Resets (spec/19 R497)

/-- Function `f` keeps nothing of the CMD page and the TMB pages in its bank. -/
theorem breg_fnReset {s : State} {f p o : Nat} (hcanon : s.canon = true)
    (hp : p = Pg.cmd ∨ p = Pg.tmb 0 ∨ p = Pg.tmb 1 ∨ p = Pg.tmb 2 ∨ p = Pg.tmb 3) (ho : o < 4096) :
    (s.fnReset f).breg (8 + f) p o = regReset (bkey (8 + f) p o) := by
  have hpage : p < 4096 := by rcases hp with rfl | rfl | rfl | rfl | rfl <;> decide
  have hbank : bkey (8 + f) p o / 0x1000000 = 8 + f + 1 := by
    unfold bkey rkey
    omega
  have hkey : bkey (8 + f) p o % 0x1000000 / 0x1000 = p := by
    unfold bkey rkey
    omega
  have hdropped : (p != Pg.cmd && !(List.range 4).any (fun n => p == Pg.tmb n)) = false := by
    rcases hp with rfl | rfl | rfl | rfl | rfl <;> decide
  unfold State.breg State.fnReset
  rw [get_filter_keep regReset _ (Sparse.wf_sorted (State.canon_win hcanon)), if_neg]
  simp only [hbank, hkey, hdropped, bne_self_eq_false, Bool.or_self, Bool.false_eq_true, not_false_eq_true]

/-- A changed glove of a virtual function discards what is latched for it (spec/19 R500). -/
theorem vfGlove_of_change {s : State} {v : Nat} {w y : Word}
    (hy : (if bf (w &&& 0x13F) 0 6 = 0 then setBit (w &&& 0x13F) 8 false else w &&& 0x13F) = y)
    (hne : y ≠ s.reg Pg.pci (Rg.PCI_VF_GLOVE + 4 * (v - 1))) :
    (∀ x ∈ (s.vfGlove v w).pci.fnLatch, x.1 ≠ v) ∧ ∀ x ∈ (s.vfGlove v w).pci.fnEdge, x.1 ≠ v := by
  subst hy
  unfold State.vfGlove
  rw [if_neg hne]
  simp only [List.mem_filter, bne_iff_ne]
  exact ⟨fun x hx => hx.2, fun x hx => hx.2⟩

theorem vfGlove_of_same {s : State} {v : Nat} {w y : Word}
    (hy : (if bf (w &&& 0x13F) 0 6 = 0 then setBit (w &&& 0x13F) 8 false else w &&& 0x13F) = y)
    (heq : y = s.reg Pg.pci (Rg.PCI_VF_GLOVE + 4 * (v - 1))) : s.vfGlove v w = s := by
  subst hy
  exact if_pos heq

/-- A link that comes up while every function that is enabled stays so, and no function turns MSI-X on. -/
theorem pciUp_configures {s : State} {width speed vfs : Nat} {m d : List Nat} (hup : s.coreUp = true)
    (hrunning : s.running Pg.pci = true) (hmsix : ∀ f ∈ m, f ∈ s.pci.msixEn) (hvfs : s.pci.numVf ≤ min vfs s.totalVfs) :
    s.pciUp width speed vfs m d = { s with pci := { s.pci with
      linkUp := true,
      width := if s.pci.linkUp = true then s.pci.width else min width (bf (s.reg Pg.pci Rg.PCI_CTRL) 0 2),
      speed := if s.pci.linkUp = true then s.pci.speed else min speed (bf (s.reg Pg.pci Rg.PCI_CTRL) 2 3),
      numVf := min vfs s.totalVfs, msixEn := m.filter (fun f => decide (f ≤ min vfs s.totalVfs)),
      d3 := d.filter (fun f => decide (f ≤ min vfs s.totalVfs)) } } := by
  have hnone : (List.range 8).filter (fun f => decide (min vfs s.totalVfs < f) && decide (f ≤ s.pci.numVf)) = [] := by
    refine List.filter_eq_nil_iff.2 fun f _ => ?_
    simp only [Bool.and_eq_true, decide_eq_true_eq]
    omega
  have hfresh : (m.filter (fun f => decide (f ≤ min vfs s.totalVfs))).filter (fun f => !s.pci.msixEn.contains f) = [] := by
    refine List.filter_eq_nil_iff.2 fun f hf => ?_
    simp [hmsix f (List.mem_of_mem_filter hf)]
  unfold State.pciUp
  simp only [hup, hrunning, Bool.and_self, if_true, hnone, List.foldl_nil, hfresh]

theorem pciErr_of_up {s : State} (hup : s.coreUp = true) :
    s.pciErr true
        = (({ s with pci := { s.pci with aerUncorr := true } } : State).bump Pg.pci Rg.PCI_ERR_UNCORR).raiseSrc Pg.pci 0
      ∧ s.pciErr false = ({ s with pci := { s.pci with aerCorr := true } } : State).bump Pg.pci Rg.PCI_ERR_CORR :=
  ⟨if_pos hup, if_pos hup⟩

/-- Settles O54: a claim is the least of the events routed, BAR4 holds the table, and a reset filters what is the function's. -/
theorem hostCommandsComplete : Obligations.HostCommandsComplete := by
  refine ⟨?glove, ?claim, ?least, ?message, ?table, ?irq, ?reset, ?vfWrite, ?vf, ?link, ?error⟩
  case glove =>
    intro s c v hup
    exact ⟨finish_whenUp hup rfl, finish_whenUp hup rfl⟩
  case claim =>
    intro s c e hup hclaimed
    exact finish_whenUp hup (claimRead_of_claimed hclaimed)
  case least => exact fun s c e h => claimed_least h
  case message =>
    intro s f v q hup hready hv hdue
    exact finish_whenUp hup (msixStep_sends hup hready hv hdue)
  case table =>
    intro s r g f v k hup hglove hrequester hv hk a i
    have hfn := fnOf_of_function hrequester
    have hx : v * 16 + 4 * k < 0x4000 := by omega
    have ha : a = 0x2000000 + (v * 16 + 4 * k) := Nat.add_assoc _ _ _
    have halign : (v * 16 + 4 * k) % 4 = 0 := by omega
    refine ⟨?read, fun x => ?write⟩
    case read =>
      have hread : s.readAt r a 4 = (leBytes 4 (Sparse.get (dflt 0) s.pci.table i).toNat, s) := by
        rw [ha, readAt_bar4 hfn hx hup, bar4At_word hglove halign, bar4Read_table s f hv hk]
      exact congrArg (finish s) (access_of_readAt hread)
    case write =>
      refine congrArg (finish s) (?_ : s.writeAt r a 4 x = _)
      rw [ha, writeAt_bar4 hfn hx hup hglove, access32_word x _ s halign, bar4Write_table s f hv hk]
  case irq => exact coreIrq_iff
  case reset =>
    intro s f hup hlink
    refine ⟨finish_whenUp hup (if_pos hlink), ?_, ?_, ?_, ?_, fun p o hp ho _ hcanon => breg_fnReset hcanon hp ho⟩
    · intro x hx
      exact bne_iff_ne.1 (List.of_mem_filter (p := fun x : Nat × Nat => x.1 != f) hx)
    · intro v hv hmem
      exact bne_iff_ne.1 (List.of_mem_filter (p := fun k => k / 64 != f) hmem) (by omega)
    · intro x hx
      exact bne_iff_ne.1 (List.of_mem_filter (p := fun e : Nat × Word => e.1 / 256 != f) hx)
    · intro hmem
      exact bne_iff_ne.1 (List.of_mem_filter (p := fun k => k != f) hmem) rfl
  case vfWrite =>
    intro s r g v w hw
    exact finish_onWrite hw rfl
  case vf =>
    intro s v w y
    exact ⟨vfGlove_of_change rfl, vfGlove_of_same rfl⟩
  case link =>
    intro s width speed vfs m d hup hrunning hmsix c n hvfs pci
    exact congrArg (finish s) (pciUp_configures hup hrunning hmsix hvfs)
  case error =>
    intro s hup
    exact ⟨congrArg (finish s) (pciErr_of_up hup).1, congrArg (finish s) (pciErr_of_up hup).2⟩

end Sys2Proof.Machine
end

section
/-! The USB port (spec/19 R501 to R509, spec/23 R597, R604): sessions, requests, the ring and the device's state, with the statement
on it. -/

namespace Sys2Proof.Machine

/-- A vendor request of an enumerated device outside RECOVERY is served. -/
theorem finish_onVendor {s t : State} {f : State → State} (hawake : s.usbAwake = true) (hmode : s.sys.mode ≠ .recovery)
    (h : f s = t) : finish s (s.onVendor f) = .next (s.settled t) :=
  congrArg (finish s) ((onVendor_of_awake hawake hmode f).trans h)

-- Sessions (spec/19 R502, R503)

theorem usbNonce_of_random {s : State} (hawake : s.usbAwake = true) (hmode : s.sys.mode ≠ .recovery)
    (hrng : s.key.rngOk = true) :
    s.usbNonce = ({ (s.random 32).2 with usb := { (s.random 32).2.usb with nonce := some (s.random 32).1 } } : State).emit
      (.ep0 (s.random 32).1) :=
  (onVendor_of_awake hawake hmode _).trans (if_pos hrng)

/-- The state once the attempt has taken its nonce. -/
def State.usbTried (s : State) : State := { s with usb := { s.usb with nonce := none } }

/-- The page events of a glove that are due when its session opens. -/
def State.usbDue (s : State) (g : Nat) : List (Nat × Nat) :=
  (s.enabledPages.filter (fun p => s.pageEvent p && s.owner p == g)).map (fun p => (g, p))

section
variable {s : State} {g : Nat} {mac n k : List Byte} (hawake : s.usbAwake = true) (hmode : s.sys.mode ≠ .recovery)
  (hnonce : s.usb.nonce = some n) (hkey : s.sessionKey g = some k)
include hawake hmode hnonce hkey

theorem usbOpen_of_mac (hmac : Config.hmac k (n ++ leBytes 1 g) = mac) :
    s.usbOpen g mac = ({ s.usbTried with usb := { s.usbTried.usb with
      session := some g, latch := s.usb.latch.filter (fun x => !(s.usbTried.usbDue g).contains x) ++ s.usbTried.usbDue g } }
        : State).usbFlush := by
  unfold State.usbOpen
  rw [onVendor_of_awake hawake hmode]
  simp only [hnonce, hkey, hmac, beq_self_eq_true, if_true]
  rfl

theorem usbOpen_of_wrong (hmac : Config.hmac k (n ++ leBytes 1 g) ≠ mac) :
    s.usbOpen g mac = (({ s.usbTried with usb := { s.usbTried.usb with session := none } } : State).bump Pg.usb
      Rg.USB_AUTH_FAILS).raiseSrc Pg.usb 0 := by
  unfold State.usbOpen
  rw [onVendor_of_awake hawake hmode]
  simp only [hnonce, hkey, beq_eq_false_iff_ne.2 hmac, Bool.false_eq_true, if_false]
  rfl

end

-- Registers (spec/19 R504)

theorem usbReadWords_one (s : State) {o : Nat} (ho : o < 0x1000000) :
    s.usbReadWords o 1 [] = (s.readEffect .usb o).emit (.ep0 (leBytes 4 (s.readFor .usb o).toNat)) := by
  unfold State.usbReadWords State.usbReadWords
  simp only [if_pos ho, List.nil_append]

theorem usbWriteWords_one (s : State) {o : Nat} (ho : o < 0x1000000) (halign : o % 4 = 0) (w : Word) :
    s.usbWriteWords o [w] = s.windowWrite .usb o w := by
  unfold State.usbWriteWords State.usbWriteWords
  simp only [if_pos (And.intro halign ho)]

-- The ring (spec/19 R505, R511)

theorem ep1Ack_of_entries {s : State} {g : Nat} (hawake : s.usbAwake = true) (hstate : s.usb.dstate = 4)
    (hsession : s.usb.session = some g) (hring : s.ring g ≠ []) :
    s.ep1Ack = (({ s with usb := { s.usb with
      rings := Sparse.set (dflt []) s.usb.rings g ((s.ring g).drop s.ep1Max) } } : State).emit
        (.ep1 ((s.ring g).take s.ep1Max).flatten)).usbFlush := by
  have hsome : ((s.ring g).take s.ep1Max).isEmpty = false := by
    have hmax : 0 < s.ep1Max := by
      unfold State.ep1Max
      split <;> omega
    rw [List.isEmpty_eq_false_iff, Ne, List.take_eq_nil_iff, not_or]
    exact ⟨by omega, hring⟩
  unfold State.ep1Ack
  simp only [hawake, hstate, hsession, beq_self_eq_true, Bool.and_self, if_true, hsome, Bool.false_eq_true, if_false]

theorem ep1Spoilt_of_entry {s : State} {g : Nat} {e : UsbEntry} {l : List UsbEntry} (hsession : s.usb.session = some g)
    (hring : s.ring g = e :: l) :
    s.ep1Spoilt = ({ s with usb := { s.usb with
      rings := Sparse.set (dflt []) s.usb.rings g (if s.entryKept e = true then l ++ [e] else l) } } : State).raiseSrc
        Pg.usb 1 := by
  unfold State.ep1Spoilt
  simp only [hsession, hring]

-- The bus (spec/19 R506 to R509, spec/23 R597, R604)

theorem usbReset_of_attached {s : State} (hon : s.usbOn = true) (hattached : 1 ≤ s.usb.dstate) (chirp : Bool) :
    s.usbReset false chirp = (({ s with usb := { s.usb with
      dstate := 2, suspended := false, driving := false, armed := false, address := 0, session := none,
      high := chirp && s.flag Pg.usb Rg.USB_CTRL 0 } } : State).bump Pg.usb Rg.USB_RESETS).pulse Pg.usb 2 := by
  unfold State.usbReset
  simp only [hon, decide_eq_true hattached, Bool.and_self, if_true, Bool.false_eq_true, if_false]

theorem usbWake_of_pending {s : State} (hon : s.usbOn = true) (hpending : s.wakePending = true) :
    s.usbWake = ({ s with usb := { s.usb with driving := true } } : State).emit .wakeK :=
  if_pos (by rw [hon, hpending]; rfl)

theorem usbResume_of_suspended {s : State} (hon : s.usbOn = true) (hsuspended : s.usb.suspended = true) :
    s.usbResume
      = (let w := s.reg Pg.usb Rg.USB_WAKE
         let s1 := s.setReg Pg.usb Rg.USB_WAKE
           (setBit (setBit w 0 (bit w 0 || s.usb.driving)) 1 (bit w 1 || s.wakePending))
         { s1 with usb := { s1.usb with suspended := false, driving := false } }) :=
  if_pos (by rw [hon, hsuspended]; rfl)

theorem usbSuspended_of_attached {s : State} (hon : s.usbOn = true) (hattached : 1 ≤ s.usb.dstate) :
    s.usbSuspended = { s with usb := { s.usb with suspended := true, driving := false } } :=
  if_pos (by rw [hon, decide_eq_true hattached]; rfl)

/-- The device descriptor: its length, its packet size and the identity that its loader or the module has. -/
theorem usbDevice_fields (s : State) :
    s.usbDevice.length = 18 ∧ sliceB s.usbDevice 7 1 = leBytes 1 64
      ∧ sliceB s.usbDevice 8 4 = leBytes 2 0x2F5E ++ leBytes 2 (if s.sys.mode = .recovery then 0x714F else 0x7140) := by
  unfold State.usbDevice
  generalize (if s.sys.mode = .recovery then 0x714F else 0x7140 : Nat) = product
  exact ⟨rfl, rfl, rfl⟩

theorem usbAttach_connects {s : State} (hon : s.usbOn = true) (hvbus : s.usb.vbus = true) (hstate : s.usb.dstate = 0) :
    s.usbAttach = { s with usb := { s.usb with dstate := 1 } } := by
  unfold State.usbAttach
  rw [if_pos (by rw [hon, hvbus]; rfl), if_pos hstate]

theorem usbAttach_without_vbus {s : State} (hvbus : s.usb.vbus = false) :
    s.usbAttach = { s with usb := { s.usb with
      dstate := 0, suspended := false, driving := false, armed := false, high := false, address := 0, session := none,
      nonce := none } } := by
  unfold State.usbAttach
  rw [if_neg (by rw [hvbus, Bool.and_false]; exact Bool.false_ne_true)]

theorem usbPll_loses {s : State} (hpowered : s.powered = true) (hlocked : s.clk.usbPll = true) :
    s.usbPll false = (({ s with clk := { s.clk with usbPll := false } } : State).raiseSrc Pg.clk 2).usbAttach := by
  unfold State.usbPll
  simp only [hpowered, hlocked, Bool.not_true, Bool.or_self, Bool.false_eq_true, if_true, if_false]

/-- A standard request of an enumerated device is answered by its kind. -/
theorem usbStandard_of_awake {s : State} (hawake : s.usbAwake = true) :
    (∀ a, s.usb.dstate ≤ 3 → s.usbStandard (.setAddress a)
        = { s with usb := { s.usb with address := a % 128, dstate := if a % 128 = 0 then 2 else 3 } })
      ∧ (3 ≤ s.usb.dstate → s.usbStandard (.setConfiguration 1) = { s with usb := { s.usb with dstate := 4 } })
      ∧ (∀ on, s.usbStandard (.setRemoteWakeup on) = { s with usb := { s.usb with armed := on } })
      ∧ (∀ k len, s.usbStandard (.getDescriptor 1 k len) = s.emit (.ep0 (s.usbDevice.take len)))
      ∧ s.usbStandard .getStatus = s.emit (.ep0 (leBytes 2 (1 + 2 * s.usb.armed.toNat))) :=
  ⟨fun _ h => (if_pos hawake).trans (if_pos h), fun h => (if_pos hawake).trans (if_neg (Nat.not_lt.2 h)),
    fun _ => if_pos hawake, fun _ _ => if_pos hawake, if_pos hawake⟩

/-- Settles O55: each request is served by its own equation, and the bus moves the device's state. -/
theorem usbWorks : Obligations.UsbWorks := by
  refine ⟨?nonce, ?session, ?close, ?read, ?write, ?ack, ?spoilt, ?reset, ?wake, ?resume, ?suspend, ?standard, ?vbusOn, ?vbusOff,
    ?pll⟩
  case nonce =>
    intro s hawake hmode hrng
    exact congrArg (finish s) (usbNonce_of_random hawake hmode hrng)
  case session =>
    intro s g mac n k hawake hmode hnonce hkey s1 due l
    exact ⟨fun hmac => congrArg (finish s) (usbOpen_of_mac hawake hmode hnonce hkey hmac),
      fun hmac => congrArg (finish s) (usbOpen_of_wrong hawake hmode hnonce hkey hmac)⟩
  case close =>
    intro s hawake hmode
    exact ⟨finish_onVendor hawake hmode rfl, finish_onVendor hawake hmode rfl⟩
  case read =>
    intro s o hawake hmode ho
    exact finish_onVendor hawake hmode (usbReadWords_one s ho)
  case write =>
    intro s o w hawake hmode ho halign
    exact finish_onVendor hawake hmode (usbWriteWords_one s ho halign w)
  case ack =>
    intro s g hawake hstate hsession hring n s1
    exact congrArg (finish s) (ep1Ack_of_entries hawake hstate hsession hring)
  case spoilt =>
    intro s g e l hup hsession hring u
    exact finish_whenUp hup (ep1Spoilt_of_entry hsession hring)
  case reset =>
    intro s chirp hon hattached u
    exact congrArg (finish s) (usbReset_of_attached hon hattached chirp)
  case wake =>
    intro s hon hpending
    exact congrArg (finish s) (usbWake_of_pending hon hpending)
  case resume =>
    intro s hon hsuspended
    exact congrArg (finish s) (usbResume_of_suspended hon hsuspended)
  case suspend =>
    intro s hon hattached
    exact congrArg (finish s) (usbSuspended_of_attached hon hattached)
  case standard =>
    intro s a hawake
    obtain ⟨haddress, hconfigure, hwake, hdevice, hstatus⟩ := usbStandard_of_awake hawake
    obtain ⟨hlength, hpacket, hidentity⟩ := usbDevice_fields s
    exact ⟨fun h => congrArg (finish s) (haddress a h), fun h => congrArg (finish s) (hconfigure h),
      fun on => congrArg (finish s) (hwake on),
      ⟨s.usbDevice, hlength, hpacket, hidentity, fun k len => congrArg (finish s) (hdevice k len)⟩,
      congrArg (finish s) hstatus⟩
  case vbusOn =>
    intro s hon hstate
    exact congrArg (finish s)
      (usbAttach_connects (s := { s with usb := { s.usb with vbus := true } }) hon rfl hstate)
  case vbusOff =>
    intro s u
    exact congrArg (finish s) (usbAttach_without_vbus (s := { s with usb := { s.usb with vbus := false } }) rfl)
  case pll =>
    intro s hpowered hlocked s1
    exact congrArg (finish s) (usbPll_loses hpowered hlocked)

end Sys2Proof.Machine
end

section
/-! The key vault (spec/20 R514 to R523, R530): the derivation of keys, and its commands where their conditions hold, with the
statement on them. -/

namespace Sys2Proof.Machine

-- Derivation (spec/20 R514)

theorem length_hmac (key text : List Byte) : (Config.hmac key text).length = 48 := by
  simp [Config.hmac, Config.bytesOf]

/-- A key of at most 384 bits is the front of one HMAC with counter 1. -/
theorem kdf_of_one_block (key label context : List Byte) {bits : Nat} (hlo : 0 < bits) (hhi : bits ≤ 384) :
    kdf key label context bits
      = (Config.hmac key ([0, 0, 0, 1] ++ label ++ [0] ++ context ++ beBytes 4 bits)).take (bits / 8) := by
  have hblocks : (bits + 383) / 384 = 1 := by omega
  unfold kdf
  rw [hblocks, show List.range 1 = [0] from rfl, List.flatMap_singleton]
  rfl

-- Commands (spec/20 R530)

/-- The handle that a command names belongs to its issuer. -/
theorem handleForeign_of_mine {s : State} {c : Ctx} {n : Nat} {h : Handle} (hn : 2 ≤ n) (hhandle : s.handle n = some h)
    (hglove : h.glove = c.g) : s.handleForeign c n = false := by
  unfold State.handleForeign State.handleGlove
  rw [if_neg (by omega), hhandle]
  simp [hglove]

theorem handleForeign_of_free {s : State} {c : Ctx} {n : Nat} (hn : 2 ≤ n) (hhandle : s.handle n = none) :
    s.handleForeign c n = false := by
  unfold State.handleForeign
  rw [if_neg (by omega), hhandle]
  rfl

section
variable {c : Ctx} {t : State} {k : List Byte}

/-- A leaf under a subtree root. -/
theorem keyDeriveBody_of_root (hsub : c.f 0 0 3 = 2 ∨ c.f 0 0 3 = 3 ∨ c.f 0 0 3 = 4 ∨ c.f 0 0 3 = 5)
    (husage : c.f 0 16 6 = 4 ∨ c.f 0 16 6 = 8 ∨ c.f 0 16 6 = 16 ∨ c.f 0 16 6 = 32) (hlo : 1 ≤ c.f 0 24 7)
    (hhi : c.f 0 24 7 ≤ 64) (hbuf : t.bufOk c (c.addr 2) (c.f 0 24 7) = true)
    (hglove : c.g = (if c.f 0 0 3 = 5 then c.f 0 8 6 else 0)) (hready : t.keyReady = true) (hfree : t.freeHandles ≠ []) :
    keyDeriveBody c t
      = (let r := t.newHandle ⟨c.f 0 0 3, c.g, if c.f 0 0 3 = 5 then t.keygen c.g else 0, c.f 0 16 6,
           [(t.load (c.addr 2) (c.f 0 24 7), c.f 0 16 6)], []⟩
         (r.2.bump Pg.key Rg.KEY_OPS).complete c.slot 0 (wd r.1) 0 0) := by
  have hroot : c.f 0 0 3 ≠ 0 := by omega
  have hargs : ¬ (c.f 0 0 3 = 1 ∨ 6 ≤ c.f 0 0 3 ∨ ¬ (c.f 0 16 6 = 4 ∨ c.f 0 16 6 = 8 ∨ c.f 0 16 6 = 16 ∨ c.f 0 16 6 = 32)
      ∨ c.f 0 24 7 = 0 ∨ 64 < c.f 0 24 7 ∨ t.bufOk c (c.addr 2) (c.f 0 24 7) = false
      ∨ (c.f 0 0 3 = 0 ∧ 255 < (c.arg 1).toNat)) := by
    rw [hbuf]
    simp only [husage, not_true_eq_false, Bool.true_eq_false, false_or]
    omega
  unfold keyDeriveBody
  simp only [if_neg hargs, if_neg hroot, ← hglove, bne_self_eq_false, hready, Bool.not_true, Bool.false_eq_true, if_false,
    List.isEmpty_eq_false_iff.2 hfree]
  rfl

/-- A leaf under a derive parent. -/
theorem keyDeriveBody_of_parent {h : Handle} (hsub : c.f 0 0 3 = 0)
    (husage : c.f 0 16 6 = 4 ∨ c.f 0 16 6 = 8 ∨ c.f 0 16 6 = 16 ∨ c.f 0 16 6 = 32) (hlo : 1 ≤ c.f 0 24 7)
    (hhi : c.f 0 24 7 ≤ 64) (hbuf : t.bufOk c (c.addr 2) (c.f 0 24 7) = true) (hparent : (c.arg 1).toNat ≤ 255)
    (hmine : t.handleForeign c (c.arg 1).toNat = false) (hready : t.keyReady = true)
    (hhandle : t.handle (c.arg 1).toNat = some h) (hderive : h.usage = 32) (hdepth : h.depth < 4) (hfree : t.freeHandles ≠ []) :
    keyDeriveBody c t
      = (let r := t.newHandle { h with
           usage := c.f 0 16 6, chain := h.chain ++ [(t.load (c.addr 2) (c.f 0 24 7), c.f 0 16 6)] }
         (r.2.bump Pg.key Rg.KEY_OPS).complete c.slot 0 (wd r.1) 0 0) := by
  have hargs : ¬ (c.f 0 0 3 = 1 ∨ 6 ≤ c.f 0 0 3 ∨ ¬ (c.f 0 16 6 = 4 ∨ c.f 0 16 6 = 8 ∨ c.f 0 16 6 = 16 ∨ c.f 0 16 6 = 32)
      ∨ c.f 0 24 7 = 0 ∨ 64 < c.f 0 24 7 ∨ t.bufOk c (c.addr 2) (c.f 0 24 7) = false
      ∨ (c.f 0 0 3 = 0 ∧ 255 < (c.arg 1).toNat)) := by
    rw [hbuf]
    simp only [husage, not_true_eq_false, Bool.true_eq_false, false_or]
    omega
  unfold keyDeriveBody
  simp only [if_neg hargs, if_pos hsub, hmine, hready, hhandle, if_pos hderive, if_neg (Nat.not_le.2 hdepth), Bool.not_true,
    Bool.false_eq_true, if_false, List.isEmpty_eq_false_iff.2 hfree]
  rfl

theorem keyDestroyBody_of_mine (hn : 2 ≤ c.f 0 0 8) (hmine : t.handleForeign c (c.f 0 0 8) = false)
    (hready : t.keyReady = true) :
    keyDestroyBody c t = ((t.setHandle (c.f 0 0 8) none).bump Pg.key Rg.KEY_OPS).complete c.slot 0 0 0 0 := by
  unfold keyDestroyBody
  simp only [if_neg (Nat.not_lt.2 hn), hmine, hready, Bool.not_true, Bool.false_eq_true, if_false]
  rfl

theorem keyQueryBody_of_free (hn : 2 ≤ c.f 0 0 8) (hrunning : t.running Pg.key = true) (hhandle : t.handle (c.f 0 0 8) = none) :
    keyQueryBody c t = (t.bump Pg.key Rg.KEY_OPS).complete c.slot 0 0 0 0 := by
  unfold keyQueryBody
  simp only [if_neg (Nat.not_lt.2 hn), handleForeign_of_free hn hhandle, hrunning, hhandle, Bool.not_true, Bool.false_eq_true,
    if_false]
  rfl

theorem keyQueryBody_of_handle {h : Handle} {l : List Byte × Nat} (hn : 2 ≤ c.f 0 0 8) (hrunning : t.running Pg.key = true)
    (hhandle : t.handle (c.f 0 0 8) = some h) (hglove : h.glove = c.g) (hlast : h.chain.getLast? = some l) :
    keyQueryBody c t = (t.bump Pg.key Rg.KEY_OPS).complete c.slot 0
      (wd (h.usage + h.subtree * 256 + h.glove * 65536 + h.depth * 2 ^ 24 + 2 ^ 31))
      (wd (beNat (sliceB (Config.sha384 l.1) 0 4))) (wd h.keygen) := by
  unfold keyQueryBody
  simp only [if_neg (Nat.not_lt.2 hn), handleForeign_of_mine hn hhandle hglove, hrunning, hhandle, hlast, Bool.not_true,
    Bool.false_eq_true, if_false]
  rfl

/-- The arguments that MAC and encryption check: a length and two buffers. -/
theorem keyArgs_of {n m lo hi : Nat} (hlo : lo ≤ n) (hpos : 1 ≤ lo) (hhi : n ≤ hi) {a b : Nat} {k : Nat}
    (hin : t.bufOk c a m = true) (hout : t.bufOk c b k = true) :
    ¬ (n = 0 ∨ hi < n ∨ t.bufOk c a m = false ∨ t.bufOk c b k = false) := by
  rw [hin, hout]
  simp only [Bool.true_eq_false, or_false]
  omega

/-- Those that wrapping checks: a length of whole words as well. -/
theorem keyWords_of {n m lo hi : Nat} (hlo : lo ≤ n) (hhi : n ≤ hi) (hwords : n % 8 = 0) {a b : Nat} {k : Nat}
    (hin : t.bufOk c a m = true) (hout : t.bufOk c b k = true) :
    ¬ (n < lo ∨ hi < n ∨ n % 8 ≠ 0 ∨ t.bufOk c a m = false ∨ t.bufOk c b k = false) := by
  rw [hin, hout]
  simp only [Bool.true_eq_false, or_false]
  omega

section
variable (hmine : t.handleForeign c (c.f 0 0 8) = false) (hready : t.keyReady = true)
include hmine hready

theorem keyMacBody_of_key (hlo : 1 ≤ (c.arg 1).toNat) (hhi : (c.arg 1).toNat ≤ 65536)
    (hin : t.bufOk c (c.addr 2) (c.arg 1).toNat = true) (hout : t.bufOk c (c.addr 4) 48 = true)
    (hkey : t.keyFor (c.f 0 0 8) 8 = some k) :
    keyMacBody c t
      = (let m := sliceB (Config.hmac k (t.load (c.addr 2) (c.arg 1).toNat)) 0 48
         if c.b 0 8 = true then (t.bump Pg.key Rg.KEY_OPS).complete c.slot 0 (wd (t.load (c.addr 4) 48 == m).toNat) 0 0
         else ((t.store (c.addr 4) m).bump Pg.key Rg.KEY_OPS).complete c.slot 0 0 0 0) := by
  unfold keyMacBody
  simp only [if_neg (keyArgs_of hlo le_rfl hhi hin hout), hmine, hready, hkey, Bool.not_true, Bool.false_eq_true, if_false]
  rfl

theorem keyEncryptBody_of_key (hlo : 1 ≤ (c.arg 1).toNat) (hhi : (c.arg 1).toNat ≤ 65536)
    (hin : t.bufOk c (c.addr 2) (c.arg 1).toNat = true) (hout : t.bufOk c (c.addr 4) ((c.arg 1).toNat + 28) = true)
    (hkey : t.keyFor (c.f 0 0 8) 4 = some k) (hrng : t.key.rngOk = true) :
    keyEncryptBody c t
      = (let n := (c.arg 1).toNat
         let r := t.random 12
         let out := r.1 ++ sliceB (Config.gcmSeal k r.1 (t.load (c.addr 2) n)) 0 (n + 16)
         ((r.2.store (c.addr 4) out).bump Pg.key Rg.KEY_OPS).complete c.slot 0 (wd (n + 28)) 0 0) := by
  unfold keyEncryptBody
  simp only [if_neg (keyArgs_of hlo le_rfl hhi hin hout), hmine, hready, hkey, hrng, Bool.not_true, Bool.false_eq_true,
    if_false, if_true]
  rfl

theorem keyDecryptBody_of_key (hlo : 1 ≤ (c.arg 1).toNat) (hhi : (c.arg 1).toNat ≤ 65536)
    (hin : t.bufOk c (c.addr 2) ((c.arg 1).toNat + 28) = true) (hout : t.bufOk c (c.addr 4) (c.arg 1).toNat = true)
    (hkey : t.keyFor (c.f 0 0 8) 4 = some k) {b : List Byte} (hb : t.load (c.addr 2) ((c.arg 1).toNat + 28) = b) :
    (Config.gcmOpen k (b.take 12) (b.drop 12) = none → keyDecryptBody c t = t.complete c.slot 0x0201 0 0 0)
      ∧ ∀ p, Config.gcmOpen k (b.take 12) (b.drop 12) = some p →
        keyDecryptBody c t = ((t.store (c.addr 4) (sliceB p 0 (c.arg 1).toNat)).bump Pg.key Rg.KEY_OPS).complete c.slot 0
          (wd (c.arg 1).toNat) 0 0 := by
  subst hb
  unfold keyDecryptBody
  simp only [if_neg (keyArgs_of hlo le_rfl hhi hin hout), hmine, hready, hkey, Bool.not_true, Bool.false_eq_true, if_false]
  constructor
  · intro hopen
    rw [hopen]
    rfl
  · intro p hopen
    rw [hopen]
    rfl

theorem keyWrapBody_of_key (hlo : 16 ≤ (c.arg 1).toNat) (hhi : (c.arg 1).toNat ≤ 64) (hwords : (c.arg 1).toNat % 8 = 0)
    (hin : t.bufOk c (c.addr 2) (c.arg 1).toNat = true) (hout : t.bufOk c (c.addr 4) ((c.arg 1).toNat + 8) = true)
    (hkey : t.keyFor (c.f 0 0 8) 16 = some k) :
    keyWrapBody c t
      = (let n := (c.arg 1).toNat
         ((t.store (c.addr 4) (sliceB (Config.kwWrap k (t.load (c.addr 2) n)) 0 (n + 8))).bump Pg.key Rg.KEY_OPS).complete
           c.slot 0 (wd (n + 8)) 0 0) := by
  unfold keyWrapBody
  simp only [if_neg (keyWords_of hlo hhi hwords hin hout), hmine, hready, hkey, Bool.not_true, Bool.false_eq_true, if_false]
  rfl

theorem keyUnwrapBody_of_key (hlo : 24 ≤ (c.arg 1).toNat) (hhi : (c.arg 1).toNat ≤ 72) (hwords : (c.arg 1).toNat % 8 = 0)
    (hin : t.bufOk c (c.addr 2) (c.arg 1).toNat = true) (hout : t.bufOk c (c.addr 4) ((c.arg 1).toNat - 8) = true)
    (hkey : t.keyFor (c.f 0 0 8) 16 = some k) :
    (Config.kwUnwrap k (t.load (c.addr 2) (c.arg 1).toNat) = none → keyUnwrapBody c t = t.complete c.slot 0x0201 0 0 0)
      ∧ ∀ p, Config.kwUnwrap k (t.load (c.addr 2) (c.arg 1).toNat) = some p →
        keyUnwrapBody c t = ((t.store (c.addr 4) (sliceB p 0 ((c.arg 1).toNat - 8))).bump Pg.key Rg.KEY_OPS).complete c.slot 0
          (wd ((c.arg 1).toNat - 8)) 0 0 := by
  unfold keyUnwrapBody
  simp only [if_neg (keyWords_of hlo hhi hwords hin hout), hmine, hready, hkey, Bool.not_true, Bool.false_eq_true, if_false]
  constructor
  · intro hunwrap
    rw [hunwrap]
    rfl
  · intro p hunwrap
    rw [hunwrap]
    rfl

theorem keyVerifyBody_of_handle {h : Handle} (hdigest : t.bufOk c (c.addr 1) 48 = true) (hsign : t.bufOk c (c.addr 3) 96 = true)
    (hhandle : t.handle (c.f 0 0 8) = some h) (husage : h.usage = 2) :
    keyVerifyBody c t = (t.bump Pg.key Rg.KEY_OPS).complete c.slot 0
      (wd (Config.ecdsaVerify h.pub (t.load (c.addr 1) 48) (t.load (c.addr 3) 96)).toNat) 0 0 := by
  unfold keyVerifyBody
  simp only [hdigest, hsign, Bool.true_eq_false, or_self, hmine, hready, hhandle, if_pos husage, Bool.not_true,
    Bool.false_eq_true, if_false]
  rfl

end

theorem keyPublicBody_of_room (hbuf : t.bufOk c (c.addr 0) 96 = true) (hready : t.keyReady = true) (hfree : t.freeHandles ≠ []) :
    keyPublicBody c t
      = (let r := t.newHandle ⟨7, c.g, 0, 2, [], t.load (c.addr 0) 96⟩
         (r.2.bump Pg.key Rg.KEY_OPS).complete c.slot 0 (wd r.1) 0 0) := by
  unfold keyPublicBody
  simp only [hbuf, hready, List.isEmpty_eq_false_iff.2 hfree, Bool.not_true, Bool.false_eq_true, if_false]
  rfl

theorem keyAttestBody_signs {i x : List Byte} (hin : t.bufOk c (c.addr 0) 32 = true) (hout : t.bufOk c (c.addr 2) 488 = true)
    (hready : t.keyReady = true) (hident : t.key.ident = some i) (hxport : t.key.xport = some x) (hrng : t.key.rngOk = true) :
    keyAttestBody c t
      = (let h := t.originHead (t.load (c.addr 0) 32) i x
         let r := t.draw
         ((r.2.store (c.addr 2) (h ++ sliceB (Config.ecdsaSign i (Config.sha384 h) r.1) 0 96)).bump Pg.key Rg.KEY_OPS).complete
           c.slot 0 (wd t.key.lcsCount) 0 0) := by
  unfold keyAttestBody
  simp only [hin, hout, Bool.true_eq_false, or_self, hready, hident, hxport, hrng, Bool.not_true, Bool.false_eq_true, if_false,
    if_true]
  rfl

/-- The seed that an envelope for a glove's subtree opens to. -/
def State.gloveSeed (t : State) (c : Ctx) (x : List Byte) : Option (List Byte) :=
  (Config.ecdh x ((t.load (c.addr 1) 144).take 96)).bind (fun z =>
    Config.gcmOpen (kdf z (asciiBytes "TAROS-SEED") (pathCode 5 (c.f 0 8 6) (t.keygen (c.f 0 8 6)) 0 0) 256)
      (List.replicate 12 0) ((t.load (c.addr 1) 144).drop 96))

theorem keySeedBody_of_glove {x : List Byte} (hsub : c.f 0 0 3 = 5) (hbuf : t.bufOk c (c.addr 1) 144 = true)
    (hmay : t.maySeed c.g 5 (c.f 0 8 6) = true) (hready : t.keyReady = true) (hxport : t.key.xport = some x) :
    (t.gloveSeed c x = none → keySeedBody c t = t.complete c.slot 0x0201 0 0 0)
      ∧ ∀ v, t.gloveSeed c x = some v → keySeedBody c t
        = ((t.installSeed c.g 5 (c.f 0 8 6) v).bump Pg.key Rg.KEY_OPS).complete c.slot 0
          (wd (t.subtreeHandles 5 (c.f 0 8 6)).length) 0 0 := by
  unfold keySeedBody State.gloveSeed
  simp only [hsub, hbuf, hmay, hready, hxport, or_true, not_true_eq_false, Bool.true_eq_false, or_self, Bool.not_true,
    Bool.false_eq_true, if_false, if_true]
  cases Config.ecdh x ((t.load (c.addr 1) 144).take 96) with
  | none => exact ⟨fun _ => rfl, fun v hv => by cases hv⟩
  | some z =>
    simp only [Option.bind_some]
    constructor
    · intro hopen
      rw [hopen]
      rfl
    · intro v hopen
      rw [hopen]
      rfl

theorem keyRandomBody_gives (hlo : 1 ≤ (c.arg 0).toNat) (hhi : (c.arg 0).toNat ≤ 256)
    (hbuf : t.bufOk c (c.addr 1) (c.arg 0).toNat = true) (hrunning : t.running Pg.key = true) (hrng : t.key.rngOk = true) :
    keyRandomBody c t
      = (let r := t.random (c.arg 0).toNat
         ((r.2.store (c.addr 1) r.1).bump Pg.key Rg.KEY_OPS).complete c.slot 0 0 0 0) := by
  have hargs : ¬ ((c.arg 0).toNat = 0 ∨ 256 < (c.arg 0).toNat ∨ t.bufOk c (c.addr 1) (c.arg 0).toNat = false) := by
    rw [hbuf]
    simp only [Bool.true_eq_false, or_false]
    omega
  unfold keyRandomBody
  simp only [if_neg hargs, hrunning, hrng, Bool.not_true, Bool.false_eq_true, if_false]
  rfl

theorem keyCertBody_gives (hbuf : t.bufOk c (c.addr 0) 2048 = true) (hready : t.keyReady = true) :
    keyCertBody c t
      = ((t.store (c.addr 0) t.key.cert).bump Pg.key Rg.KEY_OPS).complete c.slot 0 (wd t.key.cert.length) 0 0 := by
  unfold keyCertBody
  simp only [hbuf, hready, Bool.not_true, Bool.false_eq_true, if_false]
  rfl

end

/-- Settles O56: one HMAC block holds a key of 384 bits, and each command's checks pass one after another. -/
theorem keyCommandsComplete : Obligations.KeyCommandsComplete := by
  refine ⟨?kdf, ?derive, ?parent, ?destroy, ?queryFree, ?query, ?mac, ?encrypt, ?decrypt, ?wrap, ?unwrap, ?publicKey, ?verify,
    ?attest, ?seed, ?random, ?cert⟩
  case kdf =>
    intro key label context k
    refine ⟨(kdf_of_one_block key label context (by norm_num) le_rfl).trans ?_,
      kdf_of_one_block key label context (by norm_num) (by norm_num)⟩
    exact List.take_of_length_le (length_hmac _ _).le
  case derive =>
    refine takes_of (body := keyDeriveBody) (fun _ _ => rfl) ?_
    rintro c t ⟨hsub, husage, hlo, hhi, hbuf, hglove, hready, hfree⟩
    exact keyDeriveBody_of_root hsub husage hlo hhi hbuf hglove hready hfree
  case parent =>
    intro h
    refine takes_of (body := keyDeriveBody) (fun _ _ => rfl) ?_
    rintro c t ⟨hsub, husage, hlo, hhi, hbuf, hparent, hmine, hready, hhandle, hderive, hdepth, hfree⟩
    exact keyDeriveBody_of_parent hsub husage hlo hhi hbuf hparent hmine hready hhandle hderive hdepth hfree
  case destroy =>
    refine takes_of (body := keyDestroyBody) (fun _ _ => rfl) ?_
    rintro c t ⟨hn, hmine, hready⟩
    exact keyDestroyBody_of_mine hn hmine hready
  case queryFree =>
    refine takes_of (body := keyQueryBody) (fun _ _ => rfl) ?_
    rintro c t ⟨hn, hrunning, hhandle⟩
    exact keyQueryBody_of_free hn hrunning hhandle
  case query =>
    intro h l
    refine takes_of (body := keyQueryBody) (fun _ _ => rfl) ?_
    rintro c t ⟨hn, hrunning, hhandle, hglove, hlast⟩
    exact keyQueryBody_of_handle hn hrunning hhandle hglove hlast
  case mac =>
    intro k
    refine takes_of (body := keyMacBody) (fun _ _ => rfl) ?_
    rintro c t ⟨hlo, hhi, hin, hout, hmine, hready, hkey⟩
    exact keyMacBody_of_key hmine hready hlo hhi hin hout hkey
  case encrypt =>
    intro k
    refine takes_of (body := keyEncryptBody) (fun _ _ => rfl) ?_
    rintro c t ⟨hlo, hhi, hin, hout, hmine, hready, hkey, hrng⟩
    exact keyEncryptBody_of_key hmine hready hlo hhi hin hout hkey hrng
  case decrypt =>
    intro k
    refine takes_of (body := keyDecryptBody) (fun _ _ => rfl) ?_
    rintro c t ⟨hlo, hhi, hin, hout, hmine, hready, hkey⟩
    obtain ⟨hwrong, hgood⟩ := keyDecryptBody_of_key hmine hready hlo hhi hin hout hkey rfl
    dsimp only
    split
    · next hopen => exact hwrong hopen
    · next p hopen => exact hgood p hopen
  case wrap =>
    intro k
    refine takes_of (body := keyWrapBody) (fun _ _ => rfl) ?_
    rintro c t ⟨hlo, hhi, hwords, hin, hout, hmine, hready, hkey⟩
    exact keyWrapBody_of_key hmine hready hlo hhi hwords hin hout hkey
  case unwrap =>
    intro k
    refine takes_of (body := keyUnwrapBody) (fun _ _ => rfl) ?_
    rintro c t ⟨hlo, hhi, hwords, hin, hout, hmine, hready, hkey⟩
    obtain ⟨hwrong, hgood⟩ := keyUnwrapBody_of_key hmine hready hlo hhi hwords hin hout hkey
    dsimp only
    split
    · next hunwrap => exact hwrong hunwrap
    · next p hunwrap => exact hgood p hunwrap
  case publicKey =>
    refine takes_of (body := keyPublicBody) (fun _ _ => rfl) ?_
    rintro c t ⟨hbuf, hready, hfree⟩
    exact keyPublicBody_of_room hbuf hready hfree
  case verify =>
    intro h
    refine takes_of (body := keyVerifyBody) (fun _ _ => rfl) ?_
    rintro c t ⟨hdigest, hsign, hmine, hready, hhandle, husage⟩
    exact keyVerifyBody_of_handle hmine hready hdigest hsign hhandle husage
  case attest =>
    intro i x
    refine takes_of (body := keyAttestBody) (fun _ _ => rfl) ?_
    rintro c t ⟨hin, hout, hready, hident, hxport, hrng⟩
    exact keyAttestBody_signs hin hout hready hident hxport hrng
  case seed =>
    intro x
    refine takes_of (body := keySeedBody) (fun _ _ => rfl) ?_
    rintro c t ⟨hsub, hbuf, hmay, hready, hxport⟩
    obtain ⟨hwrong, hgood⟩ := keySeedBody_of_glove hsub hbuf hmay hready hxport
    dsimp only
    split
    · next hopen => exact hwrong hopen
    · next v hopen => exact hgood v hopen
  case random =>
    refine takes_of (body := keyRandomBody) (fun _ _ => rfl) ?_
    rintro c t ⟨hlo, hhi, hbuf, hrunning, hrng⟩
    exact keyRandomBody_gives hlo hhi hbuf hrunning hrng
  case cert =>
    refine takes_of (body := keyCertBody) (fun _ _ => rfl) ?_
    rintro c t ⟨hbuf, hready⟩
    exact keyCertBody_gives hbuf hready

end Sys2Proof.Machine
end

section
/-! The life cycle and the random source (spec/20 R512, R525 to R528, R535): what a transition leaves, its commands and the failures
of the source, with the statement on them. -/

namespace Sys2Proof.Machine

-- What the steps of a transition leave (spec/20 R527)

/-- The steps after the fuse leave the state and the count that the fuse made. -/
@[simp] theorem transitionRest_lcs (s : State) (old : Nat) : (s.transitionRest old).key.lcs = s.key.lcs := by
  simp only [State.transitionRest, State.destroyKeys, State.generateKeys, State.random, State.draw, apply_ite State.key,
    apply_ite KeySt.lcs, ite_self]

@[simp] theorem transitionRest_lcsCount (s : State) (old : Nat) : (s.transitionRest old).key.lcsCount = s.key.lcsCount := by
  simp only [State.transitionRest, State.destroyKeys, State.generateKeys, State.random, State.draw, apply_ite State.key,
    apply_ite KeySt.lcsCount, ite_self]

@[simp] theorem transition_lcs (s : State) (n : Nat) : (s.transition n).key.lcs = n := transitionRest_lcs _ _

theorem inHand_congr {s t : State} (h : t.cmd = s.cmd) (op1 op2 : Nat) : t.inHand op1 op2 = s.inHand op1 op2 := by
  unfold State.inHand
  rw [h]

theorem lcsDone_of_transition {s : State} (hlcs : s.key.lcs ≠ 1) (c : Ctx) :
    s.lcsDone c = s.complete c.slot 0 (wd s.key.lcsCount) (wd s.key.lcs) 0 := if_neg hlcs

/-- A transition that goes on completes the one command that is in hand for it. -/
theorem lcsResume_completes {s : State} {old n : Nat} (hcut : s.key.cut = some old) (hlcs : s.key.lcs = 2)
    (hhand : s.inHand 0x0911 0x0913 = [n]) :
    s.lcsResume = (({ s with key := { s.key with cut := none } } : State).transitionRest old).complete n 0
      (wd s.key.lcsCount) 2 0 := by
  let s1 := ({ s with key := { s.key with cut := none } } : State).transitionRest old
  have hhand1 : s1.inHand 0x0911 0x0913 = [n] := (inHand_congr (transitionRest_cmd _ _) _ _).trans hhand
  have hlcs1 : s1.key.lcs = 2 := (transitionRest_lcs _ _).trans hlcs
  have hcount1 : s1.key.lcsCount = s.key.lcsCount := transitionRest_lcsCount _ _
  calc s.lcsResume = (s1.inHand 0x0911 0x0913).foldl (fun a n => a.lcsDone (a.ctxOf n)) s1 := by
        unfold State.lcsResume
        rw [hcut]
    _ = s1.lcsDone (s1.ctxOf n) := by rw [hhand1]; rfl
    _ = s1.complete n 0 (wd s.key.lcsCount) 2 0 := by
        rw [lcsDone_of_transition (by rw [hlcs1]; decide), hlcs1, hcount1]
        rfl

-- Commands (spec/20 R527, R528)

section
variable {c : Ctx} {t : State}

theorem lcsProvisionBody_fuses (hbuf : t.bufOk c (c.addr 0) 96 = true) (hglove : c.g = 0) (hlcs : t.key.lcs = 0)
    (hcount : t.key.lcsCount < 63) (hrng : t.key.rngOk = true) :
    lcsProvisionBody false false c t
      = (let r := t.random 32
         let s2 := (({ r.2 with key := { r.2.key with root := r.1 } } : State).lcsTo 1).destroyKeys
         (s2.store (c.addr 0) (sliceB (Config.publicKey s2.endorsementKey) 0 96)).complete c.slot 0
           (wd (t.key.lcsCount + 1)) 0 0) := by
  unfold lcsProvisionBody
  simp only [hbuf, hglove, hlcs, hrng, Nat.not_le.2 hcount, ne_eq, not_true_eq_false, or_self, Bool.not_true,
    Bool.false_eq_true, if_false]
  rfl

theorem lcsCertStoreBody_stores (hlen : (c.arg 0).toNat ≤ 2048) (hbuf : t.bufOk c (c.addr 1) (c.arg 0).toNat = true)
    (hglove : c.g = 0) (hlcs : t.key.lcs = 1) :
    lcsCertStoreBody c t
      = ({ t with key := { t.key with cert := t.load (c.addr 1) (c.arg 0).toNat } } : State).complete c.slot 0 0 0 0 := by
  unfold lcsCertStoreBody
  simp only [Nat.not_lt.2 hlen, hbuf, hglove, hlcs, Bool.true_eq_false, or_self, ne_eq, not_true_eq_false, if_false]
  rfl

/-- The arguments of LCS_TRANSITION to IN_SERVICE, or with its key to RETIRED. -/
theorem lcsArgs_of (hto : c.f 0 0 3 = 2 ∨ (c.f 0 0 3 = 4 ∧ c.arg 1 = 0x5EB00004)) :
    ¬ (4 < c.f 0 0 3 ∨ (c.f 0 0 3 = 4 ∧ c.arg 1 ≠ 0x5EB00004) ∨ (c.f 0 0 3 = 3 ∧ t.bufOk c (c.addr 2) 192 = false)) := by
  obtain hservice | ⟨hretire, hkey⟩ := hto
  · omega
  · simp only [hkey, ne_eq, not_true_eq_false, and_false, false_or]
    omega

section
variable (hto : c.f 0 0 3 = 2 ∨ (c.f 0 0 3 = 4 ∧ c.arg 1 = 0x5EB00004)) (hglove : c.g = 0)
include hto hglove

theorem lcsTransitionBody_busy (hcut : t.key.cut ≠ none) (fuseFails cut : Bool) :
    lcsTransitionBody fuseFails cut c t = t.complete c.slot 0x0103 0 0 0 := by
  unfold lcsTransitionBody
  simp only [if_neg (lcsArgs_of hto), hglove, ne_eq, not_true_eq_false, if_false, Option.isSome_iff_ne_none.2 hcut, if_true]
  rfl

/-- A permitted transition gets to its fuse. -/
theorem lcsTransitionBody_of_permitted (hpermitted : lcsPermitted t.key.lcs (c.f 0 0 3) t.key.lcsCount = true)
    (hrng : t.key.rngOk = true) (hcut : t.key.cut = none) (fuseFails cut : Bool) :
    lcsTransitionBody fuseFails cut c t
      = if fuseFails = true then t.fuseFailed c
        else if cut = true then { t with key := { t.key with
          lcs := c.f 0 0 3, lcsCount := t.key.lcsCount + 1, cut := some t.key.lcs } }
        else (t.transition (c.f 0 0 3)).lcsDone c := by
  have hdebug : ¬ (c.f 0 0 3 = 3 ∧ t.tokenOk (t.load (c.addr 2) 192) = false) := by omega
  have hrandom : ¬ (c.f 0 0 3 ≠ 4 ∧ t.key.rngOk = false) := by simp [hrng]
  unfold lcsTransitionBody
  simp only [if_neg (lcsArgs_of hto), hglove, ne_eq, not_true_eq_false, if_false, hcut, hpermitted, if_neg hdebug,
    if_neg hrandom, Option.isSome_none, Bool.not_true, Bool.false_eq_true]
  rfl

theorem lcsTransitionBody_completes (hpermitted : lcsPermitted t.key.lcs (c.f 0 0 3) t.key.lcsCount = true)
    (hrng : t.key.rngOk = true) (hcut : t.key.cut = none) :
    lcsTransitionBody false false c t = (t.transition (c.f 0 0 3)).complete c.slot 0
      (wd (t.transition (c.f 0 0 3)).key.lcsCount) (wd (c.f 0 0 3)) 0 := by
  have hlcs : (t.transition (c.f 0 0 3)).key.lcs ≠ 1 := by
    rw [transition_lcs]
    omega
  rw [lcsTransitionBody_of_permitted hto hglove hpermitted hrng hcut, if_neg Bool.false_ne_true, if_neg Bool.false_ne_true,
    lcsDone_of_transition hlcs, transition_lcs]

end

theorem keyAttestBody_aborted (hin : t.bufOk c (c.addr 0) 32 = true) (hout : t.bufOk c (c.addr 2) 488 = true)
    (hrunning : t.running Pg.key = true) (hcut : t.key.cut ≠ none) : keyAttestBody c t = t.complete c.slot 0x0010 0 0 0 := by
  have hready : t.keyReady = false := by simp [State.keyReady, Option.isSome_iff_ne_none.2 hcut]
  have hwhy : t.keyWhy = 0x0010 := by simp [State.keyWhy, hrunning, Option.isSome_iff_ne_none.2 hcut, St.aborted]
  unfold keyAttestBody
  simp only [hin, hout, hready, hwhy, Bool.true_eq_false, or_self, if_false, Bool.not_false, if_true]
  rfl

theorem keyRandomBody_without_source (hlo : 1 ≤ (c.arg 0).toNat) (hhi : (c.arg 0).toNat ≤ 256)
    (hbuf : t.bufOk c (c.addr 1) (c.arg 0).toNat = true) (hrunning : t.running Pg.key = true) (hrng : t.key.rngOk = false) :
    keyRandomBody c t = t.complete c.slot 0x0202 0 0 0 := by
  have hargs : ¬ ((c.arg 0).toNat = 0 ∨ 256 < (c.arg 0).toNat ∨ t.bufOk c (c.addr 1) (c.arg 0).toNat = false) := by
    rw [hbuf]
    simp only [Bool.true_eq_false, or_false]
    omega
  unfold keyRandomBody
  simp only [if_neg hargs, hrunning, hrng, Bool.not_true, Bool.not_false, Bool.false_eq_true, if_false, if_true]
  rfl

end

/-- Settles O57: a transition is its fuse and the rest, which leaves the fuse's state and count. -/
theorem theLifeCycleMoves : Obligations.TheLifeCycleMoves := by
  refine ⟨?provision, ?cert, ?transition, ?burnt, ?busy, ?resume, ?attest, ?retired, ?failed, ?rng, ?random⟩
  case provision =>
    refine takes_of (body := lcsProvisionBody false false) (fun _ _ => rfl) ?_
    rintro c t ⟨hbuf, hglove, hlcs, hcount, hrng⟩
    exact lcsProvisionBody_fuses hbuf hglove hlcs hcount hrng
  case cert =>
    refine takes_of (body := lcsCertStoreBody) (fun _ _ => rfl) ?_
    rintro c t ⟨hlen, hbuf, hglove, hlcs⟩
    exact lcsCertStoreBody_stores hlen hbuf hglove hlcs
  case transition =>
    refine takes_of (body := lcsTransitionBody false false) (fun _ _ => rfl) ?_
    rintro c t ⟨hto, hglove, hpermitted, hrng, hcut⟩
    exact lcsTransitionBody_completes hto hglove hpermitted hrng hcut
  case burnt =>
    refine takes_of (body := lcsTransitionBody false true) (fun _ _ => rfl) ?_
    rintro c t ⟨hto, hglove, hpermitted, hrng, hcut⟩
    exact lcsTransitionBody_of_permitted hto hglove hpermitted hrng hcut false true
  case busy =>
    refine takes_of (body := lcsTransitionBody false false) (fun _ _ => rfl) ?_
    rintro c t ⟨hto, hglove, hcut⟩
    exact lcsTransitionBody_busy (Or.inl hto) hglove hcut false false
  case resume =>
    intro s old n hcut hlcs hhand
    exact lcsResume_completes hcut hlcs hhand
  case attest =>
    refine takes_of (body := keyAttestBody) (fun _ _ => rfl) ?_
    rintro c t ⟨hin, hout, hrunning, hcut⟩
    exact keyAttestBody_aborted hin hout hrunning hcut
  case retired => exact fun t => ⟨rfl, rfl, rfl, rfl, rfl, rfl, rfl, rfl, rfl⟩
  case failed =>
    refine takes_of (body := lcsTransitionBody true false) (fun _ _ => rfl) ?_
    rintro c t ⟨hto, hglove, hpermitted, hrng, hcut⟩
    exact lcsTransitionBody_of_permitted (Or.inl hto) hglove (by rw [hto]; exact hpermitted) hrng hcut true false
  case rng =>
    intro s hup
    exact ⟨congrArg (finish s) (if_pos hup), finish_whenUp hup rfl⟩
  case random =>
    refine takes_of (body := keyRandomBody) (fun _ _ => rfl) ?_
    rintro c t ⟨hlo, hhi, hbuf, hrunning, hrng⟩
    exact keyRandomBody_without_source hlo hhi hbuf hrunning hrng

end Sys2Proof.Machine
end

section
/-! The update commands (spec/21 R537, R540, R541, R545, R546): sessions that stand alone, and the commands where their conditions
hold, with the statement on them. -/

namespace Sys2Proof.Machine

-- Sessions

section
variable {s : State} {own : Bool} {x : UpdSess}

@[simp] theorem sess_setSess (s : State) (own : Bool) (y : Option UpdSess) : (s.setSess own y).sess own = y := by
  cases own <;> rfl

@[simp] theorem setSess_setSess (s : State) (own : Bool) (y z : Option UpdSess) :
    (s.setSess own y).setSess own z = s.setSess own z := by cases own <;> rfl

theorem onSess_of_sess (hsess : s.sess own = some x) (f : UpdSess → UpdSess) : s.onSess own f = s.setSess own (some (f x)) := by
  unfold State.onSess
  rw [hsess]
  rfl

theorem setSess_self (hsess : s.sess own = some x) : s.setSess own (some x) = s := by
  rw [← hsess]
  cases own <;> rfl

/-- A change that leaves the session as it is changes nothing. -/
theorem onSess_self (hsess : s.sess own = some x) {f : UpdSess → UpdSess} (hf : f x = x) : s.onSess own f = s := by
  rw [onSess_of_sess hsess, hf, setSess_self hsess]

theorem repeat_of_fixed {α : Type} {f : α → α} {a : α} (h : f a = a) (n : Nat) : Nat.repeat f n a = a := by
  induction n with
  | zero => rfl
  | succ n ih => exact (congrArg f ih).trans h

/-- A session that no neighbour has to hear of sends nothing on. -/
theorem pump_of_alone (hsess : s.sess own = some x) (hfwd : x.fwd = none) : s.pump own = s := by
  refine repeat_of_fixed ?_ 16
  unfold State.pumpOne
  simp only [hsess, hfwd]

/-- One whose chunks have all been sent sends no more. -/
theorem pump_of_sent {y : RelaySt} (hsess : s.sess own = some x) (hfwd : x.fwd = some y) (hwait : y.wait = []) :
    s.pump own = s := by
  refine repeat_of_fixed ?_ 16
  unfold State.pumpOne
  simp only [hsess, hfwd, hwait]

theorem forward_of_alone (hsess : s.sess own = some x) (hfwd : x.fwd = none) (i : Nat) : s.forward own i = s := by
  unfold State.forward
  rw [onSess_self hsess, pump_of_alone hsess hfwd]
  cases x
  cases hfwd
  rfl

theorem sendHeader_of_alone (hsess : s.sess own = some x) (hfwd : x.fwd = none) : s.sendHeader own = s := by
  unfold State.sendHeader
  simp only [hsess, hfwd]

end

-- The commands (spec/21 R541)

section
variable {c : Ctx} {t : State}

/-- The session that UPD_BEGIN opens for the host alone. -/
def State.beginSess (t : State) (c : Ctx) (h l : List Byte) : UpdSess :=
  { img := 1 - t.sys.slot, src := .host, keep := true, hdr := h, hashes := l, writes := [⟨some c.slot, [], false⟩], fwd := none }

theorem updBeginBody_of_host {h : List Byte} {n : Nat} (hrelay : c.b 0 0 = false) (hh : t.load (c.addr 1) 512 = h)
    (hn : (if hdrFormat h = true then 48 * hdrChunks h else 0) = n) (hbuf : t.bufOk c (c.addr 1) (512 + n) = true)
    (htenant : c.tenant = false) (hrunning : t.running Pg.upd = true) (hmode : t.updMode = true) (htrial : t.onTrial = false)
    (hown : t.upd.own = none) (hvia : t.upd.via = none) :
    updBeginBody c t
      = if t.hdrReason h ≠ 0 then t.complete c.slot 0x0201 (wd (t.hdrReason h)) 0 0
        else if hashesOk h (t.load (c.addr 1 + 512) n) = false then t.complete c.slot 0x0201 7 0 0
        else (t.openSlot (1 - t.sys.slot)).setSess true (some (t.beginSess c h (t.load (c.addr 1 + 512) n))) := by
  subst hh hn
  unfold updBeginBody
  simp only [hrelay, hbuf, htenant, hrunning, hmode, htrial, hown, hvia, Bool.not_true, Bool.false_and, Bool.or_self,
    Option.isSome_none, Bool.false_eq_true, if_false, Bool.not_eq_true']
  split
  · rfl
  · split
    · rfl
    · rw [sendHeader_of_alone (sess_setSess _ _ _) (by rfl)]
      rfl

theorem updChunkBody_of_one {x : UpdSess} {i : Nat} (hi : (c.arg 0).toNat = i) (hone : (c.arg 1).toNat = 1)
    (hchunks : i + 1 ≤ hdrChunks x.hdr) (hmax : i + 1 ≤ 8176) (hbuf : t.bufOk c (c.addr 2) 1 = true)
    (hchunk : t.bufOk c (c.addr 2) (chunkLen x.hdr i) = true) (htenant : c.tenant = false) (hrunning : t.running Pg.upd = true)
    (hmode : t.updMode = true) (hown : t.upd.own = some x) (hfinish : x.finish = none) (hfail : x.fail = none) :
    updChunkBody c t = updTake c (c.addr 2) 1 i [] t := by
  subst hi
  have hlen : t.bufOk c (c.addr 2) ((1 - 1) * 65536 + chunkLen x.hdr ((c.arg 0).toNat + 1 - 1)) = true := by
    simpa using hchunk
  unfold updChunkBody
  simp only [hone, decide_eq_false (Nat.not_lt.2 hmax), hbuf, htenant, hrunning, hmode, hown, decide_eq_false (Nat.not_lt.2 hchunks),
    hlen, hfinish, hfail, Bool.not_true, Bool.or_self, Option.isSome_none, Bool.false_eq_true, if_false]
  rfl

theorem updTake_of_one {x : UpdSess} {i a : Nat} (hown : t.upd.own = some x) (hfwd : x.fwd = none) :
    updTake c a 1 i [] t
      = if chunkOk x.hashes i (t.load a (chunkLen x.hdr i)) = true then
          t.setSess true (some { x with
            have_ := Sparse.set (dflt []) x.have_ i (t.load a (chunkLen x.hdr i)),
            writes := x.writes ++ [⟨some c.slot, [i], false⟩] })
        else ((t.bump Pg.upd Rg.UPD_CHUNK_FAILS).raiseSrc Pg.upd 0).complete c.slot 0x0202 (wd i) 0 0 := by
  have hsess : t.sess true = some x := hown
  unfold updTake
  simp only [hown]
  split
  · next hok =>
    rw [onSess_of_sess hsess, forward_of_alone (sess_setSess _ _ _) (by exact hfwd)]
    unfold updTake
    rw [onSess_of_sess (sess_setSess _ _ _), setSess_setSess]
    rfl
  · rfl

theorem updFinishBody_of_alone {x : UpdSess} (htenant : c.tenant = false) (hrunning : t.running Pg.upd = true)
    (hmode : t.updMode = true) (hown : t.upd.own = some x) (hfull : x.full = true) (hfinish : x.finish = none)
    (hfwd : x.fwd = none) :
    updFinishBody c t
      = (((t.onSess true (fun y => { y with finish := some c.slot, finished := true })).markSlot true x.side).setSess true
          none).complete c.slot 0 1 1 0xFF := by
  unfold updFinishBody
  simp only [htenant, hrunning, hmode, hown, hfull, hfinish, hfwd, Bool.not_true, Bool.or_self, Option.isSome_none,
    Bool.false_eq_true, if_false]
  rfl

theorem updActivateBody_of_staged (htenant : c.tenant = false) (hrunning : t.running Pg.upd = true) (hmode : t.updMode = true)
    (htrial : t.onTrial = false) (hown : t.upd.own = none) (hvia : t.upd.via = none) (hstaged : t.upd.staged = true) :
    updActivateBody c t
      = (let n := 1 - t.sys.slot
         if t.slotValid n = false then t.complete c.slot 0x0101 0 0 0 else
         let r := { t.upd.record with armed := some n, count := 0, time := 0 }
         let s1 : State := { t with upd := { t.upd with staged := false, record := r } }
         let s2 := s1.complete c.slot 0 (wd (s1.slotVersion n)) 0 0
         if c.b 0 0 = true then s2.moduleReset 3 else s2) := by
  unfold updActivateBody
  simp only [htenant, hrunning, hmode, htrial, hown, hvia, Bool.not_true, Bool.or_self, Option.isSome_none, Bool.false_eq_true,
    if_false, hstaged, Bool.false_or, Bool.not_eq_true']
  rfl

/-- The conditions of UPD_CONFIRM (spec/21 R546). -/
theorem updConfirmBody_of_trial (htenant : c.tenant = false) (hrunning : t.running Pg.upd = true) (hfatal : t.isFatal = false)
    (hmode : t.sys.mode = .run ∨ t.sys.mode = .degraded) (htrial : t.sys.trial = true) (hburnt : t.upd.burnt = false)
    (hfuses : hdrRollback (t.upd.slot t.sys.slot).hdr ≤ 64) (cut : Bool) {s1 : State}
    (hs1 : s1 = { t with upd := { t.upd with
      rollback := max t.upd.rollback (hdrRollback (t.upd.slot t.sys.slot).hdr), burnt := cut } }) :
    updConfirmBody false cut c t
      = if cut = true then s1 else (s1.confirmed t.sys.slot).complete c.slot 0 (wd s1.upd.rollback) 0 0 := by
  subst hs1
  have hrun : (t.sys.mode == .run || t.sys.mode == .degraded) = true := by simpa using hmode
  have hneed : ¬ (t.upd.rollback < hdrRollback (t.upd.slot t.sys.slot).hdr
      ∧ (false = true ∨ 64 < hdrRollback (t.upd.slot t.sys.slot).hdr)) := by
    rintro ⟨-, hfuse | hmany⟩
    · cases hfuse
    · omega
  have hstate : (!t.running Pg.upd || t.isFatal || !(t.sys.mode == .run || t.sys.mode == .degraded) || !t.sys.trial) = false := by
    rw [hrunning, hfatal, hrun, htrial]
    rfl
  unfold updConfirmBody
  rw [if_neg (by rw [htenant]; exact Bool.false_ne_true), hstate, if_neg Bool.false_ne_true,
    if_neg (by rw [hburnt]; exact Bool.false_ne_true), if_neg hneed]
  rfl

theorem updAbortBody_of_own {x : UpdSess} (htenant : c.tenant = false) (hfatal : t.isFatal = false)
    (hrunning : t.running Pg.upd = true) (hown : t.upd.own = some x) :
    updAbortBody c t = ((t.setSess true none).endCmds x 0x0010 0 0).complete c.slot 0 (wd x.stored.length) 0 0 := by
  unfold updAbortBody
  simp only [htenant, hfatal, hrunning, hown, Bool.not_true, Bool.or_self, Bool.false_eq_true, if_false]
  rfl

end

/-- The write of header and hash list ends, and its command with it. -/
theorem nandDone_of_header {s : State} {x : UpdSess} {w : UpdWrite} {n : Nat} (hown : s.upd.own = some x)
    (hfirst : x.writes.find? (fun w => !w.written) = some w) (hslot : w.slot = some n) (hchunks : w.chunks = []) :
    s.nandDone false
      = ((s.onSlot x.img (fun g => { g with hdr := x.hdr, hashes := x.hashes })).onSess true
          (fun y => { y with writes := y.writes.erase w })).complete n 0 (wd (hdrChunks x.hdr)) (wd x.img) 0 := by
  have hsess : s.sess true = some x := hown
  unfold State.nandDone
  simp only [hsess, hfirst, Option.map_some, hchunks, hslot, List.isEmpty_nil, Bool.false_eq_true, if_false, if_true]

/-- Ten minutes of trial: a fatal fault holds the module. -/
theorem trialOver_of_trial {s : State} (htrial : s.sys.trial = true) (hmode : s.sys.mode ≠ .startup) :
    s.trialOver = if s.isFatal = true then s else s.moduleReset 4 := by
  unfold State.trialOver
  rw [htrial, decide_eq_true hmode]
  cases s.isFatal <;> rfl

/-- Settles O58: a session of the host alone forwards nothing, so each command is its own step. -/
theorem updateCommandsComplete : Obligations.UpdateCommandsComplete := by
  refine ⟨?begin, ?chunk, ?finish, ?activate, ?confirm, ?burnt, ?abort, ?written, ?trial⟩
  case begin =>
    refine takes_of (body := updBeginBody) (fun _ _ => rfl) ?_
    rintro c t ⟨hrelay, hbuf, htenant, hrunning, hmode, htrial, hown, hvia⟩
    exact updBeginBody_of_host hrelay rfl rfl hbuf htenant hrunning hmode htrial hown hvia
  case chunk =>
    intro x
    refine takes_of (body := updChunkBody) (fun _ _ => rfl) ?_
    rintro c t ⟨hone, hchunks, hmax, hbuf, hchunk, htenant, hrunning, hmode, hown, hfinish, hfail, hfwd⟩
    exact (updChunkBody_of_one rfl hone hchunks hmax hbuf hchunk htenant hrunning hmode hown hfinish hfail).trans
      (updTake_of_one hown hfwd)
  case finish =>
    intro x
    refine takes_of (body := updFinishBody) (fun _ _ => rfl) ?_
    rintro c t ⟨htenant, hrunning, hmode, hown, hfull, hfinish, hfwd⟩
    exact updFinishBody_of_alone htenant hrunning hmode hown hfull hfinish hfwd
  case activate =>
    refine takes_of (body := updActivateBody) (fun _ _ => rfl) ?_
    rintro c t ⟨htenant, hrunning, hmode, htrial, hown, hvia, hstaged⟩
    exact updActivateBody_of_staged htenant hrunning hmode htrial hown hvia hstaged
  case confirm =>
    refine takes_of (body := updConfirmBody false false) (fun _ _ => rfl) ?_
    rintro c t ⟨htenant, hrunning, hfatal, hmode, htrial, hburnt, hfuses⟩
    exact updConfirmBody_of_trial htenant hrunning hfatal hmode htrial hburnt hfuses false rfl
  case burnt =>
    refine takes_of (body := updConfirmBody false true) (fun _ _ => rfl) ?_
    rintro c t ⟨htenant, hrunning, hfatal, hmode, htrial, hburnt, hfuses⟩
    exact updConfirmBody_of_trial htenant hrunning hfatal hmode htrial hburnt hfuses true rfl
  case abort =>
    intro x
    refine takes_of (body := updAbortBody) (fun _ _ => rfl) ?_
    rintro c t ⟨htenant, hfatal, hrunning, hown⟩
    exact updAbortBody_of_own htenant hfatal hrunning hown
  case written =>
    intro s x w n hup hown hfirst hslot hchunks
    exact finish_whenUp hup (nandDone_of_header hown hfirst hslot hchunks)
  case trial =>
    intro s htrial hmode
    exact congrArg (finish s) (trialOver_of_trial htrial hmode)

end Sys2Proof.Machine
end

section
/-! The relay of updates and the recovery loader (spec/21 R542 to R551): what a frame of the chain does to a session, and the loader,
with the statement on them. -/

namespace Sys2Proof.Machine

-- A session with nothing to complete

section
variable {s : State} {x : UpdSess}

theorem settleChunks_without_writes (hown : s.upd.own = some x) (hwrites : x.writes = []) : s.settleChunks = s := by
  have hsess : s.sess true = some x := hown
  unfold State.settleChunks
  simp only [hown, hwrites, List.filter_nil, List.foldl_nil]
  refine onSess_self hsess ?_
  cases x
  cases hwrites
  rfl

theorem markSlot_of_unfinished {own : Bool} (hsess : s.sess own = some x) (hfinished : x.finished = false) (w : Bool) :
    s.markSlot own w = s := by
  unfold State.markSlot
  simp only [hsess, hfinished, Bool.false_and, Bool.false_eq_true, if_false]

theorem passFinish_of_unfinished {own : Bool} (hsess : s.sess own = some x) (hfinished : x.finished = false) :
    s.passFinish own = s := by
  unfold State.passFinish
  simp only [hsess, hfinished, Bool.false_and, Bool.false_eq_true, if_false]

/-- A session of the commands without writes and without FINISH has nothing to do next. -/
theorem settle_of_quiet (hown : s.upd.own = some x) (hwrites : x.writes = []) (hfinished : x.finished = false) :
    s.settle true = s := by
  have hsess : s.sess true = some x := hown
  unfold State.settle
  simp only [hsess, settleChunks_without_writes hown hwrites, markSlot_of_unfinished hsess hfinished,
    passFinish_of_unfinished hsess hfinished, ite_self]

end

-- Units and acknowledgements (spec/21 R542, R543)

theorem unitRx_of_header {s : State} {b : List Byte} (hlive : s.relayLive = true) (hunit : relayField b 8 4 = 0)
    (hvia : s.upd.via = none) (src : UpdFrom) : s.unitRx src b = s.unitHeader src b := by
  unfold State.unitRx
  simp only [hlive, hunit, hvia, Bool.not_true, Bool.false_eq_true, if_false, if_true]

/-- The acknowledgement of a chunk frees its place in the window of the session that it names. -/
theorem ackRx_of_chunk {s : State} {w : Bool} {b : List Byte} {x : UpdSess} {y : RelaySt} (hlive : s.relayLive = true)
    (hown : s.upd.own = some x) (hvia : s.upd.via = none) (hfwd : x.fwd = some y) (hwest : y.west = w)
    (hsession : y.session = relayField b 4 4) (hunit : relayField b 8 4 ≠ 0xFFFFFFFF) (hwait : y.wait = [])
    (hwrites : x.writes = []) (hfinished : x.finished = false) :
    s.ackRx w b = s.setSess true (some { x with
      fwd := some { y with sent := y.sent.filter (fun e => e.1 != relayField b 8 4) } }) := by
  subst hwest
  have hsess : s.sess true = some x := hown
  have hother : ∀ z, (s.setSess true z).sess false = none := fun _ => hvia
  unfold State.ackRx
  simp only [hlive, if_true, hsess, hfwd, hsession, bne_self_eq_false, Bool.or_self, Bool.false_eq_true, if_false,
    if_neg hunit, onSess_of_sess hsess]
  rw [pump_of_sent (sess_setSess _ _ _) (by rfl) (by exact hwait),
    settle_of_quiet (by rfl) (by exact hwrites) (by exact hfinished), hother]

/-- A chunk that was not sent again eight times is sent again. -/
theorem resend_of_pending {s : State} {i n : Nat} {x : UpdSess} {y : RelaySt} (hlive : s.relayLive = true)
    (hown : s.upd.own = some x) (hfwd : x.fwd = some y) (hsent : y.sent.find? (fun e => e.1 == i) = some (i, n)) (hn : n < 8) :
    s.resend i = (s.sendChunk x y i).onSess true (fun v => { v with
      fwd := some { y with sent := y.sent.map (fun e => if e.1 = i then (i, n + 1) else e) } }) := by
  have hsess : s.sess true = some x := hown
  unfold State.resend
  simp only [hlive, if_true, hsess, hfwd, hsent, Option.map_some, if_pos hn]

-- The end of the chain (spec/21 R544)

theorem finishFrom_of_src {s : State} {x : UpdSess} {w : Bool} (hvia : s.upd.via = some x) (hsrc : x.src = .riser w) :
    s.finishFrom w = true := by
  unfold State.finishFrom
  rw [hvia, Option.map_some, hsrc, beq_self_eq_true]

theorem finishRx_of_whole {s : State} {w : Bool} {b : List Byte} {x : UpdSess} (hlive : s.relayLive = true)
    (hvia : s.upd.via = some x) (hsrc : x.src = .riser w) (hsession : x.session = relayField b 4 4) (hhashes : x.hashes ≠ [])
    (hwhole : x.whole = true) (hmode : s.sys.mode ≠ .recovery) :
    s.finishRx b = (s.setSess false (some { x with finished := true, loaded := relayLoaded b })).settle false := by
  have hsess : s.sess false = some x := hvia
  have hslot : decide (x.src = .slot) = false := by rw [hsrc]; rfl
  unfold State.finishRx
  simp only [hlive, hvia, hsession, hslot, hwhole, List.isEmpty_eq_false_iff.2 hhashes, bne_self_eq_false, Bool.not_true,
    Bool.or_self, Bool.false_eq_true, if_false, if_neg hmode, onSess_of_sess hsess]

/-- The REPORT that answers a FINISH completes the command. -/
theorem reportRx_of_report {s : State} {src : Nat} {b : List Byte} {x : UpdSess} {y : RelaySt} (hlive : s.relayLive = true)
    (hop : relayField b 1 1 = 4) (hwhy : relayField b 2 1 ≠ 9) (hown : s.upd.own = some x) (hfwd : x.fwd = some y)
    (hsession : y.session = relayField b 4 4) (hsent : y.finSent = true) :
    s.reportRx src b = (s.showLoaded (relayLoaded b)).finishDone x y.west
      (y.remain + 2 - min (relayField b 3 1) y.remain) (relayLoaded b) := by
  unfold State.reportRx
  simp only [hlive, Bool.not_true, Bool.false_eq_true, if_false, hown, hfwd, if_pos hsession, hop, if_true, hsent, if_neg hwhy]

theorem reportTimeout_of_finish {s : State} {x : UpdSess} {n : Nat} (hown : s.upd.own = some x) (hfinish : x.finish = some n) :
    s.reportTimeout = ((s.draw.2.setSess true none).raiseSrc Pg.upd 2).complete n 0x0205 9 (wd s.draw.1) 0 := by
  unfold State.reportTimeout State.finishFailed
  simp only [hown, hfinish, Option.isSome_some, if_true]
  rfl

-- The loader (spec/21 R548 to R551)

theorem finish_whenLoader {s t : State} {f : State → State} (hup : s.coreUp = true) (hmode : s.sys.mode = .recovery)
    (hfatal : s.isFatal = false) (hpfw : s.pfw = false) (h : f s = t) :
    finish s (s.whenLoader f) = .next (s.settled t) :=
  congrArg (finish s) ((if_pos (by rw [hup, hmode, hfatal, hpfw]; rfl)).trans h)

/-- The bytes of a download that do not hold its header yet are only kept. -/
theorem dfuBlock_of_front {s : State} {b : List Byte} (hmode : s.sys.mode = .recovery) (hfatal : s.isFatal = false)
    (hsome : b ≠ []) (hlen : b.length ≤ 4096) (herr : s.upd.dfuErr = 0) (hmanifest : s.upd.manifest = false)
    (hfront : (s.upd.dfu ++ b).length < 512) :
    s.dfuBlock b = { s with upd := { s.upd with dfu := s.upd.dfu ++ b, dfuErr := 0 } } := by
  have hreason : s.dfuReason (s.upd.dfu ++ b) = 0 := if_pos hfront
  have htaken : ¬ ((s.sys.mode != .recovery || s.isFatal || s.upd.dfuErr != 0 || s.upd.manifest || decide (4096 < b.length))
      = true) := by
    rw [hmode, hfatal, herr, hmanifest, decide_eq_false (Nat.not_lt.2 hlen)]
    exact Bool.false_ne_true
  unfold State.dfuBlock
  rw [if_neg htaken, if_neg hsome]
  simp only [hreason]
  rw [if_pos (Or.inr hfront)]
  rfl

theorem loaderReset_of_done {s : State} {n : Nat} (hup : s.coreUp = true) (hmode : s.sys.mode = .recovery)
    (hfatal : s.isFatal = false) (hdone : s.loaderDone = some n) :
    s.loaderReset = (s.loaderMark n).powerCycle .regulators .startup 5 := by
  unfold State.loaderReset
  rw [if_pos ⟨hmode, hfatal, hup⟩, hdone]

/-- Settles O59: a frame acts on the session that it names, and the loader takes what comes in RECOVERY. -/
theorem theRelayAndTheLoader : Obligations.TheRelayAndTheLoader := by
  refine ⟨?unit, ?ack, ?resend, ?finish, ?report, ?timeout, ?loader, ?complete⟩
  case unit =>
    intro s w f hlive hop hunit hvia
    exact congrArg (finish s) ((if_pos hop).trans (unitRx_of_header hlive hunit hvia _))
  case ack =>
    intro s w f x y hlive hop hown hvia hfwd hwest hsession hunit hwait hwrites hfinished _ z
    exact congrArg (finish s) ((if_pos hop).trans
      (ackRx_of_chunk hlive hown hvia hfwd hwest hsession hunit hwait hwrites hfinished))
  case resend =>
    intro s i n x y hlive hown hfwd hsent hn z
    exact congrArg (finish s) (resend_of_pending hlive hown hfwd hsent hn)
  case finish =>
    intro s w f x hlive hop hvia hsrc hsession hhashes hwhole hmode y
    exact congrArg (finish s) ((if_pos ⟨hop, finishFrom_of_src hvia hsrc⟩).trans
      (finishRx_of_whole hlive hvia hsrc hsession hhashes hwhole hmode))
  case report =>
    intro s src f x y hlive hop hwhy hown hfwd hsession hsent hops
    exact congrArg (finish s) ((if_pos (Or.inl hop)).trans (reportRx_of_report hlive hop hwhy hown hfwd hsession hsent))
  case timeout =>
    intro s x n hup hown hfinish d
    exact finish_whenUp hup (reportTimeout_of_finish hown hfinish)
  case loader =>
    intro s hup hmode hfatal hpfw
    refine ⟨finish_whenLoader hup hmode hfatal hpfw rfl, finish_whenLoader hup hmode hfatal hpfw rfl, ?_⟩
    intro b hsome hlen herr hmanifest hfront
    exact finish_whenLoader hup hmode hfatal hpfw (dfuBlock_of_front hmode hfatal hsome hlen herr hmanifest hfront)
  case complete =>
    intro s n hup hmode hfatal hdone
    exact congrArg (finish s) (loaderReset_of_done hup hmode hfatal hdone)

end Sys2Proof.Machine
end
